-- ==== Sys2Proof/Word.lean ====
section
/-!
DEFINITION. Word.lean: the word types of the device (bytes, 16-, 32- and 64-bit words), the tagged value of
Table 1.6, and the sparse tables that the state uses for what is keyed by a number.
-/

namespace Sys2Proof

abbrev Byte := BitVec 8
abbrev Half := BitVec 16
abbrev Word := BitVec 32
abbrev DWord := BitVec 64
abbrev Bytes := List Byte

/-- A sparse table: strictly rising keys, each with its entry. -/
abbrev Map (α : Type) := List (Nat × α)

/-- A tagged value: the four fields of Table 1.6 (R36). -/
structure TV where
  value : Word := 0
  quality : Byte := 0
  seq : Byte := 0
  check : Half := 0
  deriving DecidableEq, Repr, Inhabited

end Sys2Proof
end

