-- ==== Sys2Proof/Kinds.lean ====
section
/-!
DEFINITION. Kinds.lean: the types of the operands that the rows carry. A row's operands are what its sender (a
host, a frame, a pin, a measurement, a fault in the silicon) contributes; everything else the row needs is in State.
-/

namespace Sys2Proof

/-- Where a mailbox command came from: a host channel 0 to 7, or the head of the network queue (R72, R78). -/
inductive Origin where
  | ch (n : Fin 8)
  | net
  deriving DecidableEq, Repr, Inhabited

/-- How a mailbox command ends: with the status its checks and effect gave, without an answer of an external
party (TIMEOUT), or with a firmware fault (INTERNAL) (Table 2.19). -/
inductive Completion where
  | normal
  | timeout
  | internal
  deriving DecidableEq, Repr, Inhabited

/-- A byte of a mirrored or single memory that a check finds failing: its offset within the step, walk or memory,
which copies fail their parity, whether both pass with different content (divergence, R442), and whether the second
read after a correction fails too (a hard error, R436), with the failing column of its macro. -/
structure ByteFault where
  offset : Nat
  badA : Bool := true
  badB : Bool := false
  diverged : Bool := false
  hard : Bool := false
  column : Nat := 0
  deriving DecidableEq, Repr, Inhabited

/-- A fault of the silicon that meets one cell instruction: none, an invalid dual-rail codeword (R30), a residue
mismatch (R50), a parity failure in the cell's instruction memory, in an operand's value or in a state record
(Table 11.4), or a failing byte of the privileged store under a K element (R434). Where the fault leads to a
migration, `spare` is the target the placement checker accepts for it, none where it accepts none (R202). -/
inductive HwFault where
  | none
  | codeword (spare : Option (Fin 256))
  | residue (spare : Option (Fin 256))
  | parityInstr (spare : Option (Fin 256))
  | parityValue (spare : Option (Fin 256))
  | parityRecord (spare : Option (Fin 256))
  | storeByte (f : ByteFault)
  deriving DecidableEq, Repr, Inhabited

/-- What the digital field block measures at one D7 instant (Table 7.10). -/
structure DigMeas where
  level : Word := 0
  inLimit : Word := 0
  current : List Half := []
  grpVolt : List Half := []
  grpCurrent : List Half := []
  deriving DecidableEq, Repr, Inhabited

/-- What the current-loop block measures at one D7 instant (Table 8.12). -/
structure AnaMeas where
  volt : Half := 0
  loopCurrent : Half := 0
  regulation : List Word := []
  vao : List Half := []
  vout : List Half := []
  inLimit : Half := 0
  deriving DecidableEq, Repr, Inhabited

/-- The way a pair or lease message came: the station network, from an IPv4 address, or Gligil port P (R388). -/
inductive Via where
  | net (ip : Word)
  | portP
  deriving DecidableEq, Repr, Inhabited

/-- A pair notice (R404, R411): the active device has fenced, or has raised SWAP_DONE. -/
inductive PairNotice where
  | fence
  | swap
  deriving DecidableEq, Repr, Inhabited

/-- A record of the retentive configuration area, named by its consumer (Table 11.2). -/
inductive ConfPart where
  | task (t : Fin 8)
  | slot (u : Fin 8) (k : Fin 32)
  | di (n : Fin 32)
  | groupRef
  | dout (n : Fin 32)
  | latchOff (g : Fin 4)
  | watchdog
  | trip
  | ai (n : Fin 16)
  | ao (n : Fin 8)
  | net
  | ptp
  | can (n : Fin 4)
  | uart (n : Fin 2)
  | pair
  | arbiter (n : Fin 16)
  | interval
  | discipline
  | leap
  | histogram (n : BitVec 16)
  | extreme (n : BitVec 16)
  | panel
  deriving DecidableEq, Repr, Inhabited

/-- An uncorrectable byte that a restore meets (Table 11.3), by its offset in its area: in a record of the retentive
configuration, in a retentive M or V element (its number in space M, or V where v holds), or in the override of a K
element. -/
inductive RestoreLoss where
  | conf (p : ConfPart) (a : BitVec 19)
  | elem (v : Bool) (n : BitVec 16) (a : BitVec 20)
  | override (n : BitVec 16) (a : BitVec 20)
  deriving DecidableEq, Repr, Inhabited

/-- A flash operation that ends (R572 to R574). -/
inductive FlashOp where
  | config
  | snapshot
  | erase
  deriving DecidableEq, Repr, Inhabited

/-- How an Ethernet frame is marked for redundancy (R337, R339). -/
inductive RedTag where
  | none
  | prp (lanB : Bool)
  | hsr
  deriving DecidableEq, Repr, Inhabited

/-- An Ethernet frame received in PRP or HSR mode: source MAC, sequence number and kind of its tag, whether it is a
supervision frame, whether it is addressed to this device only, and its bytes. -/
structure RedFrame where
  mac : Nat
  seq : Nat
  tag : RedTag
  supervision : Bool
  forMe : Bool
  data : Bytes
  deriving DecidableEq, Repr, Inhabited

/-- A value of a scheduled Gligil frame (R375, R193): a stack publication, named by its source identity, or a working
value of the cycle of a task, named by its element and its writing block, with its provisional mark (R165). -/
inductive SchedVal where
  | publication (id : Word) (tv : TV)
  | working (task : Fin 8) (block : Nat) (key : Nat) (value : Word) (quality : Byte) (provisional : Bool)
  deriving DecidableEq, Repr, Inhabited

end Sys2Proof
end

