-- ==== Sys2Proof/Machine/TypesHost.lean ====
section
/-!
DEFINITION. Machine/TypesHost.lean: the state of the host block and of what every chapter shares: identity and SYS
registers, mailbox channels and the network queue, events, the MSI-X table, PCIe and SPI ports, DMA channels
(chapters 00, 01 and 02), and the record of what the device has sent out of itself.
-/

namespace Sys2Proof.Machine

open Sys2Proof

/-- The events of Table 2.20. A family of events carries its index. -/
inductive Ev where
  | porDone | fwFault | vcoreWarn | vioWarn | vbatLow | pfw | tjHigh | tjCrit
  | pcieLink | spiProtocolErr | mbxOverflow | dmaDone | dmaError | settingsChanged | mbxAuthFail | supervisorWdg
  | taskOverrun (n : Fin 8)
  | taskFault (n : Fin 8)
  | placementDone | migrationStart | migrationDone | speedMarginLow | dualrailError | residueError
  | progressStall | swapDone
  | loopSat (n : Fin 8)
  | loopTrace (n : Fin 8)
  | diGroupSupply (n : Fin 4)
  | doGroupLow (n : Fin 4)
  | doGroupLost (n : Fin 4)
  | doGroupFault (n : Fin 4)
  | tripFired | fieldWdgSafe | fieldWdgRelease | diFastcountOvf | doThermal | tripConfigChanged
  | aiWirebreak | aiRange | aiCheck | aiLooppowerLimit | aoCompliance | aoOpen | aoThermalFoldback | aoThermalOff
  | aoReadbackMismatch | aoSupplyLow
  | portALink | portBLink | hsrPrpError | partnerNew | partnerLost | ptpLockChange
  | canBusoff (n : Fin 4)
  | uartError | stackLinkChange | leaseGranted | leaseRenewLate | fenced | takeoverStart | takeoverDone
  | compareMismatch | checkpointGap | arbiterLost | privCorrected | privUncorrectable | scrubDone | repairPending
  | rtcOsf | timeStep | historyLogFull | historyFlushed | panelCrcMismatch | panelBandChange | panelUpdateDone
  | panelRailFault
  deriving DecidableEq, Repr

/-- What the device has put on its ports: the record that the model keeps of every message, frame, pulse and
memory write that leaves the device. A field of the model's own, not a register of the device. -/
inductive Out where
  /-- MSI-X message of a vector (R84). -/
  | msix (vector : Nat)
  /-- A DMA memory write to host memory (R95). -/
  | dmaWrite (addr : Nat) (data : Bytes)
  /-- Bytes driven on MISO (R57). -/
  | spiMiso (data : Bytes)
  /-- A UDP datagram: destination address, destination port, payload. -/
  | udp (dst : Word) (port : Nat) (data : Bytes)
  /-- An Ethernet frame forwarded or sent below IP on port 0 = A, 1 = B. -/
  | eth (port : Nat) (kind : Nat) (data : Bytes)
  /-- An ARP reply to an address. -/
  | arpReply (ip : Word)
  /-- An ICMP echo reply to an address. -/
  | icmpReply (ip : Word) (data : Bytes)
  /-- An IGMPv2 report of a group joined. -/
  | igmpReport (group : Word)
  /-- A PTP message of a type on a port. -/
  | ptp (port : Nat) (msgType : Nat) (data : Bytes)
  /-- A Gligil frame: port, class, frame type, stack position of the destination, payload. -/
  | gligil (port : Nat) (cls : Nat) (kind : Nat) (dst : Nat) (data : Bytes)
  /-- A CAN FD frame of a controller. -/
  | can (ctrl : Nat) (id : Nat) (data : Bytes)
  /-- Bytes sent on a UART. -/
  | uart (n : Nat) (data : Bytes)
  deriving DecidableEq, Repr

/-- The status and payload of a mailbox response (Table 2.16). -/
structure Resp where
  status : Half := 0
  payload : Bytes := []
  deriving DecidableEq, Repr

/-- A command the device has accepted: its copy of the 16 header bytes and the payload (R602), the response once it
is known, and whether the command's effect has begun. -/
structure Job where
  header : Bytes := []
  payload : Bytes := []
  resp : Option Resp := none
  started : Bool := false
  deriving DecidableEq, Repr

/-- MBX_n_STATUS.STATE (Table 2.9). -/
inductive ChState where
  | idle | busy | done | closed
  deriving DecidableEq, Repr, Inhabited

/-- One mailbox channel: Tables 2.8 to 2.10, the last SEQUENCE that passed checks 1 and 2 (R67) and the command in
progress. -/
structure Chan where
  state : ChState := .closed
  dbIgnored : Bool := false
  tag : Byte := 0
  result : Half := 0
  respLen : BitVec 13 := 0
  lastSeq : Option Word := none
  job : Option Job := none
  deriving DecidableEq, Repr, Inhabited

/-- An accepted network command: the job, its source address, KEY_INDEX and EPOCH of its trailer (R77, R78). -/
structure NetJob where
  job : Job := {}
  srcIp : Word := 0
  srcPort : Nat := 0
  key : Nat := 0
  epoch : Word := 0
  deriving DecidableEq, Repr

/-- The mailboxes: eight channels, the network queue of at most 16 (R78), the highest SEQUENCE per KEY_INDEX (R74),
and when an AUTH_FAILED response last went to each source address (R76). -/
structure Mbx where
  chans : Vector Chan 8 := Vector.replicate 8 {}
  netQueue : List NetJob := []
  netSeq : Vector Word 8 := Vector.replicate 8 0
  authFailAt : Map Nat := []
  deriving DecidableEq, Repr

/-- SYS_RESET_CAUSE (Table 2.7). -/
structure ResetCause where
  por : Bool := true
  pin : Bool := false
  soft : Bool := false
  swdg : Bool := false
  lockstep : Bool := false
  thermal : Bool := false
  brownout : Bool := false
  deriving DecidableEq, Repr

/-- The device's role (SYS_STATUS.ROLE, Table 2.6). -/
inductive Role where
  | unassigned | active | standby | arbiter
  deriving DecidableEq, Repr, Inhabited

/-- Check-failure paths of R45. -/
structure CheckCounts where
  sram : Word := 0
  fabric : Word := 0
  network : Word := 0
  gligil : Word := 0
  output : Word := 0
  deriving DecidableEq, Repr

/-- The SYS block and what it mirrors (Tables 2.4 to 2.7), the check-failure counters (R45, R89), and a scheduled
SOFT_RESET (R90). -/
structure Sys where
  ident : DWord := 0x0003C8F007B06451
  uid : BitVec 128 := 0
  fwVersion : Word := 0
  fwReady : Bool := false
  recovery : Bool := false
  role : Role := .unassigned
  fenced : Bool := false
  stackPos : BitVec 3 := 0
  bootSel : BitVec 2 := 0
  safeState : Bool := false
  cause : ResetCause := {}
  scratch : Word := 0
  checks : CheckCounts := {}
  softReset : Bool := false
  deriving DecidableEq, Repr

/-- The record of one event (Table 2.27) and its flags (R93). PENDING and MASK stand in the registers. -/
structure EvRec where
  count : Half := 0
  saturated : Bool := false
  untrusted : Bool := false
  detail : Word := 0
  stamp : DWord := 0
  net : Bool := false
  log : Bool := true
  deriving DecidableEq, Repr, Inhabited

/-- The EVT block (Tables 2.11 to 2.13), the event records, and the INT_N pin (true = asserted, R83). -/
structure Evt where
  pending : BitVec 128 := 0
  mask : BitVec 128 := 0xFFFFFFFFFFFFFFFFFFFFFFFFFFFFFFFE#128
  intEn : Bool := true
  intAsserted : Bool := false
  recs : Vector EvRec 128 := Vector.replicate 128 {}
  /-- Events raised with NET set since the last event frame, oldest first (R87, R356): their 16-byte records. -/
  netQueue : List Bytes := []
  deriving DecidableEq, Repr

/-- One entry of the MSI-X table. Its Mask bit is 1 at reset (PCIe Base Specification). -/
structure MsixEntry where
  addr : DWord := 0
  data : Word := 0
  masked : Bool := true
  deriving DecidableEq, Repr, Inhabited

/-- A DMA descriptor (Table 2.28). -/
structure Desc where
  hostAddr : DWord := 0
  length : Word := 0
  objOffset : Word := 0
  object : Half := 0
  objIndex : Half := 0
  toDevice : Bool := false
  event : Bool := false
  id : Word := 0
  deriving DecidableEq, Repr

/-- DMA channel STATE (Table 2.14). -/
inductive DmaState where
  | idle | running | halted
  deriving DecidableEq, Repr, Inhabited

/-- One DMA channel: the registers of Table 2.14 and its queue (the descriptor running first); the object bytes that
the running descriptor reads, taken when it started (R96, R183). -/
structure DmaChan where
  state : DmaState := .idle
  errKind : BitVec 3 := 0
  doneCount : Word := 0
  lastId : Word := 0
  errId : Word := 0
  errAddr : DWord := 0
  queue : List Desc := []
  image : Bytes := []
  deriving DecidableEq, Repr, Inhabited

/-- The host block: PCIe endpoint (link, power state, Bus Master Enable, MSI-X), the SPI port's ERR bit, and the
DMA channels. -/
structure HostBlk where
  linkUp : Bool := false
  linkSpeed : BitVec 3 := 0
  linkWidth : BitVec 4 := 0
  d3hot : Bool := false
  busMaster : Bool := false
  msixMask : Bool := false
  msix : Vector MsixEntry 128 := Vector.replicate 128 {}
  pba : BitVec 128 := 0
  spiErr : Bool := false
  dma : Vector DmaChan 4 := Vector.replicate 4 {}
  deriving DecidableEq, Repr

end Sys2Proof.Machine
end

