-- ==== Sys2Proof/Machine/TypesProg.lean ====
section
/-!
DEFINITION. Machine/TypesProg.lean: the state of the program side: the parsed program image (Tables 5.7 to 5.19), the
cells and their speculation records (chapter 03), the tasks and their cycles (chapter 04), placement, migration, the
recovery ladder, load and swap (chapter 05).
-/

namespace Sys2Proof.Machine

open Sys2Proof

/-! ## The program image -/

/-- A block descriptor with its instruction words (Table 5.10). -/
structure Block where
  task : Nat := 0
  hasRecord : Bool := false
  group : Nat := 0xFFFF
  record : Nat := 0xFFFF
  code : List Word := []
  deriving DecidableEq, Repr, Inhabited

/-- An I element declaration (Table 5.11). -/
structure IDecl where
  kind : Nat := 0
  source : Nat := 0
  position : Nat := 0
  channel : Nat := 0
  id : Word := 0
  policy : Nat := 0
  holdLimit : Nat := 0
  policyValue : Word := 0
  deriving DecidableEq, Repr, Inhabited

/-- A Q, M or V element declaration (Table 5.12). -/
structure QDecl where
  space : Nat := 1
  kind : Nat := 1
  flags : Byte := 0
  channel : Nat := 0
  element : Nat := 0
  position : Nat := 0
  id : Word := 0
  initial : Word := 0
  key : DWord := 0
  deriving DecidableEq, Repr, Inhabited

/-- A K element entry (Table 5.13). -/
structure KDecl where
  value : Word := 0
  id : Word := 0
  deriving DecidableEq, Repr, Inhabited

/-- A T, C or E instance declaration (Table 5.14). -/
structure SDecl where
  space : Nat := 3
  mode : Nat := 0
  instanceNo : Nat := 0
  key : DWord := 0
  deriving DecidableEq, Repr, Inhabited

/-- A configuration record entry (Table 5.15). -/
structure RecDecl where
  record : Nat := 0
  task : Nat := 0
  firstK : Nat := 0
  count : Nat := 0
  deriving DecidableEq, Repr, Inhabited

/-- A value set entry (Table 5.16): its values are (space, element) pairs. -/
structure SetDecl where
  setNo : Nat := 0
  task : Nat := 0
  partner : Word := 0
  group : Word := 0
  signature : Word := 0
  items : List (Nat × Nat) := []
  deriving DecidableEq, Repr, Inhabited

/-- A loop slot declaration (Table 5.17). -/
structure LoopDecl where
  position : Nat := 0
  unit : Nat := 0
  slot : Nat := 0
  type : Nat := 0
  outElement : Nat := 0
  id : Word := 0
  key : DWord := 0
  deriving DecidableEq, Repr, Inhabited

/-- An indicator declaration (Table 5.18). -/
structure IndDecl where
  index : Nat := 0
  space : Nat := 1
  element : Nat := 0
  bit : Nat := 0
  levelOn : Nat := 0
  levelOff : Nat := 0
  levelBad : Nat := 0
  rowFirst : Nat := 0
  rowLast : Nat := 0
  colFirst : Nat := 0
  colLast : Nat := 0
  position : Nat := 0
  deriving DecidableEq, Repr, Inhabited

/-- A binding of a sentence template (Table 5.19). -/
structure SentBind where
  position : Nat := 1
  format : Nat := 0
  space : Nat := 1
  element : Nat := 0
  deriving DecidableEq, Repr, Inhabited

/-- A sentence template (Table 5.19). -/
structure SentDecl where
  index : Nat := 0
  task : Nat := 0
  repeatEvery : Nat := 1
  group : Word := 0
  port : Nat := 0
  text : Bytes := []
  binds : List SentBind := []
  deriving DecidableEq, Repr, Inhabited

/-- A field of a CAN FD object (Table 5.19). -/
structure CanField where
  offset : Nat := 0
  size : Nat := 1
  bigEndian : Bool := false
  signed : Bool := false
  analogue : Bool := false
  space : Nat := 0
  element : Nat := 0
  substitute : Word := 0
  deriving DecidableEq, Repr, Inhabited

/-- A CAN FD object (Table 5.19). -/
structure CanDecl where
  position : Nat := 0
  ctrl : Nat := 0
  transmit : Bool := false
  extended : Bool := false
  fd : Bool := false
  brs : Bool := false
  id : Nat := 0
  mask : Nat := 0
  length : Nat := 0
  task : Nat := 0
  period : Nat := 1
  fields : List CanField := []
  deriving DecidableEq, Repr, Inhabited

/-- A register of a Modbus poll entry (Table 5.19). -/
structure PollReg where
  space : Nat := 0
  signed : Bool := false
  analogue : Bool := false
  element : Nat := 0
  deriving DecidableEq, Repr, Inhabited

/-- A Modbus poll entry (Table 5.19). -/
structure PollDecl where
  position : Nat := 0
  uart : Nat := 0
  slave : Nat := 1
  function : Nat := 3
  start : Nat := 0
  period : Nat := 1
  task : Nat := 0
  regs : List PollReg := []
  deriving DecidableEq, Repr, Inhabited

/-- A listener field (Table 5.19). -/
structure ListenDecl where
  position : Nat := 0
  uart : Nat := 0
  field : Nat := 1
  talker : Bytes := []
  formatter : Bytes := []
  analogue : Bool := false
  letter : Bool := false
  element : Nat := 0
  timeout : Nat := 100
  deriving DecidableEq, Repr, Inhabited

/-- A program image as the device reads it (R229): the image header of Table 5.7 and the sections of Table 5.9. -/
structure Image where
  imageId : DWord := 0
  tasks : Byte := 0
  stack : Bool := false
  stackSize : Nat := 1
  nI : Nat := 0
  nQ : Nat := 0
  nM : Nat := 0
  nT : Nat := 0
  nC : Nat := 0
  nE : Nat := 0
  nV : Nat := 0
  nK : Nat := 0
  blocks : List Block := []
  iDecl : List IDecl := []
  qmv : List QDecl := []
  kInit : List KDecl := []
  stateDecl : List SDecl := []
  records : List RecDecl := []
  pubSets : List SetDecl := []
  subSets : List SetDecl := []
  loops : List LoopDecl := []
  indicators : List IndDecl := []
  sentences : List SentDecl := []
  canObjs : List CanDecl := []
  polls : List PollDecl := []
  listens : List ListenDecl := []
  deriving DecidableEq, Repr, Inhabited

/-! ## State records, executions and cells -/

/-- A timer record (Table 3.7): ET and TAU_LAST in µs, and FLAGS. -/
structure TimerRec where
  et : DWord := 0
  tauLast : DWord := 0
  inPrev : Bool := false
  q : Bool := false
  run : Bool := false
  fresh : Bool := true
  kind : BitVec 2 := 0
  base : BitVec 2 := 0
  deriving DecidableEq, Repr, Inhabited

/-- A counter record (R124). -/
structure CtrRec where
  cv : Word := 0
  cuPrev : Bool := false
  cdPrev : Bool := false
  qu : Bool := false
  qd : Bool := false
  fresh : Bool := true
  deriving DecidableEq, Repr, Inhabited

/-- An edge memory (chapter 03, Edge memories). -/
structure EdgeRec where
  prev : Bool := false
  fresh : Bool := true
  deriving DecidableEq, Repr, Inhabited

/-- A write of a block execution to a Q, M or V element: key, the bits written, VALUE and quality (R106, R107). -/
structure Write where
  key : Nat
  value : Word
  quality : Byte
  deriving DecidableEq, Repr

/-- A working value read from a lower-numbered block: key, VALUE and quality (R160). -/
structure WRead where
  key : Nat
  value : Word
  quality : Byte
  deriving DecidableEq, Repr

/-- One result in an outcome signature (R134, R135): the comparison, each side as a fixed word or, where it is none,
the provisional element itself, and the result. -/
structure Sig where
  element : Nat
  kind : BitVec 3
  left : Option Word
  right : Option Word
  result : Bool
  deriving DecidableEq, Repr

/-- The speculation record (R134): the packed bits read (element, mask, predicted VALUE), the provisional elements
read with their predicted quality, the outcome signatures in order, and the ARITH marks. -/
structure SpecRec where
  bits : List (Nat × Word × Word) := []
  quals : List (Nat × Byte) := []
  sigs : List Sig := []
  arith : List Nat := []
  deriving DecidableEq, Repr, Inhabited

/-- What one block execution did: its writes in order, its held journals (R116), the working values it read, and its
speculation record. -/
structure Exec where
  block : Nat := 0
  writes : List Write := []
  timers : Map TimerRec := []
  counters : Map CtrRec := []
  edges : Map EdgeRec := []
  wreads : List WRead := []
  spec : SpecRec := {}
  deriving DecidableEq, Repr, Inhabited

/-- Kind of an open branch (R112). -/
inductive BrKind where
  | and | or | xor
  deriving DecidableEq, Repr, Inhabited

/-- A branch stack entry (Table 3.1). -/
structure BrEntry where
  bit : Bool
  quality : Byte
  kind : BrKind
  deriving DecidableEq, Repr

/-- The recovery level in progress on a cell (Table 5.1): the L0 reload, its re-execution, or L1. -/
inductive CellLevel where
  | ok | l0 | l0run | l1queued | l1
  deriving DecidableEq, Repr, Inhabited

/-- One cell (Table 3.1): its accumulators, branch stack, sticky flags, provenance mark of W (R135), the position in
its block, the execution it is making, and whether it is running; its fault history (R206, R207). -/
structure Cell where
  running : Bool := false
  task : Nat := 0
  block : Nat := 0
  pos : Nat := 0
  lb : Bool := false
  lbq : Byte := 0
  w : Word := 0
  wq : Byte := 0
  stack : List BrEntry := []
  sat : Bool := false
  ovf : Bool := false
  mark : Option Nat := none
  exec : Exec := {}
  failed : Bool := false
  level : CellLevel := .ok
  /-- Tick of the last L0 entry of this cell (16-period rule of Table 5.1). -/
  lastL0 : Option Nat := none
  deriving DecidableEq, Repr, Inhabited

/-! ## Tasks -/

/-- The states of Table 4.4. -/
inductive TState where
  | stopped | starting | execute | ready | publish | wait | late | fault
  deriving DecidableEq, Repr, Inhabited

/-- The configuration of a task (Tables 4.1 and 4.10). -/
structure TaskCfg where
  enable : Bool := false
  specEn : Bool := true
  reaction : Nat := 0
  ovrN : Nat := 0
  period : Nat := 0
  phase : Nat := 0
  window : Nat := 0
  offset : Nat := 0
  maxLate : Nat := 0
  deriving DecidableEq, Repr, Inhabited

/-- The statistics of Table 4.11, offsets 8 to 56. Times in 0.1 µs. -/
structure TaskStats where
  commits : DWord := 0
  overruns : Word := 0
  faults : Word := 0
  confTime : Word := 0
  confMax : Word := 0
  slackMin : Word := 0
  slackSeen : Bool := false
  lateMax : Word := 0
  provisional : Word := 0
  confirmedSpec : Word := 0
  reexecs : Word := 0
  stale : Word := 0
  reexecMax : Word := 0
  deriving DecidableEq, Repr, Inhabited

/-- A finished block execution of the cycle: what it did, and whether it is still provisional (R158, R160). -/
structure Run where
  exec : Exec
  provisional : Bool := false
  needsReexec : Bool := false
  /-- The block runs on another device of the stack; its working values arrived over the ring (R165, R193). -/
  remote : Bool := false
  deriving DecidableEq, Repr

/-- The committed value image of a task (R183). -/
structure CommitImage where
  forced : Bool := false
  cycle : Word := 0
  tick : Nat := 0
  inputs : Map TV := []
  vals : Map TV := []
  deriving DecidableEq, Repr

/-- A task: configuration, state of Table 4.4, cycle counter (R147), the cycle in progress and statistics. -/
structure Task where
  cfg : TaskCfg := {}
  st : TState := .stopped
  counter : Word := 0
  firstT0 : Nat := 0
  t0 : Nat := 0
  deadlinePassed : Bool := false
  overruns : Nat := 0
  /-- The input image frozen at t0 and completed in the input window (R151, R152), by I element. -/
  inputs : Map TV := []
  /-- The committed Q, M, V and K values as they stood at t0 (Table 4.2). -/
  snap : Map TV := []
  /-- T, C and E records are read from the committed records of Prog; the executions of the cycle, by block. -/
  runs : Map Run := []
  confirmedAt : Option Nat := none
  reexecFrom : Option Nat := none
  anyStale : Bool := false
  /-- A CYCLE_STOP in progress: its MODE (R180). -/
  stopReq : Option Bool := none
  /-- Outputs of the stopped task in their programmed safe states (R180, MODE 1). -/
  stoppedSafe : Bool := false
  /-- Set at a commit not yet published (PUBLISH). -/
  toPublish : Bool := false
  stats : TaskStats := {}
  committed : Option CommitImage := none
  deriving DecidableEq, Repr, Inhabited

/-- An input policy (Table 4.8). -/
structure Policy where
  kind : Nat := 0
  holdLimit : Nat := 0
  value : Word := 0
  deriving DecidableEq, Repr, Inhabited

/-- A partner input (SOURCE 9): the values received in the interval, what was taken, and the STALE history
(R152, R155, R156, R166 to R169). -/
structure PInput where
  policy : Policy := {}
  staged : Option Policy := none
  /-- Latest frame value of the interval received before t0, and the tick at which it arrived. -/
  pendingVal : Option TV := none
  pendingAt : Nat := 0
  /-- Value taken in the current interval (R152). -/
  taken : Option TV := none
  /-- VALUE and quality the element carried in the last committed cycle (R155). -/
  lastConfirmed : Option TV := none
  /-- VALUE of the last frame taken, and whether one was taken since CYCLE_START (Table 4.8). -/
  lastTaken : Option Word := none
  received : Bool := false
  staleRun : Nat := 0
  /-- Consecutive cycles in which it was taken since its last STALE cycle; 2 or more = returned (R169). -/
  takesSince : Nat := 2
  lastEffective : Option TV := none
  deriving DecidableEq, Repr, Inhabited

/-- Where a long command waits for its response. -/
abbrev Waiter := Option Origin

/-- A force (R225). -/
structure Force where
  space : Nat := 0
  element : Nat := 0
  mask : Word := 0
  value : Word := 0
  deriving DecidableEq, Repr

/-- WRITE_VALUES awaiting application (R212). -/
structure WritePend where
  task : Nat
  entries : List (Nat × Nat × Byte × Word)
  waiter : Waiter
  /-- The named task has committed since. -/
  due : Bool := false
  deriving DecidableEq, Repr

/-- A staged configuration record (R214). -/
structure StagedRec where
  record : Nat
  values : Map Word
  committed : Bool
  deriving DecidableEq, Repr

/-! ## Placement, migration, load and swap -/

/-- RESULT of Table 5.5. -/
inductive SlotResult where
  | empty | checking | accepted | sigFailed | findings | placementFailed | incomplete
  deriving DecidableEq, Repr, Inhabited

/-- A verifier finding (Table 3.11). -/
structure Finding where
  code : Byte
  block : Nat
  instr : Nat
  deriving DecidableEq, Repr

/-- STATE of PROGRAM_LOAD's response. -/
inductive LoadState where
  | idle | receiving | checking | accepted | rejected
  deriving DecidableEq, Repr, Inhabited

/-- A placed block (Table 5.6, KIND 2). -/
structure PlacedBlock where
  block : Nat
  position : Nat
  cell : Nat
  inTile : Bool
  groupBroken : Bool
  /-- Slots per execution, Table 3.12. -/
  cost : Nat
  deriving DecidableEq, Repr

/-- A task's budget as the checker found it (Table 5.6, KIND 1): C_k, R_k and limits in 0.1 µs, T in 0.1 ns,
t_v in ps. -/
structure Budget where
  ck : Nat := 0
  rk : Nat := 0
  maxT : Nat := 0
  maxTv : Nat := 0
  deriving DecidableEq, Repr, Inhabited

/-- A placement map (R189): map number, blocks, budgets per task. -/
structure PlaceMap where
  mapId : Word := 0
  blocks : List PlacedBlock := []
  budgets : Vector Budget 8 := Vector.replicate 8 {}
  deriving DecidableEq, Repr, Inhabited

/-- A program slot of the privileged store: the state of its checks. Its bytes stand in the store. -/
structure Slot where
  result : SlotResult := .empty
  length : Nat := 0
  findings : List Finding := []
  imageId : DWord := 0
  map : Option PlaceMap := none
  deriving DecidableEq, Repr, Inhabited

/-- A load in progress (R215, R221). -/
structure Load where
  open_ : Bool := false
  state : LoadState := .idle
  length : Nat := 0
  /-- Word offsets written since BEGIN. -/
  written : List Nat := []
  deriving DecidableEq, Repr, Inhabited

/-- Migration state (Table 5.6). -/
inductive MigState where
  | none | prepare | switch
  deriving DecidableEq, Repr, Inhabited

/-- A migration (R202 to R204). Cause: 0 command, 1 fault, 2 progress stall, 3 speed, 4 overload. -/
structure Migration where
  state : MigState := .none
  source : Nat := 0
  target : Nat := 0
  cause : Nat := 0
  switched : List Nat := []
  deriving DecidableEq, Repr, Inhabited

/-- The swap report (Table 5.6, KIND 3). -/
structure SwapReport where
  gapUs : Nat := 0
  kept : Vector Nat 6 := Vector.replicate 6 0
  fresh : Vector Nat 6 := Vector.replicate 6 0
  removed : Vector Nat 6 := Vector.replicate 6 0
  abandoned : Vector Nat 8 := Vector.replicate 8 0
  skipped : Vector Nat 8 := Vector.replicate 8 0
  forcesReleased : Nat := 0
  removedItems : List (DWord × Nat) := []
  deriving DecidableEq, Repr, Inhabited

/-- A scheduled or running swap (R217). -/
structure Swap where
  pending : Bool := false
  gapStart : Nat := 0
  inGap : Bool := false
  deriving DecidableEq, Repr, Inhabited

/-- A tile's speed monitor (R195 to R197): readings of the last 1 s, newest first, and whether SPEED_MARGIN_LOW is
armed. -/
structure TileSpeed where
  readings : List Half := []
  armed : Bool := true
  deriving DecidableEq, Repr, Inhabited

/-- A fault waiting in the L1 queue (R208): the cell and the migration cause. -/
structure QueuedFault where
  cell : Nat
  cause : Nat
  deriving DecidableEq, Repr

/-- The program side of the device. -/
structure Prog where
  /-- The tick that task instants count from (R146, R413). -/
  origin : Nat := 0
  tasks : Vector Task 8 := Vector.replicate 8 {}
  cells : Vector Cell 256 := Vector.replicate 256 {}
  /-- The parsed image of the active slot; none while no program is active. -/
  image : Option Image := none
  activeSlot : Bool := false
  slots : Vector Slot 2 := Vector.replicate 2 {}
  load : Load := {}
  /-- PROGRAM_VERIFY RUN or END in progress on a slot. -/
  checking : Option Nat := none
  /-- Committed Q, M, V and current K values (Table 4.6; R224), keyed by space and element. -/
  vals : Map TV := []
  timers : Map TimerRec := []
  counters : Map CtrRec := []
  edges : Map EdgeRec := []
  partnerIn : Map PInput := []
  /-- Last values of stack inputs and bus fields, by I element (R151, R153, R360). -/
  fieldIn : Map TV := []
  forces : List Force := []
  writePend : Option WritePend := none
  stagedRecs : List StagedRec := []
  recCommitWaiter : Option Origin := none
  map : Option PlaceMap := none
  mig : Migration := {}
  migQueue : List QueuedFault := []
  swap : Swap := {}
  report : SwapReport := {}
  speed : Vector TileSpeed 32 := Vector.replicate 32 {}
  /-- CYCLE_STOP commands in progress: where each answers, and the tasks it named (R180). -/
  stopWaiters : List (Origin × Byte) := []
  /-- Consecutive deadlines at which a partner was wholly STALE (R172), keyed by partner and task. -/
  partnerStale : Map Nat := []
  /-- The reaction or ladder level that has acted, 0 none, 1 fence, 2 switchover, 3 safe state (R177, R209). -/
  reaction : Nat := 0
  deriving DecidableEq, Repr

end Sys2Proof.Machine
end

