-- ==== Sys2Proof/Machine/TypesField.lean ====
section
/-!
DEFINITION. Machine/TypesField.lean: the state of the loop units (chapter 06), of the digital field channels, the field
watchdog and the trip matrix (chapter 07), and of the current-loop channels (chapter 08).
-/

namespace Sys2Proof.Machine

open Sys2Proof

/-! ## Loop units -/

/-- A slot's configuration (Table 6.9). Its four source descriptors are kept as the words of Table 6.1. -/
structure LoopCfg where
  enable : Bool := false
  hysteretic : Bool := false
  reverse : Bool := false
  track : Bool := false
  freezeUp : Bool := false
  badSafe : Bool := false
  period : Nat := 1
  phase : Nat := 0
  pv : Word := 0
  sp : Word := 0
  man : Word := 0
  ctrl : Word := 0
  destKind : Nat := 0
  destCh : Nat := 0
  evtMask : Byte := 0x0D
  safeOut : Word := 0
  deriving DecidableEq, Repr, Inhabited

/-- A section's coefficients, Q2.29 (R244). -/
structure Section where
  b0 : Word := 0
  b1 : Word := 0
  b2 : Word := 0
  a1 : Word := 0
  a2 : Word := 0
  deriving DecidableEq, Repr, Inhabited

/-- A coefficient set (Table 6.10). -/
inductive CoefSet where
  | biquad (sections : List Section) (intSec : Nat) (intNeg : Bool) (outMin outMax rateUp rateDown spFixed : Word)
  | hyst (bandLow bandHigh : Word) (minOn minOff maxSw : Nat) (spFixed : Word)
  deriving DecidableEq, Repr

/-- Modes of a sample (Table 6.2), with stopped and disabled (Table 6.11). -/
inductive LoopMode where
  | auto | manual | forced | badIn | fault | stopped | disabled
  deriving DecidableEq, Repr, Inhabited

/-- The input shadow of a slot (R236): VALUE and quality of each element named. -/
structure Shadow where
  pv : Option (Word × Byte) := none
  sp : Option (Word × Byte) := none
  man : Option (Word × Byte) := none
  ctrl : Option (Word × Byte) := none
  deriving DecidableEq, Repr, Inhabited

/-- A loop slot: configuration, sets, states (s1, s2 in Q18.30), previous output, sticky flags and the hysteretic
state. `spNext` is the shadow written by this tick's commits, used from the next tick (R241). -/
structure LoopSlot where
  cfg : LoopCfg := {}
  active : Option CoefSet := none
  staged : Option CoefSet := none
  /-- A commit pending: CLEAR_STATE, and the first tick at which it may apply (R255). -/
  commitPend : Option (Bool × Nat) := none
  s1 : Vector (BitVec 48) 8 := Vector.replicate 8 0
  s2 : Vector (BitVec 48) 8 := Vector.replicate 8 0
  prev : Word := 0
  out : TV := {}
  mode : LoopMode := .disabled
  satState : Bool := false
  satOut : Bool := false
  ovf : Bool := false
  hw : Bool := false
  frozen : Bool := false
  /-- Limiters raised (true, _) or lowered (_, true) the output in the last sample (R250). -/
  raised : Bool := false
  lowered : Bool := false
  faults : Nat := 0
  stopped : Bool := false
  /-- A slot restored enabled waits for the first commit of any task (R264). -/
  waitCommit : Bool := false
  notBefore : Nat := 0
  lastTick : Option Nat := none
  shadow : Shadow := {}
  spNext : Shadow := {}
  onBit : Bool := false
  /-- Tick at which the hysteretic output last changed; none: both minimum times already met (R254). -/
  since : Option Nat := none
  /-- Switch window (R253): bin number and switchings in it. -/
  bins : List (Nat × Nat) := []
  deriving DecidableEq, Repr, Inhabited

/-- Trace states (Table 6.5). -/
inductive TraceState where
  | idle | armed | triggered | done
  deriving DecidableEq, Repr, Inhabited

/-- A unit's trace (R259 to R262). Records are kept oldest first. -/
structure Trace where
  state : TraceState := .idle
  slot : Nat := 0
  nodes : List Byte := []
  refs : List Word := []
  decim : Nat := 1
  pre : Nat := 0
  trigMode : Nat := 0
  trigNode : Nat := 0
  level : Word := 0
  records : List (List Word) := []
  count : Nat := 0
  preActual : Nat := 0
  trigTick : Nat := 0
  lastTick : Nat := 0
  commitRecord : Option Nat := none
  truncated : Bool := false
  forced : Bool := false
  forceNext : Bool := false
  commitSeen : Bool := false
  deriving DecidableEq, Repr, Inhabited

/-- A loop unit. -/
structure LoopUnit where
  slots : Vector LoopSlot 32 := Vector.replicate 32 {}
  trace : Trace := {}
  /-- Each LOOP_COEFF_COMMIT that waits: its origin and SLOT_MASK (R267). -/
  waiters : List (Origin × Word) := []
  deriving DecidableEq, Repr, Inhabited

/-! ## Digital field -/

/-- A DI channel's settings (Table 7.8): N, Ts, WIREBREAK, count mode and edge selection. -/
structure DiCfg where
  n : Nat := 0
  ts : Nat := 2
  wire : Bool := false
  mode : Nat := 0
  edge : Nat := 0
  deriving DecidableEq, Repr, Inhabited

/-- A DI channel (R277 to R282). -/
structure DiCh where
  cfg : DiCfg := {}
  pend : Option DiCfg := none
  count : Nat := 0
  filtered : Bool := false
  raw : Bool := false
  broken : Bool := false
  breaks : Nat := 0
  /-- Fast count (ACCUM: running count; DELTA: edges since the previous input freeze). -/
  fast : Nat := 0
  /-- DELTA: VALUE of its I element at the last input freeze (R282). -/
  lastDelta : Nat := 0
  deriving DecidableEq, Repr, Inhabited

/-- A programmed safe state: OFF, ON (AO: VALUE), HOLD (Tables 7.9, 8.11). -/
inductive SafeMode where
  | off | on | hold
  deriving DecidableEq, Repr, Inhabited

/-- DO channel states (Table 7.5). -/
inductive DoState where
  | undriven | off | on | openLoad | shortSupply | overcurrent | overtemp | supplyLost
  deriving DecidableEq, Repr, Inhabited

/-- A DO channel's settings (Table 7.9). -/
structure DoCfg where
  safe : SafeMode := .off
  openEn : Bool := true
  shortEn : Bool := true
  retry : Bool := false
  ilim : Nat := 25
  deriving DecidableEq, Repr, Inhabited

/-- A DO channel (R287, R288). -/
structure DoCh where
  cfg : DoCfg := {}
  pend : Option DoCfg := none
  state : DoState := .undriven
  /-- Condition kept through SUPPLY_LOST: UNDRIVEN, OVERCURRENT or latched OVERTEMP. -/
  kept : Option DoState := none
  otLatched : Bool := false
  otTimes : List Nat := []
  trial : Bool := false
  /-- Committed output image: bit 0 of the channel's Q element, and whether its CHECK failed (R46). -/
  image : Bool := false
  imageBad : Bool := false
  /-- The forced bit of the channel's Q element, as of the last commit (R225). -/
  forced : Option Bool := none
  /-- The output of a slot disabled while bound, held until the next commit (R265). -/
  slotHold : Option Bool := none
  /-- Demand held since the safe state began; none: no safe state of rank 3 in force. -/
  held : Option Bool := none
  demand : Bool := false
  fault : Nat := 0
  deriving DecidableEq, Repr, Inhabited

/-- DO group supply states (Table 7.6). -/
inductive GrpState where
  | normal | lost | recovering | latchedOff
  deriving DecidableEq, Repr, Inhabited

/-- A DO group: supply state, LOW, latch-off setting, the next channel position to re-energise, VFLD_Gn last
measured in 10 mV. -/
structure DoGroup where
  state : GrpState := .normal
  low : Bool := false
  latchOff : Bool := false
  latchPend : Option Bool := none
  nextSlot : Nat := 0
  vfld : Half := 0
  deriving DecidableEq, Repr, Inhabited

/-- Field watchdog states (Table 7.7). -/
inductive WdgState where
  | inactive | running | safe | ext
  deriving DecidableEq, Repr, Inhabited

/-- Field watchdog settings (R296). TIMEOUT in µs. -/
structure WdgCfg where
  timeout : Nat := 0
  feed : Byte := 0x01
  reqPartner : Byte := 0
  manual : Bool := false
  deriving DecidableEq, Repr, Inhabited

/-- The field watchdog (R294 to R296). -/
structure Wdg where
  cfg : WdgCfg := {}
  pend : Option WdgCfg := none
  state : WdgState := .inactive
  /-- Tick of the last feed of each task. -/
  fedAt : Vector Nat 8 := Vector.replicate 8 0
  /-- The task's timer has reached TIMEOUT since its last feed. -/
  expired : Vector Bool 8 := Vector.replicate 8 false
  runs : Vector Nat 8 := Vector.replicate 8 0
  holdsExpiry : Bool := false
  lastExpired : Option Nat := none
  armed : Bool := false
  /-- EXTSAFE_N after its filter: true = low (asserted). -/
  extLow : Bool := false
  deriving DecidableEq, Repr, Inhabited

/-- A trip matrix configuration (Table 7.11) with its TOKEN. -/
structure TripCfg where
  level : Word := 0
  state : Word := 0
  latch : Word := 0
  links : Vector Word 32 := Vector.replicate 32 0
  token : Word := 0
  deriving DecidableEq, Repr, Inhabited

/-- The trip matrix (R297 to R301). -/
structure Trip where
  armed : Option TripCfg := none
  staged : Option TripCfg := none
  tripped : Word := 0
  latched : Word := 0
  acting : Bool := false
  deriving DecidableEq, Repr, Inhabited

/-- The digital field block. -/
structure Dig where
  di : Vector DiCh 32 := Vector.replicate 32 {}
  groupRef : BitVec 4 := 0
  unsupplied : BitVec 4 := 0
  dout : Vector DoCh 32 := Vector.replicate 32 {}
  grp : Vector DoGroup 4 := Vector.replicate 4 {}
  wdg : Wdg := {}
  trip : Trip := {}
  deriving DecidableEq, Repr

/-! ## Current-loop channels -/

/-- A calibration point: reference (or measured) current and captured (or driven) value, Q16.16. -/
structure CalPoint where
  ref : Int := 0
  raw : Int := 0
  deriving DecidableEq, Repr, Inhabited

/-- A user trim (R330): its two points, from which gain and offset follow. -/
structure Trim where
  lo : CalPoint
  hi : CalPoint
  deriving DecidableEq, Repr

/-- An AI channel (R311 to R317). -/
structure AiCh where
  rate : Nat := 4
  loopPower : Bool := false
  classPlain : Bool := false
  evtWire : Bool := true
  evtRange : Bool := true
  /-- A change of RATE takes effect at this tick; up to it the channel converts at the rate before (R315). -/
  rateAt : Nat := 0
  oldRate : Nat := 4
  elem : TV := {}
  lpOn : Bool := false
  retry : Bool := false
  wbCount : Nat := 0
  rangeCount : Nat := 0
  /-- Tick since which the channel has been outside BAD_WIRE / outside the range classes (R334). -/
  wireSince : Option Nat := some 0
  wireArmed : Bool := true
  rangeSince : Option Nat := some 0
  rangeArmed : Bool := true
  trim : Option Trim := none
  ptLo : Option CalPoint := none
  ptHi : Option CalPoint := none
  deriving DecidableEq, Repr, Inhabited

/-- VFLD_A states (Table 8.5). -/
inductive VfldState where
  | normal | lost | recovering
  deriving DecidableEq, Repr, Inhabited

/-- An AO channel's settings (Table 8.11): COMPLIANCE_TIME in ms. -/
structure AoCfg where
  safe : SafeMode := .off
  mismatchOff : Bool := false
  compTime : Nat := 50
  safeMa : Word := 0
  deriving DecidableEq, Repr, Inhabited

/-- An AO channel (R319 to R328). -/
structure AoCh where
  cfg : AoCfg := {}
  pend : Option AoCfg := none
  undriven : Bool := true
  compliance : Bool := false
  compExpired : Bool := false
  openLoop : Bool := false
  foldback : Bool := false
  thermalOff : Bool := false
  mismatch : Bool := false
  clipped : Bool := false
  checkBad : Bool := false
  /-- The calibration point AO_DRIVE holds: false 4 mA, true 20 mA. -/
  drive : Option Bool := none
  image : Word := 0
  forced : Option Word := none
  slotHold : Option Word := none
  held : Option Word := none
  demand : Word := 0
  code : Half := 0
  readback : TV := {}
  /-- Local temperature, signed 1/16 °C. -/
  temp : Half := 0
  entries : Nat := 0
  trim : Option Trim := none
  ptLo : Option CalPoint := none
  ptHi : Option CalPoint := none
  deriving DecidableEq, Repr, Inhabited

/-- An AI_CAPTURE in progress (R333). -/
structure Capture where
  ch : Nat
  high : Bool
  ref : Int
  sum : Int
  count : Nat
  waiter : Origin
  deriving DecidableEq, Repr

/-- The current-loop block. -/
structure Ana where
  ai : Vector AiCh 16 := Vector.replicate 16 {}
  ao : Vector AoCh 8 := Vector.replicate 8 {}
  vfld : VfldState := .normal
  low : Bool := false
  volt : Half := 0
  /-- The next AO channel to take its slot in RECOVERING. -/
  nextSlot : Nat := 0
  /-- LOST, or within 50 ms of the start of RECOVERING (R317). -/
  grace : Bool := false
  capture : Option Capture := none
  deriving DecidableEq, Repr

end Sys2Proof.Machine
end

