-- ==== Sys2Proof/Machine/TypesNet.lean ====
section
/-!
DEFINITION. Machine/TypesNet.lean: the state of the station network, the serial buses and the Gligil link (chapter 09),
and of the lease, the checkpoint stream, takeover and the arbiter (chapter 10).
-/

namespace Sys2Proof.Machine

open Sys2Proof

/-! ## Ethernet, HSR and PRP, PTP -/

/-- NET_CONFIG settings (Table 9.10). -/
structure NetCfg where
  mode : Nat := 0
  flags : Byte := 0
  pcp : Nat := 0
  dscp : Nat := 0
  vid : Nat := 0
  announcePeriod : Nat := 100
  ip : Word := 0
  mask : Word := 0
  gateway : Word := 0
  partnerId : Word := 0
  lossCount : Nat := 3
  sfi : Bytes := []
  deriving DecidableEq, Repr, Inhabited

/-- A node of the HSR/PRP node table (R338, R339): its MAC address as a number, and the consecutive supervision
intervals in which its supervision frames arrived on one port only. -/
structure Node where
  mac : Nat
  seenA : Bool := false
  seenB : Bool := false
  onePort : Nat := 0
  deriving DecidableEq, Repr

/-- PTP_CONFIG settings (R380). The logarithms are signed. -/
structure PtpCfg where
  domain : Nat := 0
  enable : Bool := false
  p2p : Bool := false
  slaveOnly : Bool := false
  udp : Bool := false
  priority1 : Nat := 128
  priority2 : Nat := 128
  logSync : Int := 0
  logAnnounce : Int := 1
  logDelay : Int := 0
  announceTimeout : Nat := 3
  deriving DecidableEq, Repr, Inhabited

/-- A master heard on a port (R340, R341): the fields of its Announce that the best-master choice compares, in the
order compared, and its identity. -/
structure PtpMaster where
  priority1 : Nat
  clockClass : Nat
  accuracy : Nat
  variance : Nat
  priority2 : Nat
  gmId : DWord
  steps : Nat
  deriving DecidableEq, Repr

/-- The PTP clock (R340, R341). Offset and delay in ns. -/
structure Ptp where
  cfg : PtpCfg := {}
  masterA : Option PtpMaster := none
  masterB : Option PtpMaster := none
  port : Nat := 0
  gmId : DWord := 0
  steps : Nat := 0
  isMaster : Bool := false
  locked : Bool := false
  good : Nat := 0
  bad : Nat := 0
  offset : Int := 0
  delay : Int := 0
  deriving DecidableEq, Repr, Inhabited

/-! ## Partners, sets and subscriptions -/

/-- STATE of a partner entry (Table 9.11). -/
inductive PartnerState where
  | free | present | lost
  deriving DecidableEq, Repr, Inhabited

/-- A set as a partner announces it (Table 9.6). -/
structure AnnSet where
  setNo : Nat
  count : Nat
  period : Nat
  signature : Word
  group : Word
  deriving DecidableEq, Repr

/-- A partner table entry (Table 9.11). -/
structure Partner where
  state : PartnerState := .free
  role : Nat := 0
  partnerId : Word := 0
  sender : DWord := 0
  ip : Word := 0
  variant : Half := 0
  imageId : DWord := 0
  sets : List AnnSet := []
  annPeriod : Nat := 100
  lastAnn : Nat := 0
  lostCount : Nat := 0
  leaseEpoch : Word := 0
  lossCause : Nat := 0
  lostAt : Nat := 0
  unacked : Nat := 0
  deriving DecidableEq, Repr, Inhabited

/-- STATE of a subscription (SUBSCRIBE, 0x0702). -/
inductive SubState where
  | idle | requested | active | refused | suspended | partnerLost
  deriving DecidableEq, Repr, Inhabited

/-- A subscription of the active image, by its index in SUB_SETS: the set instance being assembled (its CYCLE, the
fragments held), and the last instance held with its sender. -/
structure Sub where
  state : SubState := .idle
  reason : Nat := 0
  refusedImage : DWord := 0
  lastCycle : Option Word := none
  lastFrom : DWord := 0
  held : Nat := 0
  stale : Nat := 0
  asmCycle : Option Word := none
  asmFrags : Map (List TV) := []
  deriving DecidableEq, Repr, Inhabited

/-- A subscriber of a published set (R351 to R353), until it subscribes again where it has been LOST. -/
structure Subscriber where
  setNo : Nat
  partnerId : Word
  sender : DWord
  ip : Word
  lastAck : Option Word := none
  lost : Bool := false
  deriving DecidableEq, Repr

/-- An event subscriber (R356). -/
structure EvSub where
  partnerId : Word
  sender : DWord
  ip : Word
  deriving DecidableEq, Repr

/-- The network block. -/
structure Net where
  cfg : NetCfg := {}
  linkA : Bool := false
  linkB : Bool := false
  nodes : List Node := []
  /-- Frames seen in the last 400 ms: twice the source MAC plus the port, the sequence number, the tick. -/
  dups : List (Nat × Nat × Nat) := []
  ptp : Ptp := {}
  txSeq : Map Word := []
  discarded : Nat := 0
  dropped : Nat := 0
  partners : List Partner := []
  subs : Map Sub := []
  subscribers : List Subscriber := []
  evSubs : List EvSub := []
  groups : List Word := []
  /-- n: line count of the next sentence (R358). -/
  sentLine : Nat := 1
  /-- Commits since the last sending, by sentence index and by transmit object (R357, R360). -/
  sentCount : Map Nat := []
  canCount : Map Nat := []
  withdrawn : Bool := false
  deriving DecidableEq, Repr

/-! ## Serial buses -/

/-- CAN_CONFIG settings (R381). -/
structure CanCfg where
  enable : Bool := false
  fd : Bool := false
  brs : Bool := false
  listenOnly : Bool := false
  autoRecover : Bool := false
  tdc : Bool := false
  nbrp : Nat := 1
  ntseg1 : Nat := 1
  ntseg2 : Nat := 1
  nsjw : Nat := 1
  dbrp : Nat := 1
  dtseg1 : Nat := 1
  dtseg2 : Nat := 1
  dsjw : Nat := 1
  tdco : Nat := 0
  deriving DecidableEq, Repr, Inhabited

/-- A CAN FD controller. -/
structure Can where
  cfg : CanCfg := {}
  tec : Byte := 0
  rec_ : Byte := 0
  busOff : Bool := false
  busOffs : Nat := 0
  deriving DecidableEq, Repr, Inhabited

/-- A UART (R362, R363, R382). -/
structure Uart where
  mode : Nat := 0
  parity : Nat := 0
  twoStop : Bool := false
  baud : Nat := 0
  respTimeout : Nat := 1
  deLead : Nat := 0
  deLag : Nat := 0
  errors : Nat := 0
  /-- Index of the poll entry whose reply is awaited. -/
  awaiting : Option Nat := none
  deriving DecidableEq, Repr, Inhabited

/-- The serial buses. UART_ERROR is armed once the event has been cleared (R364). -/
structure Ser where
  can : Vector Can 4 := Vector.replicate 4 {}
  uart : Vector Uart 2 := Vector.replicate 2 {}
  deriving DecidableEq, Repr

/-! ## Gligil link and stack -/

/-- A Gligil port (R370, Table 9.12): state, neighbour, latency in 0.1 ns, discarded frames. -/
structure GlPort where
  up : Bool := false
  neighbour : Nat := 0
  latency : Nat := 0
  discarded : Nat := 0
  deriving DecidableEq, Repr, Inhabited

/-- Ring states (R372). -/
inductive Ring where
  | closed | open_ | split
  deriving DecidableEq, Repr, Inhabited

/-- What the ring status frames of a position report (Table 9.12). -/
structure PosStatus where
  reachable : Bool := false
  variant : Half := 0
  uid : Word := 0
  portA : Bool := false
  portB : Bool := false
  portP : Nat := 0
  latency : Half := 0
  phase : Half := 0
  discA : Word := 0
  discB : Word := 0
  discP : Word := 0
  deriving DecidableEq, Repr, Inhabited

/-- A class 2 frame awaiting its acknowledgement (R369). -/
structure GlPending where
  seq : Half
  dst : Nat
  kind : Nat
  data : Bytes
  tries : Nat := 0
  deriving DecidableEq, Repr

/-- The Gligil link: ports A, B and P, the ring, tick state, frame numbering and pending class 2 frames; the cycle
confirmations and decisions in progress (R164, R374). -/
structure Gl where
  portA : GlPort := {}
  portB : GlPort := {}
  portP : GlPort := {}
  ring : Ring := .closed
  positionFault : Bool := false
  tickLost : Bool := false
  seq0 : Half := 0
  seq1 : Half := 0
  seq2 : Half := 0
  pendingTx : List GlPending := []
  pos : Vector PosStatus 8 := Vector.replicate 8 {}
  confirmed : Vector Byte 8 := Vector.replicate 8 0
  decision : Vector (Option Bool) 8 := Vector.replicate 8 none
  deriving DecidableEq, Repr

/-! ## Redundancy -/

/-- PAIR_CONFIG settings (Table 10.10). -/
structure PairCfg where
  paired : Bool := false
  network : Bool := false
  fallback : Bool := false
  prefer : Bool := false
  warmup : Nat := 3
  mismatchRetry : Bool := true
  leaseMs : Nat := 100
  arbiterIp : Word := 0
  peerIp : Word := 0
  keyIndex : Nat := 0
  joinCycles : Nat := 16
  snapshotPeriod : Nat := 60
  analogTol : Word := 0x0000_0CCD
  deriving DecidableEq, Repr, Inhabited

/-- Lease states (Table 10.4). -/
inductive LeaseState where
  | none | requesting | holding | late | fallback | fenced
  deriving DecidableEq, Repr, Inhabited

/-- A lease request outstanding: REQ_NO, its send instant s in 0.1 µs, and whether it is COLD. -/
structure Outstanding where
  reqNo : Word
  sent : Nat
  cold : Bool
  deriving DecidableEq, Repr

/-- The holder's or candidate's lease (R396). Times in 0.1 µs of the own D2 clock. -/
structure Lease where
  state : LeaseState := .none
  epoch : Word := 0
  reqNo : Word := 0
  outstanding : List Outstanding := []
  /-- Send instant s of the request last answered. -/
  answered : Nat := 0
  leaseEnd : Nat := 0
  arbiterLost : Bool := false
  renewals : Word := 0
  lateRenewals : Word := 0
  arbLostCount : Word := 0
  /-- Standby under fallback: no LEASE_REQ before this instant (R402). -/
  quietUntil : Nat := 0
  /-- Base tick at which the network came up (R401). -/
  netUpTick : Nat := 0
  deriving DecidableEq, Repr, Inhabited

/-- Standby states (Table 10.8); `active` on the device that drives. -/
inductive StandbyState where
  | none | unpaired | syncing | joining | ready | loading | warmup | faulty
  deriving DecidableEq, Repr, Inhabited

/-- One record of a FIRN_DELTA (Table 10.7): REGION, ENTRY and the entry's bytes. -/
structure DeltaRec where
  region : Nat
  entry : Nat
  data : Bytes
  deriving DecidableEq, Repr

/-- A firn frame: a delta frame or a pass segment (Table 10.7, R408). -/
inductive FirnFrame where
  | delta (task : Nat) (last final : Bool) (frag : Nat) (cycle : Word) (recs : List DeltaRec)
  | segment (pass offset : Nat) (data : Bytes)
  deriving DecidableEq, Repr

/-- Both ends of the firn stream (R406 to R409). -/
structure Firn where
  /-- Active: the next STREAM_SEQ to send, frames sent and not acknowledged (STREAM_SEQ, bytes), highest acked. -/
  txSeq : Word := 0
  unacked : List (Word × Nat) := []
  acked : Word := 0
  pass : Nat := 0
  /-- STREAM_SEQ of the last segment of the running pass, until it is acknowledged. -/
  passLast : Option Word := none
  passStart : Nat := 0
  /-- Offset of the next segment of the running pass. -/
  passOff : Option Nat := none
  passMs : Nat := 0
  loopRot : Nat := 0
  /-- K elements overridden since the last delta (R407). -/
  kNew : List Nat := []
  /-- Standby: highest STREAM_SEQ applied, frames held out of order, since the last acknowledgement. -/
  rxSeq : Word := 0
  synced : Bool := false
  staging : List (Word × FirnFrame) := []
  sinceAck : Nat := 0
  /-- The pass being received: its number, its bytes so far from offset 0 without a hole, and freedom from gaps. -/
  rxPass : Nat := 0
  rxGot : Nat := 0
  rxClean : Bool := false
  gaps : Word := 0
  /-- Tick at which the last delta of each task arrived (R414). -/
  lastDelta : Vector Nat 8 := Vector.replicate 8 0
  deriving DecidableEq, Repr

/-- Takeover in progress (R413 to R417). -/
structure Takeover where
  grantTick : Nat := 0
  warmCount : Vector Nat 8 := Vector.replicate 8 0
  failures : Vector Nat 8 := Vector.replicate 8 0
  passed : Vector Bool 8 := Vector.replicate 8 false
  /-- The next commit of the task is its release. -/
  released : Vector Bool 8 := Vector.replicate 8 false
  /-- The task has made its release (R417). -/
  freed : Vector Bool 8 := Vector.replicate 8 false
  allMatched : Bool := true
  lastMs : Nat := 0
  deriving DecidableEq, Repr, Inhabited

/-- Shadow compare (R421, R425, Table 10.12). -/
structure ShadowCmp where
  state : Nat := 0
  until_ : Nat := 0
  startTick : Nat := 0
  stopOnMismatch : Bool := false
  compared : Nat := 0
  mismatches : Nat := 0
  skipped : Nat := 0
  firstTask : Nat := 0
  firstElem : Nat := 0
  firstCycle : Word := 0
  ranS : Nat := 0
  deriving DecidableEq, Repr, Inhabited

/-- State of an arbiter entry (Table 10.13). -/
inductive ArbState where
  | disabled | quiet | free | held | grace | collecting
  deriving DecidableEq, Repr, Inhabited

/-- A request the arbiter keeps pending (R398). -/
structure ArbReq where
  candidate : DWord
  ip : Word
  bootEpoch : Word
  reqNo : Word
  cold : Bool
  prefer : Bool
  since : Nat
  deriving DecidableEq, Repr

/-- An arbiter station entry (R397 to R401, R426). g in 0.1 µs. -/
structure ArbEntry where
  enable : Bool := false
  key : Nat := 0
  station : Word := 0
  leaseMs : Nat := 100
  coldWait : Nat := 1000
  state : ArbState := .disabled
  holder : DWord := 0
  epoch : Word := 0
  /-- The epoch of the holder's lease (R397, R400). -/
  heldEpoch : Word := 0
  g : Option Nat := none
  pending : List ArbReq := []
  cold : List ArbReq := []
  grants : Word := 0
  denials : Word := 0
  deriving DecidableEq, Repr, Inhabited

/-- Redundancy: pairing, lease, stream, takeover, shadow compare, and the arbiter's entries with the last REQ_NO
accepted per candidate and boot epoch (R393). -/
structure Red where
  cfg : PairCfg := {}
  pathUp : Bool := false
  shapeOk : Bool := false
  standby : StandbyState := .none
  /-- The standby state the peer reports (R411). -/
  peerState : StandbyState := .none
  lease : Lease := {}
  firn : Firn := {}
  /-- The replica: the checkpoint image of Table 10.6, byte by byte. -/
  replica : Bytes := []
  takeover : Takeover := {}
  shadow : ShadowCmp := {}
  /-- Cycles of each task compared without mismatch since JOINING began (R411). -/
  joinDone : Vector Nat 8 := Vector.replicate 8 0
  compareMismatch : Word := 0
  /-- Scheduled planned switchover: the tick of its fence (R419). -/
  switchAt : Option Nat := none
  /-- LEASE_RELEASE still to be sent after the stack has fenced (R404). -/
  releaseDue : Bool := false
  arbiters : Vector ArbEntry 16 := Vector.replicate 16 {}
  arbLast : List (DWord × Word × Word) := []
  arbQuietSave : Bool := false
  deriving DecidableEq, Repr

end Sys2Proof.Machine
end

