-- ==== Sys2Proof/Machine/TypesSys.lean ====
section
/-!
DEFINITION. Machine/TypesSys.lean: the state of memory integrity (chapter 11), the RTC and the history recorder
(chapter 12), the panel driver (chapter 13), OTP and fuses (chapter 14), power, reset and start-up (chapter 15).
-/

namespace Sys2Proof.Machine

open Sys2Proof

/-! ## Integrity -/

/-- Errors of one macro in a log or summary (Table 11.7). -/
structure MacroErr where
  memory : Nat
  index : Nat
  macro_ : Nat
  hard : Bool := false
  candidate : Bool := false
  noSpare : Bool := false
  bytes : Nat := 0
  row : Nat := 0
  deriving DecidableEq, Repr

/-- STATE of a summary (Table 11.6). -/
inductive ScrubState where
  | free | running | done | aborted
  deriving DecidableEq, Repr, Inhabited

/-- A scrub summary and the pass it belongs to (Tables 11.6 to 11.8): also used for the functional log and for the
background scrubber. -/
structure Scrub where
  state : ScrubState := .free
  memory : Nat := 0
  index : Nat := 0
  offset : Nat := 0
  length : Nat := 0
  interval : Nat := 0
  at_ : Nat := 0
  checked : Nat := 0
  errors : Nat := 0
  corrected : Nat := 0
  uncorrectable : Nat := 0
  firstAddr : Option Nat := none
  lastAddr : Option Nat := none
  startTick : Nat := 0
  endTick : Nat := 0
  hard : Nat := 0
  more : Bool := false
  entries : List MacroErr := []
  abort : Bool := false
  deriving DecidableEq, Repr, Inhabited

/-- A repair candidate (R450). -/
structure Candidate where
  memory : Nat
  index : Nat
  macro_ : Nat
  column : Bool
  line : Nat
  bytes : Nat
  deriving DecidableEq, Repr

/-- A corrected byte (R436): memory, copy-qualified offset and the tick of the correction. -/
structure Correction where
  memory : Nat
  addr : Nat
  tick : Nat
  deriving DecidableEq, Repr

/-- A hard error seen: macro, row and column (R450). -/
structure HardErr where
  memory : Nat
  index : Nat
  macro_ : Nat
  row : Nat
  column : Nat
  deriving DecidableEq, Repr

/-- Integrity: the functional log (R431), the four software passes (R446), the background scrubber (R441), correction
history, hard errors, repair candidates and spares used by field repair since reset. -/
structure Integ where
  funcLog : Scrub := { state := .done, memory := 0xFF }
  passes : Vector Scrub 4 := Vector.replicate 4 {}
  interval : Nat := 7324
  weevilOffset : Nat := 0
  weevil : Scrub := { state := .running, memory := 1, length := 0x800000 }
  weevilLast : Scrub := { state := .running, memory := 1, length := 0x800000 }
  weevilPasses : Nat := 0
  weevilMs : Nat := 0
  corrections : List Correction := []
  hardErrs : List HardErr := []
  candidates : List Candidate := []
  /-- What an owner has rewritten after a parity error outside the privileged store (R450): memory, instance, and the
  word within it (block and instruction, or key). -/
  rewritten : List (Nat × Nat × Nat × Nat) := []
  deriving DecidableEq, Repr

/-! ## Time and history -/

/-- Source of a staged RTC load (Table 12.7). -/
inductive LoadSrc where
  | ctrl | calendar | ptp
  deriving DecidableEq, Repr, Inhabited

/-- The RTC (R457 to R474, Table 12.1). The count is 40 bits of seconds and a 56-bit fraction. -/
structure Rtc where
  sec : BitVec 40 := 0
  frac : BitVec 56 := 0
  osf : Bool := true
  oscRun : Bool := false
  countLost : Bool := true
  commitRefused : Bool := false
  leapFromPtp : Bool := false
  setSec : BitVec 40 := 0
  setFrac : BitVec 24 := 0
  discipline : Bool := false
  trim : Int := 0
  leap : Int := 0
  leapPend : Option (Int × DWord) := none
  /-- LEAP_OFFSET_SET without SCHEDULED, applied at the next tick (R495). -/
  leapNext : Option Int := none
  pending : Option (DWord × LoadSrc) := none
  waiter : Waiter := none
  deriving DecidableEq, Repr

/-- Binding and stamps shared by histograms and extremes. -/
structure HBind where
  enabled : Bool := false
  reloaded : Bool := false
  removed : Bool := false
  space : Nat := 0
  element : Nat := 0
  key : DWord := 0
  decim : Nat := 0
  phase : Nat := 0
  deriving DecidableEq, Repr, Inhabited

/-- A histogram (Table 12.3). -/
structure Hist where
  bind : HBind := {}
  saturated : Bool := false
  low : Word := 0
  width : Word := 0
  badq : Word := 0
  opSec : Word := 0
  cycles : Word := 0
  bins : Vector Word 32 := Vector.replicate 32 0
  deriving DecidableEq, Repr, Inhabited

/-- Stamps of an extreme (Table 12.4). -/
structure Stamp where
  value : Word := 0
  opSec : Word := 0
  cycles : Word := 0
  time : DWord := 0
  untrusted : Bool := false
  deriving DecidableEq, Repr, Inhabited

/-- An extreme tracker (Table 12.4). -/
structure Extreme where
  bind : HBind := {}
  seen : Bool := false
  min : Stamp := {}
  max : Stamp := {}
  usable : Word := 0
  deriving DecidableEq, Repr, Inhabited

/-- A log entry (Table 12.5). -/
structure LogEntry where
  event : Nat := 0
  untrusted : Bool := false
  reloaded : Bool := false
  repeats : Half := 0
  detail : Word := 0
  opSec : Word := 0
  cycles : Word := 0
  time : DWord := 0
  lastOp : Word := 0
  /-- Base tick of the last occurrence since this reset (the 1 s of R484). -/
  lastTick : Option Nat := none
  deriving DecidableEq, Repr, Inhabited

/-- The recorder's content as its segments hold it (R486, R558): the stamps, DROPPED and the boot epoch of segment 0,
the histograms, the extremes and the log. -/
structure HistCopy where
  opSeconds : Word := 0
  powerCycles : Word := 0
  dropped : Word := 0
  epoch : Word := 0
  hists : Map Hist := []
  extremes : Map Extreme := []
  log : List LogEntry := []
  deriving DecidableEq, Repr, Inhabited

/-- A flush in progress (R487): its kind (Table 12.7), the segments it writes and the staging copy they come from. -/
structure Flush where
  kind : Nat
  segments : List Nat
  copy : HistCopy
  deriving DecidableEq, Repr

/-- The ice-core recorder (R479 to R489). -/
structure HistRec where
  opSeconds : Word := 0
  powerCycles : Word := 0
  /-- Base ticks since operating seconds last advanced (20,000 ticks of 50 µs are 1 s). -/
  subSecond : Nat := 0
  hists : Map Hist := []
  extremes : Map Extreme := []
  /-- Log, oldest first. -/
  log : List LogEntry := []
  dropped : Word := 0
  dirty : List Nat := []
  flush : Option Flush := none
  /-- The history area of boot flash: the newest valid content, and the segments that have a valid copy. -/
  flash : HistCopy := {}
  valid : List Nat := []
  flushSeq : Word := 0
  lastFlushOp : Word := 0
  clearFlush : Bool := false
  noValidFlush : Bool := false
  deriving DecidableEq, Repr

/-! ## Panel -/

/-- Panel states (Table 13.3). -/
inductive PanelState where
  | off | railsUp | showing | idle | updating | discharge | retained | fault
  deriving DecidableEq, Repr, Inhabited

/-- What started a discharge (Table 13.3). -/
inductive DisCause where
  | retain | pfw | modeOff
  deriving DecidableEq, Repr, Inhabited

/-- A temperature band (Table 13.2). -/
structure Band where
  upper : Nat := 0xFFFF
  vpos : Nat := 50
  frameHz : Nat := 50
  tr : Nat := 1
  ts : Nat := 5
  te : Nat := 0
  vrow : Nat := 0
  vevolve : Nat := 0
  vcol : Vector Nat 4 := Vector.replicate 4 0
  deriving DecidableEq, Repr, Inhabited

/-- Phases of a row (R513). -/
inductive RowPhase where
  | reset | select | evolve
  deriving DecidableEq, Repr, Inhabited

/-- The running pass (R513 to R516): its region and band, the row and phase being driven, and what its end waits
for. -/
structure Pass where
  region : Nat
  bandNo : Nat
  timing : Band
  row : Nat := 0
  phase : RowPhase := .reset
  /-- Tick of the start of the pass, and of the phase. -/
  start : Nat := 0
  phaseTick : Nat := 0
  /-- The pass waits for settled rails before its first row (R509, R516). -/
  wait : Bool := false
  /-- A band change by two or more bands stops the pass at the end of the row (R516). -/
  stop : Bool := false
  /-- No row is left: the pass is at its end. -/
  done : Bool := false
  /-- The row's composed pixels as read at SELECT. -/
  pixels : List Nat := []
  deriving DecidableEq, Repr

/-- The panel settings that the retentive configuration area keeps (R521, R526). -/
structure PanelSet where
  mode : Nat := 0
  bootFrame : Bool := false
  cols : Nat := 16
  rows : Nat := 8
  regionStart : List Nat := []
  defaultBand : Nat := 0
  hyst : Nat := 0
  bands : List Band := []
  deriving DecidableEq, Repr, Inhabited

/-- The panel driver. Frame buffers stand in Mems. -/
structure Panel where
  set : PanelSet := {}
  state : PanelState := .off
  /-- The mode that the rails were enabled in. -/
  driveMode : Nat := 0
  disCause : DisCause := .modeOff
  band : Nat := 0
  /-- Band to apply from the next frame or pass (R512, R516). -/
  nextBand : Option Nat := none
  /-- Set point of PVPOS, in 0.1 V. -/
  setPoint : Nat := 0
  pendingMask : Byte := 0
  pass : Option Pass := none
  lastRegion : Nat := 7
  keepPending : Bool := false
  /-- A stop that waits for the end of the frame pair or pass, or for the rails (R519). -/
  stopReq : Option DisCause := none
  /-- PANEL_RETAIN_OFF in RAILS_UP: it answers when its transition starts (R525). -/
  retainWait : Waiter := none
  /-- Rails settled since the last change of set point (R509). -/
  settled : Bool := false
  fullFrame : Bool := false
  rowChecks : Vector Word 64 := Vector.replicate 64 0
  badRows : List Nat := []
  frameSeq : Word := 0
  /-- The exchange has been made and the copy is not complete (R502). -/
  locked : Bool := false
  /-- The drawing buffer is invalid after an aborted DMA until these bytes too have been written again (R100). -/
  unwritten : List Nat := []
  /-- A commit accepted and not complete (R502, R523). -/
  exchange : Option Origin := none
  /-- The last PTEMP measurements, newest first, in mV. -/
  temps : List Nat := []
  tempFault : Bool := false
  /-- Levels of the indicators that a commit has set (R505, R507). -/
  levels : Map Nat := []
  /-- Appearance that an indicator of a new image keeps until its first commit, by indicator and pixel (R507). -/
  kept : Map (Map Nat) := []
  /-- Pixels on the bistable glass, by row: the content last written (R504, R519); no entry where it is undefined. -/
  glass : Map (List Nat) := []
  /-- RMS: the second frame of a pair is in progress. -/
  polarity : Bool := false
  deriving DecidableEq, Repr

/-! ## OTP and fuses -/

/-- What an OTP write in progress programs (R532, R538, R539). -/
inductive OtpWrite where
  | settings (slot : Nat) (content : Bytes) (waiter : Waiter)
  | keys (gen : Nat) (content : Bytes) (waiter : Waiter)
  | repair (entry : Nat) (data : Bytes) (candidate : Option Candidate) (waiter : Waiter)
  deriving DecidableEq, Repr

/-- Settings in force, from the active settings slot (Table 14.5). -/
structure Settings where
  stackSize : Nat := 1
  spareReserve : Nat := 0
  speedGuard : Nat := 15
  subsysVendor : Half := 0
  subsysId : Half := 0
  netDefaults : Bytes := []
  deriving DecidableEq, Repr

/-- The active key generation (Table 14.6). -/
structure Keys where
  signHashes : List Bytes := []
  hmacPresent : Byte := 0
  hmac : List Bytes := []
  deriving DecidableEq, Repr

/-- OTP and fuses as read at reset (R528 to R536). Their bytes stand in Mems. -/
structure Otp where
  fuseOk : Bool := true
  /-- S_g of the tiles, in ps (R195). -/
  sg : Vector Half 32 := Vector.replicate 32 1000
  activeSlot : Option Nat := none
  activeGen : Option Nat := none
  settings : Settings := {}
  keys : Option Keys := none
  write : Option OtpWrite := none
  deriving DecidableEq, Repr

/-! ## Power, reset and start-up -/

/-- Phases of a reset and the start-up after it (Table 15.9). -/
inductive BootPhase where
  | inReset | booting | running
  deriving DecidableEq, Repr, Inhabited

/-- Kinds of reset (Table 15.3). -/
inductive ResetKind where
  | por | brownout | pin | soft | swdg | lockstep | thermal
  deriving DecidableEq, Repr, Inhabited

/-- JTAG instruction in force (R594). -/
inductive JtagInstr where
  | bypass | idcode | sample | preload | extest | clamp | highz | unlisted
  deriving DecidableEq, Repr, Inhabited

/-- An AI channel's settings and trim, as the retentive configuration area holds them. -/
structure AiSet where
  rate : Nat := 4
  loopPower : Bool := false
  classPlain : Bool := false
  evtWire : Bool := true
  evtRange : Bool := true
  trim : Option Trim := none
  deriving DecidableEq, Repr, Inhabited

/-- The retentive configuration area (chapter 11, R234, R389, R463, R472, R483, R570). Its layout is not the manual's:
the model holds the settings themselves. -/
structure RetConf where
  tasks : Vector TaskCfg 8 := Vector.replicate 8 {}
  loops : Vector (Vector (LoopCfg × Option CoefSet) 32) 8 := Vector.replicate 8 (Vector.replicate 32 ({}, none))
  di : Vector DiCfg 32 := Vector.replicate 32 {}
  groupRef : BitVec 4 := 0
  dout : Vector DoCfg 32 := Vector.replicate 32 {}
  latchOff : Vector Bool 4 := Vector.replicate 4 false
  wdg : WdgCfg := {}
  trip : Option TripCfg := none
  ai : Vector AiSet 16 := Vector.replicate 16 {}
  ao : Vector (AoCfg × Option Trim) 8 := Vector.replicate 8 ({}, none)
  /-- None on a device never configured (R377). -/
  net : Option NetCfg := none
  ptp : PtpCfg := {}
  can : Vector CanCfg 4 := Vector.replicate 4 {}
  uart : Vector Uart 2 := Vector.replicate 2 {}
  pair : PairCfg := {}
  arbiters : Vector ArbEntry 16 := Vector.replicate 16 {}
  interval : Nat := 7324
  discipline : Bool := false
  leap : Int := 0
  leapPend : Option (Int × DWord) := none
  hists : Map (HBind × Word × Word) := []
  extremes : Map HBind := []
  panel : PanelSet := {}
  deriving DecidableEq, Repr

/-- The retentive data area (R405, R574): commit stamps of the tasks (cycle counter and τ), retentive M and V
elements, and K overrides. -/
structure RetData where
  counters : Vector Word 8 := Vector.replicate 8 0
  taus : Vector DWord 8 := Vector.replicate 8 0
  elems : Map TV := []
  kOver : Map TV := []
  /-- IMAGE_ID of the program whose data it is (Table 15.10). -/
  imageId : DWord := 0
  deriving DecidableEq, Repr

/-- A save record of boot flash (Table 15.10) with its content. -/
structure ConfRec where
  seq : Word
  epoch : Word
  conf : RetConf
  deriving DecidableEq, Repr

structure DataRec where
  seq : Word
  /-- 0 periodic, 1 power-fail. -/
  kind : Nat
  imageId : DWord
  epoch : Word
  data : RetData
  deriving DecidableEq, Repr

/-- A monitored rail's warning state (R548). -/
structure RailMon where
  outside : Bool := false
  warned : Bool := false
  /-- Consecutive samples within the band. -/
  good : Nat := 0
  deriving DecidableEq, Repr, Inhabited

/-- Power, reset and start-up. -/
structure Pwr where
  phase : BootPhase := .inReset
  kind : ResetKind := .por
  /-- The internal reset is held by PORST_N or by the thermal comparator. -/
  fenceN : Bool := true
  pfw : Bool := false
  /-- The stack positions that report a qualified PFW (R552). -/
  pfwAt : Vector Bool 8 := Vector.replicate 8 false
  hold : Bool := false
  step2 : Bool := false
  bootEpoch : Word := 0
  epochValid : Bool := false
  fwCopy : Bool := false
  storeKept : Bool := false
  confRestored : Bool := false
  snapRestored : Bool := false
  histRestored : Bool := false
  bootImage : Nat := 0xFF
  /-- The firmware is ready and the program of R569 is still to be loaded. -/
  loadDue : Bool := false
  /-- Start-up runs the checks of R569: on the kept slot (true), or on the image from flash. -/
  startCheck : Option Bool := none
  autostart : Byte := 0
  autostartDue : Bool := false
  /-- Hottest Tj in 1/16 °C, the last 10 samples of 100 µs, and the hottest sensor. -/
  tj : Half := 0
  tjHist : List Int := []
  tjHigh : Bool := false
  tjBelowSince : Option Nat := none
  tjCrit : Bool := false
  vddCore : Half := 0
  rails : Vector RailMon 6 := Vector.replicate 6 {}
  vbat : Half := 0
  vbatLow : Bool := false
  vbatUnder : Bool := false
  wdgStage1 : Bool := false
  /-- A configuration save is due (R573), the save in progress with its image, and the periodic snapshot's. -/
  confDirty : Bool := false
  confSave : Option ConfRec := none
  /-- The newest valid configuration copy and data snapshot in boot flash (R572). -/
  confFlash : Option ConfRec := none
  snapSave : Option DataRec := none
  snapFlash : Option DataRec := none
  /-- The retentive configuration area while the device starts with its store kept; once the device runs, the settings
  in force are that area. -/
  confArea : Option RetConf := none
  /-- The retentive data area of the privileged store. -/
  retData : RetData := {}
  /-- NET_CONFIG has been accepted, in this or an earlier boot (R377). -/
  netConfigured : Bool := false
  lastSnapOp : Word := 0
  eraseBusy : Bool := false
  eraseSuspended : Bool := false
  /-- IDCODE in Test-Logic-Reset (IEEE 1149.1). -/
  jtag : JtagInstr := .idcode
  deriving DecidableEq, Repr

end Sys2Proof.Machine
end

