-- ==== Sys2Proof/Syntax.lean ====
section
/-!
DEFINITION. Syntax.lean: the commands, one constructor per row of spec/opcode_table.json. A row's operands are what
its sender contributes: the origin of a mailbox command (its payload stands in the accepted copy, R602), a register
address and bytes, a received frame, a measured value, or a fault of the silicon. Each docstring names the row, the
rule it follows and what it stands for.
-/

namespace Sys2Proof

inductive Instr where
  /-- GET_IDENTITY (R88): Returns the identity record, unique ID, firmware version, stack position and role.
  -/
  | getIdentity (o : Origin)
  /-- GET_STATUS (R89): Returns the device status and check-failure counters, and optionally clears the
  counters. -/
  | getStatus (o : Origin)
  /-- SOFT_RESET (R90): Checks KIND and CONFIRM, fences itself with FORCE, writes the OK response and
  schedules the reset 1 ms later. -/
  | softReset (o : Origin)
  /-- SOFT_RESET_EXECUTE (R92): 1 ms after the SOFT_RESET response, resets every block except those that R92
  keeps, and records SOFT. -/
  | softResetExecute
  /-- EVENT_CONFIG (R93): Sets the network-delivery and log flags of a range of events. -/
  | eventConfig (o : Origin)
  /-- EVENT_READ (R94): Returns event records and optionally clears their occurrence counts. -/
  | eventRead (o : Origin)
  /-- DMA_SUBMIT (R98): Queues all or none of a list of DMA descriptors on a channel. -/
  | dmaSubmit (o : Origin)
  /-- DMA_STATUS (R99): Returns a DMA channel's registers and optionally clears a halt. -/
  | dmaStatus (o : Origin)
  /-- DMA_ABORT (R100): Stops the running descriptor of a DMA channel and empties its queue. -/
  | dmaAbort (o : Origin)
  /-- PROGRAM_LOAD (R221): Begins, writes, ends, aborts or copies from flash a program image in the inactive
  slot. -/
  | programLoad (o : Origin)
  /-- PROGRAM_VERIFY (R215): Reports the verification findings of a slot and optionally reruns its checks. -/
  | programVerify (o : Origin)
  /-- PROGRAM_SWAP (R222): Schedules the activation of the accepted inactive image at the gap start. -/
  | programSwap (o : Origin)
  /-- WRITE_VALUES (R223): Stages V and K values of a task for application after its next commit. -/
  | writeValues (o : Origin)
  /-- READ_VALUES (R224): Returns committed tagged values taken at one instant. -/
  | readValues (o : Origin)
  /-- FORCE (R225): Sets or releases forces on I or Q elements. -/
  | force (o : Origin)
  /-- PLACEMENT_REPORT (R194): Returns a page of the summary, budget, block map, swap report or speed table.
  -/
  | placementReport (o : Origin)
  /-- MIGRATE (R226): Starts a commanded migration of a cell or the busiest cell of a tile. -/
  | migrate (o : Origin) (spare : Option (Fin 256))
  /-- STAGE_CONFIG (R227): Writes, commits or discards staged configuration records. -/
  | stageConfig (o : Origin)
  /-- TASK_CONFIG (R178): Replaces the timing, reaction and flags of a stopped task. -/
  | taskConfig (o : Origin)
  /-- CYCLE_START (R179): Checks the placement budget and starts the selected tasks at their first instant at
  least 1 ms later. -/
  | cycleStart (o : Origin) (b : List Machine.Budget)
  /-- CYCLE_STOP (R180): Stops the selected tasks after their cycle in progress, holding or making safe their
  outputs. -/
  | cycleStop (o : Origin)
  /-- TASK_STATS (R181): Returns the statistics of a task and optionally clears them. -/
  | taskStats (o : Origin)
  /-- INPUT_POLICY (R182): Stages new input policies for partner inputs from the owning task's next t0. -/
  | inputPolicy (o : Origin)
  /-- LOOP_CONFIG (R263): Replaces a loop slot's configuration, enabling or disabling it. -/
  | loopConfig (o : Origin)
  /-- LOOP_COEFF_STAGE (R266): Writes a staged coefficient set for a slot. -/
  | loopCoeffStage (o : Origin)
  /-- LOOP_COEFF_COMMIT (R267): Commits the staged sets of masked slots to apply at their next samples. -/
  | loopCoeffCommit (o : Origin)
  /-- LOOP_FLAGS_READ_CLEAR (R268): Returns slot status words and optionally clears sticky flags. -/
  | loopFlagsReadClear (o : Origin)
  /-- TRACE_ARM (R269): Arms, aborts or force-triggers a loop unit trace. -/
  | traceArm (o : Origin)
  /-- TRACE_READ (R270): Returns bytes of a DONE trace object. -/
  | traceRead (o : Origin)
  /-- DI_CONFIG (R302): Sets DI filter, wire-break, counter and group-reference settings. -/
  | diConfig (o : Origin)
  /-- DO_CONFIG (R303): Sets DO safe states, diagnostics, current-limit times and latch-off. -/
  | doConfig (o : Origin)
  /-- FIELD_WDG_CONFIG (R304): Sets the field watchdog timeout, feed mask, partner mask and manual release. -/
  | fieldWdgConfig (o : Origin)
  /-- DIAG_READ (R288): Returns the digital field diagnostics from one D7 instant and optionally clears
  counts. -/
  | diagRead (o : Origin) (m : DigMeas)
  /-- TRIP_ARM (R305): Stages a trip matrix configuration and returns its token. -/
  | tripArm (o : Origin)
  /-- TRIP_CONFIRM (R306): Applies the staged trip configuration whose token matches. -/
  | tripConfirm (o : Origin)
  /-- OUTPUT_RESET (R307): Releases latched channel, group, trip and watchdog conditions. -/
  | outputReset (o : Origin) (cool : Word)
  /-- AI_CONFIG (R331): Sets AI rates, loop power, classification and event enables. -/
  | aiConfig (o : Origin)
  /-- AO_CONFIG (R332): Sets AO safe states, mismatch action and compliance time. -/
  | aoConfig (o : Origin)
  /-- ANALOG_DIAG_READ (R327): Returns the current-loop diagnostics from one D7 instant. -/
  | analogDiagRead (o : Origin) (m : AnaMeas)
  /-- ANALOG_CALIBRATE (R333): Captures, drives, measures, applies, releases or restores calibration trims. -/
  | analogCalibrate (o : Origin)
  /-- NET_CONFIG (R377): Sets the network mode, interfaces, addresses and partner identity. -/
  | netConfig (o : Origin)
  /-- PARTNER_TABLE_READ (R378): Returns entries of the partner table from one instant. -/
  | partnerTableRead (o : Origin)
  /-- SUBSCRIBE (R379): Reads, suspends, resumes or restarts subscriptions of the active image. -/
  | subscribe (o : Origin)
  /-- PTP_CONFIG (R380): Sets or reads the PTP clock configuration and state. -/
  | ptpConfig (o : Origin)
  /-- CAN_CONFIG (R381): Sets a CAN FD controller's mode and bit timing. -/
  | canConfig (o : Origin)
  /-- UART_CONFIG (R382): Sets a UART's mode, format and timing. -/
  | uartConfig (o : Origin)
  /-- STACK_STATUS (R383): Returns the stack and Gligil port status and optionally clears error counts. -/
  | stackStatus (o : Origin)
  /-- PAIR_CONFIG (R423): Sets the pairing mode, lease length, paths and takeover parameters. -/
  | pairConfig (o : Origin)
  /-- LEASE_STATUS (R411): Returns the role, lease, standby and checkpoint status. -/
  | leaseStatus (o : Origin)
  /-- SWITCHOVER_REQUEST (R424): Schedules a fence of the active device at its next suitable commit point. -/
  | switchoverRequest (o : Origin)
  /-- SHADOW_COMPARE_START (R425): Starts a shadow compare on the standby for a given duration. -/
  | shadowCompareStart (o : Origin)
  /-- SHADOW_COMPARE_STOP (R425): Reports and optionally ends a shadow compare. -/
  | shadowCompareStop (o : Origin)
  /-- ARBITER_CONFIG (R426): Sets or reads an arbiter station entry. -/
  | arbiterConfig (o : Origin)
  /-- SCRUB_RANGE (R452): Starts a software scrub pass over a memory range. -/
  | scrubRange (o : Origin)
  /-- SCRUB_SUMMARY (R453): Returns a scrub summary and optionally releases or aborts the pass. -/
  | scrubSummary (o : Origin)
  /-- WEEVIL_CONFIG (R454): Sets or reads the background scrubber interval. -/
  | weevilConfig (o : Origin)
  /-- REPAIR_COMMIT (R455): Lists, commits or discards field-repair candidates. -/
  | repairCommit (o : Origin)
  /-- TIME_SET_CALENDAR (R490): Converts a calendar record and loads it as the RTC count at the next tick. -/
  | timeSetCalendar (o : Origin)
  /-- TIME_GET_CALENDAR (R477): Returns the RTC count, its calendar form and the leap offset. -/
  | timeGetCalendar (o : Origin)
  /-- CONVERT (R491): Converts between a time word and a calendar record without changing the count. -/
  | convert (o : Origin)
  /-- HISTORY_CONFIG (R492): Binds, enables or stops a histogram or extreme tracker. -/
  | historyConfig (o : Origin)
  /-- HISTORY_READ (R493): Returns histogram, extreme or log records from one snapshot. -/
  | historyRead (o : Origin)
  /-- HISTORY_CLEAR (R494): Empties the selected history records and schedules a flush. -/
  | historyClear (o : Origin)
  /-- LEAP_OFFSET_SET (R495): Sets or schedules the leap offset. -/
  | leapOffsetSet (o : Origin)
  /-- PANEL_CONFIG (R521): Sets the panel mode, geometry, regions and default band. -/
  | panelConfig (o : Origin)
  /-- PANEL_FRAME_WRITE (R522): Writes bytes into the drawing buffer. -/
  | panelFrameWrite (o : Origin)
  /-- PANEL_FRAME_COMMIT (R523): Checks the drawing buffer CRC and exchanges the frame buffers. -/
  | panelFrameCommit (o : Origin)
  /-- PANEL_REGION_UPDATE (R524): Marks bistable regions pending and returns the panel status. -/
  | panelRegionUpdate (o : Origin)
  /-- PANEL_RETAIN_OFF (R525): Stops driving the panel and retains the image, or resumes driving. -/
  | panelRetainOff (o : Origin)
  /-- PANEL_BANDS (R526): Replaces the temperature bands, or reads the panel status. -/
  | panelBands (o : Origin)
  /-- SETTINGS_READ (R533): Returns the OTP head and optionally a settings slot. -/
  | settingsRead (o : Origin)
  /-- SETTINGS_WRITE_GENERATION (R540): Programs a new settings slot in user OTP. -/
  | settingsWriteGeneration (o : Origin)
  /-- FUSE_READ (R528): Returns bytes of the factory fuse block as read at reset. -/
  | fuseRead (o : Origin)
  /-- KEY_INSTALL (R541): Programs a new key generation in user OTP. -/
  | keyInstall (o : Origin)
  /-- UNKNOWN_COMMAND (R17): A command whose code is not listed in its class completes with BAD_COMMAND. -/
  | unknownCommand (o : Origin)
  /-- MBX_RING (R604): A RING doorbell copies the command and makes the channel BUSY, or is ignored with
  DB_IGNORED. -/
  | mbxRing (n : Fin 8)
  /-- MBX_RELEASE (R69): A RELEASE doorbell returns a DONE channel to IDLE. -/
  | mbxRelease (n : Fin 8) (ring : Bool)
  /-- MBX_COMMAND_COMPLETE (R71): A command completes; the device writes the response, RESP_LEN and RESULT and
  sets DONE. -/
  | mbxCommandComplete (o : Origin) (k : Completion)
  /-- REGISTER_WRITE (R13): A host write to a register field without behaviour of its own updates it per its
  access code. -/
  | registerWrite (off : Nat) (d : Bytes)
  /-- EVT_PENDING_CLEAR (R86): A W1C write to EVT_PENDING clears event bits and their PBA bits and may release
  INT_N. -/
  | evtPendingClear (k : Fin 4) (v : Word)
  /-- EVT_MASK_WRITE (R84): A write to EVT_MASK unmasks events and issues MSI-X messages for pending ones. -/
  | evtMaskWrite (k : Fin 4) (v : Word)
  /-- RTC_COMMIT (R466): A COMMIT write stages the RTC_SET values and sets PENDING, or is refused. -/
  | rtcCommit
  /-- RTC_CANCEL (R467): A CANCEL write discards a staged RTC load. -/
  | rtcCancel (commit : Bool)
  /-- RTC_DISCIPLINE_WRITE (R473): A write to DISCIPLINE lets PTP steer the count or stops it. -/
  | rtcDisciplineWrite (on : Bool)
  /-- RTC_TRIM_WRITE (R464): A write to RTC_TRIM sets the rate trim or is discarded with COMMIT_REFUSED. -/
  | rtcTrimWrite (v : Word)
  /-- RTC_SET_WRITE (R467): A write to RTC_SET registers stores the staged value or is discarded while
  PENDING. -/
  | rtcSetWrite (r : Fin 3) (v : Word)
  /-- SPI_TRANSACTION (R57): An SPI WRITE or READ transaction accesses the register space, or fails with a
  protocol error. -/
  | spiTransaction (mosi : Bytes) (extraBits nRead : Nat)
  /-- SPI_PORT_STATUS (R57): The PORT_STATUS instruction returns the ERR, FW_READY and INT bits. -/
  | spiPortStatus
  /-- PCIE_LINK_TRANSITION (R603): The PCIe data link layer enters or leaves DL_Active. -/
  | pcieLinkTransition (up : Bool) (speed : BitVec 3) (width : BitVec 4)
  /-- PCIE_PERST (R52): PERST_N or a hot reset resets the PCIe endpoint and D4 only. -/
  | pciePerst
  /-- PCIE_POWER_STATE_CHANGE (R54): The endpoint enters or leaves D3hot, stopping or resuming DMA and MSI-X.
  -/
  | pciePowerStateChange (d3hot : Bool)
  /-- PCIE_BUS_MASTER_ENABLE_CHANGE (R54): Bus Master Enable changes, stopping or resuming DMA and MSI-X. -/
  | pcieBusMasterEnableChange (on : Bool)
  /-- DMA_DESCRIPTOR_DONE (R97): A DMA descriptor completes its last write or read. -/
  | dmaDescriptorDone (n : Fin 4) (d : Bytes)
  /-- DMA_HALT (R97): A DMA channel halts on a failed completion, timeout, lock or link loss and discards its
  queue. -/
  | dmaHalt (n : Fin 4) (kind : BitVec 3) (addr : DWord)
  /-- LD (R112): Loads a bit into LB and starts a logic string. -/
  | cellLd (c : Fin 256) (f : HwFault)
  /-- A (R112): ANDs a bit into LB. -/
  | cellA (c : Fin 256) (f : HwFault)
  /-- O (R112): ORs a bit into LB. -/
  | cellO (c : Fin 256) (f : HwFault)
  /-- X (R112): XORs a bit into LB. -/
  | cellX (c : Fin 256) (f : HwFault)
  /-- BA (R112): Opens an AND branch. -/
  | cellBa (c : Fin 256) (f : HwFault)
  /-- BO (R112): Opens an OR branch. -/
  | cellBo (c : Fin 256) (f : HwFault)
  /-- BX (R112): Opens an XOR branch. -/
  | cellBx (c : Fin 256) (f : HwFault)
  /-- BC (R112): Closes a branch, combining the saved bit with LB. -/
  | cellBc (c : Fin 256) (f : HwFault)
  /-- NOT (R112): Inverts LB. -/
  | cellNot (c : Fin 256) (f : HwFault)
  /-- ASN (R112): Assigns LB to a Q or M bit. -/
  | cellAsn (c : Fin 256) (f : HwFault)
  /-- SET (R112): Sets a Q or M bit if LB is 1. -/
  | cellSet (c : Fin 256) (f : HwFault)
  /-- RST (R112): Resets a Q or M bit if LB is 1. -/
  | cellRst (c : Fin 256) (f : HwFault)
  /-- PEDGE (R118): Detects a positive edge of LB. -/
  | cellPedge (c : Fin 256) (f : HwFault)
  /-- NEDGE (R118): Detects a negative edge of LB. -/
  | cellNedge (c : Fin 256) (f : HwFault)
  /-- TON (R120): Executes an on-delay timer into the journal. -/
  | cellTon (c : Fin 256) (f : HwFault)
  /-- TOF (R120): Executes an off-delay timer into the journal. -/
  | cellTof (c : Fin 256) (f : HwFault)
  /-- TP (R120): Executes a pulse timer into the journal. -/
  | cellTp (c : Fin 256) (f : HwFault)
  /-- CTU (R125): Counts up on a rising LB. -/
  | cellCtu (c : Fin 256) (f : HwFault)
  /-- CTD (R125): Counts down on a rising LB. -/
  | cellCtd (c : Fin 256) (f : HwFault)
  /-- CRST (R125): Resets a count if LB is 1. -/
  | cellCrst (c : Fin 256) (f : HwFault)
  /-- CLD (R125): Loads a count from W if LB is 1. -/
  | cellCld (c : Fin 256) (f : HwFault)
  /-- LDW (R127): Loads a word into W. -/
  | cellLdw (c : Fin 256) (f : HwFault)
  /-- MOVW (R127): Writes W to a Q, M or V element. -/
  | cellMovw (c : Fin 256) (f : HwFault)
  /-- CMP (R127): Compares W with an element into LB. -/
  | cellCmp (c : Fin 256) (f : HwFault)
  /-- CMPI (R127): Compares W with an immediate into LB. -/
  | cellCmpi (c : Fin 256) (f : HwFault)
  /-- ADD (R127): Adds to W with saturation and residue check. -/
  | cellAdd (c : Fin 256) (f : HwFault)
  /-- SUB (R127): Subtracts from W with saturation and residue check. -/
  | cellSub (c : Fin 256) (f : HwFault)
  /-- MUL (R129): Multiplies W with saturation and residue check. -/
  | cellMul (c : Fin 256) (f : HwFault)
  /-- QUAL (R130): Tests or operates on quality. -/
  | cellQual (c : Fin 256) (f : HwFault)
  /-- FLG (R131): Reads and optionally clears a sticky flag into LB. -/
  | cellFlg (c : Fin 256) (f : HwFault)
  /-- JMP (R132): Jumps forward when its condition holds. -/
  | cellJmp (c : Fin 256) (f : HwFault)
  /-- NOP (R133): Changes nothing. -/
  | cellNop (c : Fin 256) (f : HwFault)
  /-- END (R133): Ends the block execution. -/
  | cellEnd (c : Fin 256) (f : HwFault)
  /-- ILLEGAL_INSTRUCTION (R138): A decoded illegal opcode or modifier stops the block and raises
  DUALRAIL_ERROR. -/
  | illegalInstruction (c : Fin 256) (w : Word) (spare : Option (Fin 256))
  /-- BLOCK_START (R149): A free cell starts the lowest ready block, for execution or re-execution. -/
  | blockStart (c : Fin 256)
  /-- BASE_TICK (R373): The stack master's 50 µs base tick, sent as a TICK marker on the ring. -/
  | baseTick
  /-- TICK_MARKER_RECEIVED (R373): A device takes its base tick from the first TICK marker and forwards it. -/
  | tickMarkerReceived (p : Fin 2) (n : Half)
  /-- TICK_LOST (R372): No TICK marker for 3 base ticks stops blocks, makes outputs safe and asserts FENCE_N.
  -/
  | tickLost
  /-- TASK_INSTANT (R151): At t0 the device freezes the input image and applies staged policies and records.
  -/
  | taskInstant (t : Fin 8) (level : Word) (badAi : Half)
  /-- INPUT_DEADLINE (R166): Missing partner inputs become STALE and take their policy values. -/
  | inputDeadline (t : Fin 8)
  /-- CYCLE_CONFIRMED (R158): All results of a cycle are confirmed and every block has executed. -/
  | cycleConfirmed (t : Fin 8) (at_ : Nat)
  /-- CONFIRM_LIMIT (R174): An unconfirmed cycle overruns; the stack master sends its commit decision. -/
  | confirmLimit (t : Fin 8)
  /-- LATENESS_LIMIT (R175): A LATE cycle not confirmed is abandoned with lateness exceeded. -/
  | latenessLimit (t : Fin 8)
  /-- COMMIT_POINT (R162): A confirmed cycle commits journals, values, outputs, setpoints and retentive
  elements. -/
  | commitPoint (t : Fin 8)
  /-- PUBLISH_SETS (R352): After a commit, the device hands publications, sentences, transmit objects and firn
  deltas to their links. -/
  | publishSets (t : Fin 8)
  /-- WRITE_VALUES_APPLY (R212): Staged V and K values are applied after the named task's commit. -/
  | writeValuesApply
  /-- GLIGIL_CONFIRM_FRAME (R164): The stack master receives a device's confirmation of a cycle. -/
  | gligilConfirmFrame (src : Fin 8) (t : Fin 8) (cycle : Word)
  /-- GLIGIL_COMMIT_DECISION (R374): A device receives the stack master's commit decision. -/
  | gligilCommitDecision (t : Fin 8) (cycle : Word) (commit : Bool)
  /-- GLIGIL_SCHEDULED_DATA (R375): A device receives stack publications or working values over the ring. -/
  | gligilScheduledData (vals : List SchedVal)
  /-- GLIGIL_RETRANSMIT (R369): A class 2 frame is sent again after 20 µs without acknowledgement. -/
  | gligilRetransmit (seq : Half)
  /-- GLIGIL_PORT_UP (R370): A Gligil port comes up after alignment and link identity exchange and measures
  its latency. -/
  | gligilPortUp (p : Fin 3) (neighbour : Fin 8) (variant : Half) (uid : DWord) (latency : Half)
  /-- GLIGIL_PORT_DOWN (R370): A Gligil port goes down on errors or cable loss, changing the ring state. -/
  | gligilPortDown (p : Fin 3)
  /-- RING_STATUS_FRAME (R383): A ring status frame is exchanged every 10 ms, carrying safe-state and PFW
  reports. -/
  | ringStatusFrame (src : Fin 8) (st : Machine.PosStatus) (safe pfw : Bool)
  /-- PLACEMENT_PART_FRAME (R193): A device receives its part of the placement map, checks and loads it. -/
  | placementPartFrame (m : Machine.PlaceMap) (own : List Machine.Budget)
  /-- IMAGE_FORWARD_FRAME (R216): The standby receives a forwarded accepted image. -/
  | imageForwardFrame (off : Nat) (d : Bytes) (last : Bool)
  /-- FENCE_NOTICE_RECEIVED (R387): A device of the stack receives the master's fence notice and fences. -/
  | fenceNoticeReceived
  /-- PLACEMENT_CHECKS_DONE (R228): The checks of a loaded or verified image end with a result. -/
  | placementChecksDone (m : Option Machine.PlaceMap)
  /-- SPEED_MONITOR_SAMPLE (R196): Every 100 µs the device samples each tile's speed monitor. -/
  | speedMonitorSample (r : List Half)
  /-- MAP_REVALIDATION (R196): Every 10 ms the device revalidates the map and may start a speed or overload
  migration. -/
  | mapRevalidation (b : List Machine.Budget) (move : Option (Fin 256 × Fin 256))
  /-- MIGRATION_PREPARE_DONE (R203): The prepare phase of a migration completes. -/
  | migrationPrepareDone
  /-- MIGRATION_SWITCH (R203): A task switches its blocks to the target at its first switch point. -/
  | migrationSwitch (t : Fin 8) (spare : Option (Fin 256))
  /-- PROGRESS_STALL (R201): A cell completes no instruction within 2 × P and enters L1. -/
  | progressStall (c : Fin 256) (spare : Option (Fin 256))
  /-- L0_RELOAD_DONE (R207): The L0 reload of a faulted block completes and re-execution begins. -/
  | l0ReloadDone (c : Fin 256)
  /-- SWAP_GAP_START (R217): At the gap start the device abandons cycles and loads the new map. -/
  | swapGapStart
  /-- SWAP_GAP_END (R218): The swap gap ends with the new slot active. -/
  | swapGapEnd (us : Half)
  /-- LOOP_SAMPLE (R245): At a sample instant a loop unit computes its due slots and writes their outputs. -/
  | loopSample (u : Fin 8) (faults : List (Fin 32 × Bool)) (badAi : Half)
  /-- DI_FILTER_SAMPLE (R277): At each filter sample a DI channel updates its counter and filtered state. -/
  | diFilterSample (i : Fin 32) (high : Bool)
  /-- DI_WIRE_BREAK_TIMER (R279): A DI current below or back above 0.35 mA for 10 ms sets or clears BAD_WIRE.
  -/
  | diWireBreakTimer (i : Fin 32) (low : Bool)
  /-- DI_COUNT_EDGE (R281): A counting DI channel counts an edge of its raw input. -/
  | diCountEdge (i : Fin 4) (rising : Bool)
  /-- DO_SHORT_SUPPLY_DETECT (R288): An off DO channel above 12 V for 4 ms enters SHORT_SUPPLY, or leaves it
  below 12 V. -/
  | doShortSupplyDetect (j : Fin 32) (above : Bool)
  /-- DO_OPEN_LOAD_DETECT (R288): An on DO channel below 5 mA for 10 ms enters OPEN_LOAD, or leaves it. -/
  | doOpenLoadDetect (j : Fin 32) (below : Bool)
  /-- DO_ILIM_TIMEOUT (R288): A DO channel in current limit for ILIM_TIME switches off into OVERCURRENT. -/
  | doIlimTimeout (j : Fin 32)
  /-- DO_RETRY_TIMER (R288): 1 s after an overcurrent switch-off with RETRY set, the channel switches on for a
  trial. -/
  | doRetryTimer (j : Fin 32)
  /-- DO_OVERTEMP_ENTRY (R288): A DO channel above 175 °C switches off into OVERTEMP. -/
  | doOvertempEntry (j : Fin 32)
  /-- DO_OVERTEMP_RELEASE (R288): A DO channel below 155 °C leaves OVERTEMP unless latched. -/
  | doOvertempRelease (j : Fin 32)
  /-- DO_GROUP_SUPPLY_LOSS (R291): A DO group supply below 15.0 V for 1 ms enters LOST and switches its
  channels off. -/
  | doGroupSupplyLoss (g : Fin 4) (v : Half)
  /-- DO_GROUP_SUPPLY_RETURN (R291): A group supply at or above 18.0 V for 20 ms enters RECOVERING or
  LATCHED_OFF. -/
  | doGroupSupplyReturn (g : Fin 4) (v : Half)
  /-- DO_GROUP_LATCHED_FALL (R291): A LATCHED_OFF group supply below 18.0 V returns to LOST. -/
  | doGroupLatchedFall (g : Fin 4) (v : Half)
  /-- DO_REENERGISE_SLOT (R293): A recovering channel reaches its slot and takes its demand; after the last,
  the group is NORMAL. -/
  | doReenergiseSlot (g : Fin 4)
  /-- DO_GROUP_LOW_SET (R291): A group supply below 19.2 V for 50 µs sets LOW. -/
  | doGroupLowSet (g : Fin 4) (v : Half)
  /-- DO_GROUP_LOW_CLEAR (R291): A group supply at or above 19.7 V for 50 µs clears LOW. -/
  | doGroupLowClear (g : Fin 4) (v : Half)
  /-- FIELD_WDG_TIMEOUT (R295): A field watchdog task timer reaches TIMEOUT and applies the safe states. -/
  | fieldWdgTimeout (t : Fin 8)
  /-- EXTSAFE_N_ASSERT (R295): EXTSAFE_N low for 100 µs applies the safe states and enters EXT. -/
  | extsafeNAssert
  /-- EXTSAFE_N_RELEASE (R295): EXTSAFE_N high for 10 ms leaves EXT for RUNNING or SAFE. -/
  | extsafeNRelease
  /-- TRIP_EVALUATION (R297): Every 25 µs the trip matrix is evaluated and trips start or end. -/
  | tripEvaluation
  /-- TRIP_STAGE_EXPIRY (R300): A staged trip configuration not confirmed within 10 s is discarded. -/
  | tripStageExpiry
  /-- AI_CONVERSION (R314): An AI conversion completes and is classified and written with its CHECK. -/
  | aiConversion (i : Fin 16) (code : BitVec 24)
  /-- AI_LOOPPOWER_TIMEOUT (R312): Loop power in current limit for 20 ms is switched off. -/
  | aiLooppowerTimeout (i : Fin 16)
  /-- AI_LOOPPOWER_RETRY (R312): Every 1 s loop power is switched on again for a 20 ms trial. -/
  | aiLooppowerRetry (i : Fin 16) (limited : Bool)
  /-- AI_CAPTURE_DONE (R333): An AI_CAPTURE average over 1 s completes and is held as a point. -/
  | aiCaptureDone
  /-- VFLD_A_LOSS (R318): VFLD_A below 15.0 V for 1 ms enters LOST, stops AO and loop power. -/
  | vfldALoss (v : Half)
  /-- VFLD_A_RETURN (R318): VFLD_A at or above 18.0 V for 20 ms enters RECOVERING. -/
  | vfldAReturn (v : Half)
  /-- AO_RECOVERY_SLOT (R318): A recovering AO channel reaches its slot and starts its buck. -/
  | aoRecoverySlot
  /-- AI_SUPPLY_GRACE_END (R317): 50 ms after RECOVERING, loop-powered AI channels leave BAD_SUPPLY. -/
  | aiSupplyGraceEnd
  /-- VFLD_A_LOW_SET (R318): VFLD_A below 19.2 V for 50 µs sets LOW. -/
  | vfldALowSet (v : Half)
  /-- VFLD_A_LOW_CLEAR (R318): VFLD_A at or above 19.7 V for 50 µs clears LOW. -/
  | vfldALowClear (v : Half)
  /-- AO_COMPLIANCE_DETECT (R323): An AO channel enters or leaves COMPLIANCE after 2 ms of its condition. -/
  | aoComplianceDetect (j : Fin 8) (present : Bool)
  /-- AO_COMPLIANCE_TIME_EXPIRY (R323): COMPLIANCE has lasted COMPLIANCE_TIME. -/
  | aoComplianceTimeExpiry (j : Fin 8) (reg : Word)
  /-- AO_OPEN_DETECT (R324): An AO channel enters or leaves OPEN after 5 ms of its condition. -/
  | aoOpenDetect (j : Fin 8) (present : Bool)
  /-- AO_MISMATCH_DETECT (R325): An AO channel enters MISMATCH after 10 ms or leaves it after 100 ms. -/
  | aoMismatchDetect (j : Fin 8) (present : Bool)
  /-- AO_READBACK_CONVERSION (R325): The AO readback path completes a 1 kS/s conversion. -/
  | aoReadbackConversion (j : Fin 8) (v : Word)
  /-- AO_TEMPERATURE_CHANGE (R328): An AO regulator temperature crosses a fold-back or thermal-off threshold.
  -/
  | aoTemperatureChange (j : Fin 8) (temp : Half)
  /-- AO_THERMAL_RECOVER (R328): An AO channel below 140 °C for 100 ms leaves THERMAL_OFF. -/
  | aoThermalRecover (j : Fin 8) (temp : Half)
  /-- ETH_LINK_CHANGE (R336): An Ethernet port's link goes up or down. -/
  | ethLinkChange (p : Fin 2) (up : Bool)
  /-- HSR_SUPERVISION_SEND (R338): Every 2 s the device sends HSR or PRP supervision frames. -/
  | hsrSupervisionSend
  /-- HSR_PRP_FRAME_RECEIVED (R339): A frame received in PRP or HSR mode is deduplicated, forwarded or
  flagged. -/
  | hsrPrpFrameReceived (p : Fin 2) (fr : RedFrame)
  /-- HSR_NODE_AGEOUT (R338): A node table entry ages out after 60 s without frames. -/
  | hsrNodeAgeout (mac : Nat)
  /-- PTP_SYNC_RECEIVED (R341): A PTP Sync updates the offset and the lock state. -/
  | ptpSyncReceived (p : Fin 2) (offset : Int)
  /-- PTP_SYNC_TIMEOUT (R341): No Sync for 3 s makes PTP unlocked. -/
  | ptpSyncTimeout
  /-- PTP_SEND_TIMER (R340): The PTP clock sends its periodic Sync, Announce or delay messages. -/
  | ptpSendTimer (kind : Fin 3)
  /-- DATAGRAM_REJECTED (R345): A station-protocol datagram failing its framing is discarded and counted. -/
  | datagramRejected (d : Bytes) (fragmented : Bool)
  /-- ANNOUNCE_SEND (R346): Every announce period the device sends its ANNOUNCE pages. -/
  | announceSend
  /-- ANNOUNCE_RECEIVED (R347): An ANNOUNCE creates or refreshes a partner table entry. -/
  | announceReceived (ip : Word) (d : Bytes)
  /-- ANNOUNCE_TIMEOUT (R348): No ANNOUNCE from a partner for LOSS_COUNT periods declares it LOST. -/
  | announceTimeout (k : Fin 512)
  /-- WITHDRAW_RECEIVED (R348): A WITHDRAW declares its sender LOST. -/
  | withdrawReceived (ip : Word) (d : Bytes)
  /-- SET_DATA_RECEIVED (R352): A SET_DATA fragment is taken into a set instance, which on completion is
  acknowledged and latched. -/
  | setDataReceived (ip : Word) (d : Bytes)
  /-- SET_ACK_RECEIVED (R352): A publisher records a subscriber's acknowledgement. -/
  | setAckReceived (ip : Word) (d : Bytes)
  /-- SUBSCRIBE_REQ_RECEIVED (R351): A publisher answers a set or event subscription request. -/
  | subscribeReqReceived (ip : Word) (d : Bytes)
  /-- SUBSCRIBE_RESP_RECEIVED (R351): A subscriber joins the set's group or marks the subscription REFUSED. -/
  | subscribeRespReceived (ip : Word) (d : Bytes)
  /-- SUBSCRIBE_RETRY (R351): Every 1 s without a response, the subscriber repeats SUBSCRIBE_REQ. -/
  | subscribeRetry (k : Fin 256)
  /-- MAILBOX_CMD_RECEIVED (R76): A network mailbox frame is authenticated, sequence-checked and queued. -/
  | mailboxCmdReceived (ip : Word) (port : Half) (d : Bytes)
  /-- EVENT_FRAME_SEND (R356): Network-enabled events of the last 1 ms are sent in an EVENT datagram. -/
  | eventFrameSend
  /-- CAN_FRAME_RECEIVED (R360): An accepted CAN FD frame is decoded into its receive fields. -/
  | canFrameReceived (c : Fin 4) (id : Nat) (ext fd : Bool) (d : Bytes)
  /-- CAN_RX_TIMEOUT (R360): No matching frame within a receive object's timeout sets BAD_SOURCE_LOST. -/
  | canRxTimeout (k : Nat)
  /-- CAN_BUS_OFF_ENTRY (R361): A controller reaches bus-off and its receive fields are lost. -/
  | canBusOffEntry (c : Fin 4) (tec : Byte)
  /-- CAN_BUSOFF_RECOVERY (R361): With AUTO_RECOVER, the controller rejoins after 128 × 11 recessive bits. -/
  | canBusoffRecovery (c : Fin 4)
  /-- MODBUS_POLL (R362): A poll entry's period sends a Modbus request. -/
  | modbusPoll (u : Fin 2) (k : Nat)
  /-- MODBUS_REPLY (R362): A Modbus reply is checked and written to its elements. -/
  | modbusReply (u : Fin 2) (d : Bytes) (err : Fin 4)
  /-- MODBUS_REPLY_TIMEOUT (R362): A missing reply sets BAD_SOURCE_LOST for the entry's elements. -/
  | modbusReplyTimeout (u : Fin 2)
  /-- LISTENER_SENTENCE_RECEIVED (R363): An IEC 61162-1 sentence is checked and its declared fields decoded.
  -/
  | listenerSentenceReceived (u : Fin 2) (d : Bytes) (err : Fin 4)
  /-- LISTENER_FIELD_TIMEOUT (R363): A listener field not received within its timeout takes BAD_SOURCE_LOST.
  -/
  | listenerFieldTimeout (k : Nat)
  /-- SHAPE_RECORD_EXCHANGE (R388): On pair path rise the stack masters exchange and check their shape
  records. -/
  | shapeRecordExchange (up : Bool) (peer : List (Half × DWord))
  /-- LEASE_REQ_RECEIVED (R398): The arbiter validates a LEASE_REQ and grants or holds it pending. -/
  | leaseReqReceived (ip : Word) (d : Bytes)
  /-- LEASE_REQ_PENDING_EXPIRY (R398): A pending request unanswered for L / 3 is denied. -/
  | leaseReqPendingExpiry (e : Fin 16) (cand : DWord)
  /-- ARBITER_GRANT_READY (R397): At g + L + δ the arbiter grants a pending request. -/
  | arbiterGrantReady (e : Fin 16)
  /-- ARBITER_QUIET_END (R400): The arbiter's quiet period for a station ends. -/
  | arbiterQuietEnd (e : Fin 16)
  /-- COLD_WAIT_EXPIRY (R401): After COLD_WAIT the arbiter grants the preferred or earliest COLD request. -/
  | coldWaitExpiry (e : Fin 16)
  /-- COLD_LEASE_REQUEST (R401): A non-READY master sends a COLD request after three quiet announce periods.
  -/
  | coldLeaseRequest
  /-- LEASE_GRANT_RECEIVED (R396): A candidate takes the lease and becomes active or starts takeover. -/
  | leaseGrantReceived (ip : Word) (d : Bytes)
  /-- LEASE_DENY_RECEIVED (R398): A candidate receives a denial and may repeat its request. -/
  | leaseDenyReceived (ip : Word) (d : Bytes)
  /-- LEASE_RENEW_RECEIVED (R397): The arbiter, or a standby under fallback, acknowledges a renewal. -/
  | leaseRenewReceived (via : Via) (d : Bytes)
  /-- LEASE_ACK_RECEIVED (R396): The holder extends its lease end. -/
  | leaseAckReceived (via : Via) (d : Bytes)
  /-- LEASE_RELEASE_RECEIVED (R397): The arbiter frees the lease and may grant a pending request. -/
  | leaseReleaseReceived (ip : Word) (d : Bytes)
  /-- LEASE_RENEW_TIMER (R396): At s + L / 3 and every L / 12 after, the holder sends LEASE_RENEW. -/
  | leaseRenewTimer
  /-- LEASE_LATE_TIMER (R396): No answer by s + 2L / 3 enters LATE. -/
  | leaseLateTimer
  /-- LEASE_END (R396): The holder's lease ends and it fences. -/
  | leaseEnd
  /-- FENCE_LEASE_RELEASE (R404): After every device of the stack has fenced, the holder sends LEASE_RELEASE
  and a fence notice. -/
  | fenceLeaseRelease
  /-- FALLBACK_QUIET_END (R402): L + δ after a fallback acknowledgement the standby may request the lease
  again. -/
  | fallbackQuietEnd
  /-- PAIR_NOTICE_RECEIVED (R412): A pair notice of a fence or swap makes the standby request or swap. -/
  | pairNoticeReceived (n : PairNotice)
  /-- CONFIG_FORWARD_RECEIVED (R389): The standby applies a forwarded configuration command. -/
  | configForwardReceived (code : Half) (d : Bytes)
  /-- FIRN_DELTA_RECEIVED (R406): The standby applies or holds a firn delta frame in stream order. -/
  | firnDeltaReceived (via : Via) (d : Bytes)
  /-- FIRN_SEGMENT_RECEIVED (R408): The standby applies a pass segment; a completed pass may make it READY. -/
  | firnSegmentReceived (via : Via) (d : Bytes)
  /-- FIRN_PASS_START (R408): Every SNAPSHOT_PERIOD the active device starts a checkpoint pass. -/
  | firnPassStart
  /-- FIRN_ACK_SEND (R409): Every 1 ms the standby sends FIRN_ACK. -/
  | firnAckSend
  /-- FIRN_ACK_RECEIVED (R409): The active device releases acknowledged frames. -/
  | firnAckReceived (seq : Word) (st : Machine.StandbyState)
  /-- FIRN_GAP_TIMEOUT (R409): A STREAM_SEQ missing for 10 ms is a gap that restarts the stream. -/
  | firnGapTimeout
  /-- TAKEOVER_LOAD_DONE (R413): Every standby device has loaded; the task origin is set and warm-up begins.
  -/
  | takeoverLoadDone
  /-- SWITCHOVER_FENCE (R419): At the scheduled commit point the active device sends a FINAL delta and fences.
  -/
  | switchoverFence
  /-- SHADOW_INPUT_RECEIVED (R421): The standby runs and compares one shadow cycle. -/
  | shadowInputReceived (t : Fin 8) (tau : DWord) (cycle : Word) (inputs : Map TV) (delta : List Machine.DeltaRec) (inTime : Bool)
  /-- SHADOW_COMPARE_TIMEOUT (R425): The shadow compare ends after its duration. -/
  | shadowCompareTimeout
  /-- WEEVIL_STEP (R442): Every INTERVAL the background scrubber checks and corrects one KiB of both copies.
  -/
  | weevilStep (faults : List ByteFault) (written : Bool)
  /-- SCRUB_PASS_STEP (R445): A software scrub pass checks one KiB and may end. -/
  | scrubPassStep (p : Fin 4) (faults : List ByteFault) (written : Bool)
  /-- SUPERVISOR_MEMORY_WALK (R440): Every 10 s the firmware walks and corrects the supervisor memory. -/
  | supervisorMemoryWalk (faults : List ByteFault)
  /-- RETENTIVE_CONFIG_SAVE (R573): 1 s after a change the device saves the retentive configuration area to
  flash. -/
  | retentiveConfigSave
  /-- RETENTIVE_SNAPSHOT (R574): Every 3,600 operating seconds the device writes a periodic retentive data
  snapshot. -/
  | retentiveSnapshot
  /-- RTC_LOAD (R466): At the tick after a staged load, the count is loaded and OSF cleared. -/
  | rtcLoad
  /-- LEAP_CHANGE_APPLY (R471): At the first tick at or after AT the scheduled leap offset becomes current. -/
  | leapChangeApply
  /-- RTC_DISCIPLINE_COMPARE (R473): Once per second the count is compared with PTP time and stepped or
  trimmed. -/
  | rtcDisciplineCompare (ptp : DWord)
  /-- RTC_OSC_STOP (R469): The 32.768 kHz oscillator gives no edge for 1 ms and OSF is set. -/
  | rtcOscStop
  /-- VBAT_RESTORE (R469): VBAT rising from below retention sets OSF and COUNT_LOST and clears the count. -/
  | vbatRestore
  /-- HISTORY_PERIODIC_FLUSH (R487): Every 600 operating seconds changed history segments are flushed. -/
  | historyPeriodicFlush
  /-- HISTORY_CLEAR_FLUSH (R487): Within 1 s of HISTORY_CLEAR the changed segments are flushed. -/
  | historyClearFlush
  /-- HISTORY_FLUSH_COMPLETE (R487): A history flush completes. -/
  | historyFlushComplete (ok : Bool)
  /-- PANEL_RAILS_SETTLED (R509): Both panel rails are settled and RAILS_UP leaves for SHOWING or IDLE. -/
  | panelRailsSettled
  /-- PANEL_RAIL_FAULT_DETECT (R509): A rail fault discharges the rails and enters FAULT. -/
  | panelRailFaultDetect (pos neg : Bool) (kind : Fin 4) (mag : Half)
  /-- PANEL_DISCHARGE_DONE (R510): Both rails fall below 1 V and the panel enters RETAINED or OFF. -/
  | panelDischargeDone
  /-- PANEL_FRAME_START (R511): An RMS frame starts, taking any buffer exchange and band change. -/
  | panelFrameStart
  /-- BISTABLE_ROW_PHASE_END (R513): A RESET, SELECT or EVOLVE phase of a bistable row ends. -/
  | bistableRowPhaseEnd (fault : Bool)
  /-- PANEL_PASS_END (R515): A bistable pass ends and the next pending region starts. -/
  | panelPassEnd
  /-- PTEMP_MEASURE (R517): Every 100 ms PTEMP is measured and the band chosen. -/
  | ptempMeasure (mv : Half)
  /-- PANEL_ROW_WALK (R503): Every 1 s the shown buffer's rows are checked against their row checks. -/
  | panelRowWalk (bad : List (Fin 64))
  /-- OTP_WRITE_DONE (R532): An OTP record is programmed and verified, or spoiled. -/
  | otpWriteDone (ok : Bool)
  /-- POWER_ON_RESET (R556): VDD_CORE rising through 0.70 V makes a POR. -/
  | powerOnReset
  /-- BROWNOUT_RESET (R546): A rail below its reset threshold for 1 µs makes a brown-out reset. -/
  | brownoutReset
  /-- PIN_RESET (R556): PORST_N low for 1 µs holds the device in reset. -/
  | pinReset
  /-- LOCKSTEP_RESET (R556): A lockstep mismatch or double supervisor-memory failure resets the device. -/
  | lockstepReset
  /-- SUPERVISOR_WDG_STAGE1 (R579): A supervisor pair's watchdog not restarted for 20 ms. -/
  | supervisorWdgStage1 (pair : Bool)
  /-- SUPERVISOR_WDG_RESET (R579): A watchdog not restarted for 100 ms makes an SWDG reset. -/
  | supervisorWdgReset
  /-- TJ_MEASURE (R577): Every 100 µs the hottest Tj is taken and tested against the thresholds. -/
  | tjMeasure (sensor : Fin 12) (temp : Half)
  /-- THERMAL_RESET (R578): 10 ms after TJ_CRIT the device makes a THERMAL reset. -/
  | thermalReset
  /-- RAIL_MONITOR_SAMPLE (R548): Every 10 µs each rail is compared with its warning band. -/
  | railMonitorSample (mv : List Half)
  /-- VBAT_MEASURE (R549): Once per second VBAT is measured. -/
  | vbatMeasure (v : Half)
  /-- PFW_N_FALL (R550): PFW_N low for 20 µs qualifies PFW and enters power-fail hold and flushes. -/
  | pfwNFall
  /-- POWER_FAIL_SNAPSHOT_DONE (R554): Step 2 of the power-fail writes completes, allowing the hold to end. -/
  | powerFailSnapshotDone (ok : Bool)
  /-- PFW_END (R554): PFW_N high for 100 ms ends PFW; the hold ends and a retained panel resumes. -/
  | pfwEnd
  /-- STARTUP_FW_READY (R568): After boot the firmware is verified, content restored, the epoch written and
  the channels opened. -/
  | startupFwReady (lost : List RestoreLoss)
  /-- STARTUP_PROGRAM_LOAD (R569): After start-up the device reruns checks on the kept slot or loads
  BOOT_IMAGE. -/
  | startupProgramLoad
  /-- AUTOSTART_TASKS (R570): Once the program is active and PFW has ended, a role-0 device starts its
  AUTOSTART tasks. -/
  | autostartTasks (b : List Machine.Budget)
  /-- RTC_TICK (R459): At each edge of the 32.768 kHz clock the device adds the trimmed increment to the
  fraction, carries into the seconds and copies the count into …. -/
  | rtcTick
  /-- RTC_OSC_START (R469): The 32.768 kHz oscillator starts, or starts again after a stop, so OSC_RUN becomes
  1 and the count resumes from where it stood. -/
  | rtcOscStart
  /-- INTERNAL_RESET_END (R559): The internal reset ends, after PORST_N release or the thermal comparator's
  release: straps are sampled, fuses and OTP read, repairs applied, FENCE_N …. -/
  | internalResetEnd (pos : BitVec 3) (sel : BitVec 2)
  /-- JTAG_INSTRUCTION_UPDATE (R594): The TAP loads a new instruction; EXTEST, CLAMP or HIGHZ hold the rest of
  the device in reset with field and panel balls in their R547 states. -/
  | jtagInstructionUpdate (i : Machine.JtagInstr)
  /-- JTAG_TAP_RESET (R594): The TAP leaves EXTEST, CLAMP or HIGHZ through Test-Logic-Reset or TRST_N and the
  device makes a PIN reset. -/
  | jtagTapReset
  /-- MSIX_MASK_WRITE (R84): A host write clears the MSI-X Function Mask or a vector's Mask bit, and a message
  held in the PBA is issued. -/
  | msixMaskWrite (v : Option (Fin 128)) (masked : Bool)
  /-- EVT_CTRL_WRITE (R83): A host write to EVT_CTRL.INT_EN makes INT_N follow or stop following the unmasked
  pending events. -/
  | evtCtrlWrite (v : Word)
  /-- ARP_REQUEST_RECEIVED (R335): An ARP request for the device's address is received and answered. -/
  | arpRequestReceived (p : Fin 2) (target sender : Word)
  /-- ICMP_ECHO_REQUEST_RECEIVED (R335): An ICMP echo request is received and the device sends an echo reply.
  -/
  | icmpEchoRequestReceived (p : Fin 2) (dst src : Word) (d : Bytes)
  /-- IGMP_QUERY_RECEIVED (R335): An IGMPv2 membership query is received and the device reports the groups it
  has joined. -/
  | igmpQueryReceived (p : Fin 2) (group : Word)
  /-- PTP_ANNOUNCE_RECEIVED (R341): A PTP Announce message is received, the best master is chosen and a change
  of grandmaster identity raises PTP_LOCK_CHANGE and updates the leap offset …. -/
  | ptpAnnounceReceived (p : Fin 2) (m : Machine.PtpMaster) (utc : Int) (valid leap59 leap61 : Bool)
  /-- PTP_ANNOUNCE_RECEIPT_TIMEOUT (R340): No Announce arrives within ANNOUNCE_TIMEOUT intervals, so the
  master of that port is lost and in PRP mode the clock leaves port A. -/
  | ptpAnnounceReceiptTimeout (p : Fin 2)
  /-- PTP_DELAY_REQ_RECEIVED (R340): A Delay_Req reaches the device as master, or a Pdelay_Req reaches it on a
  P2P link, and the device sends the timestamped response. -/
  | ptpDelayReqReceived (p : Fin 2) (pdelay : Bool) (d : Bytes)
  /-- PTP_DELAY_RESP_RECEIVED (R340): A Delay_Resp or Pdelay_Resp arrives and the device updates the mean path
  delay used for the offset. -/
  | ptpDelayRespReceived (p : Fin 2) (delay : Int)
  /-- GLIGIL_ACK_RECEIVED (R369): The acknowledgement of a class 2 frame arrives from its destination, ending
  its retransmission. -/
  | gligilAckReceived (src : Fin 8) (seq : Half)
  /-- FLASH_OPERATION_DONE (R572): A retentive configuration save, a retentive data snapshot or a background
  erase of boot flash completes or fails. -/
  | flashOperationDone (k : FlashOp) (ok : Bool)
  /-- DO_RETRY_TRIAL_PASSED (R288): A DO channel switched on for an overcurrent trial runs 10 ms without
  current limit and its status quality changes from BAD_WIRE to GOOD. -/
  | doRetryTrialPassed (j : Fin 32)
  deriving DecidableEq, Repr

end Sys2Proof
end

