-- ==== Sys2Proof/Config.lean ====
section
/-!
DEFINITION. Config.lean: what an implementation fixes and what the manual leaves open. An opaque constant has no body:
nothing can evaluate it or prove a value of it. Where a command produces a value that the manual does not state, the
value is one of these applied to the counter `free` of the state, which the step advances (log entry 3).
-/

namespace Sys2Proof.Config

/-- A free number: the n-th value that the manual leaves open. -/
opaque freeNat : Nat → Nat

/-- A free signed number. -/
opaque freeInt : Nat → Int

/-- A free bit. -/
opaque freeBool : Nat → Bool

/-- The physical cells that a die with 240 enabled cells enables (R27): fixed by the die and given by no record. -/
opaque cellEnabled : Nat → Bool

end Sys2Proof.Config
end

