-- ==== Sys2Proof/Machine/State.lean ====
section
/-!
DEFINITION. Machine/State.lean: the state of the device as plain data, its value after power-on reset, and the ways a
step can stop. Every field of every part stands at its reset value by its default (log entry 1 for the values that the
manual does not give).
-/

namespace Sys2Proof.Machine

open Sys2Proof

/-- An addressed memory: strictly rising addresses, each with its byte. An address that is not listed reads as the
memory's fill byte. -/
abbrev Memory := List Host.Cell

/-- Rising addresses above a bound, none of them listed with the fill byte. -/
def Memory.wfFrom (fill : Byte) : Option Nat → Memory → Bool
  | _, [] => true
  | lo, (a, b) :: m =>
    (match lo with
     | none => true
     | some l => decide (l < a)) && decide (b ≠ fill) && Memory.wfFrom fill (some a) m

/-- The canonical form: strictly rising addresses, and no entry that equals what an unlisted address reads as. -/
def Memory.wf (fill : Byte) (m : Memory) : Bool := Memory.wfFrom fill none m

/-- The factory fuse block of the die that State.reset stands for: identity record, S_g of 1,000 ps in every tile, and the
CRC of Table 14.1 (log entry 22). -/
def factoryFuses : Memory :=
  [(0, 0x51), (1, 0x64), (2, 0xB0), (3, 0x07), (4, 0xF0), (5, 0xC8), (6, 0x03), (32, 0xE8), (33, 0x03), (34, 0xE8)] ++
  [(35, 0x03), (36, 0xE8), (37, 0x03), (38, 0xE8), (39, 0x03), (40, 0xE8), (41, 0x03), (42, 0xE8), (43, 0x03), (44, 0xE8)] ++
  [(45, 0x03), (46, 0xE8), (47, 0x03), (48, 0xE8), (49, 0x03), (50, 0xE8), (51, 0x03), (52, 0xE8), (53, 0x03), (54, 0xE8)] ++
  [(55, 0x03), (56, 0xE8), (57, 0x03), (58, 0xE8), (59, 0x03), (60, 0xE8), (61, 0x03), (62, 0xE8), (63, 0x03), (64, 0xE8)] ++
  [(65, 0x03), (66, 0xE8), (67, 0x03), (68, 0xE8), (69, 0x03), (70, 0xE8), (71, 0x03), (72, 0xE8), (73, 0x03), (74, 0xE8)] ++
  [(75, 0x03), (76, 0xE8), (77, 0x03), (78, 0xE8), (79, 0x03), (80, 0xE8), (81, 0x03), (82, 0xE8), (83, 0x03), (84, 0xE8)] ++
  [(85, 0x03), (86, 0xE8), (87, 0x03), (88, 0xE8), (89, 0x03), (90, 0xE8), (91, 0x03), (92, 0xE8), (93, 0x03), (94, 0xE8)] ++
  [(95, 0x03), (496, 0x05), (497, 0x85), (498, 0x3A), (499, 0x78)]

/-- The addressed memories: the mailbox buffers by their BAR0 offset (R602), both copies of the privileged store
(R432), the boot flash (R571 to R575), the factory fuse block (R528), user OTP (R531) and the panel's shown and
drawing buffers (R501). -/
structure Mems where
  bufs : Memory := []
  storeA : Memory := []
  storeB : Memory := []
  flash : Memory := []
  fuse : Memory := factoryFuses
  otp : Memory := []
  shown : Memory := []
  drawing : Memory := []
  deriving DecidableEq, Repr

/-- What an unlisted byte of the flash reads as: erased (log entry 2). Every other memory reads 0. -/
def flashFill : Byte := 0xFF

/-- Every addressed memory is in canonical form. -/
def Mems.wf (m : Mems) : Bool :=
  Memory.wf 0 m.bufs && Memory.wf 0 m.storeA && Memory.wf 0 m.storeB && Memory.wf flashFill m.flash &&
    Memory.wf 0 m.fuse && Memory.wf 0 m.otp && Memory.wf 0 m.shown && Memory.wf 0 m.drawing

/-- Everything but the addressed memories and the queue of commands. -/
structure Dev where
  sys : Sys := {}
  mbx : Mbx := {}
  evt : Evt := {}
  host : HostBlk := {}
  prog : Prog := {}
  loops : Vector LoopUnit 8 := Vector.replicate 8 {}
  dig : Dig := {}
  ana : Ana := {}
  net : Net := {}
  ser : Ser := {}
  gl : Gl := {}
  red : Red := {}
  integ : Integ := {}
  rtc : Rtc := {}
  hist : HistRec := {}
  panel : Panel := {}
  otp : Otp := {}
  pwr : Pwr := {}
  /-- Base ticks of 50 µs since the last reset (R34, R145). -/
  tick : Nat := 0
  /-- The model's own counter: how many free values have been used (log entry 3). -/
  free : Nat := 0
  /-- The model's own record of what the device has sent, oldest first (log entry 4). -/
  out : List Out := []
  deriving DecidableEq, Repr

/-- The device, its addressed memories, and the commands that wait, first in, first out. -/
structure State where
  dev : Dev := {}
  mem : Mems := {}
  pending : List Instr := []
  deriving DecidableEq, Repr

/-- A stop with a fault. Every command of the table has an effect that the manual gives, so no meaning raises it. -/
inductive Fault where
  /-- Raised by no command: kept so that the outcome has its three cases. Safe: it only stops. -/
  | unreachable
  deriving DecidableEq, Repr

/-- A refusal. -/
inductive Refusal where
  /-- Raised by the dispatcher for a row that has no meaning yet. Safe: the machine stops. -/
  | notModelled (mnemonic : String)
  deriving DecidableEq, Repr

/-- The device right after a power-on reset. -/
def State.reset : State := {}

end Sys2Proof.Machine
end

