-- ==== Sys2Proof/Machine/Ops.lean ====
section
/-!
DEFINITION. Machine/Ops.lean: the named operations that every command uses: vectors and sparse tables by number, bytes
and byte order (R10, R11), addressed memory, the two CRCs (R38, R65), tagged values (R36 to R48), the record of what
is sent, free values, and raising an event (R82 to R87, R484, R485).
-/

namespace Sys2Proof.Machine

open Sys2Proof

/-! ## Outcomes -/

/-- A command whose effect is on the device and reads no addressed memory. -/
def nextD (s : State) (f : Dev → Dev) : Host.Outcome State Fault Refusal := .next { s with dev := f s.dev }

/-- A command whose effect is on the device and reads the addressed memories. -/
def nextR (s : State) (f : Mems → Dev → Dev) : Host.Outcome State Fault Refusal :=
  .next { s with dev := f s.mem s.dev }

/-- A command that also writes the addressed memories. -/
def nextM (s : State) (f : Mems → Dev → Dev × Mems) : Host.Outcome State Fault Refusal :=
  .next { s with dev := (f s.mem s.dev).1, mem := (f s.mem s.dev).2 }

/-! ## Numbered items -/

/-- Entry i of a fixed group; the type's default beyond its end. -/
def vget {α : Type} {n : Nat} [Inhabited α] (v : Vector α n) (i : Nat) : α := v[i]?.getD default

/-- The group with entry i replaced; unchanged beyond its end. -/
def vset {α : Type} {n : Nat} (v : Vector α n) (i : Nat) (x : α) : Vector α n := v.setIfInBounds i x

/-- The group with entry i changed. -/
def vmod {α : Type} {n : Nat} [Inhabited α] (v : Vector α n) (i : Nat) (f : α → α) : Vector α n :=
  vset v i (f (vget v i))

/-- Entry i of a list; the type's default beyond its end. -/
def lget {α : Type} [Inhabited α] (l : List α) (i : Nat) : α := l[i]?.getD default

/-- The entry of a sparse table. -/
def mget {α : Type} (m : Map α) (k : Nat) : Option α := (m.find? (fun e => e.1 == k)).map (·.2)

def mgetD {α : Type} (m : Map α) (k : Nat) (x : α) : α := (mget m k).getD x

/-- The sparse table with entry k set, its keys kept rising. -/
def mput {α : Type} : Map α → Nat → α → Map α
  | [], k, x => [(k, x)]
  | (j, y) :: m, k, x =>
    if k < j then (k, x) :: (j, y) :: m else if k = j then (k, x) :: m else (j, y) :: mput m k x

/-- The sparse table without entry k. -/
def mdel {α : Type} (m : Map α) (k : Nat) : Map α := m.filter (fun e => e.1 != k)

/-- Several entries set, in order. -/
def mputAll {α : Type} (m : Map α) (es : Map α) : Map α := es.foldl (fun a e => mput a e.1 e.2) m

/-! ## Numbers -/

def satAdd (limit a b : Nat) : Nat := min limit (a + b)

/-- A counter of a word's width, one higher unless it is at its limit. -/
def satInc {w : Nat} (x : BitVec w) : BitVec w := if x = BitVec.allOnes w then x else x + 1

/-- A signed number held within bounds. -/
def clampInt (lo hi x : Int) : Int := if x < lo then lo else if hi < x then hi else x

/-- A signed number saturated to a word of w bits. -/
def satInt (w : Nat) (x : Int) : BitVec w := BitVec.ofInt w (clampInt (-(2 ^ (w - 1) : Int)) (2 ^ (w - 1) - 1 : Int) x)

/-- Bits hi to lo of a number. -/
def bits (x hi lo : Nat) : Nat := x / 2 ^ lo % 2 ^ (hi + 1 - lo)

/-- Bit i of a number. -/
def nbit (x i : Nat) : Bool := x.testBit i

def b2n (b : Bool) : Nat := if b then 1 else 0

/-- Division rounded to nearest, ties away from zero. -/
def divNearest (a b : Int) : Int :=
  if b ≤ 0 then 0 else if 0 ≤ a then (2 * a + b) / (2 * b) else -((2 * (-a) + b) / (2 * b))

/-- Division rounded to nearest, ties to even. -/
def divNearestEven (a b : Int) : Int :=
  let q := a / b
  let r := a % b
  if 2 * r < b then q else if b < 2 * r then q + 1 else if q % 2 = 0 then q else q + 1

/-! ## Bytes -/

/-- A number as n bytes, least significant first (R10). -/
def leBytes : Nat → Nat → Bytes
  | 0, _ => []
  | n + 1, v => BitVec.ofNat 8 v :: leBytes n (v / 256)

/-- A number as n bytes, most significant first (R11). -/
def beBytes (n v : Nat) : Bytes := (leBytes n v).reverse

def fromLe : Bytes → Nat
  | [] => 0
  | b :: bs => b.toNat + 256 * fromLe bs

def fromBe (bs : Bytes) : Nat := fromLe bs.reverse

/-- n bytes from an offset. -/
def slice (d : Bytes) (off n : Nat) : Bytes := (d.drop off).take n

/-- The little-endian number of n bytes at an offset. -/
def getLe (d : Bytes) (off n : Nat) : Nat := fromLe (slice d off n)

/-- The big-endian number of n bytes at an offset. -/
def getBe (d : Bytes) (off n : Nat) : Nat := fromBe (slice d off n)

/-- The byte at an offset, 0 beyond the end. -/
def byteAt (d : Bytes) (off : Nat) : Nat := ((d[off]?).getD 0).toNat

/-- The signed number of n bits that a number stands for. -/
def toSigned (n x : Nat) : Int := (BitVec.ofNat n x).toInt

def zeros (n : Nat) : Bytes := List.replicate n 0

/-- Every byte of a range is 0. -/
def allZero (d : Bytes) (off n : Nat) : Bool := (slice d off n).all (· == 0)

/-- A list cut into pieces of n (for n > 0), by fuel. -/
def chunksFuel {α : Type} (n : Nat) : Nat → List α → List (List α)
  | 0, _ => []
  | _ + 1, [] => []
  | k + 1, x :: xs => ((x :: xs).take n) :: chunksFuel n k ((x :: xs).drop n)

def chunks {α : Type} (n : Nat) (l : List α) : List (List α) := if n = 0 then [] else chunksFuel n (l.length + 1) l

/-- A list padded or cut to n bytes. -/
def padTo (n : Nat) (d : Bytes) : Bytes := d.take n ++ zeros (n - d.length)

/-! ## Addressed memory -/

/-- The byte at an address. -/
def Memory.read (fill : Byte) : Memory → Nat → Byte
  | [], _ => fill
  | (j, b) :: m, a => if j = a then b else Memory.read fill m a

/-- The memory with one byte written: the canonical form is kept. -/
def Memory.write (fill : Byte) : Memory → Nat → Byte → Memory
  | [], a, b => if b = fill then [] else [(a, b)]
  | (j, c) :: m, a, b =>
    if a < j then (if b = fill then (j, c) :: m else (a, b) :: (j, c) :: m)
    else if a = j then (if b = fill then m else (a, b) :: m)
    else (j, c) :: Memory.write fill m a b

/-- n bytes from an address. -/
def Memory.readN (fill : Byte) (m : Memory) (a n : Nat) : Bytes :=
  (List.range n).map (fun i => Memory.read fill m (a + i))

/-- Bytes written from an address upwards. -/
def Memory.writeN (fill : Byte) : Memory → Nat → Bytes → Memory
  | m, _, [] => m
  | m, a, b :: bs => Memory.writeN fill (Memory.write fill m a b) (a + 1) bs

/-- Every listed byte from a to a + n − 1 returned to the fill byte. -/
def Memory.erase (m : Memory) (a n : Nat) : Memory := m.filter (fun c => decide (c.1 < a) || decide (a + n ≤ c.1))

/-! ## Checks -/

def crc16Bit (r : Half) : Half := if r.msb then (r <<< 1) ^^^ 0x1021#16 else r <<< 1

def crc16Byte (r : Half) (b : Byte) : Half := Nat.iterate crc16Bit 8 (r ^^^ (b.zeroExtend 16 <<< 8))

/-- The CRC-16 of R38. -/
def crc16 (d : Bytes) : Half := d.foldl crc16Byte 0xFFFF#16

def crc32Bit (r : Word) : Word := if r.getLsbD 0 then (r >>> 1) ^^^ 0x82F63B78#32 else r >>> 1

def crc32Byte (r : Word) (b : Byte) : Word := Nat.iterate crc32Bit 8 (r ^^^ b.zeroExtend 32)

/-- The CRC-32C of R65: reflected, initial value and final XOR all ones. -/
def crc32c (d : Bytes) : Word := d.foldl crc32Byte 0xFFFFFFFF#32 ^^^ 0xFFFFFFFF#32

/-! ## Quality codes (Table 1.7) and tagged values -/

def qGOOD : Byte := 0x00
def qHELD : Byte := 0x10
def qSUBSTITUTED : Byte := 0x20
def qSAFE_VALUE : Byte := 0x30
def qFORCED : Byte := 0x40
def qUNDER_RANGE : Byte := 0x50
def qOVER_RANGE : Byte := 0x51
def qBAD : Byte := 0x80
def qBAD_CHECK : Byte := 0x81
def qBAD_WIRE : Byte := 0x82
def qBAD_SOURCE_LOST : Byte := 0x83
def qBAD_SUPPLY : Byte := 0x84
def qBAD_HARDWARE : Byte := 0x85

/-- The codes that Table 1.7 lists. -/
def qListed (q : Byte) : Bool :=
  [qGOOD, qHELD, qSUBSTITUTED, qSAFE_VALUE, qFORCED, qUNDER_RANGE, qOVER_RANGE, qBAD, qBAD_CHECK, qBAD_WIRE,
    qBAD_SOURCE_LOST, qBAD_SUPPLY, qBAD_HARDWARE].contains q

/-- Usable: bit 7 is 0 (R48). -/
def qUsable (q : Byte) : Bool := !q.msb

/-- The CHECK of a value under a source identity (R38). -/
def tvCheck (id value : Word) (quality seq : Byte) : Half :=
  crc16 (beBytes 4 value.toNat ++ [quality, seq] ++ beBytes 4 id.toNat)

/-- A tagged value with its CHECK computed (R42). -/
def mkTV (id value : Word) (quality seq : Byte) : TV := ⟨value, quality, seq, tvCheck id value quality seq⟩

/-- The value's CHECK holds under a source identity. -/
def tvOk (id : Word) (v : TV) : Bool := v.check == tvCheck id v.value v.quality v.seq

/-- What a reader passes on: BAD_CHECK for a failing CHECK (R44), BAD for an unlisted quality (R47), else the value
unchanged. -/
def tvAccept (id : Word) (v : TV) : TV :=
  if !tvOk id v then mkTV id v.value qBAD_CHECK v.seq
  else if !qListed v.quality then mkTV id v.value qBAD v.seq
  else v

/-- The 64-bit form of Table 1.6. -/
def tvWord (v : TV) : Nat := v.value.toNat + 2 ^ 32 * v.quality.toNat + 2 ^ 40 * v.seq.toNat + 2 ^ 48 * v.check.toNat

/-- Stored little-endian (R10). -/
def tvBytes (v : TV) : Bytes := leBytes 8 (tvWord v)

def tvOfWord (x : Nat) : TV :=
  ⟨BitVec.ofNat 32 x, BitVec.ofNat 8 (x / 2 ^ 32), BitVec.ofNat 8 (x / 2 ^ 40), BitVec.ofNat 16 (x / 2 ^ 48)⟩

/-- The paths of the check-failure counters (R45). -/
inductive CheckPath where
  | sram | fabric | network | gligil | output
  deriving DecidableEq, Repr

/-- One more check failure on a path, saturating (R45, R89). -/
def countCheck (p : CheckPath) (d : Dev) : Dev :=
  let c := d.sys.checks
  let c' : CheckCounts := match p with
    | .sram => { c with sram := satInc c.sram }
    | .fabric => { c with fabric := satInc c.fabric }
    | .network => { c with network := satInc c.network }
    | .gligil => { c with gligil := satInc c.gligil }
    | .output => { c with output := satInc c.output }
  { d with sys := { d.sys with checks := c' } }

/-- A reader takes a value: what it passes on, and the failure counted once (R44, R45). -/
def readTV (p : CheckPath) (id : Word) (v : TV) (d : Dev) : TV × Dev :=
  (tvAccept id v, if tvOk id v then d else countCheck p d)

/-! ## Free values and the record of what is sent -/

/-- The next free number, and the device with it used. -/
def freshNat (d : Dev) : Nat × Dev := (Config.freeNat d.free, { d with free := d.free + 1 })

def freshInt (d : Dev) : Int × Dev := (Config.freeInt d.free, { d with free := d.free + 1 })

def freshBool (d : Dev) : Bool × Dev := (Config.freeBool d.free, { d with free := d.free + 1 })

/-- Something leaves the device. -/
def emit (o : Out) (d : Dev) : Dev := { d with out := d.out ++ [o] }

def emitAll (os : List Out) (d : Dev) : Dev := { d with out := d.out ++ os }

/-! ## The identity record (Table 0.2) -/

def Dev.field (d : Dev) (hi lo : Nat) : Nat := bits d.sys.ident.toNat hi lo
def Dev.variant (d : Dev) : Nat := d.field 15 0
def Dev.pkgM (d : Dev) : Bool := d.field 24 24 = 1
def Dev.fieldIo (d : Dev) : Bool := d.field 25 25 = 1
def Dev.hasPanel (d : Dev) : Bool := d.field 26 26 = 1
def Dev.extTemp (d : Dev) : Bool := d.field 27 27 = 1
def Dev.nCells (d : Dev) : Nat := d.field 39 32
def Dev.nUnits (d : Dev) : Nat := d.field 43 40
def Dev.nCan (d : Dev) : Nat := d.field 46 44
def Dev.gligil (d : Dev) : Bool := d.field 47 47 = 1
def Dev.nFused (d : Dev) : Nat := d.field 55 48

/-- A physical cell is enabled (R27, R190): a die with fewer than 240 enabled cells enables whole tiles, those that have a
factory reading S_g (R195); which cells of a 240-cell die are enabled is the die's own (log entry 35). -/
def Dev.cellOn (d : Dev) (c : Nat) : Bool :=
  decide (c < 256) && vget d.otp.sg (c / 8) != 0 && (decide (d.nCells < 240) || Config.cellEnabled c)

/-- The stack master: STACK_POS 0 (Table 2.6). -/
def Dev.master (d : Dev) : Bool := d.sys.stackPos = 0

/-- CYCLE_RUN: at least one task is running (Table 2.6): every state of Table 4.4 but STOPPED and FAULT. -/
def TState.running : TState → Bool
  | .stopped => false
  | .fault => false
  | _ => true

def Dev.cycleRun (d : Dev) : Bool := d.prog.tasks.toList.any (fun t => t.st.running)

def Role.code : Role → Nat
  | .unassigned => 0
  | .active => 1
  | .standby => 2
  | .arbiter => 3

/-- SYS_STATUS (Table 2.6). STACK_MASTER is 0 until the straps have been sampled, as its reset value says. -/
def Dev.sysStatus (d : Dev) : Nat :=
  b2n d.sys.fwReady + 2 * b2n d.sys.recovery + 4 * d.sys.role.code + 16 * b2n d.sys.fenced +
    32 * b2n d.cycleRun + 64 * d.sys.stackPos.toNat + 512 * b2n (d.master && d.pwr.phase != .inReset) +
    1024 * d.sys.bootSel.toNat + 4096 * b2n d.prog.activeSlot + 8192 * b2n d.sys.safeState

/-- SYS_RESET_CAUSE (Table 2.7). -/
def ResetCause.word (c : ResetCause) : Nat :=
  b2n c.por + 2 * b2n c.pin + 4 * b2n c.soft + 8 * b2n c.swdg + 16 * b2n c.lockstep + 32 * b2n c.thermal +
    64 * b2n c.brownout

/-! ## Time -/

/-- The RTC count as a time word (R457). -/
def Rtc.timeWord (r : Rtc) : DWord := BitVec.ofNat 64 (r.sec.toNat * 2 ^ 24 + r.frac.toNat / 2 ^ 32)

/-! ## Events -/

/-- Event numbers (Table 2.20). -/
def Ev.num : Ev → Nat
  | .porDone => 0 | .fwFault => 1 | .vcoreWarn => 2 | .vioWarn => 3 | .vbatLow => 4 | .pfw => 5 | .tjHigh => 6
  | .tjCrit => 7 | .pcieLink => 8 | .spiProtocolErr => 9 | .mbxOverflow => 10 | .dmaDone => 11 | .dmaError => 12
  | .settingsChanged => 13 | .mbxAuthFail => 14 | .supervisorWdg => 15
  | .taskOverrun n => 16 + n | .taskFault n => 24 + n
  | .placementDone => 32 | .migrationStart => 33 | .migrationDone => 34 | .speedMarginLow => 35
  | .dualrailError => 36 | .residueError => 37 | .progressStall => 38 | .swapDone => 39
  | .loopSat n => 40 + n | .loopTrace n => 48 + n
  | .diGroupSupply n => 56 + n | .doGroupLow n => 60 + n | .doGroupLost n => 64 + n | .doGroupFault n => 68 + n
  | .tripFired => 72 | .fieldWdgSafe => 73 | .fieldWdgRelease => 74 | .diFastcountOvf => 75 | .doThermal => 76
  | .tripConfigChanged => 77
  | .aiWirebreak => 80 | .aiRange => 81 | .aiCheck => 82 | .aiLooppowerLimit => 83 | .aoCompliance => 84
  | .aoOpen => 85 | .aoThermalFoldback => 86 | .aoThermalOff => 87 | .aoReadbackMismatch => 88 | .aoSupplyLow => 89
  | .portALink => 96 | .portBLink => 97 | .hsrPrpError => 98 | .partnerNew => 99 | .partnerLost => 100
  | .ptpLockChange => 101
  | .canBusoff n => 102 + n
  | .uartError => 106 | .stackLinkChange => 107 | .leaseGranted => 108 | .leaseRenewLate => 109 | .fenced => 110
  | .takeoverStart => 111 | .takeoverDone => 112 | .compareMismatch => 113 | .checkpointGap => 114
  | .arbiterLost => 115 | .privCorrected => 116 | .privUncorrectable => 117 | .scrubDone => 118
  | .repairPending => 119 | .rtcOsf => 120 | .timeStep => 121 | .historyLogFull => 122 | .historyFlushed => 123
  | .panelCrcMismatch => 124 | .panelBandChange => 125 | .panelUpdateDone => 126 | .panelRailFault => 127

/-- The reserved event numbers (R18, Table 2.20). -/
def evReserved (n : Nat) : Bool := decide (78 ≤ n ∧ n ≤ 79) || decide (90 ≤ n ∧ n ≤ 95)

/-- INT_N follows the unmasked pending events while INT_EN is 1 (R83). -/
def updInt (d : Dev) : Dev :=
  { d with evt := { d.evt with intAsserted := d.evt.intEn && (d.evt.pending &&& ~~~d.evt.mask) != 0 } }

/-- The endpoint may issue memory writes: link up, D0, Bus Master Enable (R54). -/
def Dev.pcieMayWrite (d : Dev) : Bool := d.host.linkUp && !d.host.d3hot && d.host.busMaster

/-- A message for vector n: issued, or held in the PBA (R84). -/
def msixSend (n : Nat) (d : Dev) : Dev :=
  if d.pcieMayWrite && !d.host.msixMask && !(vget d.host.msix n).masked then emit (.msix n) d
  else { d with host := { d.host with pba := d.host.pba ||| (1#128 <<< n) } }

/-- Messages held in the PBA that nothing holds back any longer are issued (R84). -/
def msixRelease (d : Dev) : Dev :=
  (List.range 128).foldl (fun d n =>
    if d.host.pba.getLsbD n && (d.pcieMayWrite && !d.host.msixMask && !(vget d.host.msix n).masked) then
      emit (.msix n) { d with host := { d.host with pba := d.host.pba &&& ~~~(1#128 <<< n) } }
    else d) d

/-- The record of Table 2.27. -/
def evRecord (d : Dev) (n : Nat) : Bytes :=
  let r := vget d.evt.recs n
  leBytes 1 n ++ leBytes 1 (b2n (d.evt.pending.getLsbD n) + 2 * b2n r.saturated + 4 * b2n r.untrusted) ++
    leBytes 2 r.count.toNat ++ leBytes 4 r.detail.toNat ++ leBytes 8 r.stamp.toNat

/-- History segment that holds log entry i (R486: 128 entries of 32 bytes in a segment from 6). -/
def logSegment (i : Nat) : Nat := 6 + i / 128

/-- A history segment has changed since the last flush. -/
def markDirty (seg : Nat) (d : Dev) : Dev :=
  if d.hist.dirty.contains seg then d
  else { d with hist := { d.hist with dirty := d.hist.dirty ++ [seg] } }

/-- Index of the newest log entry of an event number. -/
def newestOf (n : Nat) (log : List LogEntry) : Option Nat :=
  ((List.range log.length).filter (fun i => (lget log i).event = n)).getLast?

/-- The log takes one occurrence: merged, appended or dropped (R484, R485). -/
def logOccurrence (n : Nat) (detail : Word) (d : Dev) : Dev :=
  let append (d : Dev) : Dev :=
    if d.hist.log.length < 4096 then
      let e : LogEntry := {
        event := n, untrusted := d.rtc.osf, detail := detail, opSec := d.hist.opSeconds,
        cycles := d.hist.powerCycles, time := d.rtc.timeWord, lastOp := d.hist.opSeconds, lastTick := some d.tick }
      markDirty 0 (markDirty (logSegment d.hist.log.length)
        { d with hist := { d.hist with log := d.hist.log ++ [e] } })
    else markDirty 0 { d with hist := { d.hist with dropped := satInc d.hist.dropped } }
  match newestOf n d.hist.log with
  | none => append d
  | some i =>
    let e := lget d.hist.log i
    if e.detail = detail && e.lastTick.any (fun t => decide (d.tick ≤ t + 20000)) then
      let e' := { e with repeats := satInc e.repeats, lastOp := d.hist.opSeconds, lastTick := some d.tick }
      markDirty (logSegment i) { d with hist := { d.hist with log := d.hist.log.set i e' } }
    else append d

/-- One occurrence of event number n: PENDING, count, detail, stamp (R82), MSI-X (R84, R85), INT_N (R83), the network
queue (R87) and the log (R484). -/
def raise1 (n : Nat) (detail : Word) (d : Dev) : Dev :=
  let was := d.evt.pending.getLsbD n
  let r := vget d.evt.recs n
  let r' := { r with
    saturated := r.saturated || r.count = 0xFFFF, count := satInc r.count,
    untrusted := d.rtc.osf, detail := detail, stamp := d.rtc.timeWord }
  let d := { d with evt := { d.evt with
    pending := d.evt.pending ||| (1#128 <<< n), recs := vset d.evt.recs n r' } }
  let d := if !was && !d.evt.mask.getLsbD n then msixSend n d else d
  let d := updInt d
  let d := if r.net then { d with evt := { d.evt with netQueue := d.evt.netQueue ++ [evRecord d n] } } else d
  if r.log then logOccurrence n detail d else d

/-- An event is raised with its detail word. When it takes the last free log entry, HISTORY_LOG_FULL is raised too
(R485). -/
def raise (e : Ev) (detail : Nat) (d : Dev) : Dev :=
  let d' := raise1 e.num (BitVec.ofNat 32 detail) d
  if d.hist.log.length < 4096 && d'.hist.log.length = 4096 then raise1 122 0 d' else d'

def raiseIf (c : Bool) (e : Ev) (detail : Nat) (d : Dev) : Dev := if c then raise e detail d else d

/-! ## Status codes (Table 2.19) -/

def stOk : Half := 0x0000
def stBusy : Half := 0x0001
def stBadCommand : Half := 0x0002
def stBadLength : Half := 0x0003
def stBadParam : Half := 0x0004
def stNotPermitted : Half := 0x0005
def stNotPresent : Half := 0x0006
def stAuthFailed : Half := 0x0007
def stOtpExhausted : Half := 0x0008
def stRange : Half := 0x0009
def stStale : Half := 0x000A
def stTimeout : Half := 0x000B
def stCheckFailed : Half := 0x000C
def stInternal : Half := 0x00FF

/-- The status of the first test that fails (R66). -/
def firstFail : List (Bool × Half) → Option Half
  | [] => none
  | (true, st) :: _ => some st
  | (false, _) :: l => firstFail l

/-! ## Elements -/

/-- Operand spaces (chapter 03). -/
def spI : Nat := 0
def spQ : Nat := 1
def spM : Nat := 2
def spT : Nat := 3
def spC : Nat := 4
def spE : Nat := 5
def spV : Nat := 6
def spK : Nat := 7

/-- The key of an element in the sparse tables. -/
def ekey (space el : Nat) : Nat := space * 2 ^ 18 + el

def keySpace (k : Nat) : Nat := k / 2 ^ 18
def keyEl (k : Nat) : Nat := k % 2 ^ 18

end Sys2Proof.Machine
end

