-- ==== Sys2Proof/Machine/Crypto.lean ====
section
/-!
DEFINITION. Machine/Crypto.lean: SHA-256 and HMAC-SHA-256 (R75, R560), and the verification of an ECDSA P-256
signature (R215, R561), each as FIPS 180-4, FIPS 198-1 and FIPS 186-4 define it (PRESUMED, log entry 6): the manual
names them and does not restate them.
-/

namespace Sys2Proof.Machine

open Sys2Proof

/-! ## SHA-256 -/

def shaK : List Word := [
  0x428a2f98, 0x71374491, 0xb5c0fbcf, 0xe9b5dba5, 0x3956c25b, 0x59f111f1, 0x923f82a4, 0xab1c5ed5,
  0xd807aa98, 0x12835b01, 0x243185be, 0x550c7dc3, 0x72be5d74, 0x80deb1fe, 0x9bdc06a7, 0xc19bf174,
  0xe49b69c1, 0xefbe4786, 0x0fc19dc6, 0x240ca1cc, 0x2de92c6f, 0x4a7484aa, 0x5cb0a9dc, 0x76f988da,
  0x983e5152, 0xa831c66d, 0xb00327c8, 0xbf597fc7, 0xc6e00bf3, 0xd5a79147, 0x06ca6351, 0x14292967,
  0x27b70a85, 0x2e1b2138, 0x4d2c6dfc, 0x53380d13, 0x650a7354, 0x766a0abb, 0x81c2c92e, 0x92722c85,
  0xa2bfe8a1, 0xa81a664b, 0xc24b8b70, 0xc76c51a3, 0xd192e819, 0xd6990624, 0xf40e3585, 0x106aa070,
  0x19a4c116, 0x1e376c08, 0x2748774c, 0x34b0bcb5, 0x391c0cb3, 0x4ed8aa4a, 0x5b9cca4f, 0x682e6ff3,
  0x748f82ee, 0x78a5636f, 0x84c87814, 0x8cc70208, 0x90befffa, 0xa4506ceb, 0xbef9a3f7, 0xc67178f2]

/-- The eight working words of the hash. -/
structure ShaRegs where
  a : Word := 0x6a09e667
  b : Word := 0xbb67ae85
  c : Word := 0x3c6ef372
  d : Word := 0xa54ff53a
  e : Word := 0x510e527f
  f : Word := 0x9b05688c
  g : Word := 0x1f83d9ab
  h : Word := 0x5be0cd19
  deriving DecidableEq, Repr

def shaRound (r : ShaRegs) (kw : Word × Word) : ShaRegs :=
  let s1 := r.e.rotateRight 6 ^^^ r.e.rotateRight 11 ^^^ r.e.rotateRight 25
  let ch := (r.e &&& r.f) ^^^ (~~~r.e &&& r.g)
  let t1 := r.h + s1 + ch + kw.1 + kw.2
  let s0 := r.a.rotateRight 2 ^^^ r.a.rotateRight 13 ^^^ r.a.rotateRight 22
  let mj := (r.a &&& r.b) ^^^ (r.a &&& r.c) ^^^ (r.b &&& r.c)
  { a := t1 + (s0 + mj), b := r.a, c := r.b, d := r.c, e := r.d + t1, f := r.e, g := r.f, h := r.g }

/-- One more word of the message schedule, newest first. -/
def shaExtend (w : List Word) : List Word :=
  let w2 := lget w 1
  let w15 := lget w 14
  let s1 := w2.rotateRight 17 ^^^ w2.rotateRight 19 ^^^ (w2 >>> 10)
  let s0 := w15.rotateRight 7 ^^^ w15.rotateRight 18 ^^^ (w15 >>> 3)
  (s1 + lget w 6 + s0 + lget w 15) :: w

def shaBlock (r : ShaRegs) (blk : Bytes) : ShaRegs :=
  let w := (Nat.iterate shaExtend 48 ((chunks 4 blk).map (fun c => BitVec.ofNat 32 (fromBe c))).reverse).reverse
  let x := (shaK.zip w).foldl shaRound r
  { a := r.a + x.a, b := r.b + x.b, c := r.c + x.c, d := r.d + x.d,
    e := r.e + x.e, f := r.f + x.f, g := r.g + x.g, h := r.h + x.h }

/-- SHA-256 of a byte string: 32 bytes. -/
def sha256 (m : Bytes) : Bytes :=
  let padded := m ++ [0x80#8] ++ zeros ((119 - m.length % 64) % 64) ++ beBytes 8 (8 * m.length)
  let r := (chunks 64 padded).foldl shaBlock {}
  [r.a, r.b, r.c, r.d, r.e, r.f, r.g, r.h].flatMap (fun x => beBytes 4 x.toNat)

/-- HMAC-SHA-256 of a byte string under a key. -/
def hmac (key m : Bytes) : Bytes :=
  let k := padTo 64 (if key.length > 64 then sha256 key else key)
  sha256 (k.map (· ^^^ 0x5c#8) ++ sha256 (k.map (· ^^^ 0x36#8) ++ m))

/-! ## ECDSA over P-256 -/

def p256P : Nat := 0xffffffff00000001000000000000000000000000ffffffffffffffffffffffff
def p256N : Nat := 0xffffffff00000000ffffffffffffffffbce6faada7179e84f3b9cac2fc632551
def p256B : Nat := 0x5ac635d8aa3a93e7b3ebbd55769886bc651d06b0cc53b0f63bce3c3e27d2604b
def p256Gx : Nat := 0x6b17d1f2e12c4247f8bce6e563a440f277037d812deb33a0f4a13945d898c296
def p256Gy : Nat := 0x4fe342e2fe1a7f9b8ee7eb4a7c0f9e162bce33576b315ececbb6406837bf51f5

/-- x to the power whose low `fuel` bits are e, modulo m. -/
def powMod (m : Nat) : Nat → Nat → Nat → Nat
  | 0, _, _ => 1 % m
  | fuel + 1, x, e =>
    let r := powMod m fuel (x * x % m) (e / 2)
    if e % 2 = 1 then x * r % m else r

/-- The inverse modulo a prime. -/
def invMod (m x : Nat) : Nat := powMod m 256 (x % m) (m - 2)

/-- A point of the curve; none is the point at infinity. -/
abbrev EcPoint := Option (Nat × Nat)

def ecAdd : EcPoint → EcPoint → EcPoint
  | none, q => q
  | p, none => p
  | some (x1, y1), some (x2, y2) =>
    if x1 = x2 ∧ (y1 + y2) % p256P = 0 then none
    else
      let l := if x1 = x2 then (3 * x1 * x1 + (p256P - 3)) % p256P * invMod p256P (2 * y1) % p256P
        else (y2 + p256P - y1) % p256P * invMod p256P (x2 + p256P - x1) % p256P
      let x3 := (l * l + (p256P - x1) + (p256P - x2)) % p256P
      some (x3, (l * (x1 + p256P - x3) + (p256P - y1)) % p256P)

/-- k times a point, for the low `fuel` bits of k. -/
def ecMul : Nat → Nat → EcPoint → EcPoint
  | 0, _, _ => none
  | fuel + 1, k, p =>
    let r := ecMul fuel (k / 2) (ecAdd p p)
    if k % 2 = 1 then ecAdd p r else r

/-- The point lies on the curve and its coordinates are reduced. -/
def ecOnCurve (x y : Nat) : Bool :=
  decide (x < p256P) && decide (y < p256P) &&
    y * y % p256P == (x * x % p256P * x + (p256P - 3) * x + p256B) % p256P

/-- Verification of a signature r ‖ s over SHA-256 of a message, under a key X ‖ Y, every number 32 bytes, most
significant byte first. -/
def ecdsaVerify (key sig m : Bytes) : Bool :=
  let x := getBe key 0 32
  let y := getBe key 32 32
  let r := getBe sig 0 32
  let s := getBe sig 32 32
  if key.length = 64 && sig.length = 64 && ecOnCurve x y && decide (0 < r ∧ r < p256N ∧ 0 < s ∧ s < p256N) then
    let w := invMod p256N s
    let u1 := fromBe (sha256 m) * w % p256N
    let u2 := r * w % p256N
    match ecAdd (ecMul 256 u1 (some (p256Gx, p256Gy))) (ecMul 256 u2 (some (x, y))) with
    | none => false
    | some (vx, _) => vx % p256N == r
  else false

end Sys2Proof.Machine
end

