-- ==== Sys2Proof/Machine/Wire.lean ====
section
/-!
DEFINITION. Machine/Wire.lean: the station-protocol datagram (Table 9.4, R344, R345) and the Gligil frame, as the
device builds and takes them.
-/

namespace Sys2Proof.Machine

open Sys2Proof

/-- The UDP port of the station protocol and the group of announcements (R343). -/
def stationPort : Nat := 47300
def announceGroup : Word := 0xEFC20001

/-- The datagram of Table 9.4 around a payload (R344): header and payload, then FCRC. -/
def stationFrame (type : Nat) (role : Nat) (partner : Word) (sender : DWord) (seq : Word) (payload : Bytes) : Bytes :=
  let body := beBytes 2 0xD44C ++ beBytes 1 1 ++ beBytes 1 type ++ beBytes 2 payload.length ++ beBytes 2 role ++
    beBytes 4 partner.toNat ++ beBytes 8 sender.toNat ++ beBytes 4 seq.toNat ++ payload
  body ++ beBytes 4 (crc32c body).toNat

/-- Bits [63:0] of the unique ID: SENDER of Table 9.4. -/
def Dev.sender (d : Dev) : DWord := d.sys.uid.setWidth 64

/-- The device sends a datagram of a type: SEQ rises by 1 per TYPE (Table 9.4), from 0 (log entry 7). Without an IPv4
address it sends none (R377). -/
def stationSend (dst : Word) (port type : Nat) (payload : Bytes) (d : Dev) : Dev :=
  let seq := mgetD d.net.txSeq type 0
  if d.net.cfg.ip = 0 then d
  else emit (.udp dst port (stationFrame type d.sys.role.code d.net.cfg.partnerId d.sender seq payload))
    { d with net := { d.net with txSeq := mput d.net.txSeq type (seq + 1) } }

/-- A datagram to the station port of an address. -/
def stationTo (dst : Word) (type : Nat) (payload : Bytes) (d : Dev) : Dev := stationSend dst stationPort type payload d

/-- The header of a datagram received, with its payload. -/
structure StHeader where
  type : Nat
  role : Nat
  partner : Word
  sender : DWord
  seq : Word
  payload : Bytes
  deriving DecidableEq, Repr

/-- The message types of Table 9.5 and Table 10.1. -/
def stTypeListed (t : Nat) : Bool :=
  [0x01, 0x02, 0x10, 0x11, 0x12, 0x13, 0x20, 0x21, 0x30].contains t || decide (0x40 ≤ t ∧ t ≤ 0x4F)

/-- What R345 tests of a datagram, but for fragmentation; none where it is discarded. -/
def stationParse (d : Bytes) : Option StHeader :=
  let len := getBe d 4 2
  let flags := getBe d 6 2
  if decide (28 ≤ d.length) && getBe d 0 2 == 0xD44C && getBe d 2 1 == 1 && stTypeListed (getBe d 3 1) &&
      len + 28 == d.length && getBe d (d.length - 4) 4 == (crc32c (d.take (d.length - 4))).toNat &&
      flags / 4 == 0 &&
      !((getBe d 3 1 == 0x20 || getBe d 3 1 == 0x21) && decide (4200 < d.length)) then
    some { type := getBe d 3 1, role := flags % 4, partner := BitVec.ofNat 32 (getBe d 8 4),
           sender := BitVec.ofNat 64 (getBe d 12 8), seq := BitVec.ofNat 32 (getBe d 20 4),
           payload := slice d 24 len }
  else none

/-- A datagram is discarded and counted (R345). -/
def countDiscard (d : Dev) : Dev := { d with net := { d.net with discarded := d.net.discarded + 1 } }

/-- A datagram received of a type: what its header gives goes on, anything else is discarded and counted. Without an
IPv4 address the device takes none (R377). -/
def withStation (type : Nat) (data : Bytes) (d : Dev) (f : StHeader → Dev) : Dev :=
  if d.net.cfg.ip = 0 then d
  else match stationParse data with
  | some h => if h.type = type then f h else countDiscard d
  | none => countDiscard d

/-- The partner identity or one of the pair sends from this device's own pair: PARTNER_ID equal to the device's own. -/
def Dev.ownPartner (d : Dev) (h : StHeader) : Bool := h.partner == d.net.cfg.partnerId

/-- Greater modulo 2^32: a difference from 1 to 2^31 − 1 (R74). -/
def seqGreater (a b : Word) : Bool :=
  let x := (a - b).toNat
  decide (1 ≤ x ∧ x < 2 ^ 31)

end Sys2Proof.Machine
end

