-- ==== Sys2Proof/Machine/Image.lean ====
section
/-!
DEFINITION. Machine/Image.lean: the program image as the device reads it (R229, Tables 5.7 to 5.19), the instruction
word (Tables 3.3 and 3.4), and the image verifier (R142, R230, Table 3.11).
-/

namespace Sys2Proof.Machine

open Sys2Proof

/-! ## The instruction word -/

/-- The fields of Table 3.3. -/
structure IWord where
  op : Nat
  space : Nat
  mod : Nat
  index : Nat
  deriving DecidableEq, Repr, Inhabited

def decodeWord (w : Word) : IWord :=
  { op := bits w.toNat 31 26, space := bits w.toNat 25 23, mod := bits w.toNat 22 20, index := bits w.toNat 19 0 }

def encodeWord (i : IWord) : Word :=
  BitVec.ofNat 32 (i.op * 2 ^ 26 + i.space * 2 ^ 23 + i.mod * 2 ^ 20 + i.index)

/-- Opcodes (Table 3.4). -/
def opLD : Nat := 0x01
def opA : Nat := 0x02
def opO : Nat := 0x03
def opX : Nat := 0x04
def opBA : Nat := 0x05
def opBO : Nat := 0x06
def opBX : Nat := 0x07
def opBC : Nat := 0x08
def opNOT : Nat := 0x09
def opASN : Nat := 0x0A
def opSET : Nat := 0x0B
def opRST : Nat := 0x0C
def opPEDGE : Nat := 0x0D
def opNEDGE : Nat := 0x0E
def opTON : Nat := 0x10
def opTOF : Nat := 0x11
def opTP : Nat := 0x12
def opCTU : Nat := 0x14
def opCTD : Nat := 0x15
def opCRST : Nat := 0x16
def opCLD : Nat := 0x17
def opLDW : Nat := 0x18
def opMOVW : Nat := 0x19
def opCMP : Nat := 0x1A
def opCMPI : Nat := 0x1B
def opADD : Nat := 0x1C
def opSUB : Nat := 0x1D
def opMUL : Nat := 0x1E
def opQUAL : Nat := 0x20
def opFLG : Nat := 0x21
def opJMP : Nat := 0x28
def opNOP : Nat := 0x3C
def opEND : Nat := 0x3E

/-- The opcodes of Table 3.4. -/
def opListed (op : Nat) : Bool :=
  [opLD, opA, opO, opX, opBA, opBO, opBX, opBC, opNOT, opASN, opSET, opRST, opPEDGE, opNEDGE, opTON, opTOF, opTP,
   opCTU, opCTD, opCRST, opCLD, opLDW, opMOVW, opCMP, opCMPI, opADD, opSUB, opMUL, opQUAL, opFLG, opJMP, opNOP,
   opEND].contains op

/-- Instructions with an immediate form (Table 3.4). -/
def opHasImm (op : Nat) : Bool := [opLD, opLDW, opADD, opSUB, opMUL].contains op

/-- IMM is set: [21] for LD, [20] for the word instructions, where the space is not T (Table 3.4). -/
def IWord.imm (i : IWord) : Bool :=
  if i.op = opLD then i.mod.testBit 1
  else if i.op = opLDW then i.space != spT && i.mod.testBit 0
  else opHasImm i.op && i.mod.testBit 0

/-- The MOD bits that an opcode assigns, and its undefined values (Table 3.4, R111, R132). -/
def IWord.modBad (i : IWord) : Bool :=
  if i.op = opLD then decide (3 < i.mod)
  else if [opA, opO, opX, opASN, opMOVW].contains i.op then decide (1 < i.mod)
  else if [opTON, opTOF, opTP, opJMP].contains i.op then decide (2 < i.mod)
  else if i.op = opLDW then (if i.space = spT then decide (2 < i.mod) else decide (1 < i.mod))
  else if i.op = opCMP ∨ i.op = opCMPI then decide (5 < i.mod)
  else if i.op = opADD ∨ i.op = opSUB then decide (1 < i.mod)
  else if [opMUL, opQUAL, opFLG].contains i.op then decide (3 < i.mod)
  else i.mod != 0

/-- The load-type instructions (R112, R113). -/
def IWord.isLoad (i : IWord) : Bool :=
  [opLD, opCMP, opCMPI, opFLG].contains i.op || (i.op == opQUAL && decide (i.mod ≤ 1))

def isOpen (op : Nat) : Bool := [opBA, opBO, opBX].contains op

/-- Instructions that write a Q, M or V element. -/
def isWrite (op : Nat) : Bool := [opASN, opSET, opRST, opMOVW].contains op

def isTimer (op : Nat) : Bool := [opTON, opTOF, opTP].contains op

def isCounter (op : Nat) : Bool := [opCTU, opCTD, opCRST, opCLD].contains op

def isEdge (op : Nat) : Bool := [opPEDGE, opNEDGE].contains op

/-- The spaces that an opcode permits (Table 3.4). -/
def spacesOf (i : IWord) : List Nat :=
  if i.op = opLD then (if i.imm then [spK] else [spI, spQ, spM, spT, spC])
  else if [opA, opO, opX].contains i.op then [spI, spQ, spM, spT, spC]
  else if [opASN, opSET, opRST].contains i.op then [spQ, spM]
  else if isEdge i.op then [spE]
  else if isTimer i.op then [spT]
  else if isCounter i.op then [spC]
  else if i.op = opLDW then (if i.imm then [spK] else [spI, spQ, spM, spT, spC, spV, spK])
  else if i.op = opMOVW then [spQ, spM, spV]
  else if i.op = opCMP then [spI, spQ, spM, spV, spK]
  else if i.op = opCMPI then [spK]
  else if [opADD, opSUB, opMUL].contains i.op then (if i.imm then [spK] else [spI, spQ, spM, spV, spK])
  else [0]

/-- Instructions on one bit of an element. -/
def isBitOp (op : Nat) : Bool := [opLD, opA, opO, opX, opASN, opSET, opRST].contains op

/-- Instructions that name an element of a space. -/
def IWord.namesElement (i : IWord) : Bool :=
  (isBitOp i.op || isEdge i.op || isTimer i.op || isCounter i.op ||
    [opLDW, opMOVW, opCMP, opADD, opSUB, opMUL].contains i.op) && !i.imm

/-- The element or instance that an instruction names. -/
def IWord.element (i : IWord) : Nat :=
  if isBitOp i.op then (if i.space = spT then i.index else if i.space = spC then i.index / 2 else i.index / 32)
  else i.index

/-! ## Reading the body -/

/-- A section directory entry (Table 5.8). -/
structure Sect where
  type : Nat
  resv : Nat
  off : Nat
  len : Nat
  count : Nat
  deriving DecidableEq, Repr, Inhabited

def sections (b : Bytes) : List Sect :=
  (List.range (getLe b 2 2)).map fun i =>
    let e := slice b (64 + 16 * i) 16
    { type := getLe e 0 2, resv := getLe e 2 2, off := getLe e 4 4, len := getLe e 8 4, count := getLe e 12 4 }

def sectOf (b : Bytes) (t : Nat) : Option Sect := (sections b).find? (fun s => s.type == t)

def sectData (b : Bytes) (t : Nat) : Bytes :=
  match sectOf b t with
  | some s => slice b s.off s.len
  | none => []

def sectCount (b : Bytes) (t : Nat) : Nat := ((sectOf b t).map (·.count)).getD 0

/-- Entries of one size. -/
def entries (b : Bytes) (t size : Nat) : List Bytes :=
  (List.range (sectCount b t)).map (fun i => slice (sectData b t) (size * i) size)

/-- Entries whose size their own head gives: `n` of them from a byte string, with what is left. Where the string ends
first, an empty entry stands for those that are missing. -/
def varEntries (size : Bytes → Nat) : Nat → Bytes → List Bytes × Bytes
  | 0, d => ([], d)
  | n + 1, d =>
    if d.isEmpty then ([[]], []) else
    let k := size d
    let (es, rest) := varEntries size n (d.drop k)
    (d.take k :: es, rest)

def setSize (d : Bytes) : Nat := 24 + 4 * getLe d 12 2
def sentSize (d : Bytes) : Nat := 92 + 8 * byteAt d 10
def canSize (d : Bytes) : Nat := 20 + 12 * byteAt d 13
def uartSize (d : Bytes) : Nat := if byteAt d 0 = 0 then 16 + 4 * byteAt d 5 else 16

def setEntries (b : Bytes) (t : Nat) : List Bytes := (varEntries setSize (sectCount b t) (sectData b t)).1
def sentEntries (b : Bytes) : List Bytes := (varEntries sentSize (sectCount b 0xC) (sectData b 0xC)).1
def canEntries (b : Bytes) : List Bytes := (varEntries canSize (sectCount b 0xD) (sectData b 0xD)).1
def uartEntries (b : Bytes) : List Bytes := (varEntries uartSize (sectCount b 0xE) (sectData b 0xE)).1

def w32 (x : Nat) : Word := BitVec.ofNat 32 x
def w64 (x : Nat) : DWord := BitVec.ofNat 64 x

def parseBlock (code : Bytes) (e : Bytes) : Block :=
  { task := byteAt e 0, hasRecord := (byteAt e 1).testBit 0, group := getLe e 2 2, record := getLe e 10 2,
    code := (chunks 4 (slice code (4 * getLe e 4 4) (4 * getLe e 8 2))).map (fun c => w32 (fromLe c)) }

def parseI (e : Bytes) : IDecl :=
  { kind := byteAt e 0, source := byteAt e 1, position := byteAt e 2, channel := byteAt e 3, id := w32 (getLe e 4 4),
    policy := byteAt e 8, holdLimit := getLe e 10 2, policyValue := w32 (getLe e 12 4) }

def parseQ (e : Bytes) : QDecl :=
  { space := byteAt e 0, kind := byteAt e 1, flags := BitVec.ofNat 8 (byteAt e 2), channel := byteAt e 3,
    element := getLe e 4 2, position := byteAt e 6, id := w32 (getLe e 8 4), initial := w32 (getLe e 12 4),
    key := w64 (getLe e 16 8) }

def parseSet (e : Bytes) : SetDecl :=
  { setNo := getLe e 0 2, task := byteAt e 2, partner := w32 (getLe e 4 4), group := w32 (getLe e 8 4),
    signature := w32 (getLe e 16 4),
    items := (List.range (getLe e 12 2)).map (fun j => (byteAt e (24 + 4 * j), getLe e (26 + 4 * j) 2)) }

def parseSent (e : Bytes) : SentDecl :=
  { index := byteAt e 0, task := byteAt e 1, repeatEvery := getLe e 2 2, group := w32 (getLe e 4 4),
    port := getLe e 8 2, text := slice e 12 (byteAt e 11),
    binds := (List.range (byteAt e 10)).map fun f =>
      { position := byteAt e (92 + 8 * f), format := byteAt e (93 + 8 * f), space := byteAt e (94 + 8 * f),
        element := getLe e (96 + 8 * f) 2 } }

def parseCan (e : Bytes) : CanDecl :=
  { position := byteAt e 0, ctrl := byteAt e 1, transmit := byteAt e 2 == 1, extended := (byteAt e 3).testBit 0,
    fd := (byteAt e 3).testBit 1, brs := (byteAt e 3).testBit 2, id := getLe e 4 4, mask := getLe e 8 4,
    length := byteAt e 12, task := byteAt e 14, period := getLe e 16 4,
    fields := (List.range (byteAt e 13)).map fun f =>
      let g := slice e (20 + 12 * f) 12
      { offset := byteAt g 0, size := byteAt g 1, bigEndian := (byteAt g 2).testBit 0,
        signed := (byteAt g 2).testBit 1, analogue := (byteAt g 2).testBit 2, space := byteAt g 3,
        element := getLe g 4 2, substitute := w32 (getLe g 8 4) } }

def parsePoll (e : Bytes) : PollDecl :=
  { position := byteAt e 1, uart := byteAt e 2, slave := byteAt e 3, function := byteAt e 4, start := getLe e 6 2,
    period := getLe e 8 4, task := byteAt e 12,
    regs := (List.range (byteAt e 5)).map fun r =>
      { space := byteAt e (16 + 4 * r), signed := (byteAt e (17 + 4 * r)).testBit 0,
        analogue := (byteAt e (17 + 4 * r)).testBit 1, element := getLe e (18 + 4 * r) 2 } }

def parseListen (e : Bytes) : ListenDecl :=
  { position := byteAt e 1, uart := byteAt e 2, field := byteAt e 3, talker := slice e 4 2, formatter := slice e 6 3,
    analogue := (byteAt e 9).testBit 0, letter := (byteAt e 9).testBit 1, element := getLe e 10 2,
    timeout := getLe e 12 4 }

/-- The image of a container: IMAGE_ID from its header, the rest from its body, which begins at byte 192. -/
def parseImage (container : Bytes) : Image :=
  let b := container.drop 192
  let code := sectData b 2
  { imageId := w64 (getLe container 16 8), tasks := BitVec.ofNat 8 (byteAt b 4), stack := (byteAt b 5).testBit 0,
    stackSize := byteAt b 6, nI := getLe b 16 4, nQ := getLe b 20 4, nM := getLe b 24 4, nT := getLe b 28 4,
    nC := getLe b 32 4, nE := getLe b 36 4, nV := getLe b 40 4, nK := getLe b 44 4,
    blocks := (entries b 1 16).map (parseBlock code), iDecl := (entries b 3 16).map parseI,
    qmv := (entries b 4 24).map parseQ,
    kInit := (entries b 5 8).map (fun e => { value := w32 (getLe e 0 4), id := w32 (getLe e 4 4) }),
    stateDecl := (entries b 6 16).map (fun e =>
      { space := byteAt e 0, mode := byteAt e 1, instanceNo := getLe e 4 4, key := w64 (getLe e 8 8) }),
    records := (entries b 7 12).map (fun e =>
      { record := getLe e 0 2, task := byteAt e 2, firstK := getLe e 4 4, count := getLe e 8 2 }),
    pubSets := (setEntries b 8).map parseSet, subSets := (setEntries b 9).map parseSet,
    loops := (entries b 0xA 24).map (fun e =>
      { position := byteAt e 0, unit := byteAt e 1, slot := byteAt e 2, type := byteAt e 3, outElement := getLe e 4 2,
        id := w32 (getLe e 8 4), key := w64 (getLe e 16 8) }),
    indicators := (entries b 0xB 16).map (fun e =>
      { index := byteAt e 0, space := byteAt e 1, element := getLe e 2 2, bit := byteAt e 4, levelOn := byteAt e 5,
        levelOff := byteAt e 6, levelBad := byteAt e 7, rowFirst := byteAt e 8, rowLast := byteAt e 9,
        colFirst := byteAt e 10, colLast := byteAt e 11, position := byteAt e 12 }),
    sentences := (sentEntries b).map parseSent, canObjs := (canEntries b).map parseCan,
    polls := ((uartEntries b).filter (fun e => byteAt e 0 = 0)).map parsePoll,
    listens := ((uartEntries b).filter (fun e => byteAt e 0 != 0)).map parseListen }

/-! ## Looking up the image -/

def Image.sizeOf (im : Image) (space : Nat) : Nat :=
  match space with
  | 0 => im.nI | 1 => im.nQ | 2 => im.nM | 3 => im.nT | 4 => im.nC | 5 => im.nE | 6 => im.nV | _ => im.nK

/-- The declaration of a Q, M or V element. -/
def Image.qmvOf (im : Image) (space el : Nat) : Option QDecl :=
  im.qmv.find? (fun q => q.space == space && q.element == el)

def Image.iOf (im : Image) (el : Nat) : IDecl := lget im.iDecl el

/-- The source identity of an element (R39, R40); 0 where it has none. -/
def Image.idOf (im : Image) (space el : Nat) : Word :=
  if space = spI then (im.iOf el).id
  else if space = spK then (lget im.kInit el).id
  else ((im.qmvOf space el).map (·.id)).getD 0

/-- An element is analogue. A K element and an undeclared element count as analogue. -/
def Image.analogue (im : Image) (space el : Nat) : Bool :=
  if space = spI then (im.iOf el).kind == 2
  else if space = spK then true
  else ((im.qmvOf space el).map (fun q => q.kind == 2)).getD true

/-- The declaration of a T, C or E instance. -/
def Image.stateOf (im : Image) (space n : Nat) : Option SDecl :=
  im.stateDecl.find? (fun s => s.space == space && s.instanceNo == n)

/-- The elements that a block writes, by key. -/
def Block.writes (b : Block) : List Nat :=
  (b.code.map decodeWord).filterMap fun i => if isWrite i.op then some (ekey i.space i.element) else none

/-- The I, Q, M, V and K elements that a block reads, by key. -/
def Block.reads (b : Block) : List Nat :=
  (b.code.map decodeWord).filterMap fun i =>
    if i.namesElement && !isEdge i.op && !isTimer i.op && !isCounter i.op && i.op != opMOVW &&
      i.space != spT && i.space != spC then some (ekey i.space i.element) else none

/-- The task that writes a Q, M or V element: a single one by R141. -/
def Image.writerOf (im : Image) (key : Nat) : Option Nat :=
  (im.blocks.find? (fun b => b.writes.contains key)).map (·.task)

/-- The lowest-numbered task whose blocks read an element. -/
def Image.readerOf (im : Image) (key : Nat) : Option Nat :=
  (List.range 8).find? (fun t => im.blocks.any (fun b => b.task == t && b.reads.contains key))

/-- The SUB_SETS entry that names a partner input. -/
def Image.subOf (im : Image) (el : Nat) : Option SetDecl :=
  im.subSets.find? (fun s => s.items.any (fun it => it == (spI, el)))

/-- The I element of SOURCE 9 with its owning task (R166). -/
def Image.partnerOwner (im : Image) (el : Nat) : Option Nat :=
  if (im.iOf el).source = 9 then (im.subOf el).map (·.task) else none

/-- The configuration record that holds a K element (R214). -/
def Image.recordOfK (im : Image) (el : Nat) : Option RecDecl :=
  im.records.find? (fun r => decide (r.firstK ≤ el ∧ el < r.firstK + r.count))

/-! ## The verifier -/

def noDup : List Nat → Bool
  | [] => true
  | x :: xs => !xs.contains x && noDup xs

def rising : List Nat → Bool
  | [] => true
  | [_] => true
  | x :: y :: l => decide (x < y) && rising (y :: l)

/-- The size of an entry of a fixed-size section; 0 for the others. -/
def sectSize (t : Nat) : Nat :=
  match t with
  | 1 => 16 | 2 => 4 | 3 => 16 | 4 => 24 | 5 => 8 | 6 => 16 | 7 => 12 | 0xA => 24 | 0xB => 16
  | _ => 0

/-- Two ranges do not overlap. -/
def apart (a b : Nat × Nat) : Bool := decide (a.1 + a.2 ≤ b.1) || decide (b.1 + b.2 ≤ a.1) || a.2 == 0 || b.2 == 0

def allApart : List (Nat × Nat) → Bool
  | [] => true
  | x :: xs => xs.all (apart x) && allApart xs

/-- The image header, the directory and the placement of sections (R229, Tables 5.7 to 5.9). -/
def structureOk (b : Bytes) : Bool :=
  let ss := sections b
  let ranges := (0, 64 + 16 * ss.length) :: ss.map (fun s => (s.off, s.len))
  let covered := fun i => ranges.any (fun r => decide (r.1 ≤ i ∧ i < r.1 + r.2))
  let left := fun (size : Bytes → Nat) (t : Nat) => (varEntries size (sectCount b t) (sectData b t)).2.isEmpty &&
    (varEntries size (sectCount b t) (sectData b t)).1.all (fun e => e.length == size e)
  decide (64 ≤ b.length) && getLe b 0 2 == 1 && getLe b 8 4 != 0 && decide (2 ≤ getLe b 2 2 ∧ getLe b 2 2 ≤ 14) &&
  (crc32c (b.take 60)).toNat == getLe b 60 4 && byteAt b 7 == 0 && getLe b 56 4 == 0 &&
  decide (byteAt b 5 ≤ 1) && decide (1 ≤ byteAt b 6 ∧ byteAt b 6 ≤ 8) &&
  decide (64 + 16 * ss.length ≤ b.length) &&
  ss.all (fun s => decide (1 ≤ s.type ∧ s.type ≤ 14) && s.resv == 0 && s.off % 8 == 0 &&
    decide (s.off + s.len ≤ b.length) && (sectSize s.type == 0 || s.len == sectSize s.type * s.count)) &&
  noDup (ss.map (·.type)) && allApart ranges &&
  (List.range b.length).all (fun i => covered i || byteAt b i == 0) &&
  sectCount b 1 == getLe b 8 4 && sectCount b 2 == getLe b 12 4 &&
  (sectOf b 1).isSome && (sectOf b 2).isSome &&
  sectCount b 3 == getLe b 16 4 && sectCount b 5 == getLe b 44 4 &&
  left setSize 8 && left setSize 9 && left sentSize 0xC && left canSize 0xD && left uartSize 0xE

/-- Reserved bytes of every entry (Tables 5.10 to 5.19). -/
def reservedOk (b : Bytes) : Bool :=
  (entries b 1 16).all (fun e => decide (byteAt e 1 ≤ 1) && allZero e 12 4) &&
  (entries b 3 16).all (fun e => byteAt e 9 == 0) &&
  (entries b 4 24).all (fun e => decide (byteAt e 2 < 16) && byteAt e 7 == 0) &&
  (entries b 6 16).all (fun e => allZero e 2 2) &&
  (entries b 7 12).all (fun e => byteAt e 3 == 0 && allZero e 10 2) &&
  (setEntries b 8 ++ setEntries b 9).all (fun e => byteAt e 3 == 0 && allZero e 14 2 && allZero e 20 4 &&
    (List.range (getLe e 12 2)).all (fun j => byteAt e (25 + 4 * j) == 0)) &&
  (entries b 0xA 24).all (fun e => allZero e 6 2 && allZero e 12 4) &&
  (entries b 0xB 16).all (fun e => allZero e 13 3) &&
  (sentEntries b).all (fun e => (slice e (12 + byteAt e 11) (80 - byteAt e 11)).all (· == 0) &&
    (List.range (byteAt e 10)).all (fun f => byteAt e (95 + 8 * f) == 0 && allZero e (98 + 8 * f) 2)) &&
  (canEntries b).all (fun e => decide (byteAt e 2 ≤ 1) && decide (byteAt e 3 < 8) && byteAt e 15 == 0 &&
    (List.range (byteAt e 13)).all (fun f => decide (byteAt e (22 + 12 * f) < 8) && allZero e (26 + 12 * f) 2)) &&
  (uartEntries b).all (fun e => if byteAt e 0 = 0 then allZero e 13 3 &&
      (List.range (byteAt e 5)).all (fun r => decide (byteAt e (17 + 4 * r) < 4))
    else byteAt e 0 == 1 && decide (byteAt e 9 < 4))

/-- A valid CAN FD length. -/
def canLenOk (fd : Bool) (n : Nat) : Bool := decide (n ≤ 8) || (fd && [12, 16, 20, 24, 32, 48, 64].contains n)

/-- The fields of an I element declaration (Table 5.11). -/
def iDeclOk (stackSize : Nat) (i : IDecl) : Bool :=
  let hasPos := decide (1 ≤ i.source ∧ i.source ≤ 7) || i.source == 10 || i.source == 11
  let chanMax := match i.source with
    | 1 => 31 | 2 => 31 | 3 => 15 | 4 => 7 | 5 => 7 | 6 => 3 | _ => 0
  decide (i.kind ≤ 2) && decide (i.source ≤ 11) && decide (i.channel ≤ chanMax) &&
  (if hasPos then decide (i.position < stackSize) else i.position == 0) &&
  (if i.source = 9 then decide (i.policy ≤ 2) && (i.policy == 0 || i.holdLimit == 0) &&
      (i.policy != 0 || i.policyValue == 0)
   else i.policy == 0 && i.holdLimit == 0 && i.policyValue == 0) &&
  (i.kind != 0 || (i.source == 0 && i.id == 0))

/-- The fields of a Q, M or V element declaration (Table 5.12). -/
def qDeclOk (im : Image) (q : QDecl) : Bool :=
  let drives := q.flags.getLsbD 2 || q.flags.getLsbD 3
  [spQ, spM, spV].contains q.space && (q.kind == 1 || q.kind == 2) &&
  (!q.flags.getLsbD 0 || q.space != spQ) && (!q.flags.getLsbD 1 || q.space == spQ) &&
  (!drives || q.space == spQ) && !(q.flags.getLsbD 2 && q.flags.getLsbD 3) &&
  decide (q.channel ≤ if q.flags.getLsbD 2 then 31 else if q.flags.getLsbD 3 then 7 else 0) &&
  (if drives then decide (q.position < im.stackSize) else q.position == 0) &&
  decide (q.element < im.sizeOf q.space)

/-- Every Q, M or V element that a section names is declared. -/
def declared (im : Image) (space el : Nat) : Bool :=
  !([spQ, spM, spV].contains space) || (im.qmvOf space el).isSome

/-- INDEX beyond the declared size of the space, or unused INDEX bits that are not 0 (R103, R109, R110). -/
def indexBad (im : Image) (i : IWord) : Bool :=
  if i.op = opLD && i.imm then decide (1 < i.index)
  else if i.imm || i.op = opCMPI then false
  else if isBitOp i.op then
    (if i.space = spT then decide (im.nT ≤ i.index)
     else if i.space = spC then decide (2 * im.nC ≤ i.index)
     else decide (32 * im.sizeOf i.space ≤ i.index))
  else if i.namesElement then decide (im.sizeOf i.space ≤ i.index)
  else if i.op = opJMP then decide (2 ^ 11 ≤ i.index)
  else if i.op = opQUAL && i.mod = 3 then decide (2 ^ 8 ≤ i.index)
  else i.index != 0

/-- An instruction whose space and index are in order, so that the element or instance it names must be declared; one
that is not has a finding of its own (R142: each fault under one code). -/
def usesWell (im : Image) (i : IWord) : Bool :=
  i.namesElement && opListed i.op && (spacesOf i).contains i.space && !indexBad im i

def taskBit (im : Image) (t : Nat) : Bool := decide (t < 8) && im.tasks.getLsbD t

/-- A multicast group of a published set (R343). -/
def groupOk (g : Word) : Bool := decide (0xEFC20100 ≤ g.toNat ∧ g.toNat ≤ 0xEFC2FFFF)

/-- The fields and cross-references of every section but the sizes and counts of R142 (R230). -/
def fieldsOk (im : Image) : Bool :=
  let words := im.blocks.flatMap (fun bl => bl.code.map decodeWord)
  im.blocks.all (fun bl => decide (bl.task < 8) && taskBit im bl.task &&
    (decide (bl.group < 4096) || bl.group == 0xFFFF) &&
    (bl.hasRecord == (bl.record != 0xFFFF)) &&
    (!bl.hasRecord || im.records.any (fun r => r.record == bl.record && r.task == bl.task))) &&
  im.iDecl.all (iDeclOk im.stackSize) &&
  (List.range im.iDecl.length).all (fun i => (im.iOf i).source != 9 ||
    ((im.subSets.flatMap (·.items)).filter (fun it => it == (spI, i))).length == 1) &&
  im.qmv.all (qDeclOk im) && rising (im.qmv.map (fun q => ekey q.space q.element)) &&
  im.stateDecl.all (fun s => [spT, spC, spE].contains s.space && decide (s.mode ≤ if s.space = spC then 0 else 2) &&
    decide (s.instanceNo < im.sizeOf s.space)) &&
  rising (im.stateDecl.map (fun s => ekey s.space s.instanceNo)) &&
  noDup (im.qmv.map (fun q => q.key.toNat * 8 + q.space)) && noDup (im.stateDecl.map (fun s => s.key.toNat * 8 + s.space)) &&
  noDup (im.loops.map (fun l => l.key.toNat * 2 + l.type)) &&
  im.records.all (fun r => decide (r.record < 4096) && taskBit im r.task && decide (1 ≤ r.count ∧ r.count ≤ 256) &&
    decide (r.firstK + r.count ≤ im.nK)) &&
  rising (im.records.map (·.record)) &&
  noDup (im.pubSets.map (·.setNo)) && noDup (im.subSets.map (fun s => s.partner.toNat * 65536 + s.setNo)) &&
  im.pubSets.all (fun s => decide (s.setNo ≤ 255) && taskBit im s.task && s.partner == 0 && groupOk s.group &&
    decide (1 ≤ s.items.length) &&
    s.items.all (fun it => [spQ, spM, spV].contains it.1 && declared im it.1 it.2)) &&
  im.subSets.all (fun s => decide (s.setNo ≤ 255) && taskBit im s.task && s.partner != 0 && s.partner != 0xFFFFFFFF &&
    s.group == 0 && decide (1 ≤ s.items.length) &&
    s.items.all (fun it => it.1 == spI && decide (it.2 < im.nI) && (im.iOf it.2).source == 9)) &&
  im.loops.all (fun l => decide (l.position < im.stackSize) && decide (l.unit < 8) && decide (l.slot < 32) &&
    decide (l.type ≤ 1) && decide (l.outElement < im.nI) && (im.iOf l.outElement).source == 7 &&
    (im.iOf l.outElement).position == l.position && (im.iOf l.outElement).id == l.id) &&
  noDup (im.loops.map (fun l => (l.position * 8 + l.unit) * 32 + l.slot)) && noDup (im.loops.map (·.outElement)) &&
  im.indicators.all (fun n => decide (n.index < 64) && (n.space == spQ || n.space == spM) &&
    declared im n.space n.element && !im.analogue n.space n.element && decide (n.bit < 32) &&
    decide (n.levelOn < 4 ∧ n.levelOff < 4 ∧ n.levelBad < 4) &&
    decide (n.rowFirst ≤ n.rowLast ∧ n.rowLast < 64 ∧ n.colFirst ≤ n.colLast ∧ n.colLast < 128) &&
    decide (n.position < im.stackSize)) &&
  noDup (im.indicators.map (fun n => n.position * 64 + n.index)) &&
  decide (im.sentences.length ≤ 64) && noDup (im.sentences.map (·.index)) &&
  im.sentences.all (fun x => decide (x.index < 64) && taskBit im x.task &&
    decide (1 ≤ x.repeatEvery ∧ x.repeatEvery ≤ 1000) && decide (x.group.toNat / 2 ^ 28 = 14) &&
    decide (6 ≤ x.text.length ∧ x.text.length ≤ 76) && decide (x.binds.length ≤ 16) &&
    x.binds.all (fun f => decide (1 ≤ f.position) && decide (f.format ≤ 4) && [spQ, spM, spV].contains f.space &&
      declared im f.space f.element)) &&
  im.canObjs.all (fun x => decide (x.position < im.stackSize) && decide (x.ctrl < 4) && canLenOk x.fd x.length &&
    decide (1 ≤ x.fields.length ∧ x.fields.length ≤ 8) && decide (x.id < if x.extended then 2 ^ 29 else 2 ^ 11) &&
    (if x.transmit then x.mask == 0 && taskBit im x.task && decide (1 ≤ x.period ∧ x.period ≤ 1000)
     else x.task == 0 && decide (1 ≤ x.period ∧ x.period ≤ 60000)) &&
    x.fields.all (fun f => [1, 2, 4].contains f.size && decide (f.offset + f.size ≤ x.length) &&
      (if x.transmit then [spQ, spM, spV].contains f.space && declared im f.space f.element
       else f.space == spI && decide (f.element < im.nI) && (im.iOf f.element).source == 10 && f.substitute == 0))) &&
  (List.range 8).all (fun p => (List.range 4).all (fun c =>
    decide ((im.canObjs.filter (fun x => x.position == p && x.ctrl == c && x.transmit)).length ≤ 64) &&
    decide ((im.canObjs.filter (fun x => x.position == p && x.ctrl == c && !x.transmit)).length ≤ 64))) &&
  im.polls.all (fun x => decide (x.position < im.stackSize) && decide (x.uart < 2) &&
    decide (1 ≤ x.slave ∧ x.slave ≤ 247) && [3, 4, 6, 16].contains x.function &&
    decide (1 ≤ x.regs.length ∧ x.regs.length ≤ 64) && (x.function != 6 || x.regs.length == 1) &&
    decide (1 ≤ x.period ∧ x.period ≤ 60000) && taskBit im x.task &&
    x.regs.all (fun r => if x.function ≤ 4 then r.space == spI && decide (r.element < im.nI) &&
        (im.iOf r.element).source == 11
      else [spQ, spM, spV].contains r.space && declared im r.space r.element)) &&
  im.listens.all (fun x => decide (x.position < im.stackSize) && decide (x.uart < 2) &&
    decide (1 ≤ x.field ∧ x.field ≤ 40) && !(x.analogue && x.letter) && decide (x.element < im.nI) &&
    (im.iOf x.element).source == 11 && decide (100 ≤ x.timeout ∧ x.timeout ≤ 60000)) &&
  (List.range 8).all (fun p => (List.range 2).all (fun u =>
    decide ((im.polls.filter (fun x => x.position == p && x.uart == u)).length ≤ 64) &&
    decide ((im.listens.filter (fun x => x.position == p && x.uart == u)).length ≤ 32))) &&
  words.all (fun i => !usesWell im i || (declared im i.space i.element &&
    (!([spT, spC, spE].contains i.space) || (im.stateOf i.space i.element).isSome))) &&
  words.all (fun i => !isTimer i.op || (im.stateOf spT i.index).all (fun s => s.mode == i.op - opTON))

/-- The ranges of two blocks' words never overlap and lie in CODE (Table 5.10). -/
def codeRangesOk (b : Bytes) : Bool :=
  let rs := (entries b 1 16).map (fun e => (getLe e 4 4, getLe e 8 2))
  allApart rs && rs.all (fun r => decide (r.1 + r.2 ≤ sectCount b 2))

/-- BLOCKS, and the sizes of I, Q, M, T, C, E, V and K, beyond the limits of Tables 3.2 and 3.10 (Table 5.7). -/
def headerLimits (b : Bytes) : Bool :=
  [(8, 65536), (16, 16384), (20, 16384), (24, 32768), (28, 65536), (32, 65536), (36, 262144), (40, 65536), (44, 65536)].any
    (fun (x : Nat × Nat) => decide (x.2 < getLe b x.1 4))

/-- IMAGE_LIMIT (0x14): the limits of Tables 3.2 and 3.10 and of R354. -/
def limitsBad (b : Bytes) (im : Image) : Bool :=
  headerLimits b || decide (256 < im.pubSets.length) || decide (256 < im.subSets.length) ||
    (im.pubSets ++ im.subSets).any (fun s => decide (1024 < s.items.length))

/-- The identities of the value sources of an image (R40). -/
def sourceIds (im : Image) : List Nat :=
  (im.iDecl.filter (fun i => i.kind != 0 && i.source != 8 && i.source != 0)).map (·.id.toNat) ++
    im.qmv.map (·.id.toNat) ++ im.kInit.map (·.id.toNat)

/-- SOURCE_IDENTITY (0x11): R40. -/
def identityBad (im : Image) : Bool :=
  let ids := sourceIds im
  let stackIds := (im.iDecl.filter (fun i => i.kind != 0 && i.source == 8)).map (·.id.toNat)
  let all := ids ++ stackIds ++ im.loops.map (·.id.toNat)
  !noDup ids || all.any (fun x => x == 0 || x == 0xFFFFFFFF) ||
    stackIds.any (fun x => !(im.qmv.map (·.id.toNat)).contains x)

/-- The branch depth before instruction n on the fall-through path (R114). A BC at depth 0, which has its own finding,
leaves it at 0 (log entry 111). -/
def depthAt (ws : List IWord) (n : Nat) : Nat :=
  (ws.take n).foldl (fun a i => if isOpen i.op then a + 1 else if i.op = opBC then a - 1 else a) 0

/-- ELEMENT_KIND (R105). -/
def kindBad (im : Image) (i : IWord) : Bool :=
  i.namesElement && i.space == spI && decide (i.element < im.nI) &&
    (let k := (im.iOf i.element).kind
     k == 0 || (isBitOp i.op && k == 2) || (!isBitOp i.op && k == 1))

/-- The findings of instruction n of block b (Table 3.11). -/
def instrFindings (im : Image) (b : Nat) (ws : List IWord) (n : Nat) : List Finding :=
  let i := lget ws n
  let f := fun (c : Nat) (bad : Bool) => if bad then [(⟨BitVec.ofNat 8 c, b, n⟩ : Finding)] else []
  let ro := isWrite i.op && (i.space == spI || i.space == spK)
  let immSp := i.imm && i.space != spK
  let depth := depthAt ws n
  if !opListed i.op then f 0x01 true
  else
    f 0x02 i.modBad ++ f 0x05 immSp ++ f 0x0D ro ++
    f 0x03 (!ro && !immSp && !(spacesOf i).contains i.space) ++
    f 0x04 ((spacesOf i).contains i.space && indexBad im i) ++
    f 0x06 (i.op == opJMP && (decide (i.index % 2048 ≤ n) || decide (ws.length ≤ i.index % 2048))) ++
    f 0x07 (i.op == opJMP && decide (n < i.index % 2048 ∧ i.index % 2048 < ws.length) &&
      depthAt ws (i.index % 2048) != depth) ++
    f 0x08 (isOpen i.op && decide (16 ≤ depth)) ++
    f 0x09 (i.op == opBC && depth == 0) ++
    f 0x0A (i.op == opEND && depth != 0) ++
    f 0x0B (isOpen i.op && !(lget ws (n + 1)).isLoad) ++
    f 0x12 (i.op == opQUAL && i.mod == 3 && decide (i.index < 256) && !qListed (BitVec.ofNat 8 i.index)) ++
    f 0x13 (kindBad im i)

/-- Every use of T, C and E instances: block, instruction, space, instance and opcode. -/
def stateUses (im : Image) : List (Nat × Nat × Nat × Nat × Nat) :=
  (List.range im.blocks.length).flatMap fun b =>
    let ws := (lget im.blocks b).code.map decodeWord
    (List.range ws.length).filterMap fun n =>
      let i := lget ws n
      if (isTimer i.op || isCounter i.op || isEdge i.op) && usesWell im i then some (b, n, i.space, i.index, i.op) else none

/-- STATE_SHARED (0x0E): a T or E instance used twice, or counter instructions that break R126 (R141). -/
def sharedFindings (im : Image) : List Finding :=
  let us := stateUses im
  us.filterMap fun (b, n, sp, k, op) =>
    let others := us.filter (fun u => u.2.2.1 == sp && u.2.2.2.1 == k && decide (u.1 < b ∨ (u.1 = b ∧ u.2.1 < n)))
    let bad :=
      if sp = spC then
        others.any (fun u => u.1 != b || u.2.2.2.2 == op ||
          ((op == opCRST || op == opCLD) && (u.2.2.2.2 == opCTU || u.2.2.2.2 == opCTD)))
      else !others.isEmpty
    if bad then some ⟨0x0E, b, n⟩ else none

/-- The first use that brings a count of distinct things above its limit; a use is an instruction and what it uses. -/
def firstOver (limit : Nat) : List Nat → List (Nat × Nat) → Option Nat
  | _, [] => none
  | seen, (n, k) :: l =>
    let seen := if seen.contains k then seen else k :: seen
    if limit < seen.length then some n else firstOver limit seen l

/-- The uses of T, C or E instances, or of I, Q, M, V and K elements, in a block. -/
def usesIn (im : Image) (ws : List IWord) (p : IWord → Bool) : List (Nat × Nat) :=
  (List.range ws.length).filterMap fun n =>
    let i := lget ws n
    if usesWell im i && p i then some (n, ekey i.space i.element) else none

/-- The findings of block b as a whole: each names the block's last instruction where that is not END, no
instruction where LENGTH is out of range (0x0C), and the one with which a limit of Table 3.10 is exceeded (0x0F) (log
entry 111). -/
def blockFindings (im : Image) (b : Nat) : List Finding :=
  let ws := (lget im.blocks b).code.map decodeWord
  let most := fun (limit : Nat) (p : IWord → Bool) =>
    ((firstOver limit [] (usesIn im ws p)).map (fun n => (⟨0x0F, b, n⟩ : Finding))).toList
  let outside := ws.length == 0 || decide (2048 < ws.length)
  (if outside then [⟨0x0C, b, 0xFFFF⟩] else if (lget ws (ws.length - 1)).op != opEND then [⟨0x0C, b, ws.length - 1⟩] else []) ++
  most 32 (fun i => isTimer i.op) ++ most 32 (fun i => isCounter i.op) ++ most 256 (fun i => isEdge i.op) ++
  most 1024 (fun i => [spI, spQ, spM, spV, spK].contains i.space) ++
  (List.range ws.length).flatMap (instrFindings im b ws)

/-- WRITER_TASKS (0x10): a write of an element that a block of another task class writes before it (R141). -/
def writerFindings (im : Image) : List Finding :=
  (List.range im.blocks.length).flatMap fun b =>
    let bl := lget im.blocks b
    let ws := bl.code.map decodeWord
    (List.range ws.length).filterMap fun n =>
      let i := lget ws n
      if isWrite i.op && usesWell im i && (im.writerOf (ekey i.space i.element)).any (fun t => t != bl.task) then
        some ⟨0x10, b, n⟩ else none

/-- The findings of the image verifier on a container (R142). -/
def verify (container : Bytes) : List Finding :=
  let b := container.drop 192
  let wide := fun (c : Nat) (bad : Bool) => if bad then [(⟨BitVec.ofNat 8 c, 0, 0xFFFF⟩ : Finding)] else []
  if !structureOk b then
    wide 0x15 true ++ wide 0x14 (decide (64 ≤ b.length) && (crc32c (b.take 60)).toNat == getLe b 60 4 && getLe b 0 2 == 1 &&
      headerLimits b)
  else
    let im := parseImage container
    wide 0x15 (!reservedOk b || !fieldsOk im || !codeRangesOk b) ++ wide 0x14 (limitsBad b im) ++
      wide 0x11 (identityBad im) ++ sharedFindings im ++ writerFindings im ++
      (List.range im.blocks.length).flatMap (blockFindings im)

end Sys2Proof.Machine
end

