-- ==== Sys2Proof/Machine/Mailbox.lean ====
section
/-!
DEFINITION. Machine/Mailbox.lean: mailbox channels and the network queue (R64 to R79, R602, R604): accepting a
command, the order of its checks, its response, and the four rows of the handshake.
-/

namespace Sys2Proof.Machine

open Sys2Proof

/-! ## Layout -/

/-- Channel n's command and response buffers (Table 2.3). -/
def cmdBuf (n : Nat) : Nat := 0x10000 + n * 0x2000
def respBuf (n : Nat) : Nat := 0x11000 + n * 0x2000

/-- Fields of the command header (Table 2.15). -/
def hdrCode (h : Bytes) : Nat := getLe h 0 2
def hdrFlags (h : Bytes) : Nat := getLe h 2 1
def hdrTag (h : Bytes) : Nat := getLe h 3 1
def hdrLength (h : Bytes) : Nat := getLe h 4 2
def hdrReserved (h : Bytes) : Nat := getLe h 6 2
def hdrSeq (h : Bytes) : Word := BitVec.ofNat 32 (getLe h 8 4)
def hdrCrc (h : Bytes) : Nat := getLe h 12 4

/-- The CRC of R65: the header with bytes 12 to 15 as zero, then the payload. -/
def mbxCrc (h payload : Bytes) : Word := crc32c (h.take 12 ++ zeros 4 ++ payload)

/-- The response header (Table 2.16) and payload, as bytes. -/
def respBytes (h : Bytes) (st : Half) (payload : Bytes) : Bytes :=
  let head := leBytes 2 (hdrCode h) ++ leBytes 1 1 ++ leBytes 1 (hdrTag h) ++ leBytes 2 payload.length ++
    leBytes 2 st.toNat ++ leBytes 4 (hdrSeq h).toNat
  head ++ leBytes 4 (mbxCrc (head ++ zeros 4) payload).toNat ++ payload

/-- Every command code of the manual's classes. -/
def listedCodes : List Nat :=
  (List.range 5).map (0x0100 + ·) ++ (List.range 9).map (0x0200 + ·) ++ (List.range 5).map (0x0300 + ·) ++
  (List.range 6).map (0x0400 + ·) ++ (List.range 7).map (0x0500 + ·) ++ (List.range 4).map (0x0600 + ·) ++
  (List.range 7).map (0x0700 + ·) ++ (List.range 6).map (0x0800 + ·) ++ (List.range 4).map (0x0900 + ·) ++
  (List.range 7).map (0x0A00 + ·) ++ (List.range 6).map (0x0B00 + ·) ++ (List.range 4).map (0x0C00 + ·) ++
  (List.range 3).map (0x0D00 + ·)

/-! ## Jobs -/

/-- The command at an origin: the channel's, or the one at the head of the network queue (R72, R78). -/
def Dev.job (d : Dev) : Origin → Option Job
  | .ch n => (vget d.mbx.chans n).job
  | .net => d.mbx.netQueue.head?.map (·.job)

def setChan (n : Nat) (f : Chan → Chan) (d : Dev) : Dev :=
  { d with mbx := { d.mbx with chans := vmod d.mbx.chans n f } }

/-- The command at an origin changed. -/
def setJob (o : Origin) (j : Job) (d : Dev) : Dev :=
  match o with
  | .ch n => setChan n (fun c => { c with job := some j }) d
  | .net =>
    match d.mbx.netQueue with
    | [] => d
    | q :: qs => { d with mbx := { d.mbx with netQueue := { q with job := j } :: qs } }

/-- The response of the command at an origin, where it has begun and has none yet. -/
def respond (o : Origin) (st : Half) (payload : Bytes) (d : Dev) : Dev :=
  match d.job o with
  | some j => if j.started && j.resp.isNone then setJob o { j with resp := some ⟨st, payload⟩ } d else d
  | none => d

/-- The response to whoever waits. -/
def respondTo (w : Waiter) (st : Half) (payload : Bytes) (d : Dev) : Dev :=
  match w with
  | some o => respond o st payload d
  | none => d

/-- How a command's effect answers: OK with a payload, a status, or later. -/
inductive Reply where
  | ok (payload : Bytes)
  | fail (st : Half)
  | later
  deriving DecidableEq, Repr

def reply (o : Origin) (r : Reply) (d : Dev) : Dev :=
  match r with
  | .ok p => respond o stOk p d
  | .fail st => respond o st [] d
  | .later => d

/-! ## The checks of a command (R66) -/

/-- The codes that RECOVERY serves (R566): the 0x01xx commands, SETTINGS_READ and FUSE_READ. -/
def recoveryServes (code : Nat) : Bool := code / 256 == 1 || code == 0x0C00 || code == 0x0C02

/-- Checks 5 to 7 that every command shares: FLAGS, the addressed block, RECOVERY and R79. -/
def commonTests (o : Origin) (code : Nat) (absent : Bool) (h : Bytes) (d : Dev) : List (Bool × Half) :=
  [ (hdrFlags h != 0, stBadParam),
    (absent, stNotPresent),
    (d.sys.recovery && !recoveryServes code, stNotPermitted),
    (o == .net && (code == 0x0C03 || code / 256 == 0x0D), stNotPermitted) ]

/-- The command at the origin, if it is this one and has not begun. -/
def Dev.due (d : Dev) (o : Origin) (code : Nat) : Option Job :=
  match d.job o with
  | some j => if hdrCode j.header = code && !j.started && j.resp.isNone then some j else none
  | none => none

def startJob (o : Origin) (j : Job) (d : Dev) : Dev := setJob o { j with started := true } d

/-- A command runs: its checks in the order of R66, then its effect. Nothing happens where the command at the origin is
another one or has begun (log entry 8). -/
def runCmd (s : State) (o : Origin) (code : Nat) (absent : Dev → Bytes → Bool)
    (tests : Mems → Dev → Bytes → List (Bool × Half)) (act : Mems → Dev → Bytes → Dev × Reply) :
    Host.Outcome State Fault Refusal :=
  nextR s fun m d =>
    match d.due o code with
    | none => d
    | some j =>
      let d := startJob o j d
      match firstFail (commonTests o code (absent d j.payload) j.header d ++ tests m d j.payload) with
      | some st => respond o st [] d
      | none => reply o (act m d j.payload).2 (act m d j.payload).1

/-- A command that also writes addressed memory. -/
def runCmdM (s : State) (o : Origin) (code : Nat) (absent : Dev → Bytes → Bool)
    (tests : Mems → Dev → Bytes → List (Bool × Half)) (act : Mems → Dev → Bytes → (Dev × Mems) × Reply) :
    Host.Outcome State Fault Refusal :=
  nextM s fun m d =>
    match d.due o code with
    | none => (d, m)
    | some j =>
      let d := startJob o j d
      match firstFail (commonTests o code (absent d j.payload) j.header d ++ tests m d j.payload) with
      | some st => (respond o st [] d, m)
      | none =>
        let r := act m d j.payload
        (reply o r.2 r.1.1, r.1.2)

/-- Every block is present. -/
def always : Dev → Bytes → Bool := fun _ _ => false

/-- LENGTH matches the layout (check 8). -/
def lenIs (p : Bytes) (n : Nat) : Bool × Half := (p.length != n, stBadLength)

/-- Reserved bytes that are not 0 (the reserved test of R66). -/
def resv (p : Bytes) (l : List (Nat × Nat)) : Bool × Half := (l.any (fun r => !allZero p r.1 r.2), stBadParam)

/-! ## Accepting a command -/

/-- Checks 1 to 3 of R66 on the copy of a host command (R67). -/
def acceptTests (last : Option Word) (h payload : Bytes) : Option Half :=
  firstFail [
    (decide (4080 < hdrLength h) || hdrReserved h != 0, stBadLength),
    (hdrCrc h != (mbxCrc h payload).toNat, stCheckFailed),
    (last == some (hdrSeq h), stStale) ]

/-- A RING on a channel (Table 2.17, R604): ignored with DB_IGNORED while CLOSED or BUSY, MBX_OVERFLOW while BUSY,
else the command is copied and the channel is BUSY. -/
def ring (n : Nat) (m : Mems) (d : Dev) : Dev :=
  let c := vget d.mbx.chans n
  match c.state with
  | .closed => setChan n (fun c => { c with dbIgnored := true }) d
  | .busy => raise .mbxOverflow n (setChan n (fun c => { c with dbIgnored := true }) d)
  | _ =>
    let h := Memory.readN 0 m.bufs (cmdBuf n) 16
    let payload := Memory.readN 0 m.bufs (cmdBuf n + 16) (min (hdrLength h) 4080)
    let t := acceptTests c.lastSeq h payload
    let passed := !(t == some stBadLength || t == some stCheckFailed)
    setChan n (fun c => { c with
      state := .busy, tag := BitVec.ofNat 8 (hdrTag h), result := 0, respLen := 0
      lastSeq := if passed then some (hdrSeq h) else c.lastSeq
      job := some { header := h, payload := payload, resp := t.map (fun st => ⟨st, []⟩), started := t.isSome } }) d

/-- A RELEASE on a channel: DONE returns to IDLE (Table 2.17). -/
def release (n : Nat) (d : Dev) : Dev :=
  match (vget d.mbx.chans n).state with
  | .done => setChan n (fun c => { c with state := .idle, result := 0, respLen := 0 }) d
  | _ => d

/-- A write to MBX_n_DOORBELL: RELEASE before RING (R69). -/
def doorbell (n : Nat) (v : Nat) (m : Mems) (d : Dev) : Dev :=
  let d := if v.testBit 1 then release n d else d
  if v.testBit 0 then ring n m d else d

/-! ## The network queue -/

/-- The installed key of an index in the active generation (Table 14.6). -/
def Dev.hmacKey (d : Dev) (i : Nat) : Option Bytes :=
  match d.otp.keys with
  | none => none
  | some k => if i < 8 && k.hmacPresent.getLsbD i then some (lget k.hmac i) else none

/-- The unique ID, least significant byte first (R75). -/
def Dev.uidBytes (d : Dev) : Bytes := leBytes 16 d.sys.uid.toNat

/-- A response over the network: with its trailer (R77), without one for AUTH_FAILED (R76) and where the key that the
command named is not installed (log entry 9). -/
def netRespond (ip : Word) (port key : Nat) (epoch : Word) (h : Bytes) (st : Half) (payload : Bytes) (d : Dev) : Dev :=
  let r := respBytes h st payload
  let tr := leBytes 1 key ++ zeros 3 ++ leBytes 4 epoch.toNat
  let block := match (if st = stAuthFailed then none else d.hmacKey key) with
    | some k => r ++ tr ++ hmac k (d.uidBytes ++ r ++ tr)
    | none => r
  stationSend ip port 0x21 block d

/-- A failed authentication: MBX_AUTH_FAIL, and a response at most once per second per source (R76). -/
def authFailed (ip : Word) (port key : Nat) (epoch : Word) (h : Bytes) (d : Dev) : Dev :=
  let d := raise .mbxAuthFail ip.toNat d
  match mget d.mbx.authFailAt ip.toNat with
  | some t =>
    if d.tick < t + 20000 then d
    else netRespond ip port key epoch h stAuthFailed []
      { d with mbx := { d.mbx with authFailAt := mput d.mbx.authFailAt ip.toNat d.tick } }
  | none => netRespond ip port key epoch h stAuthFailed []
      { d with mbx := { d.mbx with authFailAt := mput d.mbx.authFailAt ip.toNat d.tick } }

/-- A mailbox block from the network: checks 1 and 2, MAC (R76), check 3 by epoch and sequence (R74, R558), then the
queue (R78). A block too short for header and trailer is discarded. -/
def netCommand (ip : Word) (port : Nat) (block : Bytes) (d : Dev) : Dev :=
  if block.length < 56 then countDiscard d
  else if 16 ≤ d.mbx.netQueue.length then raise .mbxOverflow 0xFF d
  else
    let h := block.take 16
    let payload := slice block 16 (block.length - 56)
    let tr := slice block (block.length - 40) 8
    let mac := block.drop (block.length - 32)
    let key := byteAt tr 0
    let epoch : Word := BitVec.ofNat 32 (getLe tr 4 4)
    let fail := fun st => netRespond ip port key epoch h st [] d
    if 4080 < hdrLength h || hdrReserved h != 0 || hdrLength h != payload.length then fail stBadLength
    else if hdrCrc h != (mbxCrc h payload).toNat then fail stCheckFailed
    else match d.hmacKey key with
      | none => authFailed ip port key epoch h d
      | some k =>
        if hmac k (d.uidBytes ++ h ++ payload ++ tr) != mac || !allZero tr 1 3 then authFailed ip port key epoch h d
        else if !d.pwr.epochValid || epoch != d.pwr.bootEpoch || !seqGreater (hdrSeq h) (vget d.mbx.netSeq key) then
          fail stStale
        else { d with mbx := { d.mbx with
                netSeq := vset d.mbx.netSeq key (hdrSeq h)
                netQueue := d.mbx.netQueue ++ [{ job := { header := h, payload := payload }, srcIp := ip,
                                                 srcPort := port, key := key, epoch := epoch }] } }

/-! ## Completion -/

/-- An OTP write no longer answers a command of an origin. -/
def otpDropWait (o : Origin) : OtpWrite → OtpWrite
  | .settings n c x => .settings n c (if x = some o then none else x)
  | .keys n c x => .keys n c (if x = some o then none else x)
  | .repair n c k x => .repair n c k (if x = some o then none else x)

/-- Every operation that would answer a command of an origin forgets it: the command has completed. -/
def dropWaits (o : Origin) (d : Dev) : Dev :=
  let p := d.prog
  let p := { p with
    writePend := p.writePend.map (fun w => if w.waiter = some o then { w with waiter := none } else w)
    recCommitWaiter := if p.recCommitWaiter = some o then none else p.recCommitWaiter
    stopWaiters := p.stopWaiters.filter (fun w => w.1 != o) }
  let d := { d with prog := p }
  let d := { d with loops := d.loops.map (fun (u : LoopUnit) =>
    { u with waiters := u.waiters.filter (fun w => w.1 != o) }) }
  let d := { d with ana := { d.ana with capture := d.ana.capture.filter (fun c => c.waiter != o) } }
  let d := { d with otp := { d.otp with write := d.otp.write.map (otpDropWait o) } }
  let d := { d with rtc := { d.rtc with waiter := if d.rtc.waiter = some o then none else d.rtc.waiter } }
  let p := d.panel
  let mine := p.exchange == some o
  { d with panel := { p with
    exchange := if mine then none else p.exchange
    locked := p.locked && !mine
    retainWait := if p.retainWait = some o then none else p.retainWait } }

/-- The device writes the response and the channel is DONE (R71), or sends it over the network. -/
def finish (o : Origin) (j : Job) (st : Half) (payload : Bytes) (m : Mems) (d : Dev) : Dev × Mems :=
  let d := dropWaits o d
  match o with
  | .ch n =>
    let b := respBytes j.header st payload
    (setChan n (fun c => { c with
      state := .done, result := st, respLen := BitVec.ofNat 13 b.length, job := none }) d,
     { m with bufs := Memory.writeN 0 m.bufs (respBuf n) b })
  | .net =>
    match d.mbx.netQueue with
    | [] => (d, m)
    | q :: qs =>
      (netRespond q.srcIp q.srcPort q.key q.epoch j.header st payload
        { d with mbx := { d.mbx with netQueue := qs } }, m)

/-- A command completes (R71, Table 2.19): with the response it has; with TIMEOUT where it waits on an external party;
with INTERNAL, before it has begun, and FW_FAULT with its code. -/
def complete (o : Origin) (k : Completion) (m : Mems) (d : Dev) : Dev × Mems :=
  match d.job o with
  | none => (d, m)
  | some j =>
    match k, j.resp with
    | .normal, some r => finish o j r.status r.payload m d
    | .timeout, none => if j.started then finish o j stTimeout [] m d else (d, m)
    | .internal, none =>
      if j.started then (d, m) else finish o j stInternal [] m (raise .fwFault (hdrCode j.header) d)
    | _, _ => (d, m)

/-! ## Rows -/

/-- MBX_RING (R604). -/
def execMbxRing (n : Fin 8) (s : State) : Host.Outcome State Fault Refusal := nextR s (ring n)

/-- MBX_RELEASE (R69): RELEASE, and RING in the same write where `again` is set. -/
def execMbxRelease (n : Fin 8) (again : Bool) (s : State) : Host.Outcome State Fault Refusal :=
  nextR s (doorbell n (2 + b2n again))

/-- MBX_COMMAND_COMPLETE (R71). -/
def execMbxCommandComplete (o : Origin) (k : Completion) (s : State) : Host.Outcome State Fault Refusal :=
  nextM s (complete o k)

/-- UNKNOWN_COMMAND (R17): check 4 of R66. -/
def execUnknownCommand (o : Origin) (s : State) : Host.Outcome State Fault Refusal :=
  nextD s fun d =>
    match d.job o with
    | none => d
    | some j =>
      if listedCodes.contains (hdrCode j.header) || j.started || j.resp.isSome then d
      else respond o stBadCommand [] (startJob o j d)

/-- MAILBOX_CMD_RECEIVED (R76): a MAILBOX_CMD datagram (R345, R355), taken while firmware serves the network. -/
def execMailboxCmdReceived (ip : Word) (port : Half) (data : Bytes) (s : State) : Host.Outcome State Fault Refusal :=
  nextD s fun d =>
    if !d.sys.fwReady || d.sys.recovery then d
    else withStation 0x20 data d fun h =>
      if d.ownPartner h then netCommand ip port.toNat h.payload d else countDiscard d

end Sys2Proof.Machine
end

