-- ==== Sys2Proof/Machine/Pair.lean ====
section
/-!
DEFINITION. Machine/Pair.lean: frames on the Gligil ports (R367, R369, Table 9.9) and messages on the pair path
(R388, R391, R392), and the forwarding of accepted commands to the standby (R389).
-/

namespace Sys2Proof.Machine

open Sys2Proof

/-- A change of the retentive configuration area is saved within 1 s (R573). -/
def confChanged (d : Dev) : Dev := { d with pwr := { d.pwr with confDirty := true } }

/-! ## Gligil frames -/

/-- Ports of the Gligil link. -/
def glA : Nat := 0
def glB : Nat := 1
def glP : Nat := 2

/-- The frame of Table 9.9 around a payload, with its CRC-32C. -/
def glFrame (type cls src dst : Nat) (seq : Half) (payload : Bytes) : Bytes :=
  let body := beBytes 1 type ++ beBytes 1 cls ++ beBytes 1 src ++ beBytes 1 dst ++ beBytes 2 seq.toNat ++
    beBytes 2 payload.length ++ payload
  body ++ beBytes 4 (crc32c body).toNat

/-- SEQ of a class: one per sender and class (Table 9.9). -/
def glSeq (cls : Nat) (g : Gl) : Half :=
  match cls with
  | 0 => g.seq0
  | 1 => g.seq1
  | _ => g.seq2

def glSeqNext (cls : Nat) (g : Gl) : Gl :=
  match cls with
  | 0 => { g with seq0 := g.seq0 + 1 }
  | 1 => { g with seq1 := g.seq1 + 1 }
  | _ => { g with seq2 := g.seq2 + 1 }

/-- The ring port of the shorter direction to a position (R369): A leads to position + 1. -/
def Dev.ringPort (d : Dev) (dst : Nat) : Nat :=
  let s := max 1 d.otp.settings.stackSize
  if (dst + s - d.sys.stackPos.toNat) % s * 2 ≤ s then glA else glB

/-- One frame leaves on its ports: classes 0 and 1 in both directions around the ring, class 2 in the shorter one and
kept until it is acknowledged (R369); port P is a single path. -/
def glSend (onP : Bool) (cls type dst : Nat) (payload : Bytes) (d : Dev) : Dev :=
  if !d.gligil then d
  else
    let seq := glSeq cls d.gl
    let fr := glFrame type cls d.sys.stackPos.toNat dst seq payload
    let d := { d with gl := glSeqNext cls d.gl }
    let d := if cls = 2 then { d with gl := { d.gl with
        pendingTx := d.gl.pendingTx ++ [{ seq := seq, dst := dst, kind := type, data := fr }] } } else d
    if onP then emit (.gligil glP cls type dst fr) d
    else if cls = 2 then emit (.gligil (d.ringPort dst) cls type dst fr) d
    else emitAll [.gligil glA cls type dst fr, .gligil glB cls type dst fr] d

/-- A long payload as frames of at most 1,024 bytes. -/
def glSendLong (onP : Bool) (cls type dst : Nat) (payload : Bytes) (d : Dev) : Dev :=
  (chunks 1024 payload).foldl (fun d p => glSend onP cls type dst p d) d

/-! ## Station messages with a trailer -/

/-- A message of types 0x40 to 0x4D on the network (R392): payload, KEY_INDEX, EPOCH and MAC over the header, the
payload and trailer bytes 0 to 7. Without the key there is no message (log entry 13). -/
def stationAuth (dst : Word) (type key : Nat) (epoch : Word) (payload : Bytes) (d : Dev) : Dev :=
  match d.hmacKey key with
  | none => d
  | some k =>
    let tr := leBytes 1 key ++ zeros 3 ++ leBytes 4 epoch.toNat
    let seq := mgetD d.net.txSeq type 0
    let header := beBytes 2 0xD44C ++ beBytes 1 1 ++ beBytes 1 type ++ beBytes 2 (payload.length + 40) ++
      beBytes 2 d.sys.role.code ++ beBytes 4 d.net.cfg.partnerId.toNat ++ beBytes 8 d.sender.toNat ++
      beBytes 4 seq.toNat
    stationTo dst type (payload ++ tr ++ hmac k (header ++ payload ++ tr)) d

/-- What a message with a trailer carries, when its MAC holds under the key it names (R392): payload, key, EPOCH. -/
def authParse (data : Bytes) (h : StHeader) (d : Dev) : Option (Bytes × Nat × Word) :=
  if h.payload.length < 40 then none
  else
    let payload := h.payload.take (h.payload.length - 40)
    let tr := slice h.payload (h.payload.length - 40) 8
    let mac := h.payload.drop (h.payload.length - 32)
    match d.hmacKey (byteAt tr 0) with
    | none => none
    | some k =>
      if hmac k (data.take 24 ++ payload ++ tr) == mac && allZero tr 1 3 then
        some (payload, byteAt tr 0, BitVec.ofNat 32 (getLe tr 4 4))
      else none

/-! ## The pair path -/

/-- The pair path is up (R388): port P, or the network to a known peer. -/
def Dev.pairUp (d : Dev) : Bool :=
  d.red.cfg.paired && (if d.red.cfg.network then d.net.linkA || d.net.linkB else d.gl.portP.up)

/-- A message on the pair path: a Gligil frame on port P, or a datagram with its trailer to PEER_IP (R391, R392). -/
def pairSend (type : Nat) (payload : Bytes) (d : Dev) : Dev :=
  if d.red.cfg.network then stationAuth d.red.cfg.peerIp type d.red.cfg.keyIndex d.pwr.bootEpoch payload d
  else glSendLong true 2 type d.sys.stackPos.toNat payload d

/-- An accepted configuration command goes to the standby counterpart (R389): its code and payload. -/
def forward (code : Nat) (payload : Bytes) (d : Dev) : Dev :=
  if d.red.cfg.paired && d.sys.role == .active then pairSend 0x4D (leBytes 2 code ++ payload) d else d

/-- Standby and arbiter devices refuse the commands of a class that drives or configures (check 7). -/
def Dev.passive (d : Dev) : Bool := d.sys.role == .standby || d.sys.role == .arbiter

/-- Fenced, or in station safe state. -/
def Dev.stopped (d : Dev) : Bool := d.sys.fenced || d.sys.safeState

/-! ## Ring status (R383) -/

/-- The device holds more than itself in its stack. -/
def Dev.inStack (d : Dev) : Bool := decide (1 < d.otp.settings.stackSize)

/-- The own entry of Table 9.12. -/
def Dev.ownStatus (d : Dev) : PosStatus :=
  { reachable := true, variant := BitVec.ofNat 16 d.variant, uid := d.sys.uid.setWidth 32, portA := d.gl.portA.up,
    portB := d.gl.portB.up, portP := if d.red.cfg.paired && !d.red.cfg.network then b2n d.gl.portP.up else 2,
    latency := BitVec.ofNat 16 d.gl.portA.latency, phase := 0, discA := BitVec.ofNat 32 d.gl.portA.discarded,
    discB := BitVec.ofNat 32 d.gl.portB.discarded, discP := BitVec.ofNat 32 d.gl.portP.discarded }

/-- A PFW that holds this device: its own or, in a stack, any that the master knows of (R552). -/
def Dev.pfwOn (d : Dev) : Bool :=
  d.pwr.pfw || (if d.master then d.pwr.pfwAt.toList.any (fun b => b) else vget d.pwr.pfwAt 0)

/-- The payload of a ring status frame (log entry 28). -/
def statusFrame (x : PosStatus) (safe pfw : Bool) : Bytes :=
  beBytes 1 (b2n x.portA + 2 * b2n x.portB + 4 * x.portP + 16 * b2n safe + 32 * b2n pfw) ++ beBytes 2 x.variant.toNat ++
    beBytes 4 x.uid.toNat ++ beBytes 2 x.latency.toNat ++ beBytes 2 x.phase.toNat ++ beBytes 4 x.discA.toNat ++
    beBytes 4 x.discB.toNat ++ beBytes 4 x.discP.toNat

/-- The own ring status frame, in class 0 (R383, R552). -/
def sendStatus (d : Dev) : Dev :=
  if d.inStack then
    glSend false 0 0x02 0xFF (statusFrame d.ownStatus d.sys.safeState (d.pwr.pfw || (d.master && d.pfwOn))) d
  else d

end Sys2Proof.Machine
end

