-- ==== Sys2Proof/Machine/Field.lean ====
section
/-!
DEFINITION. Machine/Field.lean: what drives a field output: the image's drivers and bound slots, the demand of each DO
and AO channel (R287, R320, Tables 7.4 and 8.6), and what a commit transfers to a channel.
-/

namespace Sys2Proof.Machine

open Sys2Proof

/-- An event of the field block: it exists only where FIELD_IO is 1 (R273). -/
def fieldD (s : State) (f : Dev → Dev) : Host.Outcome State Fault Refusal := nextD s fun d => if d.fieldIo then f d else d

/-- The field block is absent (R273, R309). -/
def noField : Dev → Bytes → Bool := fun d _ => !d.fieldIo

def modDi (i : Nat) (f : DiCh → DiCh) (d : Dev) : Dev := { d with dig := { d.dig with di := vmod d.dig.di i f } }
def modDo (j : Nat) (f : DoCh → DoCh) (d : Dev) : Dev := { d with dig := { d.dig with dout := vmod d.dig.dout j f } }
def modGrp (g : Nat) (f : DoGroup → DoGroup) (d : Dev) : Dev := { d with dig := { d.dig with grp := vmod d.dig.grp g f } }
def modWdg (f : Wdg → Wdg) (d : Dev) : Dev := { d with dig := { d.dig with wdg := f d.dig.wdg } }
def modTrip (f : Trip → Trip) (d : Dev) : Dev := { d with dig := { d.dig with trip := f d.dig.trip } }

/-! ## Channels of the image -/

/-- The Q element that drives a DO (bit 2 of FLAGS) or AO (bit 3) channel of this device (Table 5.12). -/
def Dev.driver (d : Dev) (flag : Nat) (ch : Nat) : Option QDecl :=
  d.prog.image.bind fun im => im.qmv.find? fun q =>
    q.space == spQ && q.flags.getLsbD flag && q.channel == ch && q.position == d.sys.stackPos.toNat

/-- The task whose blocks write a channel's Q element. -/
def Dev.driverTask (d : Dev) (flag ch : Nat) : Option Nat :=
  match d.driver flag ch, d.prog.image with
  | some q, some im => im.writerOf (ekey spQ q.element)
  | _, _ => none

/-- The loop slot bound to a channel (R237): DEST_KIND 1 AO, 2 DO, and whether it is enabled. -/
def Dev.boundSlot (d : Dev) (kind ch : Nat) : Option LoopSlot :=
  (d.loops.toList.flatMap (·.slots.toList)).find? fun sl => sl.cfg.enable && sl.cfg.destKind == kind && sl.cfg.destCh == ch

/-! ## Demand of the outputs -/

/-- A safe state of rank 3 of Table 7.4, or rank 2 of Table 8.6, is in force for every channel. -/
def Dev.fieldSafe (d : Dev) : Bool :=
  d.dig.wdg.state == .safe || d.dig.wdg.state == .ext || d.dig.wdg.extLow || d.stopped

/-- The writer task of a channel stands stopped with its outputs safe (R180). -/
def Dev.writerSafe (d : Dev) (flag ch : Nat) : Bool :=
  match d.driverTask flag ch with
  | some t => (vget d.prog.tasks t).stoppedSafe
  | none => false

def safeBit (m : SafeMode) (hold : Bool) : Bool :=
  match m with
  | .off => false
  | .on => true
  | .hold => hold

/-- States of rank 1 of Table 7.4. -/
def DoState.blocked : DoState → Bool
  | .undriven => true
  | .overcurrent => true
  | .overtemp => true
  | .supplyLost => true
  | _ => false

/-- What a bound slot puts out: its output bit, or the channel's safe state once it is stopped (R238, R258). -/
def slotBit (sl : LoopSlot) (m : SafeMode) : Bool :=
  if sl.stopped then safeBit m sl.onBit else sl.onBit

/-- Rank and demand of Table 7.4 below rank 1. -/
def Dev.doWant (d : Dev) (j : Nat) : Nat × Bool :=
  let c := vget d.dig.dout j
  if d.dig.trip.tripped.getLsbD j then (2, (d.dig.trip.armed.getD {}).state.getLsbD j)
  else match c.held with
    | some b => (3, b)
    | none => match c.forced with
      | some b => (4, b)
      | none => match d.boundSlot 2 j with
        | some sl => (5, slotBit sl c.cfg.safe)
        | none => match c.slotHold with
          | some b => (5, b)
          | none => if c.imageBad then (6, safeBit c.cfg.safe false) else (6, c.image)

/-- The channel takes its demand, and OFF, ON, OPEN_LOAD and SHORT_SUPPLY follow it (Table 7.5). A safe state begins
with the channel's setting of that instant and the demand it had (R303). -/
def settleDo (j : Nat) (d : Dev) : Dev :=
  let safe := d.fieldSafe || d.writerSafe 2 j
  let d := modDo j (fun c => { c with
    held := if safe then some (c.held.getD (safeBit c.cfg.safe c.demand)) else none }) d
  let want := (d.doWant j).2
  modDo j (fun c =>
    let dem := !c.state.blocked && want
    let st := match c.state with
      | .off => if dem then DoState.on else .off
      | .on => if dem then .on else .off
      | .openLoad => if dem then .openLoad else .off
      | .shortSupply => if dem then .on else .shortSupply
      | x => x
    { c with demand := dem, state := st, trial := c.trial && st == .on }) d


/-! ## Demand of the current outputs -/

/-- VFLD_A LOST, or RECOVERING before the channel's slot (Table 8.6). -/
def Ana.blocked (a : Ana) (j : Nat) : Bool :=
  a.vfld == .lost || (a.vfld == .recovering && decide (a.nextSlot ≤ j))

/-- Rank 1 of Table 8.6: 0 mA. -/
def Dev.aoZero (d : Dev) (j : Nat) : Bool :=
  let c := vget d.ana.ao j
  c.thermalOff || (c.mismatch && c.cfg.mismatchOff) || d.ana.blocked j || (c.undriven && c.drive.isNone)

/-- 24 mA in Q16.16. -/
def ma24 : Int := 24 * 65536

/-- The demand of a safe state (Table 8.6, rank 2). -/
def safeMa (c : AoCfg) (hold : Word) : Word :=
  match c.safe with
  | .off => 0
  | .on => c.safeMa
  | .hold => hold

/-- What a bound biquad-cascade slot puts out, or the channel's safe state once it is stopped (R238, R258). -/
def slotMa (sl : LoopSlot) (c : AoCfg) : Word := if sl.stopped then safeMa c sl.prev else sl.prev

/-- Rank and demand of Table 8.6 below rank 1. -/
def Dev.aoWant (d : Dev) (j : Nat) : Nat × Word :=
  let c := vget d.ana.ao j
  match c.held with
  | some w => (2, w)
  | none => match c.forced with
    | some w => (3, w)
    | none => match d.boundSlot 1 j with
      | some sl => (4, slotMa sl c.cfg)
      | none => match c.slotHold with
        | some w => (4, w)
        | none => match c.drive with
          | some high => (5, if high then BitVec.ofNat 32 (20 * 65536) else BitVec.ofNat 32 (4 * 65536))
          | none => if c.checkBad then (6, safeMa c.cfg 0) else (6, c.image)

/-- The fold-back ceiling of R328, for a temperature in 1/16 °C: 24 mA − 1.6 mA/°C × (T − 150 °C). -/
def foldCeiling (temp : Int) : Int := clampInt 0 ma24 (ma24 - divNearest (65536 * (temp - 2400)) 10)

/-- A value through a trim of two points (R330), rounded to nearest. -/
def trimmed (t : Option Trim) (x : Int) : Int :=
  match t with
  | none => x
  | some t => t.lo.ref + divNearest ((x - t.lo.raw) * (t.hi.ref - t.lo.ref)) (t.hi.raw - t.lo.raw)

/-- The DAC code of a trimmed target (R319). -/
def dacCode (t : Int) : Half := BitVec.ofInt 16 (clampInt 0 65535 (divNearest t 24))

/-- The channel takes its demand (R319, R320). -/
def settleAo (j : Nat) (d : Dev) : Dev :=
  let c := vget d.ana.ao j
  let safe := d.fieldSafe || d.writerSafe 3 j
  let c := { c with held := if safe then some (c.held.getD (safeMa c.cfg c.demand)) else none }
  let d := { d with ana := { d.ana with ao := vset d.ana.ao j c } }
  let c' :=
    if d.aoZero j then { c with demand := 0, code := 0 }
    else
      let want := (d.aoWant j).2.toInt
      let lim := if c.foldback then foldCeiling c.temp.toInt else ma24
      let x := min (clampInt 0 ma24 want) lim
      { c with
        clipped := decide (want < 0 ∨ ma24 < want), demand := BitVec.ofInt 32 x
        code := dacCode (trimmed (if (d.aoWant j).1 = 5 then none else c.trim) x) }
  { d with ana := { d.ana with ao := vset d.ana.ao j c' } }

/-- Every DO channel takes its demand (R287). -/
def settleDos (d : Dev) : Dev := (List.range 32).foldl (fun d j => settleDo j d) d

/-- Every DO and AO channel takes its demand (R287, R320). -/
def settleAll (d : Dev) : Dev := (List.range 8).foldl (fun d j => settleAo j d) (settleDos d)

/-! ## Input elements -/

/-- The I element of a SOURCE and CHANNEL of this device (Table 5.11), with its declaration. -/
def Dev.inputEl (d : Dev) (source ch : Nat) : Option (Nat × IDecl) :=
  d.prog.image.bind fun im =>
    ((List.range im.iDecl.length).map (fun e => (e, im.iOf e))).find? fun p =>
      p.2.kind != 0 && p.2.source == source && p.2.channel == ch && p.2.position == d.sys.stackPos.toNat

/-- The source identity of a SOURCE and CHANNEL; 0 where the image maps none. -/
def Dev.inputId (d : Dev) (source ch : Nat) : Word := ((d.inputEl source ch).map (·.2.id)).getD 0

/-- SEQ of a value that enters an I element outside an input freeze: the cycle count of the task that reads it
(Table 1.6, example of R42); a free value where no task reads it (log entry 14). -/
def inputSeq (el : Option Nat) (d : Dev) : Byte × Dev :=
  match el.bind (fun e => d.prog.image.bind (fun im => im.readerOf (ekey spI e))) with
  | some t => ((vget d.prog.tasks t).counter.setWidth 8, d)
  | none =>
    let (x, d) := freshNat d
    (BitVec.ofNat 8 x, d)

/-! ## What a commit transfers -/

/-- The committed value of a channel's Q element, with what the stage finds of its CHECK (R46) and its force. -/
structure Drive where
  value : TV
  ok : Bool
  forced : Bool
  deriving DecidableEq, Repr

/-- What a commit of a task transfers to a channel: nothing where another task writes it. -/
def Dev.drive (d : Dev) (flag ch t : Nat) : Option (Option Drive) :=
  match d.driver flag ch with
  | none => some none
  | some q =>
    match d.driverTask flag ch with
    | some w => if w = t then some (some (drv d q)) else none
    | none => some (some (drv d q))
where
  drv (d : Dev) (q : QDecl) : Drive :=
    let v := mgetD d.prog.vals (ekey spQ q.element) {}
    { value := v, ok := tvOk q.id v
      forced := d.prog.forces.any (fun f => f.space == spQ && f.element == q.element && f.mask.getLsbD 0) }

end Sys2Proof.Machine
end

