-- ==== Sys2Proof/Machine/Digital.lean ====
section
/-!
DEFINITION. Machine/Digital.lean: the digital field channels, their group supplies, the field watchdog and the trip
matrix (chapter 07, R273 to R308).
-/

namespace Sys2Proof.Machine

open Sys2Proof

/-! ## Digital inputs -/

/-- DI i's group is unsupplied (R280). -/
def Dig.unsup (g : Dig) (i : Nat) : Bool := g.unsupplied.getLsbD (i / 8)

/-- The state that a DI channel carries: 0 in wire break, unless its group is unsupplied (R279, R280). -/
def Dig.diState (g : Dig) (i : Nat) : Bool :=
  let c := vget g.di i
  c.filtered && !(c.broken && !g.unsup i)

/-- The quality that a DI channel carries (R279, R280). -/
def Dig.diQuality (g : Dig) (i : Nat) : Byte :=
  if g.unsup i then qBAD_SUPPLY else if (vget g.di i).broken then qBAD_WIRE else qGOOD

/-- New settings at a filter sample (R278, step 1); a change of mode or edge clears the count (R282). -/
def diApply (c : DiCh) : DiCh :=
  match c.pend with
  | none => c
  | some p =>
    let n := p.n
    let count := if c.cfg.n = 0 ∧ n ≠ 0 then (if c.filtered then n else 0) else min c.count n
    let recount := p.mode != c.cfg.mode || p.edge != c.cfg.edge
    { c with
      cfg := p, pend := none, count := count
      filtered := if n = 0 then c.filtered else if count = n then true else if count = 0 then false else c.filtered
      broken := c.broken && p.wire
      fast := if recount then 0 else c.fast
      lastDelta := if recount then 0 else c.lastDelta }

/-- The counter filter at a sample (R277). -/
def diFilter (high : Bool) (c : DiCh) : DiCh :=
  let c := { c with raw := high }
  if c.cfg.n = 0 then { c with filtered := high, count := 0 }
  else
    let k := if high then min c.cfg.n (c.count + 1) else c.count - 1
    { c with count := k, filtered := if k = c.cfg.n then true else if k = 0 then false else c.filtered }

/-- Supply references follow group states; each change of a group raises DI_GROUPn_SUPPLY (R280, R308). -/
def updSupply (d : Dev) : Dev :=
  (List.range 4).foldl (fun d g =>
    let grp := vget d.dig.grp g
    let u := d.dig.groupRef.getLsbD g && (grp.state == .lost || grp.state == .recovering)
    if u = d.dig.unsupplied.getLsbD g then d
    else
      let m := if u then d.dig.unsupplied ||| (1#4 <<< g) else d.dig.unsupplied &&& ~~~(1#4 <<< g)
      let d := { d with dig := { d.dig with unsupplied := m } }
      let d := if u then
          (List.range 8).foldl (fun d p => modDi (8 * g + p) (fun c => { c with broken := false }) d) d
        else d
      raise (.diGroupSupply (Fin.ofNat 4 g)) (b2n u + 65536 * grp.vfld.toNat) d) d

/-! ## Status elements of the outputs -/

/-- Quality of the DO status element (Table 7.5, R288, R46). -/
def Dev.doQuality (d : Dev) (j : Nat) : Byte :=
  let c := vget d.dig.dout j
  match c.state with
  | .supplyLost => qBAD_SUPPLY
  | .overtemp => qBAD_HARDWARE
  | .openLoad => qBAD_WIRE
  | .shortSupply => qBAD_WIRE
  | .overcurrent => qBAD_WIRE
  | .undriven => qSAFE_VALUE
  | _ => if c.trial then qBAD_WIRE else if c.imageBad then qBAD_CHECK
         else if (d.doWant j).1 = 3 then qSAFE_VALUE else qGOOD

/-- The states that set FAULT (Table 7.1). -/
def DoState.faulty : DoState → Bool
  | .openLoad => true
  | .shortSupply => true
  | .overcurrent => true
  | .overtemp => true
  | _ => false

/-- VALUE of the DO status element (Table 7.1), with the measured level. -/
def Dev.doStatus (d : Dev) (j : Nat) (level : Bool) : Nat :=
  let c := vget d.dig.dout j
  b2n level + 2 * b2n c.demand + 4 * b2n c.state.faulty

/-! ## Channel faults -/

/-- A channel enters a fault state that raises DO_GROUPn_CHANNEL_FAULT (R308). -/
def doFault (j : Nat) (st : DoState) (kind : Nat) (d : Dev) : Dev :=
  let d := modDo j (fun c => { c with state := st, trial := false, fault := min 0xFFFF (c.fault + 1) }) d
  settleDo j (raise (.doGroupFault (Fin.ofNat 4 (j / 8))) (j + 32 * kind) d)

def grpNormal (j : Nat) (d : Dev) : Bool := (vget d.dig.grp (j / 8)).state == .normal

/-- Ends a kept or present OVERCURRENT or cool latched OVERTEMP by OUTPUT_RESET (R307). -/
def resetChannel (j : Nat) (cool : Bool) (d : Dev) : Dev :=
  modDo j (fun c =>
    match c.state with
    | .overcurrent => { c with state := .off, trial := false }
    | .overtemp => if c.otLatched && cool then { c with state := .off, otLatched := false } else c
    | .supplyLost =>
      match c.kept with
      | some .overcurrent => { c with kept := none }
      | some .overtemp => if cool then { c with kept := none, otLatched := false } else c
      | _ => c
    | _ => c) d

/-- The channel remains in, or still keeps, a condition that CHANNEL releases (R307). -/
def DoCh.stillLatched (c : DoCh) : Bool :=
  match c.state with
  | .overcurrent => true
  | .overtemp => c.otLatched
  | .supplyLost => c.kept == some .overcurrent || c.kept == some .overtemp
  | _ => false

/-- A channel leaves UNDRIVEN, or its kept UNDRIVEN ends (R571). -/
def driveDo (c : DoCh) : DoCh :=
  match c.state with
  | .undriven => { c with state := .off }
  | .supplyLost => if c.kept = some .undriven then { c with kept := none } else c
  | _ => c

/-! ## Group supply (Table 7.6) -/

/-- A group enters LOST: every channel off and SUPPLY_LOST, with the conditions it keeps. -/
def grpLost (g : Nat) (v : Half) (d : Dev) : Dev :=
  let d := modGrp g (fun x => { x with state := .lost, vfld := v }) d
  let d := (List.range 8).foldl (fun d p => modDo (8 * g + p) (fun c =>
    if c.state = .supplyLost then c
    else
      let kept := match c.state with
        | .undriven => some DoState.undriven
        | .overcurrent => some .overcurrent
        | .overtemp => if c.otLatched then some .overtemp else none
        | _ => none
      { c with state := .supplyLost, kept := kept, trial := false }) d) d
  let d := raise (.doGroupLost (Fin.ofNat 4 g)) (65536 * v.toNat) d
  settleAll (updSupply d)

/-- A group starts re-energising (R293). -/
def grpRecover (g : Nat) (d : Dev) : Dev :=
  updSupply (modGrp g (fun x => { x with state := .recovering, nextSlot := 0 }) d)

/-- A channel reaches its slot: its kept condition, or its demand; after the last the group is NORMAL. -/
def reenergise (g : Nat) (d : Dev) : Dev :=
  let grp := vget d.dig.grp g
  if grp.state != .recovering then d
  else
    let j := 8 * g + grp.nextSlot
    let d := modDo j (fun c => if c.state = .supplyLost then { c with state := c.kept.getD .off, kept := none } else c) d
    let d := settleDo j d
    if 7 ≤ grp.nextSlot then updSupply (modGrp g (fun x => { x with state := .normal, nextSlot := 0 }) d)
    else modGrp g (fun x => { x with nextSlot := x.nextSlot + 1 }) d

/-! ## Field watchdog (Table 7.7) -/

/-- TIMEOUT in base ticks (R296). -/
def Dev.wdgTicks (d : Dev) : Nat :=
  let c := d.dig.wdg.cfg
  if c.timeout = 0 then
    (if (vget d.prog.tasks 0).cfg.enable then 3 * (vget d.prog.tasks 0).cfg.period else 20000)
  else c.timeout / 50

/-- Raises FIELD_WDG_SAFE for a timeout, naming the task whose timer expired most recently. -/
def wdgSafeTimeout (d : Dev) : Dev :=
  raise .fieldWdgSafe (1 + 16 * (d.dig.wdg.lastExpired.getD 0))
    (modWdg (fun w => { w with state := .safe, runs := Vector.replicate 8 0 }) d)

/-- A task timer reaches TIMEOUT (R295). -/
def wdgTimeout (t : Nat) (d : Dev) : Dev :=
  let w := d.dig.wdg
  if w.state == .inactive || !w.cfg.feed.getLsbD t || vget w.expired t || decide (d.tick < vget w.fedAt t + d.wdgTicks)
  then d
  else
    let d := modWdg (fun w => { w with
      expired := vset w.expired t true, holdsExpiry := true, lastExpired := some t, runs := vset w.runs t 0 }) d
    if w.state = .running then settleAll (wdgSafeTimeout d) else d

/-- The watchdog enters RUNNING (R295, R307): no expiry is held, and an armed release ends. -/
def wdgRun (d : Dev) : Dev := modWdg (fun w => { w with state := .running, holdsExpiry := false, armed := false }) d

/-- EXTSAFE_N low, qualified (Table 7.7). -/
def extAssert (d : Dev) : Dev :=
  let d := modWdg (fun w => { w with extLow := true }) d
  match d.dig.wdg.state with
  | .running => settleAll (raise .fieldWdgSafe 2 (modWdg (fun w => { w with state := .ext }) d))
  | .safe => settleAll (raise .fieldWdgSafe 2 (modWdg (fun w => { w with state := .ext }) d))
  | _ => settleAll d

/-- EXTSAFE_N high, qualified (Table 7.7). -/
def extRelease (d : Dev) : Dev :=
  let d := modWdg (fun w => { w with extLow := false }) d
  match d.dig.wdg.state with
  | .ext =>
    let d := raise .fieldWdgRelease 2 d
    settleAll (if d.dig.wdg.holdsExpiry then wdgSafeTimeout d else wdgRun d)
  | _ => settleAll d

/-- Every timer starts. -/
def wdgStart (tick : Nat) (w : Wdg) : Wdg :=
  { w with fedAt := Vector.replicate 8 tick, expired := Vector.replicate 8 false }

/-- Settings of FIELD_WDG_CONFIG take effect at a feeding commit (R304): the timers of the new mask restart and every
run is 0. -/
def wdgNewCfg (tick : Nat) (w : Wdg) : Wdg :=
  match w.pend with
  | none => w
  | some c => { w with
      cfg := c, pend := none, runs := Vector.replicate 8 0
      fedAt := Vector.ofFn (fun i => if c.feed.getLsbD i then tick else vget w.fedAt i)
      expired := Vector.ofFn (fun i => if c.feed.getLsbD i then false else vget w.expired i) }

/-- SAFE ends: every fed task has fed twice in a row, and a manual release is armed where it is needed. -/
def Wdg.mayRun (w : Wdg) : Bool :=
  (List.range 8).all (fun t => !w.cfg.feed.getLsbD t || decide (2 ≤ vget w.runs t)) && (!w.cfg.manual || w.armed)

/-- A commit of a task reaches D7 (R294, R295): it feeds, or, with a STALE partner of a masked task, does not. -/
def wdgCommit (t : Nat) (stale : Bool) (d : Dev) : Dev :=
  let w := d.dig.wdg
  if !w.cfg.feed.getLsbD t then d
  else if w.cfg.reqPartner.getLsbD t && stale then
    modWdg (fun w => { w with runs := if w.state = .safe then vset w.runs t 0 else w.runs }) d
  else
    let d := modWdg (fun w => { w with fedAt := vset w.fedAt t d.tick, expired := vset w.expired t false }) d
    match w.state with
    | .inactive =>
      let d := modWdg (fun w => wdgNewCfg d.tick (wdgStart d.tick w)) d
      if w.extLow then raise .fieldWdgSafe 2 (modWdg (fun w => { w with state := .ext }) d) else wdgRun d
    | .safe =>
      if w.pend.isSome then modWdg (wdgNewCfg d.tick) d
      else
        let d := modWdg (fun w => { w with runs := vset w.runs t (vget w.runs t + 1) }) d
        if d.dig.wdg.mayRun then wdgRun (raise .fieldWdgRelease 1 d) else d
    | _ => modWdg (wdgNewCfg d.tick) d

/-! ## Trip matrix -/

/-- DI i is at trip level: its state equals its TRIP_LEVEL bit, or its quality is unusable. -/
def Dig.atTrip (g : Dig) (c : TripCfg) (i : Nat) : Bool :=
  g.diState i == c.level.getLsbD i || !qUsable (g.diQuality i)

/-- The lowest linked DI of DO j at trip level. -/
def Dig.tripCause (g : Dig) (c : TripCfg) (j : Nat) : Option Nat :=
  (List.range 32).find? (fun i => (vget c.links j).getLsbD i && g.atTrip c i)

/-- A mask from a test of each of 32 bits. -/
def mask32 (f : Nat → Bool) : Word := BitVec.ofNat 32 (((List.range 32).map (fun i => if f i then 2 ^ i else 0)).sum)

/-- One evaluation of the whole matrix (R297, R298, R301). -/
def tripEval (d : Dev) : Dev :=
  if !d.dig.trip.acting then d
  else
    let c := d.dig.trip.armed.getD {}
    let was := d.dig.trip.tripped
    let linked := mask32 (fun j => (d.dig.tripCause c j).isSome)
    let latched := d.dig.trip.latched ||| (linked &&& c.latch)
    let now := linked ||| latched
    let causes := (List.range 32).map (fun j => (d.dig.tripCause c j).getD 0)
    let d := modTrip (fun t => { t with tripped := now, latched := latched }) d
    let d := (List.range 32).foldl (fun d j =>
      if now.getLsbD j && !was.getLsbD j then raise .tripFired (j + 256 * lget causes j) d else d) d
    settleAll d

/-- OUTPUT_RESET with TRIP: latched trips of a mask end where no linked DI is at trip level (R298). -/
def tripReset (m : Word) (d : Dev) : Dev :=
  let c := d.dig.trip.armed.getD {}
  let go := mask32 (fun j => m.getLsbD j && d.dig.trip.latched.getLsbD j && (d.dig.tripCause c j).isNone)
  modTrip (fun t => { t with latched := t.latched &&& ~~~go, tripped := t.tripped &&& ~~~go }) d

/-! ## Commits -/

/-- New DO settings take effect (R303). -/
def doNewCfg (d : Dev) : Dev :=
  { d with dig := { d.dig with
    dout := d.dig.dout.map (fun (c : DoCh) => { c with cfg := c.pend.getD c.cfg, pend := none })
    grp := d.dig.grp.map (fun (g : DoGroup) => { g with latchOff := g.latchPend.getD g.latchOff, latchPend := none }) } }

/-- A commit of task t reaches the DO stage (Table 4.6): settings, output image, UNDRIVEN, watchdog. -/
def commitDos (t : Nat) (d : Dev) : Dev :=
  let d := modTrip (fun x => { x with acting := true }) (doNewCfg d)
  (List.range 32).foldl (fun d j =>
    match d.drive 2 j t with
    | none => d
    | some none => modDo j (fun c => driveDo { c with slotHold := none, forced := none }) d
    | some (some v) =>
      modDo j (fun c => driveDo { c with
        image := v.value.value.getLsbD 0, imageBad := !v.ok, slotHold := none
        forced := if v.forced then some (v.value.value.getLsbD 0) else none })
        (if v.ok then d else countCheck .output d)) d

/-! ## Rows: inputs -/

/-- DI_FILTER_SAMPLE (R277, R278). -/
def execDiFilterSample (i : Fin 32) (high : Bool) (s : State) : Host.Outcome State Fault Refusal :=
  fieldD s (modDi i (fun c => diFilter high (diApply c)))

/-- DI_WIRE_BREAK_TIMER (R279): suspended while the group is unsupplied (R280). -/
def execDiWireBreakTimer (i : Fin 32) (low : Bool) (s : State) : Host.Outcome State Fault Refusal :=
  fieldD s fun d =>
    if d.dig.unsup i then d
    else modDi i (fun c =>
      if low && c.cfg.wire && !c.broken then { c with broken := true, breaks := min 0xFFFF (c.breaks + 1) }
      else if !low then { c with broken := false } else c) d

/-- DI_COUNT_EDGE (R281, R282). -/
def execDiCountEdge (i : Fin 4) (rising : Bool) (s : State) : Host.Outcome State Fault Refusal :=
  fieldD s fun d =>
    let c := (vget d.dig.di i).cfg
    if c.mode = 0 ∨ (c.edge = 0 ∧ !rising) ∨ (c.edge = 1 ∧ rising) then d
    else if c.mode = 1 then
      let n := (vget d.dig.di i).fast + 1
      raiseIf (decide (2 ^ 31 ≤ n)) .diFastcountOvf i (modDi i (fun c => { c with fast := n % 2 ^ 31 }) d)
    else modDi i (fun c => { c with fast := min (2 ^ 31 - 1) (c.fast + 1) }) d

/-! ## Rows: output diagnostics -/

/-- DO_SHORT_SUPPLY_DETECT (R288): suspended while the group's supply is not NORMAL (R289). -/
def execDoShortSupplyDetect (j : Fin 32) (above : Bool) (s : State) : Host.Outcome State Fault Refusal :=
  fieldD s fun d =>
    let c := vget d.dig.dout j
    if above then
      if c.state = .off ∧ c.cfg.shortEn ∧ grpNormal j d then doFault j .shortSupply 2 d else d
    else if c.state = .shortSupply then settleDo j (modDo j (fun c => { c with state := .off }) d) else d

/-- DO_OPEN_LOAD_DETECT (R288): suspended while the group's supply is not NORMAL (R289). -/
def execDoOpenLoadDetect (j : Fin 32) (below : Bool) (s : State) : Host.Outcome State Fault Refusal :=
  fieldD s fun d =>
    let c := vget d.dig.dout j
    if below then
      if c.state = .on ∧ c.cfg.openEn ∧ grpNormal j d then doFault j .openLoad 1 d else d
    else if c.state = .openLoad then settleDo j (modDo j (fun c => { c with state := .on }) d) else d

/-- DO_ILIM_TIMEOUT (R288). -/
def execDoIlimTimeout (j : Fin 32) (s : State) : Host.Outcome State Fault Refusal :=
  fieldD s fun d =>
    let st := (vget d.dig.dout j).state
    if st = .on ∨ st = .openLoad then doFault j .overcurrent 3 d else d

/-- DO_RETRY_TIMER (R288). -/
def execDoRetryTimer (j : Fin 32) (s : State) : Host.Outcome State Fault Refusal :=
  fieldD s fun d =>
    let c := vget d.dig.dout j
    if c.state = .overcurrent ∧ c.cfg.retry ∧ (d.doWant j).2 then
      settleDo j (modDo j (fun c => { c with state := .on, trial := true }) d)
    else d

/-- DO_RETRY_TRIAL_PASSED (R288): 10 ms without current limit end the trial. -/
def execDoRetryTrialPassed (j : Fin 32) (s : State) : Host.Outcome State Fault Refusal :=
  fieldD s (modDo j (fun c => { c with trial := false }))

/-- DO_OVERTEMP_ENTRY (R288): the third entry within 10 s latches. -/
def execDoOvertempEntry (j : Fin 32) (s : State) : Host.Outcome State Fault Refusal :=
  fieldD s fun d =>
    let c := vget d.dig.dout j
    if c.state = .undriven ∨ c.state = .overtemp ∨ c.state = .supplyLost then d
    else
      let times := (c.otTimes ++ [d.tick]).filter (fun t => decide (d.tick ≤ t + 200000))
      let latch := decide (3 ≤ times.length)
      let d := modDo j (fun c => { c with
        state := .overtemp, otLatched := latch, otTimes := times, trial := false, fault := min 0xFFFF (c.fault + 1) }) d
      settleDo j (raise .doThermal (j + 256 * b2n latch) d)

/-- DO_OVERTEMP_RELEASE (R288): below 155 °C, unless latched. -/
def execDoOvertempRelease (j : Fin 32) (s : State) : Host.Outcome State Fault Refusal :=
  fieldD s fun d =>
    let c := vget d.dig.dout j
    if c.state = .overtemp ∧ !c.otLatched then settleDo j (modDo j (fun c => { c with state := .off }) d) else d

/-! ## Rows: group supply -/

/-- DO_GROUP_SUPPLY_LOSS (R291). -/
def execDoGroupSupplyLoss (g : Fin 4) (v : Half) (s : State) : Host.Outcome State Fault Refusal :=
  fieldD s fun d =>
    match (vget d.dig.grp g).state with
    | .normal => grpLost g v d
    | .recovering => grpLost g v d
    | _ => d

/-- DO_GROUP_SUPPLY_RETURN (R291). -/
def execDoGroupSupplyReturn (g : Fin 4) (v : Half) (s : State) : Host.Outcome State Fault Refusal :=
  fieldD s fun d =>
    let grp := vget d.dig.grp g
    if grp.state != .lost then d
    else
      let d := modGrp g (fun x => { x with vfld := v }) d
      if grp.latchOff then updSupply (modGrp g (fun x => { x with state := .latchedOff }) d) else grpRecover g d

/-- DO_GROUP_LATCHED_FALL (R291). -/
def execDoGroupLatchedFall (g : Fin 4) (v : Half) (s : State) : Host.Outcome State Fault Refusal :=
  fieldD s fun d =>
    if (vget d.dig.grp g).state = .latchedOff then
      updSupply (modGrp g (fun x => { x with state := .lost, vfld := v }) d)
    else d

/-- DO_REENERGISE_SLOT (R293). -/
def execDoReenergiseSlot (g : Fin 4) (s : State) : Host.Outcome State Fault Refusal := fieldD s (reenergise g)

/-- DO_GROUP_LOW_SET (R291). -/
def execDoGroupLowSet (g : Fin 4) (v : Half) (s : State) : Host.Outcome State Fault Refusal :=
  fieldD s fun d =>
    if (vget d.dig.grp g).low then d
    else raise (.doGroupLow g) (65536 * v.toNat) (modGrp g (fun x => { x with low := true, vfld := v }) d)

/-- DO_GROUP_LOW_CLEAR (R291). -/
def execDoGroupLowClear (g : Fin 4) (v : Half) (s : State) : Host.Outcome State Fault Refusal :=
  fieldD s (modGrp g (fun x => { x with low := false, vfld := v }))

/-! ## Rows: watchdog and trips -/

/-- FIELD_WDG_TIMEOUT (R295). -/
def execFieldWdgTimeout (t : Fin 8) (s : State) : Host.Outcome State Fault Refusal := fieldD s (wdgTimeout t)

/-- EXTSAFE_N_ASSERT (R295). -/
def execExtsafeNAssert (s : State) : Host.Outcome State Fault Refusal := fieldD s extAssert

/-- EXTSAFE_N_RELEASE (R295). -/
def execExtsafeNRelease (s : State) : Host.Outcome State Fault Refusal := fieldD s extRelease

/-- TRIP_EVALUATION (R297). -/
def execTripEvaluation (s : State) : Host.Outcome State Fault Refusal := fieldD s tripEval

/-- TRIP_STAGE_EXPIRY (R300). -/
def execTripStageExpiry (s : State) : Host.Outcome State Fault Refusal :=
  fieldD s (modTrip (fun t => { t with staged := none }))

/-! ## Commands -/

/-- Refused from a host in the standby or arbiter role (check 7); a forwarded command is exempt (R389). -/
def roleTest (d : Dev) : Bool × Half := (d.passive, stNotPermitted)

/-- The tests of DI_CONFIG (R302). -/
def diCfgTests (p : Bytes) : List (Bool × Half) :=
  let first := byteAt p 0
  let n := byteAt p 1
  let ks := List.range n
  [ (p.length != 4 + 4 * n || decide (p.length < 4), stBadLength),
    (nbit (byteAt p 2) 4 || nbit (byteAt p 2) 5 || nbit (byteAt p 2) 6 || byteAt p 3 != 0 ||
      ks.any (fun k => decide (7 < byteAt p (5 + 4 * k)) || decide (15 < byteAt p (6 + 4 * k)) ||
        byteAt p (7 + 4 * k) != 0), stBadParam),
    (decide (32 < first + n) || n == 0, stRange),
    (ks.any (fun k => bits (byteAt p (5 + 4 * k)) 1 0 == 3 || bits (byteAt p (6 + 4 * k)) 1 0 == 3 ||
      bits (byteAt p (6 + 4 * k)) 3 2 == 3 ||
      (bits (byteAt p (6 + 4 * k)) 1 0 != 0 && decide (3 < first + k))), stBadParam) ]

/-- The effect of DI_CONFIG: each entry under R278, and the reference mask. -/
def diCfgApply (p : Bytes) (d : Dev) : Dev :=
  let d := (List.range (byteAt p 1)).foldl (fun d k =>
    let fl := byteAt p (5 + 4 * k)
    let co := byteAt p (6 + 4 * k)
    let c : DiCfg := {
      n := byteAt p (4 + 4 * k), ts := bits fl 1 0, wire := nbit fl 2, mode := bits co 1 0, edge := bits co 3 2 }
    modDi (byteAt p 0 + k) (fun x => { x with pend := some c }) d) d
  let d := if nbit (byteAt p 2) 7 then { d with dig := { d.dig with groupRef := BitVec.ofNat 4 (byteAt p 2) } } else d
  confChanged (updSupply d)

/-- DI_CONFIG (R302). -/
def execDiConfig (o : Origin) (s : State) : Host.Outcome State Fault Refusal :=
  runCmd s o 0x0500 noField (fun _ d p => roleTest d :: diCfgTests p)
    (fun _ d p => (forward 0x0500 p (diCfgApply p d), .ok []))

def doCfgTests (p : Bytes) : List (Bool × Half) :=
  let first := byteAt p 0
  let n := byteAt p 1
  let ks := List.range n
  [ (p.length != 4 + 4 * n || decide (p.length < 4), stBadLength),
    (nbit (byteAt p 2) 4 || nbit (byteAt p 2) 5 || nbit (byteAt p 2) 6 || byteAt p 3 != 0 ||
      ks.any (fun k => decide (7 < byteAt p (5 + 4 * k)) || byteAt p (7 + 4 * k) != 0), stBadParam),
    (decide (32 < first + n) || n == 0 || ks.any (fun k => decide (250 < byteAt p (6 + 4 * k))), stRange),
    (ks.any (fun k => decide (2 < byteAt p (4 + 4 * k)) || byteAt p (6 + 4 * k) == 0), stBadParam) ]

def safeMode (x : Nat) : SafeMode :=
  match x with
  | 0 => .off
  | 1 => .on
  | _ => .hold

/-- Settings wait for the next transfer of a commit, or take effect at once when no task runs (R303, R332). -/
def whenNoTask (f : Dev → Dev) (d : Dev) : Dev := if d.cycleRun then d else f d

def doCfgApply (p : Bytes) (d : Dev) : Dev :=
  let d := (List.range (byteAt p 1)).foldl (fun d k =>
    let g := byteAt p (5 + 4 * k)
    let c : DoCfg := {
      safe := safeMode (byteAt p (4 + 4 * k)), openEn := nbit g 0, shortEn := nbit g 1, retry := nbit g 2
      ilim := byteAt p (6 + 4 * k) }
    modDo (byteAt p 0 + k) (fun x => { x with pend := some c }) d) d
  let d := if nbit (byteAt p 2) 7 then
      (List.range 4).foldl (fun d g => modGrp g (fun x => { x with latchPend := some (nbit (byteAt p 2) g) }) d) d
    else d
  confChanged (whenNoTask (fun d => settleDos (doNewCfg d)) d)

/-- DO_CONFIG (R303). -/
def execDoConfig (o : Origin) (s : State) : Host.Outcome State Fault Refusal :=
  runCmd s o 0x0501 noField (fun _ d p => roleTest d :: doCfgTests p)
    (fun _ d p => (forward 0x0501 p (doCfgApply p d), .ok []))

def wdgCfgTests (p : Bytes) : List (Bool × Half) :=
  let t := getLe p 0 4
  [ lenIs p 8, (decide (1 < byteAt p 6) || byteAt p 7 != 0, stBadParam),
    (t != 0 && (t % 50 != 0 || decide (t < 1000) || decide (10000000 < t)), stRange),
    (byteAt p 4 == 0 || (byteAt p 5) &&& (255 - byteAt p 4) != 0, stBadParam) ]

/-- FIELD_WDG_CONFIG waits for the next feeding commit (R304). -/
def wdgCfgApply (p : Bytes) (d : Dev) : Dev :=
  confChanged (modWdg (fun w => { w with pend := some {
    timeout := getLe p 0 4, feed := BitVec.ofNat 8 (byteAt p 4), reqPartner := BitVec.ofNat 8 (byteAt p 5)
    manual := nbit (byteAt p 6) 0 } }) d)

/-- FIELD_WDG_CONFIG (R304). -/
def execFieldWdgConfig (o : Origin) (s : State) : Host.Outcome State Fault Refusal :=
  runCmd s o 0x0502 noField (fun _ d p => roleTest d :: wdgCfgTests p)
    (fun _ d p => (forward 0x0502 p (wdgCfgApply p d), .ok []))

def WdgState.code : WdgState → Nat
  | .inactive => 0
  | .running => 1
  | .safe => 2
  | .ext => 3

def GrpState.code : GrpState → Nat
  | .normal => 0
  | .lost => 1
  | .recovering => 2
  | .latchedOff => 3

def DoState.code : DoState → Nat
  | .undriven => 0
  | .off => 1
  | .on => 2
  | .openLoad => 3
  | .shortSupply => 4
  | .overcurrent => 5
  | .overtemp => 6
  | .supplyLost => 7

/-- No link at all. -/
def TripCfg.linkless (c : TripCfg) : Bool := c.links.toList.all (· == 0)

/-- Trip configuration of DIAG_READ (Table 7.10). -/
def Trip.code (t : Trip) : Nat :=
  match t.armed.any (fun c => !c.linkless), t.staged.isSome with
  | false, false => 0
  | true, false => 1
  | true, true => 2
  | false, true => 3

/-- The fast count of DI channel i as its I element carries it (R282). -/
def DiCh.fastValue (c : DiCh) : Nat := if c.cfg.mode = 2 then c.lastDelta else c.fast

/-- The response of DIAG_READ (Table 7.10), with what the block measures. -/
def diagPayload (m : DigMeas) (d : Dev) : Bytes :=
  let g := d.dig
  leBytes 1 g.wdg.state.code ++ leBytes 1 (g.wdg.lastExpired.getD 0xFF) ++ leBytes 1 (b2n (!g.wdg.extLow)) ++
  leBytes 1 g.trip.code ++ leBytes 4 g.trip.tripped.toNat ++ leBytes 4 g.trip.latched.toNat ++
  leBytes 4 ((g.trip.armed.map (·.token.toNat)).getD 0) ++
  (List.range 4).flatMap (fun k =>
    let x := vget g.grp k
    leBytes 1 x.state.code ++ leBytes 1 (b2n x.low) ++ leBytes 2 (lget m.grpVolt k).toNat ++
      leBytes 2 (lget m.grpCurrent k).toNat ++ zeros 2) ++
  (List.range 32).flatMap (fun i =>
    let c := vget g.di i
    leBytes 1 c.count ++
      leBytes 1 (b2n c.filtered + 2 * b2n c.raw + 4 * b2n c.broken + 8 * b2n (g.unsup i)) ++ leBytes 2 c.breaks) ++
  (List.range 4).flatMap (fun i => leBytes 4 (vget g.di i).fastValue) ++
  (List.range 32).flatMap (fun j =>
    let c := vget g.dout j
    leBytes 1 c.state.code ++
      leBytes 1 (b2n c.demand + 2 * b2n (m.level.getLsbD j) + 4 * b2n (m.inLimit.getLsbD j) +
        8 * b2n (g.trip.tripped.getLsbD j) + 16 * b2n c.held.isSome + 32 * b2n c.otLatched) ++
      leBytes 2 (lget m.current j).toNat ++ leBytes 2 c.fault ++ zeros 2)

/-- DIAG_READ (R288, Table 7.10). -/
def execDiagRead (o : Origin) (m : DigMeas) (s : State) : Host.Outcome State Fault Refusal :=
  runCmd s o 0x0503 noField
    (fun _ _ p => [lenIs p 4, (decide (1 < byteAt p 0) || !allZero p 1 3, stBadParam)])
    (fun _ d p =>
      let d' := if nbit (byteAt p 0) 0 then { d with dig := { d.dig with
            di := d.dig.di.map (fun (c : DiCh) => { c with breaks := 0 })
            dout := d.dig.dout.map (fun (c : DoCh) => { c with fault := 0 }) } } else d
      (d', .ok (diagPayload m d)))

def tripOf (p : Bytes) : TripCfg :=
  { level := BitVec.ofNat 32 (getLe p 0 4), state := BitVec.ofNat 32 (getLe p 4 4),
    latch := BitVec.ofNat 32 (getLe p 8 4), token := crc32c p,
    links := Vector.ofFn (fun (j : Fin 32) => BitVec.ofNat 32 (getLe p (16 + 4 * j) 4)) }

/-- TRIP_ARM (R305). -/
def execTripArm (o : Origin) (s : State) : Host.Outcome State Fault Refusal :=
  runCmd s o 0x0504 noField (fun _ d p => [roleTest d, lenIs p 144, resv p [(12, 4)]])
    (fun _ d p => (modTrip (fun t => { t with staged := some (tripOf p) }) d,
      .ok (leBytes 4 (crc32c p).toNat ++ zeros 4)))

/-- A staged configuration is applied whole (R300, R306); a tripped DO takes its TRIP_STATE. -/
def tripApply (c : TripCfg) (d : Dev) : Dev :=
  confChanged (raise .tripConfigChanged c.token.toNat
    (settleDos (modTrip (fun t => { t with armed := some c, staged := none }) d)))

/-- The 144 bytes of a configuration, as TRIP_ARM carries them. -/
def tripBytes (c : TripCfg) : Bytes :=
  leBytes 4 c.level.toNat ++ leBytes 4 c.state.toNat ++ leBytes 4 c.latch.toNat ++ zeros 4 ++
    c.links.toList.flatMap (fun w => leBytes 4 w.toNat)

/-- TRIP_CONFIRM (R306). It is forwarded with its staged configuration (R389). -/
def execTripConfirm (o : Origin) (s : State) : Host.Outcome State Fault Refusal :=
  runCmd s o 0x0505 noField
    (fun _ d p => [roleTest d, (d.stopped, stNotPermitted), lenIs p 4,
      (d.dig.trip.staged.isNone, stNotPermitted),
      (d.dig.trip.staged.any (fun c => c.token.toNat != getLe p 0 4), stCheckFailed)])
    (fun _ d p =>
      match d.dig.trip.staged with
      | some c => (forward 0x0505 (p ++ tripBytes c) (tripApply c d), .ok [])
      | none => (d, .ok []))

/-- STILL of OUTPUT_RESET (R307). -/
def stillMask (target : Nat) (m : Word) (gm : Nat) (d : Dev) : Word :=
  let c := d.dig.trip.armed.getD {}
  mask32 fun j =>
    (nbit target 0 && m.getLsbD j && (vget d.dig.dout j).stillLatched) ||
    (nbit target 2 && m.getLsbD j && d.dig.trip.latched.getLsbD j && (d.dig.tripCause c j).isSome) ||
    (nbit target 1 && nbit gm (j / 8) && (vget d.dig.grp (j / 8)).state == .latchedOff)

/-- The actions of OUTPUT_RESET (R307): `cool` names the channels below 155 °C. A LATCHED_OFF group's supply stands at
or above 18.0 V (Table 7.6). -/
def outputReset (cool : Word) (p : Bytes) (d : Dev) : Dev :=
  let target := byteAt p 0
  let m : Word := BitVec.ofNat 32 (getLe p 4 4)
  let d := if nbit target 0 then
      (List.range 32).foldl (fun d j => if m.getLsbD j then resetChannel j (cool.getLsbD j) d else d) d
    else d
  let d := if nbit target 1 then
      (List.range 4).foldl (fun d g =>
        if nbit (byteAt p 8) g && (vget d.dig.grp g).state == .latchedOff then grpRecover g d else d) d
    else d
  let d := if nbit target 2 then tripReset m d else d
  let w := d.dig.wdg
  let d := if nbit target 3 && (w.state == .safe || (w.state == .ext && w.holdsExpiry)) then
      modWdg (fun w => { w with armed := true }) d
    else d
  settleAll d

/-- OUTPUT_RESET (R307). -/
def execOutputReset (o : Origin) (cool : Word) (s : State) : Host.Outcome State Fault Refusal :=
  runCmd s o 0x0506 noField
    (fun _ d p => [roleTest d, (d.stopped, stNotPermitted), lenIs p 12,
      (decide (15 < byteAt p 0) || !allZero p 1 3 || decide (15 < byteAt p 8) || !allZero p 9 3, stBadParam),
      (byteAt p 0 == 0, stBadParam)])
    (fun _ d p =>
      let d' := outputReset cool p d
      (d', .ok (leBytes 4 (stillMask (byteAt p 0) (BitVec.ofNat 32 (getLe p 4 4)) (byteAt p 8) d').toNat)))

end Sys2Proof.Machine
end

