-- ==== Sys2Proof/Machine/Flags.lean ====
section
/-!
DEFINITION. Machine/Flags.lean: what the word arithmetic of cells and loop units computes beside its result: the merge
of qualities (R102), rounding and clipping with the sticky flags SAT and OVF (R127, R128, R244), comparisons (R111) and
mod-3 residues (R49, R129).
-/

namespace Sys2Proof.Machine

open Sys2Proof

/-- The merge of two qualities: the numerically greater code (R102). -/
def qMerge (a b : Byte) : Byte := if a.toNat < b.toNat then b else a

/-- The merge of several qualities; GOOD of none. -/
def qMergeAll (l : List Byte) : Byte := l.foldl qMerge qGOOD

/-- A result clipped to n bits, and whether it was clipped (R128). -/
def clipTo (n : Nat) (x : Int) : Int × Bool :=
  let lo : Int := -(2 ^ (n - 1))
  let hi : Int := 2 ^ (n - 1) - 1
  (clampInt lo hi x, decide (x < lo ∨ hi < x))

/-- The result and SAT of a saturating 32-bit operation (R127, R128). -/
def satWord (x : Int) : Word × Bool :=
  let (y, c) := clipTo 32 x
  (BitVec.ofInt 32 y, c)

/-- Half away from zero, by 2^k (R128). -/
def rnd (k : Nat) (x : Int) : Int := divNearest x (2 ^ k)

/-- The comparison of a KIND (R111): signed. -/
def compareKind (kind : Nat) (a b : Word) : Bool :=
  let x := a.toInt
  let y := b.toInt
  match kind with
  | 0 => decide (x = y)
  | 1 => decide (x ≠ y)
  | 2 => decide (x < y)
  | 3 => decide (x ≤ y)
  | 4 => decide (x > y)
  | _ => decide (x ≥ y)

/-- The mod-3 residue that stands with a word (R49). -/
def residue (x : Int) : Int := x % 3

/-- The residue that the operands predict for a sum, difference or product (R49). -/
def residueOf (op : Int → Int → Int) (a b : Word) : Int := residue (op (residue a.toInt) (residue b.toInt))

end Sys2Proof.Machine
end

