-- ==== Sys2Proof/Machine/Analog.lean ====
section
/-!
DEFINITION. Machine/Analog.lean: the current-loop channels, their supply VFLD_A and their calibration (chapter 08,
R309 to R334).
-/

namespace Sys2Proof.Machine

open Sys2Proof

def modAi (i : Nat) (f : AiCh → AiCh) (d : Dev) : Dev := { d with ana := { d.ana with ai := vmod d.ana.ai i f } }
def modAo (j : Nat) (f : AoCh → AoCh) (d : Dev) : Dev := { d with ana := { d.ana with ao := vmod d.ana.ao j f } }

/-- A current in µA, rounded to nearest; negative taken as 0 (R334). -/
def microAmp (x : Int) : Nat := (clampInt 0 0xFFFF (divNearest (x * 1000) 65536)).toNat

/-! ## Current inputs -/

/-- The conversion period of a RATE in base ticks (Table 8.3). -/
def convPeriod (rate : Nat) : Nat :=
  match rate with
  | 0 => 1 | 1 => 2 | 2 => 4 | 3 => 10 | 4 => 20 | 5 => 40 | 6 => 200 | 7 => 400 | _ => 2000

/-- The classification of a VALUE (R316, Table 8.4). -/
def aiClass (plain : Bool) (x : Int) : Byte :=
  if plain then (if x ≤ 24 * 65536 + 32768 then qGOOD else qBAD)
  else if x < 0x3999A then qBAD_WIRE
  else if x < 0x3CCCD then qUNDER_RANGE
  else if x ≤ 0x148000 then qGOOD
  else if x ≤ 0x150000 then qOVER_RANGE
  else qBAD

/-- The codes that AI_RANGE reports, with their number in its detail word (Table 8.14). -/
def rangeCode (q : Byte) : Option Nat :=
  if q = qUNDER_RANGE then some 1 else if q = qOVER_RANGE then some 2 else if q = qBAD then some 3 else none

/-- A channel's state for one of the two events of R334: armed again after 1 s outside the classes; the tick since when
it has been outside. -/
def rearm (since : Option Nat) (armed : Bool) (tick : Nat) : Bool :=
  armed || since.any (fun t => decide (t + 20000 ≤ tick))

/-- The events and entry counts of a classified result (R334, Table 8.12). -/
def aiEvents (i : Nat) (value : Int) (old new : Byte) (d : Dev) : Dev :=
  let c := vget d.ana.ai i
  let wire := new == qBAD_WIRE
  let range := rangeCode new
  let wArm := rearm c.wireSince c.wireArmed d.tick
  let rArm := rearm c.rangeSince c.rangeArmed d.tick
  let goW := wire && c.evtWire && wArm
  let goR := range.isSome && c.evtRange && rArm
  let d := modAi i (fun c => { c with
    wireArmed := wArm && !goW, wireSince := if wire then none else some (c.wireSince.getD d.tick)
    rangeArmed := rArm && !goR, rangeSince := if range.isSome then none else some (c.rangeSince.getD d.tick)
    wbCount := if wire && old != qBAD_WIRE then min 0xFFFF (c.wbCount + 1) else c.wbCount
    rangeCount := if range.isSome && old != new then min 0xFFFF (c.rangeCount + 1) else c.rangeCount }) d
  let d := raiseIf goW .aiWirebreak (i + 65536 * microAmp value) d
  raiseIf goR .aiRange (i + 16 * range.getD 0 + 65536 * microAmp value) d

/-- The span of Table 8.2, beyond which a result saturates: −1.0 to 26.0 mA, in units of 2^−18 mA. -/
def spanCode (code : Int) : Int := clampInt (-(2 ^ 18)) (26 * 2 ^ 18) code

/-- The quality that a channel carries: BAD_SUPPLY in place of its classification while its loop supply is away (R317). -/
def Dev.aiQuality (d : Dev) (i : Nat) : Byte :=
  let c := vget d.ana.ai i
  if d.ana.grace && c.loopPower then qBAD_SUPPLY else c.elem.quality

/-- A conversion is assigned to base tick k (R313); a change of RATE counts from the tick at which it takes effect, so
that the first result at the new rate is assigned to the instant after it (R315). -/
def AiCh.converts (c : AiCh) (k : Nat) : Bool := k % convPeriod (if k ≤ c.rateAt then c.oldRate else c.rate) == 0

/-- A conversion completes, assigned to the next base tick (R313 to R317). -/
def aiConvert (i : Nat) (code : BitVec 24) (d : Dev) : Dev :=
  let c := vget d.ana.ai i
  let k := d.tick + 1
  if !c.converts k then d
  else
    let raw := divNearest (spanCode code.toInt) 4
    let value := trimmed c.trim raw
    let q := if d.ana.grace && c.loopPower then qBAD_SUPPLY else aiClass c.classPlain value
    let (seq, d) := inputSeq ((d.inputEl 3 i).map (·.1)) d
    let old := c.elem.quality
    let d := modAi i (fun c => { c with elem := mkTV (d.inputId 3 i) (BitVec.ofInt 32 value) q seq }) d
    let d := match d.ana.capture with
      | some x => if x.ch = i then
          { d with ana := { d.ana with capture := some { x with sum := x.sum + raw, count := x.count + 1 } } } else d
      | none => d
    aiEvents i value old q d

/-! ## VFLD_A (Table 8.5) -/

def supplyDetail (low lost : Bool) (v : Half) : Nat := b2n low + 2 * b2n lost + 65536 * v.toNat

def vfldLoss (v : Half) (d : Dev) : Dev :=
  let d := { d with ana := { d.ana with
    vfld := .lost, volt := v, grace := true, nextSlot := 0
    ai := d.ana.ai.map (fun (c : AiCh) => { c with lpOn := false, retry := false }) } }
  settleAll (raise .aoSupplyLow (supplyDetail d.ana.low true v) d)

def vfldReturn (v : Half) (d : Dev) : Dev :=
  { d with ana := { d.ana with
    vfld := .recovering, volt := v, nextSlot := 0
    ai := d.ana.ai.map (fun (c : AiCh) => { c with lpOn := c.loopPower }) } }

def aoSlot (d : Dev) : Dev :=
  if d.ana.vfld != .recovering then d
  else
    let j := d.ana.nextSlot
    let d := { d with ana := { d.ana with nextSlot := j + 1 } }
    settleAo j (if 7 ≤ j then { d with ana := { d.ana with vfld := .normal, nextSlot := 0 } } else d)

/-! ## Current outputs -/

/-- Compliance, open-loop and mismatch detection is suspended (R326). -/
def Dev.aoSuspended (d : Dev) (j : Nat) : Bool :=
  let c := vget d.ana.ao j
  c.thermalOff || (c.undriven && c.drive.isNone) || d.ana.blocked j

/-- The channel quality (R327, Table 8.8). -/
def Dev.aoQuality (d : Dev) (j : Nat) : Byte :=
  let c := vget d.ana.ao j
  if c.thermalOff then qBAD_HARDWARE
  else if d.ana.blocked j then qBAD_SUPPLY
  else if c.mismatch then qBAD_HARDWARE
  else if c.checkBad then qBAD_CHECK
  else if c.openLoop then qBAD_WIRE
  else if (c.undriven && c.drive.isNone) || c.held.isSome then qSAFE_VALUE
  else qGOOD

/-- VALUE of the AO status element (Table 8.1). -/
def Dev.aoStatus (d : Dev) (j : Nat) : Nat :=
  let c := vget d.ana.ao j
  b2n c.compliance + 2 * b2n c.openLoop + 4 * b2n c.foldback + 8 * b2n c.thermalOff + 16 * b2n c.mismatch +
    32 * b2n c.held.isSome + 64 * b2n c.clipped

def countEntry (c : AoCh) : AoCh := { c with entries := min 0xFFFF (c.entries + 1) }

/-- New AO settings take effect (R332). -/
def aoNewCfg (d : Dev) : Dev :=
  { d with ana := { d.ana with ao := d.ana.ao.map (fun (c : AoCh) => { c with cfg := c.pend.getD c.cfg, pend := none }) } }

/-- A commit of task t reaches the AO stage (Table 4.6). -/
def commitAos (t : Nat) (d : Dev) : Dev :=
  (List.range 8).foldl (fun d j =>
    match d.drive 3 j t with
    | none => d
    | some none => modAo j (fun c => { c with undriven := false, slotHold := none, forced := none }) d
    | some (some v) =>
      modAo j (fun c => { c with
        image := v.value.value, checkBad := !v.ok, slotHold := none, undriven := false, drive := none
        forced := if v.forced then some v.value.value else none })
        (if v.ok then d else countCheck .output d)) (aoNewCfg d)

/-- The whole transfer of a commit to D7: both stages, the field watchdog, and the demands that follow (R162, R294). -/
def commitToField (t : Nat) (stale : Bool) (d : Dev) : Dev :=
  if d.fieldIo then settleAll (wdgCommit t stale (commitAos t (commitDos t d))) else d

/-! ## Rows: inputs and supply -/

/-- AI_CONVERSION (R314). -/
def execAiConversion (i : Fin 16) (code : BitVec 24) (s : State) : Host.Outcome State Fault Refusal :=
  fieldD s (aiConvert i code)

/-- AI_LOOPPOWER_TIMEOUT (R312). -/
def execAiLooppowerTimeout (i : Fin 16) (s : State) : Host.Outcome State Fault Refusal :=
  fieldD s fun d =>
    if (vget d.ana.ai i).lpOn then
      raise .aiLooppowerLimit i (modAi i (fun c => { c with lpOn := false, retry := true }) d)
    else d

/-- AI_LOOPPOWER_RETRY (R312): a trial that ends with or without current limit. -/
def execAiLooppowerRetry (i : Fin 16) (limited : Bool) (s : State) : Host.Outcome State Fault Refusal :=
  fieldD s fun d =>
    if (vget d.ana.ai i).retry && !limited then modAi i (fun c => { c with lpOn := true, retry := false }) d else d

/-- VFLD_A_LOSS (R318). -/
def execVfldALoss (v : Half) (s : State) : Host.Outcome State Fault Refusal :=
  fieldD s fun d => if d.ana.vfld == .lost then d else vfldLoss v d

/-- VFLD_A_RETURN (R318). -/
def execVfldAReturn (v : Half) (s : State) : Host.Outcome State Fault Refusal :=
  fieldD s fun d => if d.ana.vfld == .lost then vfldReturn v d else d

/-- AO_RECOVERY_SLOT (R318). -/
def execAoRecoverySlot (s : State) : Host.Outcome State Fault Refusal := fieldD s aoSlot

/-- AI_SUPPLY_GRACE_END (R317). -/
def execAiSupplyGraceEnd (s : State) : Host.Outcome State Fault Refusal :=
  fieldD s fun d => if d.ana.vfld == .lost then d else { d with ana := { d.ana with grace := false } }

/-- VFLD_A_LOW_SET (R318). -/
def execVfldALowSet (v : Half) (s : State) : Host.Outcome State Fault Refusal :=
  fieldD s fun d =>
    if d.ana.low then d
    else raise .aoSupplyLow (supplyDetail true (d.ana.vfld == .lost) v)
      { d with ana := { d.ana with low := true, volt := v } }

/-- VFLD_A_LOW_CLEAR (R318). -/
def execVfldALowClear (v : Half) (s : State) : Host.Outcome State Fault Refusal :=
  fieldD s fun d => { d with ana := { d.ana with low := false, volt := v } }

/-! ## Rows: outputs -/

/-- AO_COMPLIANCE_DETECT (R323). -/
def execAoComplianceDetect (j : Fin 8) (present : Bool) (s : State) : Host.Outcome State Fault Refusal :=
  fieldD s fun d =>
    let c := vget d.ana.ao j
    if !present then modAo j (fun c => { c with compliance := false, compExpired := false }) d
    else if d.aoSuspended j || c.openLoop || c.compliance then d
    else modAo j (fun c => countEntry { c with compliance := true, compExpired := false }) d

/-- AO_COMPLIANCE_TIME_EXPIRY (R323), with the regulation current. -/
def execAoComplianceTimeExpiry (j : Fin 8) (reg : Word) (s : State) : Host.Outcome State Fault Refusal :=
  fieldD s fun d =>
    let c := vget d.ana.ao j
    if c.compliance && !c.compExpired then
      raise .aoCompliance (j + 65536 * microAmp reg.toInt) (modAo j (fun c => { c with compExpired := true }) d)
    else d

/-- AO_OPEN_DETECT (R324). -/
def execAoOpenDetect (j : Fin 8) (present : Bool) (s : State) : Host.Outcome State Fault Refusal :=
  fieldD s fun d =>
    let c := vget d.ana.ao j
    if !present then modAo j (fun c => { c with openLoop := false }) d
    else if d.aoSuspended j || c.openLoop then d
    else raise .aoOpen j
      (modAo j (fun c => countEntry { c with openLoop := true, compliance := false, compExpired := false }) d)

/-- AO_MISMATCH_DETECT (R325). -/
def execAoMismatchDetect (j : Fin 8) (present : Bool) (s : State) : Host.Outcome State Fault Refusal :=
  fieldD s fun d =>
    let c := vget d.ana.ao j
    if !present then settleAo j (modAo j (fun c => { c with mismatch := false }) d)
    else if d.aoSuspended j || c.mismatch then d
    else settleAo j (raise .aoReadbackMismatch (j + 65536 * microAmp c.readback.value.toInt)
      (modAo j (fun c => countEntry { c with mismatch := true }) d))

/-- AO_READBACK_CONVERSION (R325). -/
def execAoReadbackConversion (j : Fin 8) (v : Word) (s : State) : Host.Outcome State Fault Refusal :=
  fieldD s fun d =>
    let (seq, d) := inputSeq ((d.inputEl 4 j).map (·.1)) d
    modAo j (fun c => { c with readback := mkTV (d.inputId 4 j) v (d.aoQuality j) seq }) d

/-- AO_TEMPERATURE_CHANGE (R328): the local temperature in 1/16 °C. -/
def execAoTemperatureChange (j : Fin 8) (temp : Half) (s : State) : Host.Outcome State Fault Refusal :=
  fieldD s fun d =>
    let c := vget d.ana.ao j
    let t := temp.toInt
    let detail := j + 65536 * temp.toNat
    let fold := decide (2400 ≤ t) || (c.foldback && decide (2368 ≤ t))
    let off := c.thermalOff || decide (2640 ≤ t)
    let d := modAo j (fun c => { c with temp := temp, foldback := fold, thermalOff := off }) d
    let d := raiseIf (fold && !c.foldback) .aoThermalFoldback detail d
    let d := if off && !c.thermalOff then raise .aoThermalOff detail (modAo j countEntry d) else d
    settleAo j d

/-- AO_THERMAL_RECOVER (R328). -/
def execAoThermalRecover (j : Fin 8) (temp : Half) (s : State) : Host.Outcome State Fault Refusal :=
  fieldD s fun d =>
    let t := temp.toInt
    if 2240 ≤ t then d
    else settleAo j (modAo j (fun c => { c with temp := temp, thermalOff := false, foldback := false }) d)

/-! ## Commands -/

def aiCfgTests (p : Bytes) : List (Bool × Half) :=
  let n := byteAt p 1
  let ks := List.range n
  [ (p.length != 4 + 4 * n || decide (p.length < 4), stBadLength),
    (!allZero p 2 2 || ks.any (fun k => decide (3 < byteAt p (5 + 4 * k)) || decide (3 < byteAt p (6 + 4 * k)) ||
      byteAt p (7 + 4 * k) != 0), stBadParam),
    (n == 0 || decide (16 < byteAt p 0 + n), stRange),
    (ks.any (fun k => decide (8 < byteAt p (4 + 4 * k))), stBadParam) ]

/-- The first conversion instant of a rate after a tick, at which its change takes effect (R315). -/
def rateStart (rate tick : Nat) : Nat := (tick / convPeriod rate + 1) * convPeriod rate

def aiCfgApply (p : Bytes) (d : Dev) : Dev :=
  confChanged ((List.range (byteAt p 1)).foldl (fun d k =>
    let rate := byteAt p (4 + 4 * k)
    let fl := byteAt p (5 + 4 * k)
    let ev := byteAt p (6 + 4 * k)
    let lp := nbit fl 0
    let lost := d.ana.vfld == .lost
    modAi (byteAt p 0 + k) (fun c => { c with
      rateAt := if c.rate = rate then c.rateAt else rateStart rate d.tick
      oldRate := if c.rate = rate || decide (d.tick < c.rateAt) then c.oldRate else c.rate
      rate := rate, loopPower := lp, classPlain := nbit fl 1, evtWire := nbit ev 0, evtRange := nbit ev 1
      lpOn := if lp == c.loopPower then c.lpOn else lp && !lost
      retry := c.retry && lp }) d) d)

/-- AI_CONFIG (R331). -/
def execAiConfig (o : Origin) (s : State) : Host.Outcome State Fault Refusal :=
  runCmd s o 0x0600 noField (fun _ d p => roleTest d :: aiCfgTests p)
    (fun _ d p => (forward 0x0600 p (aiCfgApply p d), .ok []))

def aoCfgTests (p : Bytes) : List (Bool × Half) :=
  let n := byteAt p 1
  let ks := List.range n
  let ma := fun k => (BitVec.ofNat 32 (getLe p (8 + 12 * k) 4)).toInt
  [ (p.length != 4 + 12 * n || decide (p.length < 4), stBadLength),
    (!allZero p 2 2 || ks.any (fun k => decide (1 < byteAt p (5 + 12 * k)) || !allZero p (12 + 12 * k) 4), stBadParam),
    (n == 0 || decide (8 < byteAt p 0 + n), stRange),
    (ks.any (fun k => decide (getLe p (6 + 12 * k) 2 < 2) || decide (10000 < getLe p (6 + 12 * k) 2) ||
      decide (ma k < 0) || decide (ma24 < ma k)), stRange),
    (ks.any (fun k => decide (2 < byteAt p (4 + 12 * k))), stBadParam) ]

def aoCfgApply (p : Bytes) (d : Dev) : Dev :=
  let d := (List.range (byteAt p 1)).foldl (fun d k =>
    let c : AoCfg := {
      safe := safeMode (byteAt p (4 + 12 * k)), mismatchOff := nbit (byteAt p (5 + 12 * k)) 0
      compTime := getLe p (6 + 12 * k) 2, safeMa := BitVec.ofNat 32 (getLe p (8 + 12 * k) 4) }
    modAo (byteAt p 0 + k) (fun x => { x with pend := some c }) d) d
  confChanged (whenNoTask (fun d => settleAll (aoNewCfg d)) d)

/-- AO_CONFIG (R332). -/
def execAoConfig (o : Origin) (s : State) : Host.Outcome State Fault Refusal :=
  runCmd s o 0x0601 noField (fun _ d p => roleTest d :: aoCfgTests p)
    (fun _ d p => (forward 0x0601 p (aoCfgApply p d), .ok []))

def VfldState.code : VfldState → Nat
  | .normal => 0
  | .lost => 1
  | .recovering => 2

/-- The response of ANALOG_DIAG_READ (Table 8.12), with what the block measures. -/
def anaPayload (m : AnaMeas) (d : Dev) : Bytes :=
  let a := d.ana
  leBytes 1 a.vfld.code ++ leBytes 1 (b2n a.low) ++ leBytes 2 m.volt.toNat ++ leBytes 2 m.loopCurrent.toNat ++
  zeros 10 ++
  (List.range 16).flatMap (fun i =>
    let c := vget a.ai i
    leBytes 4 c.elem.value.toNat ++ leBytes 1 (d.aiQuality i).toNat ++
      leBytes 1 (b2n c.lpOn + 2 * b2n (m.inLimit.getLsbD i) + 4 * b2n c.retry + 8 * b2n (a.grace && c.loopPower)) ++
      leBytes 2 c.wbCount ++ leBytes 2 c.rangeCount ++ zeros 2) ++
  (List.range 8).flatMap (fun j =>
    let c := vget a.ao j
    leBytes 4 c.demand.toNat ++ leBytes 4 (lget m.regulation j).toNat ++ leBytes 4 c.readback.value.toNat ++
      leBytes 2 (lget m.vao j).toNat ++ leBytes 2 c.temp.toNat ++
      leBytes 2 (b2n (c.undriven && c.drive.isNone) + 2 * b2n c.held.isSome + 4 * b2n c.compliance +
        8 * b2n c.openLoop + 16 * b2n c.foldback + 32 * b2n c.thermalOff + 64 * b2n c.mismatch +
        128 * b2n (a.blocked j) + 256 * b2n c.clipped + 512 * b2n c.drive.isSome) ++
      leBytes 1 (d.aoQuality j).toNat ++ zeros 1 ++ leBytes 2 c.entries ++ leBytes 2 (lget m.vout j).toNat)

/-- ANALOG_DIAG_READ (R327, Table 8.12). -/
def execAnalogDiagRead (o : Origin) (m : AnaMeas) (s : State) : Host.Outcome State Fault Refusal :=
  runCmd s o 0x0602 noField
    (fun _ _ p => [lenIs p 4, (decide (1 < byteAt p 0) || !allZero p 1 3, stBadParam)])
    (fun _ d p =>
      let d' := if nbit (byteAt p 0) 0 then { d with ana := { d.ana with
            ai := d.ana.ai.map (fun (c : AiCh) => { c with wbCount := 0, rangeCount := 0 })
            ao := d.ana.ao.map (fun (c : AoCh) => { c with entries := 0 }) } } else d
      (d', .ok (anaPayload m d)))

/-! ### ANALOG_CALIBRATE -/

/-- The limits of R330: |g − 1| at most 5,000 ppm and |o| at most 0.1 mA. -/
def trimOk (t : Trim) : Bool :=
  let num := t.hi.ref - t.lo.ref
  let den := t.hi.raw - t.lo.raw
  decide (0 < den) && decide ((num - den).natAbs * 1000000 ≤ 5000 * den.natAbs) &&
    decide ((t.lo.ref * den - num * t.lo.raw).natAbs * 10 ≤ 65536 * den.natAbs)

/-- GAIN_PPM and OFFSET of the trim in force, and the held points (Table 8.13). -/
def calPayload (t : Option Trim) (lo hi : Option CalPoint) (captured : Int) : Bytes :=
  let g : Int × Int := match t with
    | none => (0, 0)
    | some t =>
      let num := t.hi.ref - t.lo.ref
      let den := t.hi.raw - t.lo.raw
      (divNearest ((num - den) * 1000000) den, divNearest (t.lo.ref * den - num * t.lo.raw) den)
  leBytes 4 (BitVec.ofInt 32 g.1).toNat ++ leBytes 4 (BitVec.ofInt 32 g.2).toNat ++
    leBytes 4 (BitVec.ofInt 32 captured).toNat ++
    leBytes 1 (b2n t.isSome + 2 * b2n lo.isSome + 4 * b2n hi.isSome) ++ zeros 3

def aiCalPayload (i : Nat) (captured : Int) (d : Dev) : Bytes :=
  let c := vget d.ana.ai i
  calPayload c.trim c.ptLo c.ptHi captured

def aoCalPayload (j : Nat) (d : Dev) : Bytes :=
  let c := vget d.ana.ao j
  calPayload c.trim c.ptLo c.ptHi 0

def pairTrim (lo hi : Option CalPoint) : Option Trim :=
  match lo, hi with
  | some l, some h => some ⟨l, h⟩
  | _, _ => none

/-- A VALUE lies outside the band of its point (R330): 2 to 6 mA, or 16 to 22 mA. -/
def bandBad (high : Bool) (x : Int) : Bool :=
  if high then decide (x < 16 * 65536) || decide (22 * 65536 < x)
  else decide (x < 2 * 65536) || decide (6 * 65536 < x)

/-- AO_DRIVE may not take the channel (R333). UNDRIVEN is no obstacle (R321, log entry 15). -/
def Dev.driveRefused (d : Dev) (j : Nat) : Bool :=
  let c := vget d.ana.ao j
  (d.driverTask 3 j).any (fun t => (vget d.prog.tasks t).st.running) || (d.boundSlot 1 j).isSome || c.forced.isSome ||
    c.thermalOff || (c.mismatch && c.cfg.mismatchOff) || d.ana.blocked j || c.held.isSome

def calTests (d : Dev) (p : Bytes) : List (Bool × Half) :=
  let op := byteAt p 0
  let ao := nbit (byteAt p 1) 7
  let ch := byteAt p 1 % 16
  let high := byteAt p 2 == 1
  let v := (BitVec.ofNat 32 (getLe p 4 4)).toInt
  let pointed := [1, 3, 4].contains op
  let valued := op == 1 || op == 4
  let a := vget d.ana.ai ch
  let c := vget d.ana.ao ch
  let trim := if op = 2 then pairTrim a.ptLo a.ptHi else pairTrim c.ptLo c.ptHi
  let apply := op == 2 || op == 5
  let driving := (List.range 8).filter (fun j => (vget d.ana.ao j).drive.isSome)
  [ (d.passive || (ao && d.stopped), stNotPermitted), lenIs p 12,
    (bits (byteAt p 1) 6 4 != 0 || byteAt p 3 != 0 || !allZero p 8 4 || (!pointed && byteAt p 2 != 0) ||
      (!valued && !allZero p 4 4), stBadParam),
    ((ao && decide (7 < ch)) || (valued && bandBad high v), stRange),
    (decide (7 < op) || decide (1 < byteAt p 2) || ([1, 2].contains op && ao) || ([3, 4, 5, 6].contains op && !ao),
      stBadParam),
    (op == 3 && d.driveRefused ch, stNotPermitted),
    ((op == 4 && c.drive != some high) || (apply && trim.isNone), stNotPermitted),
    ((op == 1 && (d.ana.capture.isSome || !driving.isEmpty)) ||
      (op == 3 && (d.ana.capture.isSome || driving.any (fun j => j != ch))), stBusy),
    (apply && trim.any (fun t => !trimOk t), stRange) ]

/-- The effect of ANALOG_CALIBRATE (R333). -/
def calAct (o : Origin) (p : Bytes) (d : Dev) : Dev × Reply :=
  let op := byteAt p 0
  let ao := nbit (byteAt p 1) 7
  let ch := byteAt p 1 % 16
  let high := byteAt p 2 == 1
  let v := (BitVec.ofNat 32 (getLe p 4 4)).toInt
  let fin := fun (d : Dev) => (d, Reply.ok (if ao then aoCalPayload ch d else aiCalPayload ch 0 d))
  match op with
  | 1 => ({ d with ana := { d.ana with capture := some { ch := ch, high := high, ref := v, sum := 0, count := 0, waiter := o } } },
          .later)
  | 2 => fin (confChanged (modAi ch (fun c => { c with trim := pairTrim c.ptLo c.ptHi, ptLo := none, ptHi := none }) d))
  | 3 => fin (settleAo ch (modAo ch (fun c => { c with drive := some high }) d))
  | 4 => fin (modAo ch (fun c =>
      if high then { c with ptHi := some ⟨20 * 65536, v⟩ } else { c with ptLo := some ⟨4 * 65536, v⟩ }) d)
  | 5 => fin (settleAo ch (confChanged
      (modAo ch (fun c => { c with trim := pairTrim c.ptLo c.ptHi, ptLo := none, ptHi := none }) d)))
  | 6 => fin (settleAo ch (modAo ch (fun c => { c with drive := none }) d))
  | 7 => if ao then fin (settleAo ch (confChanged (modAo ch (fun c => { c with trim := none }) d)))
         else fin (confChanged (modAi ch (fun c => { c with trim := none }) d))
  | _ => fin d

/-- ANALOG_CALIBRATE (R333). -/
def execAnalogCalibrate (o : Origin) (s : State) : Host.Outcome State Fault Refusal :=
  runCmd s o 0x0603 noField (fun _ d p => calTests d p) (fun _ d p => calAct o p d)

/-- AI_CAPTURE_DONE (R333): the average of the results of 1 s is held as the point. -/
def execAiCaptureDone (s : State) : Host.Outcome State Fault Refusal :=
  fieldD s fun d =>
    match d.ana.capture with
    | none => d
    | some x =>
      if x.count = 0 then d
      else
        let avg := divNearest x.sum x.count
        let pt : CalPoint := ⟨x.ref, avg⟩
        let d := modAi x.ch (fun c => if x.high then { c with ptHi := some pt } else { c with ptLo := some pt })
          { d with ana := { d.ana with capture := none } }
        respond x.waiter stOk (aiCalPayload x.ch avg d) d

end Sys2Proof.Machine
end

