-- ==== Sys2Proof/Machine/History.lean ====
section
/-!
DEFINITION. Machine/History.lean: the ice-core recorder: histograms, extremes, log, its flushes to boot flash and its
commands (R479 to R489, R492 to R494).
-/

namespace Sys2Proof.Machine

open Sys2Proof

def modHist (f : HistRec → HistRec) (d : Dev) : Dev := { d with hist := f d.hist }

/-! ## Segments (R486) -/

def histSegment (i : Nat) : Nat := 1 + i / 24
def extSegment (i : Nat) : Nat := 4 + i / 64

/-- The recorder's present content. -/
def histCopy (d : Dev) : HistCopy :=
  { opSeconds := d.hist.opSeconds, powerCycles := d.hist.powerCycles, dropped := d.hist.dropped,
    epoch := d.pwr.bootEpoch, hists := d.hist.hists, extremes := d.hist.extremes, log := d.hist.log }

/-- Flash content after the segments of a list have been written from a copy: each whole (R486). The log fill level
is segment 0's. -/
def flashMerge (segs : List Nat) (new old : HistCopy) : HistCopy :=
  let pick := fun (seg : Nat) => segs.contains seg
  let stamps := if pick 0 then new else old
  { opSeconds := stamps.opSeconds, powerCycles := stamps.powerCycles, dropped := stamps.dropped, epoch := stamps.epoch,
    hists := old.hists.filter (fun e => !pick (histSegment e.1)) ++ new.hists.filter (fun e => pick (histSegment e.1)),
    extremes := old.extremes.filter (fun e => !pick (extSegment e.1)) ++
      new.extremes.filter (fun e => pick (extSegment e.1)),
    log := (List.range stamps.log.length).map (fun i =>
      if pick (logSegment i) then lget new.log i else lget old.log i) }

/-- A flush starts from a staging copy (R487): every changed segment, and segment 0, whose stamps always change. What a
flush in progress had not finished is written by the new one. -/
def startFlush (kind : Nat) (d : Dev) : Dev :=
  let prior := match d.hist.flush with
    | some f => f.segments
    | none => []
  let segs := (0 :: (prior ++ d.hist.dirty)).dedup
  modHist (fun h => { h with flush := some ⟨kind, segs, histCopy d⟩, dirty := [] }) d

/-- A flush ends (R487): complete, or failed with FW_FAULT. -/
def endFlush (ok : Bool) (d : Dev) : Dev :=
  match d.hist.flush with
  | none => d
  | some f =>
    if ok then
      let seq := d.hist.flushSeq + 1
      let d := modHist (fun h => { h with
        flush := none, flash := flashMerge f.segments f.copy h.flash, valid := (h.valid ++ f.segments).dedup
        flushSeq := seq, lastFlushOp := h.opSeconds }) d
      raise .historyFlushed (f.kind + 4 * min 63 f.segments.length + 256 * (seq.toNat % 2 ^ 24)) d
    else
      raise .fwFault (5 * 65536)
        (modHist (fun h => { h with flush := none, dirty := (h.dirty ++ f.segments).dedup }) d)

/-- A reset ends a flush in progress: each of its segments is whole or untouched, and which is open (log entry 18). -/
def cutFlush (d : Dev) : Dev :=
  match d.hist.flush with
  | none => d
  | some f =>
    let d := modHist (fun h => { h with flush := none }) d
    f.segments.foldl (fun d seg =>
      let (b, d) := freshBool d
      if b then modHist (fun h => { h with
        flash := flashMerge [seg] f.copy h.flash, valid := (h.valid ++ [seg]).dedup }) d else d) d

/-! ## Samples -/

/-- The owning task of a bound element (R480). -/
def Image.ownerOf (im : Image) (space el : Nat) : Option Nat :=
  if space = spI then im.readerOf (ekey spI el) else (im.writerOf (ekey space el)).orElse fun _ => im.readerOf (ekey space el)

/-- A sample into a histogram (R481). -/
def histAdd (v : TV) (h : Hist) : Hist :=
  if !qUsable v.quality then { h with badq := satInc h.badq }
  else
    let x := v.value.toInt - h.low.toInt
    let bin := if x < 0 then 0 else min 31 ((x / h.width.toInt).toNat + 1)
    { h with saturated := h.saturated || vget h.bins bin == 0xFFFFFFFF, bins := vmod h.bins bin satInc }

/-- The stamps of this instant (R479, R482). -/
def stampNow (value : Word) (d : Dev) : Stamp :=
  { value := value, opSec := d.hist.opSeconds, cycles := d.hist.powerCycles, time := d.rtc.timeWord,
    untrusted := d.rtc.osf }

/-- A sample into an extreme tracker (R482). -/
def extAdd (v : TV) (st : Stamp) (e : Extreme) : Extreme :=
  if !qUsable v.quality then e
  else
    { e with
      seen := true, usable := satInc e.usable
      min := if !e.seen || decide (v.value.toInt < e.min.value.toInt) then st else e.min
      max := if !e.seen || decide (e.max.value.toInt < v.value.toInt) then st else e.max }

/-- The sample of a binding at a commit of task t: the committed value, or the input image of the cycle (R480). -/
def bindSample (t : Nat) (b : HBind) (d : Dev) : TV :=
  if b.space = spI then mgetD (vget d.prog.tasks t).inputs b.element {}
  else mgetD d.prog.vals (ekey b.space b.element) {}

/-- Whether a binding counts a commit of task t, and whether that commit is its sample. -/
def bindDue (t : Nat) (im : Image) (b : HBind) : Bool × Bool :=
  let mine := b.enabled && im.ownerOf b.space b.element == some t
  (mine, mine && decide (b.decim ≤ b.phase + 1))

def bindStep (b : HBind) : HBind := { b with phase := if b.decim ≤ b.phase + 1 then 0 else b.phase + 1 }

/-- A commit of task t gives its samples (R480). -/
def historyCommit (t : Nat) (d : Dev) : Dev :=
  match d.prog.image with
  | none => d
  | some im =>
    let d := d.hist.hists.foldl (fun d (i, h) =>
      let (mine, due) := bindDue t im h.bind
      if !mine then d
      else
        let h' := { h with bind := bindStep h.bind }
        let h' := if due then histAdd (bindSample t h.bind d) h' else h'
        let d := modHist (fun x => { x with hists := mput x.hists i h' }) d
        if due then markDirty (histSegment i) d else d) d
    d.hist.extremes.foldl (fun d (i, e) =>
      let (mine, due) := bindDue t im e.bind
      if !mine then d
      else
        let e' := { e with bind := bindStep e.bind }
        let v := bindSample t e.bind d
        let e' := if due then extAdd v (stampNow v.value d) e' else e'
        let d := modHist (fun x => { x with extremes := mput x.extremes i e' }) d
        if due then markDirty (extSegment i) d else d) d

/-- A binding under a new image (R483). -/
def rebind (im : Image) (b : HBind) : HBind :=
  let el := if b.space = spI then
      (List.range im.iDecl.length).find? (fun e => (im.iOf e).kind == 2 && (im.iOf e).id == b.key.setWidth 32)
    else (im.qmv.find? (fun q => q.space == b.space && q.key == b.key)).map (·.element)
  match el with
  | some e => { b with element := e }
  | none => { b with enabled := false, removed := true }

/-- Every enabled binding follows its element into an image (R483). -/
def rebindAll (im : Image) (d : Dev) : Dev :=
  modHist (fun h => { h with
    hists := h.hists.map (fun e => (e.1, if e.2.bind.enabled then { e.2 with bind := rebind im e.2.bind } else e.2))
    extremes := h.extremes.map (fun e =>
      (e.1, if e.2.bind.enabled then { e.2 with bind := rebind im e.2.bind } else e.2)) }) d

/-- Operating seconds advance with each 20,000 base ticks (R479). -/
def opTick (d : Dev) : Dev :=
  modHist (fun h =>
    if 20000 ≤ h.subSecond + 1 then { h with subSecond := 0, opSeconds := h.opSeconds + 1 }
    else { h with subSecond := h.subSecond + 1 }) d

/-! ## Rows: flushes -/

/-- HISTORY_PERIODIC_FLUSH (R487): unless a flush is in progress. -/
def execHistoryPeriodicFlush (s : State) : Host.Outcome State Fault Refusal :=
  nextD s fun d => if d.hist.flush.isSome then d else startFlush 1 d

/-- HISTORY_CLEAR_FLUSH (R487): after a HISTORY_CLEAR, once no other flush is in progress. -/
def execHistoryClearFlush (s : State) : Host.Outcome State Fault Refusal :=
  nextD s fun d =>
    if d.hist.flush.isSome || !d.hist.clearFlush then d
    else startFlush 2 (modHist (fun h => { h with clearFlush := false }) d)

/-- HISTORY_FLUSH_COMPLETE (R487). -/
def execHistoryFlushComplete (ok : Bool) (s : State) : Host.Outcome State Fault Refusal := nextD s (endFlush ok)

/-! ## Records (Tables 12.3 to 12.6) -/

def bindFlags (b : HBind) : Nat := b2n b.enabled + 2 * b2n b.reloaded + 4 * b2n b.removed

def histBytes (i : Nat) (h : Hist) : Bytes :=
  leBytes 1 i ++ leBytes 1 (bindFlags h.bind + 8 * b2n h.saturated) ++ leBytes 1 h.bind.space ++ zeros 1 ++
    leBytes 8 h.bind.key.toNat ++ leBytes 2 h.bind.decim ++ zeros 2 ++ leBytes 4 h.low.toNat ++
    leBytes 4 h.width.toNat ++ leBytes 4 h.badq.toNat ++ leBytes 4 h.opSec.toNat ++ leBytes 4 h.cycles.toNat ++
    zeros 4 ++ h.bins.toList.flatMap (fun w => leBytes 4 w.toNat)

def stampBytes (x : Stamp) : Bytes :=
  leBytes 4 x.value.toNat ++ leBytes 4 x.opSec.toNat ++ leBytes 4 x.cycles.toNat ++ leBytes 8 x.time.toNat

def extBytes (i : Nat) (e : Extreme) : Bytes :=
  leBytes 1 i ++
    leBytes 1 (bindFlags e.bind + 8 * b2n e.seen + 16 * b2n e.min.untrusted + 32 * b2n e.max.untrusted) ++
    leBytes 1 e.bind.space ++ zeros 1 ++ leBytes 8 e.bind.key.toNat ++ leBytes 2 e.bind.decim ++ zeros 2 ++
    stampBytes e.min ++ stampBytes e.max ++ leBytes 4 e.usable.toNat ++ zeros 4

def logBytes (e : LogEntry) : Bytes :=
  leBytes 1 e.event ++ leBytes 1 (b2n e.untrusted + 2 * b2n e.reloaded) ++ leBytes 2 e.repeats.toNat ++
    leBytes 4 e.detail.toNat ++ leBytes 4 e.opSec.toNat ++ leBytes 4 e.cycles.toNat ++ leBytes 8 e.time.toNat ++
    leBytes 4 e.lastOp.toNat ++ zeros 4

/-- How many records a kind has. -/
def histTotal (kind : Nat) (d : Dev) : Nat :=
  match kind with
  | 0 => 64
  | 1 => 128
  | _ => d.hist.log.length

/-- Records FIRST to FIRST + COUNT − 1 of a kind. -/
def histRecords (kind first count : Nat) (d : Dev) : Bytes :=
  (List.range count).flatMap fun k =>
    match kind with
    | 0 => histBytes (first + k) (mgetD d.hist.hists (first + k) {})
    | 1 => extBytes (first + k) (mgetD d.hist.extremes (first + k) {})
    | _ => logBytes (lget d.hist.log (first + k))

/-- The head of Table 12.6 with its records. -/
def histObject (kind first count : Nat) (d : Dev) : Bytes :=
  leBytes 1 kind ++
    leBytes 1 (b2n (decide (4096 ≤ d.hist.log.length)) + 2 * b2n d.hist.noValidFlush + 4 * b2n d.hist.flush.isSome) ++
    leBytes 2 (histTotal kind d) ++ leBytes 2 first ++ leBytes 2 count ++ leBytes 4 d.hist.dropped.toNat ++
    leBytes 4 d.hist.lastFlushOp.toNat ++ histRecords kind first count d

/-! ## Commands -/

/-- A power-fail flush is in progress. -/
def Dev.pfwFlush (d : Dev) : Bool := d.hist.flush.any (fun f => f.kind == 3)

/-- The tests of HISTORY_CONFIG (R492). -/
def histCfgTests (d : Dev) (p : Bytes) : List (Bool × Half) :=
  let kind := byteAt p 0
  let i := byteAt p 1
  let sp := byteAt p 3
  let el := getLe p 4 2
  let low := (BitVec.ofNat 32 (getLe p 8 4)).toInt
  let width := (BitVec.ofNat 32 (getLe p 12 4)).toInt
  let im := d.prog.image.getD {}
  let packed := if sp = spI then (im.iOf el).kind == 1 else ((im.qmvOf sp el).any (fun q => q.kind == 1))
  [ lenIs p 24, (decide (1 < byteAt p 2) || !allZero p 16 8, stBadParam),
    (decide (1 < kind) || !([0, 1, 2, 6].contains sp) || packed || (kind == 0 && decide (width ≤ 0)) ||
      (kind == 1 && (low != 0 || width != 0)), stBadParam),
    (decide ((if kind = 0 then 63 else 127) < i) || (d.prog.image.isSome && decide (im.sizeOf sp ≤ el)) ||
      getLe p 6 2 == 0, stRange),
    (nbit (byteAt p 2) 0 && d.prog.image.isNone, stNotPermitted),
    (d.pfwFlush, stBusy) ]

/-- The effect of HISTORY_CONFIG. -/
def histCfgApply (p : Bytes) (d : Dev) : Dev :=
  let i := byteAt p 1
  let sp := byteAt p 3
  let el := getLe p 4 2
  let im := d.prog.image.getD {}
  let key : DWord := if sp = spI then (im.iOf el).id.setWidth 64 else ((im.qmvOf sp el).map (·.key)).getD 0
  let b : HBind := { enabled := true, space := sp, element := el, key := key, decim := getLe p 6 2 }
  let on := nbit (byteAt p 2) 0
  confChanged <|
  if byteAt p 0 = 0 then
    let h := mgetD d.hist.hists i {}
    let h' : Hist := if on then
        { bind := b, low := BitVec.ofNat 32 (getLe p 8 4), width := BitVec.ofNat 32 (getLe p 12 4)
          opSec := d.hist.opSeconds, cycles := d.hist.powerCycles }
      else { h with bind := { h.bind with enabled := false } }
    markDirty (histSegment i) (modHist (fun x => { x with hists := mput x.hists i h' }) d)
  else
    let e := mgetD d.hist.extremes i {}
    let e' : Extreme := if on then { bind := b, min := stampNow 0 d, max := stampNow 0 d }
      else { e with bind := { e.bind with enabled := false } }
    markDirty (extSegment i) (modHist (fun x => { x with extremes := mput x.extremes i e' }) d)

/-- HISTORY_CONFIG (R492). -/
def execHistoryConfig (o : Origin) (s : State) : Host.Outcome State Fault Refusal :=
  runCmd s o 0x0A03 always (fun _ d p => histCfgTests d p) (fun _ d p => (histCfgApply p d, .ok []))

/-- HISTORY_READ (R493). -/
def execHistoryRead (o : Origin) (s : State) : Host.Outcome State Fault Refusal :=
  runCmd s o 0x0A04 always
    (fun _ d p =>
      let kind := byteAt p 0
      let n := getLe p 4 2
      let most := match kind with
        | 0 => 24
        | 1 => 63
        | _ => 127
      [ lenIs p 8, resv p [(1, 1), (6, 2)], (decide (2 < kind), stBadParam),
        (n == 0 || decide (most < n) || decide (histTotal kind d < getLe p 2 2 + n), stRange) ])
    (fun _ d p => (d, .ok (histObject (byteAt p 0) (getLe p 2 2) (getLe p 4 2) d)))

/-- HISTORY_CLEAR empties the selected kinds (R494). -/
def histClear (kind : Nat) (d : Dev) : Dev :=
  let sel := fun (k : Nat) => kind == k || kind == 3
  let d := if sel 0 then
      [1, 2, 3].foldl (fun d x => markDirty x d) (modHist (fun h => { h with
        hists := h.hists.map (fun e => (e.1,
          ({ bind := e.2.bind, low := e.2.low, width := e.2.width, opSec := h.opSeconds,
             cycles := h.powerCycles } : Hist))) }) d)
    else d
  let d := if sel 1 then
      [4, 5].foldl (fun d x => markDirty x d) (modHist (fun h => { h with
        extremes := h.extremes.map (fun e => (e.1,
          ({ bind := e.2.bind, min := stampNow 0 d, max := stampNow 0 d } : Extreme))) }) d)
    else d
  let d := if sel 2 then
      let segs := (List.range 32).filter (fun k => decide (128 * k < d.hist.log.length))
      (0 :: segs.map (6 + ·)).foldl (fun d x => markDirty x d)
        (modHist (fun h => { h with log := [], dropped := 0 }) d)
    else d
  modHist (fun h => { h with clearFlush := true }) d

/-- HISTORY_CLEAR (R494). -/
def execHistoryClear (o : Origin) (s : State) : Host.Outcome State Fault Refusal :=
  runCmd s o 0x0A05 always
    (fun _ d p => [lenIs p 8, resv p [(1, 1), (6, 2)],
      (decide (3 < byteAt p 0) || getLe p 2 4 != 0x5A5A0A05, stBadParam), (d.pfwFlush, stBusy)])
    (fun _ d p => (histClear (byteAt p 0) d, .ok []))

end Sys2Proof.Machine
end

