-- ==== Sys2Proof/Machine/Panel.lean ====
section
/-!
DEFINITION. Machine/Panel.lean: the annunciator panel driver (chapter 13, R497 to R527): composed pixels, passes, bands,
the states of Table 13.3, and the panel's commands.
-/

namespace Sys2Proof.Machine

open Sys2Proof

def modPanel (f : Panel → Panel) (d : Dev) : Dev := { d with panel := f d.panel }

/-- An event of the panel: it exists only where PANEL is 1 (R497). -/
def panelR (s : State) (f : Mems → Dev → Dev) : Host.Outcome State Fault Refusal :=
  nextR s fun m d => if d.hasPanel then f m d else d

/-- The panel is absent (R497). -/
def noPanel : Dev → Bytes → Bool := fun d _ => !d.hasPanel

/-! ## Composed pixels (R499, R506, R507) -/

/-- The LEVEL of a pixel in the shown buffer (R499). -/
def shownLevel (m : Mems) (r c : Nat) : Nat := (Memory.read 0 m.shown (128 * r + c)).toNat % 4

def IndDecl.covers (x : IndDecl) (r c : Nat) : Bool :=
  decide (x.rowFirst ≤ r ∧ r ≤ x.rowLast ∧ x.colFirst ≤ c ∧ c ≤ x.colLast)

/-- The indicators of this device. -/
def Dev.indicators (d : Dev) : List IndDecl :=
  ((d.prog.image.map (·.indicators)).getD []).filter (fun x => x.position == d.sys.stackPos.toNat)

/-- The highest-numbered indicator over a pixel. -/
def topIndicator (l : List IndDecl) (r c : Nat) : Option IndDecl :=
  (l.filter (·.covers r c)).foldl (fun (a : Option IndDecl) (x : IndDecl) =>
    match a with
    | some y => if y.index ≤ x.index then some x else some y
    | none => some x) none

/-- The frame content of a pixel: in RMS mode LEVEL 0 in a bad row (R504). -/
def Dev.frameLevel (d : Dev) (m : Mems) (r c : Nat) : Nat :=
  if d.panel.set.mode = 1 && d.panel.badRows.contains r then 0 else shownLevel m r c

/-- The composed pixel (R506). -/
def Dev.composed (d : Dev) (m : Mems) (r c : Nat) : Nat :=
  match topIndicator d.indicators r c with
  | none => d.frameLevel m r c
  | some x =>
    match mget d.panel.levels x.index with
    | some l => l
    | none => ((mget d.panel.kept x.index).bind (fun k => mget k (128 * r + c))).getD (d.frameLevel m r c)

/-- The active pixels of a row. -/
def Dev.composedRow (d : Dev) (m : Mems) (r : Nat) : List Nat := (List.range d.panel.set.cols).map (d.composed m r)

/-- The CRC-32C of a row of the shown buffer (R503). -/
def rowCrc (m : Mems) (r : Nat) : Word := crc32c (Memory.readN 0 m.shown (128 * r) 128)

/-! ## Regions -/

def PanelSet.regions (p : PanelSet) : Nat := p.regionStart.length + 1

def PanelSet.firstRow (p : PanelSet) (k : Nat) : Nat := if k = 0 then 0 else lget p.regionStart (k - 1)

def PanelSet.endRow (p : PanelSet) (k : Nat) : Nat := if k < p.regionStart.length then lget p.regionStart k else p.rows

/-- The mask of every region. -/
def PanelSet.allMask (p : PanelSet) : Byte := BitVec.ofNat 8 (2 ^ p.regions - 1)

/-- The mask of the regions that hold a row of a list. -/
def PanelSet.maskOf (p : PanelSet) (rows : List Nat) : Byte :=
  BitVec.ofNat 8 (((List.range p.regions).map fun k =>
    if rows.any (fun r => decide (p.firstRow k ≤ r ∧ r < p.endRow k)) then 2 ^ k else 0).sum)

/-- The rows of a region that a pass writes, from a row on: a bad row is skipped (R504). -/
def Panel.rowsFrom (p : Panel) (region from_ : Nat) : List Nat :=
  (List.range (p.set.endRow region)).filter fun r =>
    decide (p.set.firstRow region ≤ r) && decide (from_ ≤ r) && !p.badRows.contains r

/-! ## Rails, bands and passes -/

def PanelState.driving : PanelState → Bool
  | .railsUp => true
  | .showing => true
  | .idle => true
  | .updating => true
  | _ => false

def PanelState.code : PanelState → Nat
  | .off => 0
  | .railsUp => 1
  | .showing => 2
  | .idle => 3
  | .updating => 4
  | .discharge => 5
  | .retained => 6
  | .fault => 7

/-- A band comes into force: a new set point is not settled (R509). -/
def setBand (n : Nat) (d : Dev) : Dev :=
  modPanel (fun p =>
    let v := (lget p.set.bands n).vpos
    { p with band := n, nextBand := none, settled := p.settled && v == p.setPoint, setPoint := v }) d

/-- The pump is enabled at the band's VPOS (R519). -/
def railsUp (d : Dev) : Dev :=
  let d := setBand (d.panel.nextBand.getD d.panel.band) d
  modPanel (fun p => { p with
    state := .railsUp, settled := false, driveMode := if p.set.mode = 0 then p.driveMode else p.set.mode }) d

/-- Every line to 0 V and discharge. -/
def discharge (cause : DisCause) (d : Dev) : Dev :=
  modPanel (fun p => { p with state := .discharge, disCause := cause, stopReq := none, pass := none, settled := false }) d

/-- The mask detail of PANEL_UPDATE_DONE (Table 13.7). -/
def updateDone (region kind ms : Nat) (d : Dev) : Dev :=
  raise .panelUpdateDone (region + 8 * kind + 256 * d.panel.pendingMask.toNat + 65536 * min 0xFFFF ms) d

/-- The pending region that follows the region last written (R515). -/
def Panel.nextRegion (p : Panel) : Option Nat :=
  ((List.range 8).map (fun i => (p.lastRegion + 1 + i) % 8)).find? (fun k => p.pendingMask.getLsbD k)

/-- A pass begins on a region, once the rails are settled (R509, R513). -/
def startPass (k : Nat) (d : Dev) : Dev :=
  modPanel (fun p =>
    let rows := p.rowsFrom k 0
    { p with
      state := .updating, pendingMask := p.pendingMask &&& ~~~(1#8 <<< k)
      pass := some {
        region := k, bandNo := p.band, timing := lget p.set.bands p.band, row := rows.headD 0, start := d.tick,
        phaseTick := d.tick, wait := !p.settled, done := rows.isEmpty } }) d

/-- The transitions of Table 13.3 that follow by themselves from OFF and IDLE. -/
def panelGo (d : Dev) : Dev :=
  match d.panel.state with
  | .off => if d.panel.set.mode != 0 && d.panel.fullFrame then railsUp d else d
  | .idle =>
    match d.panel.stopReq with
    | some c => discharge c d
    | none => if d.panel.settled then (match d.panel.nextRegion with
      | some k => startPass k d
      | none => d) else d
  | _ => d

/-- Regions are marked pending (R514): bistable mode only. -/
def markPending (mask : Byte) (d : Dev) : Dev :=
  if d.panel.set.mode = 2 then panelGo (modPanel (fun p => { p with pendingMask := p.pendingMask ||| mask }) d) else d

/-- A phase's length in base ticks: 0.1 ms is two. -/
def phaseTicks (b : Band) : RowPhase → Nat
  | .reset => 2 * b.tr
  | .select => 2 * b.ts
  | .evolve => 2 * b.te

/-- Base ticks until the row being written ends. -/
def Pass.rowLeft (p : Pass) (tick : Nat) : Nat :=
  let after := match p.phase with
    | .reset => phaseTicks p.timing .select + phaseTicks p.timing .evolve
    | .select => phaseTicks p.timing .evolve
    | .evolve => 0
  phaseTicks p.timing p.phase - (tick - p.phaseTick) + after

/-- The row being written ends with its content on the glass, and the next row or the end of the pass follows; a pass
that a band change stops waits for its new set point (R513, R516). -/
def rowEnd (d : Dev) : Dev :=
  match d.panel.pass with
  | none => d
  | some p =>
    let d := modPanel (fun x => { x with glass := mput x.glass p.row p.pixels }) d
    if p.stop then
      let d := setBand (d.panel.nextBand.getD d.panel.band) d
      let rows := d.panel.rowsFrom p.region 0
      modPanel (fun x => { x with pass := some { p with
        row := rows.headD 0, phase := .reset, stop := false, wait := !x.settled, done := rows.isEmpty
        bandNo := x.band, timing := lget x.set.bands x.band, start := d.tick, phaseTick := d.tick } }) d
    else
      match d.panel.rowsFrom p.region (p.row + 1) with
      | [] => modPanel (fun x => { x with pass := some { p with done := true } }) d
      | r :: _ => modPanel (fun x => { x with pass := some { p with row := r, phase := .reset, phaseTick := d.tick } }) d

/-- A row becomes bad and raises PANEL_CRC_MISMATCH (R503). -/
def badRow (r : Nat) (walk parity : Bool) (d : Dev) : Dev :=
  if d.panel.badRows.contains r then d
  else
    let d := modPanel (fun p => { p with badRows := p.badRows ++ [r] }) d
    raise .panelCrcMismatch (r + 64 * b2n walk + 128 * b2n parity + 256 * d.panel.badRows.length) d

/-- The row being written is left in an undefined state (R520). -/
def loseRow (d : Dev) : Dev :=
  match d.panel.pass with
  | some p => if p.wait || p.done then d else modPanel (fun x => { x with glass := mdel x.glass p.row }) d
  | none => d

/-! ## Buffers -/

/-- The exchange of the buffers and the copy that follows (R502, R503), with the regions that it changes (R514). The
row last written stands for a row that was bad. -/
def exchangeFrames (m : Mems) (d : Dev) : Dev × Mems × Byte :=
  let m' := { m with shown := m.drawing }
  let d' := modPanel (fun p => { p with
    badRows := [], rowChecks := Vector.ofFn (fun (i : Fin 64) => rowCrc m' i) }) d
  let changed := (List.range d.panel.set.rows).filter fun r =>
    if d.panel.badRows.contains r then mget d.panel.glass r != some (d'.composedRow m' r)
    else d.composedRow m r != d'.composedRow m' r
  let mask := if d.panel.set.mode = 2 then d.panel.set.maskOf changed else 0
  (d', m', mask)

/-- The response of an accepted commit (PANEL_FRAME_COMMIT). -/
def commitPayload (mask : Byte) (d : Dev) : Bytes := leBytes 4 d.panel.frameSeq.toNat ++ leBytes 1 mask.toNat ++ zeros 3

/-- An accepted commit exchanges the buffers (R502), marks what it changed, and makes a full frame available. The
drawing buffer is locked until the command completes. -/
def doExchange (m : Mems) (d : Dev) : Dev × Mems :=
  match d.panel.exchange with
  | none => (d, m)
  | some o =>
    if d.panel.locked then (d, m)
    else
      let (d, m, mask) := exchangeFrames m d
      let d := modPanel (fun p => { p with locked := true, fullFrame := true }) d
      let d := respond o stOk (commitPayload mask d) d
      (panelGo (markPending mask d), m)

/-- The panel leaves SHOWING: an exchange that waits for a frame is made now. -/
def leaveShowing (m : Mems) (d : Dev) : Dev × Mems := if d.panel.state = .showing then doExchange m d else (d, m)

/-- A DMA descriptor is writing the drawing buffer (R523). -/
def Dev.panelDma (d : Dev) : Bool :=
  d.host.dma.toList.any (fun c => c.state == .running && (c.queue.head?.map (·.object)) == some 0x0004)

/-- Bytes written into the drawing buffer (R501, R522). -/
def drawBytes (off : Nat) (data : Bytes) (m : Mems) (d : Dev) : Dev × Mems :=
  (modPanel (fun p => { p with unwritten := p.unwritten.filter (fun a => decide (a < off ∨ off + data.length ≤ a)) }) d,
   { m with drawing := Memory.writeN 0 m.drawing off data })

/-! ## Indicators -/

/-- The level of an indicator for the committed value of its element (R505). -/
def indLevel (x : IndDecl) (v : TV) : Nat :=
  if !qUsable v.quality then x.levelBad else if v.value.getLsbD x.bit then x.levelOn else x.levelOff

/-- A commit of a task sets the levels of its indicators; a region in which a composed pixel changes becomes pending
(R505, R506, R514). -/
def panelCommit (t : Nat) (m : Mems) (d : Dev) : Dev :=
  match d.prog.image with
  | none => d
  | some im =>
    if !d.hasPanel then d
    else
      let mine := d.indicators.filter fun x =>
        im.writerOf (ekey x.space x.element) == some t &&
          (mget d.panel.levels x.index != some (indLevel x (mgetD d.prog.vals (ekey x.space x.element) {})))
      let d' := modPanel (fun p => { p with
        levels := mputAll p.levels (mine.map (fun x =>
          (x.index, indLevel x (mgetD d.prog.vals (ekey x.space x.element) {}))))
        kept := p.kept.filter (fun e => !mine.any (fun x => x.index == e.1)) }) d
      let rows := (List.range d.panel.set.rows).filter fun r =>
        mine.any (fun x => decide (x.rowFirst ≤ r ∧ r ≤ x.rowLast)) && !d.panel.badRows.contains r &&
          d.composedRow m r != d'.composedRow m r
      if mine.isEmpty then d else markPending (d.panel.set.maskOf rows) d'

/-- The indicators of a new image take over at the end of the swap gap: each keeps the composed appearance of its
pixels (R507). -/
def panelSwap (m : Mems) (old new : Dev) : Dev :=
  modPanel (fun p => { p with
    levels := []
    kept := new.indicators.map fun x =>
      (x.index, (List.range (x.rowLast + 1 - x.rowFirst)).flatMap fun i =>
        (List.range (x.colLast + 1 - x.colFirst)).map fun j =>
          let r := x.rowFirst + i
          let c := x.colFirst + j
          (128 * r + c, old.composed m r c)) }) new

/-! ## Temperature bands -/

/-- The PTEMP average: of the last 8 measurements, to the nearest mV; none before 8 have been taken. -/
def Panel.tempAvg (p : Panel) : Option Nat := if p.temps.length < 8 then none else some ((p.temps.sum * 2 + 8) / 16)

/-- Band n covers a reading (R517). -/
def PanelSet.bandOf (p : PanelSet) (avg : Nat) : Nat := (p.bands.findIdx? (fun b => decide (avg < b.upper))).getD 0

/-- The band that an average chooses from a band (R517): beyond the boundary that faces it by at least HYST_MV. -/
def PanelSet.choose (p : PanelSet) (cur avg : Nat) : Nat :=
  let k := p.bandOf avg
  let ok := if cur < k then decide ((lget p.bands (k - 1)).upper + p.hyst ≤ avg)
    else decide (avg + p.hyst ≤ (lget p.bands k).upper)
  if k = cur then cur else if ok then k else cur

/-- The panel moves to a band (R512, R516): at the next frame, at the next pass, at the end of the row, or at once. The
flag says that the running pass restarts. -/
def moveBand (n : Nat) (d : Dev) : Dev × Bool :=
  match d.panel.state, d.panel.pass with
  | .showing, _ => (modPanel (fun p => { p with nextBand := some n }) d, false)
  | .updating, some p =>
    if p.wait || p.done then
      let d := setBand n d
      (modPanel (fun x => { x with pass := some { p with
        bandNo := n, timing := lget x.set.bands n, wait := !x.settled } }) d, false)
    else
      let far := decide (n + 2 ≤ p.bandNo ∨ p.bandNo + 2 ≤ n)
      (modPanel (fun x => { x with nextBand := some n, pass := some { p with stop := p.stop || far } }) d, far)
  | _, _ => (panelGo (setBand n d), false)

/-- The band a choice starts from. -/
def Panel.curBand (p : Panel) : Nat := p.nextBand.getD p.band

/-- PANEL_BAND_CHANGE (Table 13.7). -/
def bandEvent (new old : Nat) (restarted : Bool) (avg : Nat) (d : Dev) : Dev :=
  raise .panelBandChange
    (new + 8 * old + 64 * b2n d.panel.tempFault + 128 * b2n restarted + 65536 * avg) d

/-- A measurement of PTEMP (R517, R518). -/
def ptemp (mv : Nat) (d : Dev) : Dev :=
  let d := modPanel (fun p => { p with temps := (mv :: p.temps).take 8 }) d
  match d.panel.tempAvg with
  | none => d
  | some avg =>
    let fault := decide (avg < 50 ∨ 1550 < avg)
    let was := d.panel.tempFault
    let old := d.panel.curBand
    let d := modPanel (fun p => { p with tempFault := fault }) d
    let new := if fault || d.panel.set.bands.isEmpty then old else d.panel.set.choose old avg
    if new = old then (if fault = was then d else bandEvent old old false avg d)
    else
      let (d, r) := moveBand new d
      bandEvent new old r avg d

/-! ## Rows: rails, frames and passes -/

/-- PANEL_RAILS_SETTLED (R509, Table 13.3). -/
def railsSettled (d : Dev) : Dev :=
  let d := if d.panel.state.driving then modPanel (fun p => { p with settled := true }) d else d
  match d.panel.state with
  | .railsUp =>
    if d.panel.driveMode = 1 then
      let d := modPanel (fun p => { p with state := .showing, polarity := false }) d
      respondTo d.panel.retainWait stOk [] (updateDone 0 2 0 (modPanel (fun p => { p with retainWait := none }) d))
    else
      let d := respondTo d.panel.retainWait stOk [] d
      panelGo (modPanel (fun p => { p with
        state := .idle, retainWait := none, keepPending := false
        pendingMask := if p.keepPending then p.pendingMask else p.set.allMask }) d)
  | .idle => panelGo d
  | .updating =>
    modPanel (fun x => { x with pass := x.pass.map (fun p =>
      if p.wait then { p with wait := false, start := d.tick, phaseTick := d.tick, bandNo := x.band,
                              timing := lget x.set.bands x.band } else p) }) d
  | _ => d

def execPanelRailsSettled (s : State) : Host.Outcome State Fault Refusal := panelR s fun _ d => railsSettled d

/-- PANEL_RAIL_FAULT_DETECT (R509): kinds 1 not settled, 2 out of tolerance, 3 overcurrent. -/
def railFault (pos neg : Bool) (kind : Nat) (mag : Half) (m : Mems) (d : Dev) : Dev × Mems :=
  let st := d.panel.state
  let here := match kind with
    | 1 => st.driving && !d.panel.settled
    | 2 => st == .showing || st == .idle || st == .updating
    | 3 => st.driving
    | _ => false
  if !here || !d.hasPanel then (d, m)
  else
    let (d, m) := leaveShowing m d
    let d := respondTo d.panel.retainWait stOk [] (loseRow d)
    let d := modPanel (fun p => { p with
      state := .fault, pass := none, stopReq := none, retainWait := none, settled := false }) d
    (raise .panelRailFault (b2n pos + 2 * b2n neg + 4 * kind + 65536 * mag.toNat) d, m)

def execPanelRailFaultDetect (pos neg : Bool) (kind : Fin 4) (mag : Half) (s : State) :
    Host.Outcome State Fault Refusal :=
  nextM s (railFault pos neg kind mag)

/-- A retained panel drives again (Table 13.3), keeping its pending flags. -/
def panelResume (d : Dev) : Dev :=
  if d.panel.state = .retained then railsUp (modPanel (fun p => { p with keepPending := true }) d) else d

/-- PANEL_DISCHARGE_DONE (R510). -/
def dischargeDone (d : Dev) : Dev :=
  if d.panel.state != .discharge then d
  else match d.panel.disCause with
    | .modeOff => panelGo (modPanel (fun p => { p with state := .off }) d)
    | .retain => updateDone 0 1 0 (modPanel (fun p => { p with state := .retained }) d)
    | .pfw =>
      let d := updateDone 0 1 0 (modPanel (fun p => { p with state := .retained }) d)
      if d.pwr.pfw then d else panelResume d

def execPanelDischargeDone (s : State) : Host.Outcome State Fault Refusal := panelR s fun _ d => dischargeDone d

/-- PANEL_FRAME_START (R511): a frame ends and the next begins, with a waiting exchange and the next band; a frame pair
that a stop waits for ends the drive. -/
def frameStart (m : Mems) (d : Dev) : Dev × Mems :=
  if d.panel.state != .showing || !d.hasPanel then (d, m)
  else match d.panel.stopReq, d.panel.polarity with
    | some c, true =>
      let (d, m) := doExchange m d
      (discharge c d, m)
    | _, _ =>
      let (d, m) := doExchange m d
      let d := match d.panel.nextBand with
        | some n => setBand n d
        | none => d
      (modPanel (fun p => { p with polarity := !p.polarity }) d, m)

def execPanelFrameStart (s : State) : Host.Outcome State Fault Refusal := nextM s frameStart

/-- BISTABLE_ROW_PHASE_END (R513). The row is read and checked at the start of SELECT (R503); a row that fails is left
and skipped (R504). -/
def phaseEnd (fault : Bool) (m : Mems) (d : Dev) : Dev :=
  match d.panel.state, d.panel.pass with
  | .updating, some p =>
    if p.wait || p.done then d
    else match p.phase with
      | .reset =>
        if fault || vget d.panel.rowChecks p.row != rowCrc m p.row then
          let d := badRow p.row false fault d
          let d' := rowEnd d
          modPanel (fun x => { x with glass := mdel x.glass p.row }) d'
        else modPanel (fun x => { x with pass := some { p with
          phase := .select, phaseTick := d.tick, pixels := d.composedRow m p.row } }) d
      | .select =>
        if p.timing.te = 0 then rowEnd d
        else modPanel (fun x => { x with pass := some { p with phase := .evolve, phaseTick := d.tick } }) d
      | .evolve => rowEnd d
  | _, _ => d

def execBistableRowPhaseEnd (fault : Bool) (s : State) : Host.Outcome State Fault Refusal := panelR s (phaseEnd fault)

/-- PANEL_PASS_END (R515). -/
def passEnd (d : Dev) : Dev :=
  match d.panel.state, d.panel.pass with
  | .updating, some p =>
    if !p.done then d
    else
      let d := updateDone p.region 0 ((d.tick - p.start) / 20) d
      let d := modPanel (fun x => { x with state := .idle, pass := none, lastRegion := p.region }) d
      let d := match d.panel.nextBand with
        | some n => setBand n d
        | none => d
      match d.panel.stopReq, d.panel.nextRegion with
      | some c, _ => discharge c d
      | none, some k => startPass k d
      | none, none => d
  | _, _ => d

def execPanelPassEnd (s : State) : Host.Outcome State Fault Refusal := panelR s fun _ d => passEnd d

/-- PTEMP_MEASURE (R517). -/
def execPtempMeasure (mv : Half) (s : State) : Host.Outcome State Fault Refusal := panelR s fun _ d => ptemp mv.toNat d

/-- PANEL_ROW_WALK (R503), with the rows whose parity fails. -/
def execPanelRowWalk (bad : List (Fin 64)) (s : State) : Host.Outcome State Fault Refusal :=
  panelR s fun m d =>
    if !d.panel.fullFrame then d
    else (List.range 64).foldl (fun d r =>
      let par := bad.any (fun x => x.val == r)
      if par || vget d.panel.rowChecks r != rowCrc m r then badRow r true par d else d) d

/-- PFW (R520): a row with at most 2 ms left is finished, any other is left; the region stays pending. -/
def panelPfw (m : Mems) (d : Dev) : Dev × Mems :=
  if !d.panel.state.driving || !d.hasPanel then (d, m)
  else
    let (d, m) := leaveShowing m d
    let d := match d.panel.pass with
      | none => d
      | some p =>
        let d := modPanel (fun x => { x with pendingMask := x.pendingMask ||| (1#8 <<< p.region) }) d
        if p.wait || p.done then d
        else if p.rowLeft d.tick ≤ 40 then
          let px := if p.phase = .reset then d.composedRow m p.row else p.pixels
          modPanel (fun x => { x with glass := mput x.glass p.row px }) d
        else loseRow d
    let d := respondTo d.panel.retainWait stOk [] d
    (discharge .pfw (modPanel (fun x => { x with retainWait := none }) d), m)

/-! ## Commands -/

def bandAt (p : Bytes) (off : Nat) : Band :=
  { upper := getLe p off 2, vpos := getLe p (off + 2) 2, frameHz := getLe p (off + 4) 2, tr := getLe p (off + 6) 2,
    ts := getLe p (off + 8) 2, te := getLe p (off + 10) 2, vrow := getLe p (off + 12) 2,
    vevolve := getLe p (off + 14) 2, vcol := Vector.ofFn (fun (i : Fin 4) => getLe p (off + 16 + 2 * i) 2) }

/-- A band record outside Table 13.2. -/
def Band.bad (b : Band) : Bool :=
  decide (b.vpos < 50 ∨ 320 < b.vpos ∨ b.frameHz < 50 ∨ 200 < b.frameHz ∨ b.tr < 1 ∨ 1000 < b.tr ∨ b.ts < 5 ∨
    40 < b.ts ∨ 1000 < b.te ∨ b.vpos < b.vrow ∨ b.vpos < b.vevolve) || b.vcol.toList.any (fun v => decide (b.vrow < v))

/-- The REGION_START list: what stands before the first 0xFF. -/
def regionList (p : Bytes) : List Nat := ((List.range 7).map (fun i => byteAt p (4 + i))).takeWhile (· != 0xFF)

def panelSetOf (p : Bytes) (bands : List Band) : PanelSet :=
  { mode := byteAt p 0, bootFrame := nbit (byteAt p 1) 0, cols := byteAt p 2, rows := byteAt p 3,
    regionStart := regionList p, defaultBand := byteAt p 11, hyst := getLe p 12 2, bands := bands }

/-- The tests of PANEL_CONFIG (R521). -/
def panelCfgTests (d : Dev) (p : Bytes) : List (Bool × Half) :=
  let cols := byteAt p 2
  let rows := byteAt p 3
  let l := regionList p
  let new := panelSetOf p d.panel.set.bands
  let quiet := d.panel.state == .off || d.panel.state == .retained || d.panel.state == .fault
  let modeOff := new == { d.panel.set with mode := 0 }
  [ lenIs p 24, resv p [(14, 10)], (decide (1 < byteAt p 1), stBadParam),
    (decide (cols < 16 ∨ 128 < cols) || cols % 8 != 0 || decide (rows < 8 ∨ 64 < rows) || rows % 8 != 0 ||
      l.any (fun r => decide (rows ≤ r)) || decide (d.panel.set.bands.length ≤ byteAt p 11) ||
      decide (200 < getLe p 12 2), stRange),
    (decide (2 < byteAt p 0) || !rising (0 :: l) ||
      ((List.range 7).drop l.length).any (fun i => byteAt p (4 + i) != 0xFF), stBadParam),
    (!quiet && new != d.panel.set && !modeOff, stNotPermitted) ]

/-- PANEL_CONFIG applies (R519, R521). -/
def panelCfgApply (p : Bytes) (d : Dev) : Dev :=
  let d := confChanged (modPanel (fun x => { x with
    set := panelSetOf p x.set.bands
    band := if x.tempAvg.isNone then byteAt p 11 else x.band
    state := if x.state = .fault then .off else x.state
    pendingMask := x.pendingMask &&& (panelSetOf p x.set.bands).allMask }) d)
  let off := d.panel.set.mode == 0 && d.panel.state.driving
  let d := if off then modPanel (fun x => { x with stopReq := some .modeOff }) d else d
  panelGo d

/-- PANEL_CONFIG (0x0B00, R521). -/
def execPanelConfig (o : Origin) (s : State) : Host.Outcome State Fault Refusal :=
  runCmd s o 0x0B00 noPanel (fun _ d p => panelCfgTests d p) (fun _ d p => (panelCfgApply p d, .ok []))

/-- PANEL_FRAME_WRITE (0x0B05, R522). -/
def execPanelFrameWrite (o : Origin) (s : State) : Host.Outcome State Fault Refusal :=
  runCmdM s o 0x0B05 noPanel
    (fun _ d p =>
      let off := getLe p 0 2
      let len := getLe p 2 2
      [ (decide (p.length < 5) || p.length != 4 + len, stBadLength),
        (len == 0 || decide (4076 < len) || decide (8192 < off + len), stRange),
        (d.panel.locked, stBusy) ])
    (fun m d p => (drawBytes (getLe p 0 2) (p.drop 4) m d, .ok []))

/-- PANEL_FRAME_COMMIT (0x0B01, R523). In RMS mode the exchange waits for the next frame (R502). -/
def execPanelFrameCommit (o : Origin) (s : State) : Host.Outcome State Fault Refusal :=
  runCmdM s o 0x0B01 noPanel
    (fun m d p => [
      lenIs p 8, resv p [(4, 4)],
      (!d.panel.unwritten.isEmpty || d.panelDma, stNotPermitted),
      (getLe p 0 4 != (crc32c (Memory.readN 0 m.drawing 0 8192)).toNat, stCheckFailed),
      (d.panel.exchange.isSome, stBusy) ])
    (fun m d _ =>
      let d := modPanel (fun x => { x with exchange := some o, frameSeq := x.frameSeq + 1 }) d
      (if d.panel.state = .showing then (d, m) else doExchange m d, .later))

/-- The panel status of Table 13.6. -/
def panelStatus (d : Dev) : Bytes :=
  let p := d.panel
  leBytes 1 p.state.code ++ leBytes 1 p.band ++ leBytes 1 p.pendingMask.toNat ++
    leBytes 1 ((p.pass.map (·.region)).getD 0xFF) ++ leBytes 2 (p.tempAvg.getD 0) ++
    leBytes 1 (b2n p.tempFault + 2 * b2n p.fullFrame) ++ leBytes 1 p.badRows.length ++ leBytes 4 p.frameSeq.toNat

/-- PANEL_REGION_UPDATE (0x0B02, R524). -/
def execPanelRegionUpdate (o : Origin) (s : State) : Host.Outcome State Fault Refusal :=
  runCmd s o 0x0B02 noPanel
    (fun _ d p => [
      lenIs p 4, resv p [(1, 3)],
      (byteAt p 0 != 0 && d.panel.set.mode == 1, stNotPermitted),
      (decide (2 ^ d.panel.set.regions ≤ byteAt p 0), stRange) ])
    (fun _ d p =>
      let d := markPending (BitVec.ofNat 8 (byteAt p 0)) d
      (d, .ok (panelStatus d)))

/-- PANEL_RETAIN_OFF (0x0B03, R525). -/
def execPanelRetainOff (o : Origin) (s : State) : Host.Outcome State Fault Refusal :=
  runCmd s o 0x0B03 noPanel
    (fun _ d p =>
      let st := d.panel.state
      [ lenIs p 4, resv p [(1, 3)], (decide (1 < byteAt p 0), stBadParam),
        (byteAt p 0 == 0 && (st == .off || st == .retained || st == .fault), stNotPermitted),
        (byteAt p 0 == 1 && st != .retained, stNotPermitted) ])
    (fun _ d p =>
      if byteAt p 0 = 1 then (panelResume d, .ok [])
      else
        let d := if d.panel.state.driving then modPanel (fun x => { x with
            stopReq := some (x.stopReq.getD .retain) }) d else d
        if d.panel.state = .railsUp then (modPanel (fun x => { x with retainWait := some o }) d, .later)
        else (panelGo d, .ok []))

/-- PANEL_BANDS (0x0B04, R526). -/
def execPanelBands (o : Origin) (s : State) : Host.Outcome State Fault Refusal :=
  runCmd s o 0x0B04 noPanel
    (fun _ _ p =>
      let n := byteAt p 0
      let bs := (List.range n).map (fun i => bandAt p (4 + 32 * i))
      [ (p.length != 4 + 32 * n, stBadLength),
        (!allZero p 1 3 || (List.range n).any (fun i => !allZero p (28 + 32 * i) 8), stBadParam),
        (decide (8 < n) || bs.any Band.bad, stRange),
        (!rising (bs.map (·.upper)) || (n != 0 && (lget bs (n - 1)).upper != 0xFFFF), stBadParam) ])
    (fun _ d p =>
      let n := byteAt p 0
      if n = 0 then (d, .ok (panelStatus d))
      else
        let old := d.panel.curBand
        let d := confChanged (modPanel (fun x => { x with set := { x.set with
          bands := (List.range n).map (fun i => bandAt p (4 + 32 * i)) } }) d)
        let avg := d.panel.tempAvg
        let new := match avg with
          | some a => if d.panel.tempFault then min old (n - 1) else d.panel.set.bandOf a
          | none => min d.panel.set.defaultBand (n - 1)
        let (d, r) := moveBand new d
        let d := if new = old then d else bandEvent new old r (avg.getD 0) d
        (d, .ok (panelStatus d)))

end Sys2Proof.Machine
end

