-- ==== Sys2Proof/Machine/Recovery.lean ====
section
/-!
DEFINITION. Machine/Recovery.lean: how the device stops and recovers: the end of a cycle without commit, fencing (R403),
station safe state (R210), task faults and their reactions (R176, R177), migrations (R202 to R206), the recovery
ladder (R207 to R209), and what a failing byte of a memory leads to (R431 to R440, R450).
-/

namespace Sys2Proof.Machine

open Sys2Proof

/-! ## Tasks and cells -/

def modProg (f : Prog → Prog) (d : Dev) : Dev := { d with prog := f d.prog }
def modTask (t : Nat) (f : Task → Task) (d : Dev) : Dev := modProg (fun p => { p with tasks := vmod p.tasks t f }) d
def modCell (c : Nat) (f : Cell → Cell) (d : Dev) : Dev := modProg (fun p => { p with cells := vmod p.cells c f }) d
def modStats (t : Nat) (f : TaskStats → TaskStats) (d : Dev) : Dev :=
  modTask t (fun k => { k with stats := f k.stats }) d

def Dev.task (d : Dev) (t : Nat) : Task := vget d.prog.tasks t
def Dev.cell (d : Dev) (c : Nat) : Cell := vget d.prog.cells c

/-- Adds to a 32-bit count that saturates (Table 4.11). -/
def satPlus (x : Word) (n : Nat) : Word := BitVec.ofNat 32 (min 0xFFFFFFFF (x.toNat + n))

/-- The blocks of the map on a cell of this device. -/
def Dev.placedOn (d : Dev) (c : Nat) : List Nat :=
  ((d.prog.map.map (fun (m : PlaceMap) => m.blocks)).getD []).filterMap fun b =>
    if b.cell == c && b.position == d.sys.stackPos.toNat then some b.block else none

def Dev.blockTask (d : Dev) (b : Nat) : Nat := (lget ((d.prog.image.map (fun (m : Image) => m.blocks)).getD []) b).task

/-- The tasks with blocks on a cell. -/
def Dev.tasksOn (d : Dev) (c : Nat) : List Nat :=
  (List.range 8).filter (fun t => (d.placedOn c).any (fun b => d.blockTask b == t))

/-- A cell stops what it runs. -/
def haltCell (c : Cell) : Cell :=
  { c with running := false, level := if c.level = .l0run then .ok else c.level, exec := {}, stack := [], mark := none }

/-- The results of a task's cycle are discarded: runs, journals and working values (R161, R165). -/
def dropCycle (t : Nat) (d : Dev) : Dev :=
  let d := modTask t (fun k => { k with runs := [], reexecFrom := none }) d
  modProg (fun p => { p with cells := p.cells.map (fun (c : Cell) => if c.running && c.task == t then haltCell c else c) }) d

/-- Each CYCLE_STOP is answered once every task it named is STOPPED (R180). -/
def stopAnswer (d : Dev) : Dev :=
  let done := fun (w : Origin × Byte) => (List.range 8).all (fun t => !w.2.getLsbD t || (d.task t).st == .stopped)
  let d' := modProg (fun p => { p with stopWaiters := p.stopWaiters.filter (fun w => !done w) }) d
  (d.prog.stopWaiters.filter done).foldl (fun d w => respond w.1 stOk [] d) d'

/-- The task is STOPPED at once, without committing. -/
def stopTask (t : Nat) (d : Dev) : Dev :=
  let d := dropCycle t d
  modTask t (fun k => { k with st := .stopped, stopReq := none, toPublish := false }) d

/-- A CYCLE_STOP that waits takes effect at the end of the task's cycle (R180). -/
def stopCheck (t : Nat) (d : Dev) : Dev :=
  match (d.task t).stopReq with
  | none => d
  | some safe =>
    let d := stopTask t d
    let d := modTask t (fun k => { k with stoppedSafe := safe }) d
    stopAnswer (if safe then settleAll d else d)

/-- Every task stops without committing. -/
def stopTasks (d : Dev) : Dev := stopAnswer ((List.range 8).foldl (fun d t => stopTask t d) d)

/-! ## Fencing and station safe state -/

/-- WITHDRAW, once (R607). -/
def withdraw (d : Dev) : Dev :=
  if d.net.withdrawn then d
  else stationTo announceGroup 0x02 [] { d with net := { d.net with withdrawn := true } }

/-- A running shadow compare ends: 5 by a takeover, a fence or loss of READY (Table 10.12). -/
def shadowEnd (state : Nat) (d : Dev) : Dev :=
  if d.red.shadow.state = 1 then
    { d with red := { d.red with shadow := { d.red.shadow with
        state := state, ranS := (d.tick - d.red.shadow.startTick) / 20000 } } }
  else d

/-- The lease was held when the fence began. -/
def LeaseState.holds : LeaseState → Bool
  | .holding => true
  | .late => true
  | .fallback => true
  | _ => false

/-- The device fences (R403, Table 10.5). A master of a stack tells its stack (R387); a holder owes LEASE_RELEASE
(R404). -/
def fence (cause : Nat) (d : Dev) : Dev :=
  if d.sys.fenced then d
  else
    let held := d.red.lease.state.holds
    let d := { d with
      sys := { d.sys with fenced := true }
      pwr := { d.pwr with fenceN := true }
      red := { d.red with
        lease := { d.red.lease with
          state := if d.red.cfg.paired then .fenced else d.red.lease.state }
        releaseDue := held
        switchAt := none } }
    let d := modProg (fun p => { p with reaction := max p.reaction 1 }) (stopTasks d)
    let d := shadowEnd 5 (withdraw (settleAll d))
    let d := if d.inStack && d.master then glSend false 0 0x4B 0xFF [] d else d
    raise .fenced cause d

/-- Station safe state (R210), entered at level L3 or by reaction 3; in a stack it is reported in a ring-status frame. -/
def enterSafe (d : Dev) : Dev :=
  if d.sys.safeState then d
  else
    let d := { d with sys := { d.sys with safeState := true } }
    let d := modProg (fun p => { p with reaction := 3 }) (stopTasks d)
    let d := shadowEnd 5 (withdraw (settleAll d))
    sendStatus d

/-- A standby is ready to take over (R177, R208). -/
def Dev.standbyReady (d : Dev) : Bool :=
  d.red.cfg.paired && d.sys.role == .active && d.red.lease.state.holds && d.red.peerState == .ready

/-- The device holds a replica and drives nothing yet: a takeover in progress (Table 10.9). -/
def Dev.takingOver (d : Dev) : Bool := d.red.standby == .loading || d.red.standby == .warmup

/-- A standby becomes FAULTY and stops requesting (Table 10.8). -/
def standbyFaulty (d : Dev) : Dev :=
  shadowEnd 5 { d with red := { d.red with
    standby := .faulty, lease := { d.red.lease with state := .none, outstanding := [] } } }

/-- Level L2 (Table 5.1): fence and ask for a takeover; without a ready standby, level L3. On a standby: FAULTY. -/
def ladderL2 (d : Dev) : Dev :=
  if d.sys.role == .standby then standbyFaulty d
  else if d.standbyReady then fence 3 d
  else enterSafe d

/-! ## Task faults (R176, R177, R185) -/

/-- The reaction that runs: a lower one never overrides a higher one in progress (R177, R209). -/
def Dev.reactionOf (d : Dev) (t : Nat) : Nat :=
  let r := (d.task t).cfg.reaction
  let r := if r = 2 && !d.standbyReady then 3 else r
  max r d.prog.reaction

def runReaction (r : Nat) (d : Dev) : Dev :=
  match r with
  | 1 => fence 2 d
  | 2 => fence 3 d
  | 3 => enterSafe d
  | _ => d

/-! ## Migrations (R202 to R206) -/

/-- Detail of MIGRATION_START and MIGRATION_DONE. -/
def migDetail (m : Migration) (d : Dev) (x : Nat) : Nat :=
  m.source + 256 * m.target + 65536 * d.sys.stackPos.toNat + 2 ^ 19 * x

/-- A cell that can be the target: enabled, not failed, and empty in the map (R190, R206). -/
def Dev.spareOk (d : Dev) (c : Nat) : Bool := d.cellOn c && !(d.cell c).failed && (d.placedOn c).isEmpty

/-- An operation of R220 that a migration of the device's own waits for. -/
def Dev.opBusy (d : Dev) : Bool :=
  d.prog.checking.isSome || d.prog.swap.pending || d.prog.swap.inGap || d.prog.recCommitWaiter.isSome ||
    d.prog.stagedRecs.any (·.committed) || d.prog.writePend.isSome

/-- The execution of a block is made anew from the committed records (R159, R207). -/
def redoBlock (t b : Nat) (d : Dev) : Dev :=
  if (d.task t).st == .execute || (d.task t).st == .late then
    modTask t (fun k => { k with runs := mput k.runs b { exec := { block := b }, needsReexec := true } }) d
  else d

/-- A migration begins its prepare phase (R203). -/
def startMigration (src tgt cause : Nat) (d : Dev) : Dev :=
  let m : Migration := { state := .prepare, source := src, target := tgt, cause := cause }
  raise .migrationStart (migDetail m d cause) (modProg (fun p => { p with mig := m }) d)

/-- The source of a fault or stall stops at once (R204): its executions are made anew on the target. -/
def stopSource (c : Nat) (d : Dev) : Dev :=
  let bs := d.placedOn c
  let d := modCell c (fun x => { haltCell x with failed := true, level := .l1 }) d
  bs.foldl (fun d b => redoBlock (d.blockTask b) b d) d

/-- The migration ends without moving the blocks. -/
def abortMigration (d : Dev) : Dev :=
  if d.prog.mig.state = .none then d
  else raise .migrationDone (migDetail d.prog.mig d 1) (modProg (fun p => { p with mig := {} }) d)

/-- Level L1 of a cell (Table 5.1, R208): migrate its blocks, wait in the queue of 4, or go to L2 where no spare is
left or the queue is full. -/
def ladderL1 (c cause : Nat) (spare : Option Nat) (d : Dev) : Dev :=
  let d := stopSource c d
  if (d.placedOn c).isEmpty then modCell c (fun x => { x with level := .ok }) d
  else if d.prog.mig.state != .none || d.opBusy then
    if d.prog.migQueue.length < 4 then
      modCell c (fun x => { x with level := .l1queued })
        (modProg (fun p => { p with migQueue := p.migQueue ++ [⟨c, cause⟩] }) d)
    else ladderL2 d
  else match spare with
    | some s => if d.spareOk s && s != c then startMigration c s cause d else ladderL2 d
    | none => ladderL2 d

/-- The next fault of the queue begins once the engine is free (R208). -/
def nextQueued (spare : Option Nat) (d : Dev) : Dev :=
  match d.prog.migQueue with
  | [] => d
  | q :: qs =>
    if d.prog.mig.state != .none || d.opBusy then d
    else ladderL1 q.cell q.cause spare (modProg (fun p => { p with migQueue := qs }) d)

/-- A queued fault whose task exceeds its overrun tolerance is escalated (R208). -/
def escalateQueued (t : Nat) (d : Dev) : Dev :=
  if d.prog.migQueue.any (fun q => (d.tasksOn q.cell).contains t) then
    ladderL2 (modProg (fun p => { p with
      migQueue := p.migQueue.filter (fun q => !(d.tasksOn q.cell).contains t) }) d)
  else d

/-- A task exceeds its overrun tolerance (R176): causes 1 consecutive overruns, 2 lateness, 3 both. -/
def taskFault (t cause : Nat) (d : Dev) : Dev :=
  let r := d.reactionOf t
  let k := d.task t
  let d := dropCycle t d
  let d := modStats t (fun x => { x with faults := satPlus x.faults 1 }) d
  let d := modTask t (fun k => { k with st := .wait, overruns := if r = 0 then 0 else k.overruns }) d
  let d := if h : t < 8 then raise (.taskFault ⟨t, h⟩) (cause + 4 * r + 256 * (k.counter.toNat % 2 ^ 24)) d else d
  stopCheck t (escalateQueued t (runReaction r d))

/-! ## The ladder for a cell (R207, R208) -/

def tileOf (c : Nat) : Nat := c / 8

/-- A fault in the fault domain of a running migration, its source tile or its target tile (R208). -/
def Dev.inMigDomain (d : Dev) (c : Nat) : Bool :=
  d.prog.mig.state != .none && (tileOf c == tileOf d.prog.mig.source || tileOf c == tileOf d.prog.mig.target)

/-- Another cell of the tile whose L0 recovery is in progress. -/
def Dev.l0InTile (d : Dev) (c : Nat) : Option Nat :=
  (List.range 8).map (fun i => 8 * tileOf c + i) |>.find? fun x =>
    x != c && ((d.cell x).level == .l0 || (d.cell x).level == .l0run)

/-- The cell had an L0 entry within 16 periods of its task (Table 5.1). -/
def Cell.recentL0 (x : Cell) (tick period : Nat) : Bool :=
  match x.lastL0 with
  | some t => decide (tick < t + 16 * period)
  | none => false

/-- A fault of a cell in a block execution enters the ladder (R51, R207, R208). -/
def cellFault (c : Nat) (spare : Option Nat) (d : Dev) : Dev :=
  let x := d.cell c
  let t := x.task
  let d := redoBlock t x.block d
  if d.inMigDomain c then
    ladderL2 (abortMigration (modCell c (fun x => { haltCell x with failed := true, level := .ok }) d))
  else if x.level == .l0 || x.level == .l0run || x.recentL0 d.tick (d.task t).cfg.period then ladderL1 c 1 spare d
  else match d.l0InTile c with
    | some y => ladderL1 y 1 spare (modCell c haltCell d)
    | none => modCell c (fun x => { haltCell x with level := .l0, lastL0 := some d.tick }) d

/-- Detail of DUALRAIL_ERROR and RESIDUE_ERROR (R139). -/
def cellDetail (c kind block : Nat) : Nat := c + 512 * kind + 32768 + 65536 * (block % 65536)

/-! ## Failing bytes (R434 to R439, R442, R450) -/

/-- 24 h in base ticks. -/
def dayTicks : Nat := 24 * 3600 * 20000

def modInteg (f : Integ → Integ) (d : Dev) : Dev := { d with integ := f d.integ }

/-- A hard error of a macro's byte: its candidate is the column once two rows have shown it, else the row (R450). -/
def hardError (mem index macro_ row column : Nat) (d : Dev) : Dev :=
  let two := d.integ.hardErrs.any (fun h =>
    h.memory == mem && h.index == index && h.macro_ == macro_ && h.column == column && h.row != row)
  let line := if two then column else row
  let d := modInteg (fun g => { g with hardErrs := g.hardErrs ++ [⟨mem, index, macro_, row, column⟩] }) d
  let held := d.integ.candidates.any (fun k =>
    k.memory == mem && k.index == index && k.macro_ == macro_ && k.column == two && k.line == line)
  if held then
    modInteg (fun g => { g with candidates := g.candidates.map (fun k =>
      if k.memory == mem && k.index == index && k.macro_ == macro_ && k.column == two && k.line == line then
        { k with bytes := min 0xFFFF (k.bytes + 1) } else k) }) d
  else if 16 ≤ d.integ.candidates.length then d
  else
    raise .repairPending (mem + 256 * macro_ + 65536 * b2n two + 2 ^ 17 * line)
      (modInteg (fun g => { g with candidates := g.candidates ++ [⟨mem, index, macro_, two, line, 1⟩] }) d)

/-- What one failing byte adds to a log or summary. -/
structure ByteResult where
  errors : Nat := 0
  corrected : Nat := 0
  uncorrectable : Nat := 0
  hard : Nat := 0
  deriving DecidableEq, Repr

/-- A correction of a mirrored byte (R434 to R436): whether it shows a hard error. -/
def correctByte (mem addr : Nat) (rowsPerMacro macrosPerCopy : Nat) (copyB : Bool) (f : ByteFault) (d : Dev) :
    Bool × Dev :=
  let qual := 2 * addr + b2n copyB
  let again := d.integ.corrections.any (fun c =>
    c.memory == mem && c.addr == qual && decide (d.tick < c.tick + dayTicks))
  let hard := f.hard || again
  let kept := d.integ.corrections.filter (fun c => decide (d.tick < c.tick + dayTicks))
  let d := modInteg (fun g => { g with corrections := kept ++ [⟨mem, qual, d.tick⟩] }) d
  let size := 64 * rowsPerMacro
  let d := if hard then
      hardError mem 0 (addr / size + (if copyB then macrosPerCopy else 0)) (addr % size / 64) f.column d
    else d
  (hard, d)

/-- The region of Table 11.2 that an offset lies in. -/
def storeRegion (a : Nat) : Nat :=
  if a < 0x300000 then 0 else if a < 0x600000 then 1 else if a < 0x680000 then 2 else if a < 0x780000 then 3 else 4

/-- PRIV_UNCORRECTABLE (Table 11.10). -/
def privLost (a outcome : Nat) (diverged : Bool) (d : Dev) : Dev :=
  raise .privUncorrectable (a + 2 ^ 23 * storeRegion a + 2 ^ 26 * outcome + 2 ^ 29 * b2n diverged) d

/-- PRIV_CORRECTED (Table 11.10). -/
def privFixed (a : Nat) (copyB : Bool) (source : Nat) (d : Dev) : Dev :=
  raise .privCorrected (a + 2 ^ 23 * b2n copyB + 2 ^ 24 * source) d

/-- CHECKPOINT_GAP (Table 10.14). -/
def gapEvent (kind : Nat) (counter : Word) (d : Dev) : Dev := raise .checkpointGap (kind + 256 * (counter.toNat % 2 ^ 24)) d

/-- An uncorrectable or diverging byte (Table 11.3). -/
def privUncorrectable (a : Nat) (diverged : Bool) (d : Dev) : Dev :=
  let slot := storeRegion a
  match slot with
  | 2 => privFixed a false 3 d
  | 3 =>
    if d.sys.role == .standby then standbyFaulty (privLost a 4 diverged d)
    else if d.takingOver then enterSafe (privLost a 4 diverged d)
    else privFixed a false 3 d
  | 4 =>
    gapEvent 1 0 (privLost a 5 diverged { d with red := { d.red with firn := { d.red.firn with staging := [] } } })
  | _ =>
    if d.prog.image.isSome && decide (slot = b2n d.prog.activeSlot) then ladderL2 (privLost a 1 diverged d)
    else
      privLost a 2 diverged (modProg (fun p => { p with
        slots := vmod p.slots slot (fun x => { x with result := .incomplete, map := none }) }) d)

/-- A byte of the privileged store that a check finds failing: source 0 functional read of copy A, 1 background
scrubber, 2 software pass (R434, Table 11.5). -/
def privByte (source a : Nat) (f : ByteFault) (d : Dev) : ByteResult × Dev :=
  if source = 0 && !f.badA then ({}, d)
  else if f.badA && f.badB then ({ errors := 2, uncorrectable := 1 }, privUncorrectable a false d)
  else if !f.badA && !f.badB then
    if f.diverged && source != 0 then ({ errors := 2, uncorrectable := 1 }, privUncorrectable a true d) else ({}, d)
  else
    let (hard, d) := correctByte 1 a 2048 64 f.badB f d
    ({ errors := 1, corrected := 1, hard := b2n hard }, privFixed a f.badB source d)

/-- The order of summary entries: memory, instance, macro (R448). -/
def MacroErr.order (e : MacroErr) : Nat := e.memory * 2 ^ 20 + e.index * 2 ^ 10 + e.macro_

/-- Errors of one macro added to a list of at most 128 (R431, R448). -/
def addMacro (e : MacroErr) (s : Scrub) : Scrub :=
  if s.entries.any (fun x => x.order == e.order) then
    { s with entries := s.entries.map fun (x : MacroErr) =>
        if x.order == e.order then
          { x with
            bytes := min 0xFFFF (x.bytes + e.bytes), hard := x.hard || e.hard
            candidate := x.candidate || e.candidate, noSpare := x.noSpare || e.noSpare }
        else x }
  else if s.entries.length < 128 then
    let before := s.entries.filter (fun x => decide (x.order < e.order))
    let after := s.entries.filter (fun x => decide (e.order < x.order))
    { s with entries := before ++ e :: after }
  else { s with more := true }

/-- A functional read finds an error: the functional log takes it (R431). -/
def logFunctional (e : MacroErr) (r : ByteResult) (addr : Nat) (d : Dev) : Dev :=
  modInteg (fun g => { g with funcLog := addMacro e { g.funcLog with
    errors := min 0xFFFFFFFF (g.funcLog.errors + r.errors)
    corrected := min 0xFFFFFFFF (g.funcLog.corrected + r.corrected)
    uncorrectable := min 0xFFFFFFFF (g.funcLog.uncorrectable + r.uncorrectable)
    hard := min 0xFFFF (g.funcLog.hard + r.hard)
    firstAddr := g.funcLog.firstAddr.orElse fun _ => some addr
    lastAddr := some addr } }) d

/-- A functional read of the privileged store meets a failing byte (R434). -/
def storeRead (a : Nat) (f : ByteFault) (d : Dev) : Dev :=
  let (r, d) := privByte 0 a f d
  if r.errors = 0 then d
  else
    logFunctional { memory := 1, index := 0, macro_ := a / 131072, hard := decide (0 < r.hard), bytes := r.errors,
                    row := a % 131072 / 64 } r a d

/-- A parity error of a cell memory (codes 3 and 4): which row of the memory the word lies in is the placer's choice,
a free value. A word that its owner has already rewritten shows a hard error (R450). -/
def cellParity (mem c x y : Nat) (d : Dev) : Dev :=
  let (r, d) := freshNat d
  let (k, d) := freshNat d
  let row := r % 128
  let hard := d.integ.rewritten.contains (mem, c, x, y)
  let d := logFunctional { memory := mem, index := c, macro_ := 0, hard := hard, candidate := hard, bytes := 1, row := row }
    { errors := 1, uncorrectable := 1, hard := b2n hard } (64 * row) d
  if hard then hardError mem c 0 row (k % 576) d
  else modInteg (fun g => { g with rewritten := g.rewritten ++ [(mem, c, x, y)] }) d

end Sys2Proof.Machine
end

