-- ==== Sys2Proof/Machine/Operands.lean ====
section
/-!
DEFINITION. Machine/Operands.lean: what an instruction of a cell reads and writes: I elements with the prediction of a
partner input that has not arrived (R134, R155), working and committed values (R148, Table 4.2), state records and
journals (R116, R117), immediates (R110), and the speculation record (R134 to R137).
-/

namespace Sys2Proof.Machine

open Sys2Proof

/-! ## The cell and its block -/

/-- The block that a cell executes. -/
def Dev.cellBlock (d : Dev) (c : Nat) : Block :=
  lget ((d.prog.image.map (fun (im : Image) => im.blocks)).getD []) (d.cell c).block

/-- The instruction at the cell's position. -/
def Dev.cellWord (d : Dev) (c : Nat) : IWord := decodeWord (lget (d.cellBlock c).code (d.cell c).pos)

/-- The task that a cell works for. -/
def Dev.cellTask (d : Dev) (c : Nat) : Task := d.task (d.cell c).task

def modExec (c : Nat) (f : Exec → Exec) (d : Dev) : Dev := modCell c (fun x => { x with exec := f x.exec }) d
def modSpec (c : Nat) (f : SpecRec → SpecRec) (d : Dev) : Dev := modExec c (fun x => { x with spec := f x.spec }) d

/-- τ of the cycle, in µs (R146). -/
def Task.tau (k : Task) : DWord := BitVec.ofNat 64 (50 * k.t0)

/-! ## Working values -/

/-- The last write to a key in a list of writes in order. -/
def lastWrite (ws : List Write) (key : Nat) : Option Write := (ws.filter (fun w => w.key == key)).getLast?

/-- The working value of a key for block b: the last write of the lower-numbered block nearest to it (Table 4.2), with
whether a block that wrote, or has still to write, makes it provisional (R160). -/
def workingFor (runs : Map Run) (b key : Nat) : Option Write × Bool :=
  runs.foldl (fun (a : Option Write × Bool) (r : Nat × Run) =>
    if b ≤ r.1 then a
    else match lastWrite r.2.exec.writes key with
      | some w => (some w, r.2.provisional || r.2.needsReexec)
      | none => (a.1, a.2 || (r.2.needsReexec))) (none, false)

/-! ## Partner inputs -/

def Dev.partner (d : Dev) (el : Nat) : PInput := (mget d.prog.partnerIn el).getD {}

/-- The value that a partner input has before its first confirmed one (R156). -/
def firstValue (p : Policy) : Word × Byte :=
  match p.kind with
  | 1 => (p.value, qSUBSTITUTED)
  | 2 => (p.value, qSAFE_VALUE)
  | _ => (0, qBAD_SOURCE_LOST)

/-- The last confirmed VALUE and quality of a partner input (R155, R156). -/
def PInput.predicted (p : PInput) : Word × Byte :=
  match p.lastConfirmed with
  | some v => (v.value, v.quality)
  | none => firstValue p.policy

/-! ## Reads -/

/-- An operand as read: VALUE, quality, and the provisional element it is, if it is one. -/
structure Opd where
  value : Word := 0
  quality : Byte := 0
  prov : Option Nat := none
  deriving DecidableEq, Repr

/-- A stored value as a block reads it: CHECK and quality tested (R44, R47). -/
def readStored (id : Word) (v : TV) (d : Dev) : Opd × Dev :=
  let (v, d) := readTV .sram id v d
  ({ value := v.value, quality := v.quality }, d)

/-- A block reads an element of I, Q, M, V or K (Table 4.2). A provisional I element leaves its predicted quality, and
a working or committed value its VALUE and quality, in the speculation record. -/
def readElem (c space el : Nat) (d : Dev) : Opd × Dev :=
  let key := ekey space el
  let x := d.cell c
  let k := d.cellTask c
  let im := d.prog.image.getD {}
  if space = spI then
    match mget k.inputs el with
    | some v => readStored (im.idOf space el) v d
    | none =>
      let (v, q) := (d.partner el).predicted
      ({ value := v, quality := q, prov := some el },
       modSpec c (fun r => if r.quals.any (fun e => e.1 == el) then r else { r with quals := r.quals ++ [(el, q)] }) d)
  else
    match lastWrite x.exec.writes key with
    | some w => ({ value := w.value, quality := w.quality }, d)
    | none =>
      let (o, d) : Opd × Dev := match (workingFor k.runs x.block key).1 with
        | some w => ({ value := w.value, quality := w.quality }, d)
        | none => readStored (im.idOf space el) (mgetD k.snap key {}) d
      if space = spK then (o, d)
      else (o, modExec c (fun e => { e with wreads := e.wreads ++ [⟨key, o.value, o.quality⟩] }) d)

/-- A journal entry of this execution, or the committed record (R117). -/
def Dev.timerOf (d : Dev) (c n : Nat) : TimerRec :=
  (mget (d.cell c).exec.timers n).getD (mgetD d.prog.timers n {})

def Dev.counterOf (d : Dev) (c n : Nat) : CtrRec :=
  (mget (d.cell c).exec.counters n).getD (mgetD d.prog.counters n {})

def Dev.edgeOf (d : Dev) (c n : Nat) : EdgeRec := (mget (d.cell c).exec.edges n).getD (mgetD d.prog.edges n {})

/-- The bit an instruction names, with its quality (R103, R112); a provisional packed element leaves the bit and its
predicted value. -/
def readBit (c : Nat) (i : IWord) (d : Dev) : Bool × Byte × Dev :=
  if i.imm then (i.index.testBit 0, qGOOD, d)
  else if i.space = spT then ((d.timerOf c i.index).q, qGOOD, d)
  else if i.space = spC then
    let r := d.counterOf c (i.index / 2)
    (if i.index % 2 = 0 then r.qu else r.qd, qGOOD, d)
  else
    let (o, d) := readElem c i.space (i.index / 32) d
    let b := i.index % 32
    let d := match o.prov with
      | some el => modSpec c (fun r => { r with bits := r.bits ++ [(el, 1#32 <<< b, o.value)] }) d
      | none => d
    (o.value.getLsbD b, o.quality, d)

/-- The operand bit, complemented with N. -/
def readBitN (c : Nat) (i : IWord) (d : Dev) : Bool × Byte × Dev :=
  let (b, q, d) := readBit c i d
  (b != i.mod.testBit 0, q, d)

/-- A 20-bit immediate, sign-extended (R110). -/
def immediate (i : IWord) : Word := BitVec.ofInt 32 (toSigned 20 i.index)

/-- µs in a BASE unit (R111). -/
def baseUs (base : Nat) : Nat := if base = 0 then 1 else if base = 1 then 1000 else 1000000

/-- The operand of a word instruction (R110, R123, R127). -/
def readWord (c : Nat) (i : IWord) (d : Dev) : Opd × Dev :=
  if i.imm || i.op = opCMPI then ({ value := immediate i, quality := qGOOD }, d)
  else if i.space = spT then
    ({ value := BitVec.ofNat 32 (min 0xFFFFFFFF ((d.timerOf c i.index).et.toNat / baseUs i.mod)), quality := qGOOD }, d)
  else if i.space = spC then ({ value := (d.counterOf c i.index).cv, quality := qGOOD }, d)
  else readElem c i.space i.index d

/-! ## Writes -/

/-- A write to a Q, M or V element (R106, R107). -/
def writeElem (c space el : Nat) (value : Word) (quality : Byte) (d : Dev) : Dev :=
  modExec c (fun e => { e with writes := e.writes ++ [⟨ekey space el, value, quality⟩] }) d

/-- A write to one bit: the element is read, the bit replaced, the element written back (R112). -/
def writeBit (c : Nat) (i : IWord) (bit : Bool) (quality : Byte) (d : Dev) : Dev :=
  let (o, d) := readElem c i.space (i.index / 32) d
  let m : Word := 1#32 <<< (i.index % 32)
  writeElem c i.space (i.index / 32) (if bit then o.value ||| m else o.value &&& ~~~m) quality d

/-! ## Speculation -/

/-- ARITH is set for an element (R136). -/
def setArith (c el : Nat) (d : Dev) : Dev :=
  modSpec c (fun r => if r.arith.contains el then r else { r with arith := r.arith ++ [el] }) d

def setArithOpt (c : Nat) (el : Option Nat) (d : Dev) : Dev :=
  match el with
  | some e => setArith c e d
  | none => d

/-- ARITH for the element that W is marked with (R136). -/
def arithW (c : Nat) (d : Dev) : Dev := setArithOpt c (d.cell c).mark d

/-- A comparison's result enters the outcome signature of the element that it consumed (R135, R137). -/
def signature (c kind : Nat) (o : Opd) (result : Bool) (d : Dev) : Dev :=
  let x := d.cell c
  let add := fun (el : Nat) (l r : Option Word) =>
    if 256 ≤ (x.exec.spec.sigs.filter (fun s => s.element == el)).length then setArith c el d
    else modSpec c (fun r' => { r' with sigs := r'.sigs ++
      [{ element := el, kind := BitVec.ofNat 3 kind, left := l, right := r, result := result }] }) d
  match x.mark, o.prov with
  | some a, some b => if a = b then add a none none else setArith c a (setArith c b d)
  | some a, none => add a none (some o.value)
  | none, some b => add b (some x.w) none
  | none, none => d

end Sys2Proof.Machine
end

