-- ==== Sys2Proof/Machine/CellFam.lean ====
section
/-!
DEFINITION. Machine/CellFam.lean: the instructions of the cell machine (chapter 03, Tables 3.4 to 3.9), and an illegal
instruction at run time (R138).
-/

namespace Sys2Proof.Machine

open Sys2Proof

/-! ## Around one instruction -/

/-- The branch-stack operations that R138 excludes. -/
def branchBad (x : Cell) (op : Nat) : Bool :=
  (isOpen op && decide (16 ≤ x.stack.length)) || (op == opBC && x.stack.isEmpty)

/-- The next instruction. -/
def advance (c : Nat) (d : Dev) : Dev := modCell c (fun x => { x with pos := x.pos + 1 }) d

/-- A fault of the silicon stops the block before any effect and enters the ladder (R30, R50, Table 11.4). -/
def siliconFault (c : Nat) (i : IWord) (f : HwFault) (d : Dev) : Option Dev :=
  let x := d.cell c
  let go := fun (s : Option (Fin 256)) (d : Dev) => cellFault c (s.map (·.val)) d
  match f with
  | .none => none
  | .codeword s => some (go s (raise .dualrailError (cellDetail c 1 x.block) d))
  | .residue s =>
    if [opADD, opSUB, opMUL].contains i.op then some (go s (raise .residueError (cellDetail c 2 x.block) d)) else none
  | .parityInstr s => some (go s (cellParity 3 c x.block x.pos d))
  | .parityValue s =>
    if i.namesElement && !(i.space == spT || i.space == spC || i.space == spE) then
      some (go s (cellParity 4 c i.space i.element (countCheck .sram d)))
    else none
  | .parityRecord s =>
    if i.namesElement && i.space == spT then
      some (go s (cellParity 4 c i.space i.element
        (modProg (fun p => { p with timers := mput p.timers i.element {
          kind := (mgetD p.timers i.element {}).kind, base := (mgetD p.timers i.element {}).base } }) d)))
    else if i.namesElement && i.space == spC then
      some (go s (cellParity 4 c i.space i.element
        (modProg (fun p => { p with counters := mput p.counters i.element {} }) d)))
    else if i.namesElement && i.space == spE then
      some (go s (cellParity 4 c i.space i.element (modProg (fun p => { p with edges := mput p.edges i.element {} }) d)))
    else none
  | .storeByte _ => none

/-- A K element in the privileged store is read with a failing byte (R434). -/
def storeFault (i : IWord) (f : HwFault) (d : Dev) : Dev :=
  match f with
  | .storeByte b => if i.namesElement && i.space == spK then storeRead b.offset b d else d
  | _ => d

/-- One instruction of a cell: nothing where the cell is not at such an instruction (log entry 8). -/
def cellRow (op c : Nat) (f : HwFault) (s : State) (sem : IWord → Dev → Dev) : Host.Outcome State Fault Refusal :=
  nextD s fun d =>
    let x := d.cell c
    let i := d.cellWord c
    if !x.running || i.op != op || i.modBad || branchBad x op then d
    else match siliconFault c i f d with
      | some d' => d'
      | none =>
        let d := storeFault i f d
        if (d.cell c).running then sem i d else d

/-- An instruction that goes on to the next one. -/
def cellStep (op c : Nat) (f : HwFault) (s : State) (sem : IWord → Dev → Dev) : Host.Outcome State Fault Refusal :=
  cellRow op c f s (fun i d => advance c (sem i d))

/-! ## Bit logic, assignment and branches (Table 3.5) -/

def setLB (c : Nat) (b : Bool) (q : Byte) (d : Dev) : Dev := modCell c (fun x => { x with lb := b, lbq := q }) d

/-- A, O and X: LB combined with the operand bit. -/
def combine (c : Nat) (g : Bool → Bool → Bool) (i : IWord) (d : Dev) : Dev :=
  let (b, q, d) := readBitN c i d
  setLB c (g (d.cell c).lb b) (qMerge (d.cell c).lbq q) d

/-- LD (R112). -/
def semLd (c : Nat) (i : IWord) (d : Dev) : Dev :=
  let (b, q, d) := readBitN c i d
  setLB c b q d

/-- LD on a cell. -/
def execCellLd (c : Fin 256) (f : HwFault) (s : State) : Host.Outcome State Fault Refusal :=
  cellStep opLD c f s (semLd c)

/-- A (R112). -/
def semA (c : Nat) : IWord → Dev → Dev := combine c (· && ·)

/-- A on a cell. -/
def execCellA (c : Fin 256) (f : HwFault) (s : State) : Host.Outcome State Fault Refusal :=
  cellStep opA c f s (semA c)

/-- O (R112). -/
def semO (c : Nat) : IWord → Dev → Dev := combine c (· || ·)

/-- O on a cell. -/
def execCellO (c : Fin 256) (f : HwFault) (s : State) : Host.Outcome State Fault Refusal :=
  cellStep opO c f s (semO c)

/-- X (R112). -/
def semX (c : Nat) : IWord → Dev → Dev := combine c (· != ·)

/-- X on a cell. -/
def execCellX (c : Fin 256) (f : HwFault) (s : State) : Host.Outcome State Fault Refusal :=
  cellStep opX c f s (semX c)

/-- An open branch: LB and LBQ go to the branch stack. -/
def openBranch (c : Nat) (k : BrKind) (d : Dev) : Dev :=
  modCell c (fun x => { x with stack := { bit := x.lb, quality := x.lbq, kind := k } :: x.stack }) d

/-- BA (R112). -/
def semBa (c : Nat) (_ : IWord) (d : Dev) : Dev := openBranch c .and d

/-- BA on a cell. -/
def execCellBa (c : Fin 256) (f : HwFault) (s : State) : Host.Outcome State Fault Refusal :=
  cellStep opBA c f s (semBa c)

/-- BO (R112). -/
def semBo (c : Nat) (_ : IWord) (d : Dev) : Dev := openBranch c .or d

/-- BO on a cell. -/
def execCellBo (c : Fin 256) (f : HwFault) (s : State) : Host.Outcome State Fault Refusal :=
  cellStep opBO c f s (semBo c)

/-- BX (R112). -/
def semBx (c : Nat) (_ : IWord) (d : Dev) : Dev := openBranch c .xor d

/-- BX on a cell. -/
def execCellBx (c : Fin 256) (f : HwFault) (s : State) : Host.Outcome State Fault Refusal :=
  cellStep opBX c f s (semBx c)

def BrKind.apply : BrKind → Bool → Bool → Bool
  | .and => (· && ·)
  | .or => (· || ·)
  | .xor => (· != ·)

/-- The saved bit combined with LB, and the stack popped. -/
def closeBranch (x : Cell) : Cell :=
  match x.stack with
  | [] => x
  | e :: l => { x with lb := e.kind.apply e.bit x.lb, lbq := qMerge e.quality x.lbq, stack := l }

/-- BC (R112). -/
def semBc (c : Nat) (_ : IWord) (d : Dev) : Dev := modCell c closeBranch d

/-- BC on a cell. -/
def execCellBc (c : Fin 256) (f : HwFault) (s : State) : Host.Outcome State Fault Refusal :=
  cellStep opBC c f s (semBc c)

/-- NOT (R112). -/
def semNot (c : Nat) (_ : IWord) (d : Dev) : Dev := modCell c (fun x => { x with lb := !x.lb }) d

/-- NOT on a cell. -/
def execCellNot (c : Fin 256) (f : HwFault) (s : State) : Host.Outcome State Fault Refusal :=
  cellStep opNOT c f s (semNot c)

/-- ASN (R112). -/
def semAsn (c : Nat) (i : IWord) (d : Dev) : Dev := writeBit c i ((d.cell c).lb != i.mod.testBit 0) (d.cell c).lbq d

/-- ASN on a cell. -/
def execCellAsn (c : Fin 256) (f : HwFault) (s : State) : Host.Outcome State Fault Refusal :=
  cellStep opASN c f s (semAsn c)

/-- SET (R112). -/
def semSet (c : Nat) (i : IWord) (d : Dev) : Dev := if (d.cell c).lb then writeBit c i true (d.cell c).lbq d else d

/-- SET on a cell. -/
def execCellSet (c : Fin 256) (f : HwFault) (s : State) : Host.Outcome State Fault Refusal :=
  cellStep opSET c f s (semSet c)

/-- RST (R112). -/
def semRst (c : Nat) (i : IWord) (d : Dev) : Dev := if (d.cell c).lb then writeBit c i false (d.cell c).lbq d else d

/-- RST on a cell. -/
def execCellRst (c : Fin 256) (f : HwFault) (s : State) : Host.Outcome State Fault Refusal :=
  cellStep opRST c f s (semRst c)

/-! ## Edge memories (R118) -/

/-- The PREV value used (R118). -/
def prevUsed (r : EdgeRec) (mode : Nat) (lb : Bool) : Bool :=
  if r.fresh then (if mode = 1 then false else if mode = 2 then true else lb) else r.prev

def edgeOp (c : Nat) (g : Bool → Bool → Bool) (i : IWord) (d : Dev) : Dev :=
  let lb := (d.cell c).lb
  let mode := (((d.prog.image.getD {}).stateOf spE i.index).map (fun (x : SDecl) => x.mode)).getD 0
  let p := prevUsed (d.edgeOf c i.index) mode lb
  let d := modExec c (fun e => { e with edges := mput e.edges i.index { prev := lb, fresh := false } }) d
  modCell c (fun x => { x with lb := g lb p }) d

/-- PEDGE (R118). -/
def semPedge (c : Nat) : IWord → Dev → Dev := edgeOp c (fun lb p => lb && !p)

/-- PEDGE on a cell. -/
def execCellPedge (c : Fin 256) (f : HwFault) (s : State) : Host.Outcome State Fault Refusal :=
  cellStep opPEDGE c f s (semPedge c)

/-- NEDGE (R118). -/
def semNedge (c : Nat) : IWord → Dev → Dev := edgeOp c (fun lb p => !lb && p)

/-- NEDGE on a cell. -/
def execCellNedge (c : Fin 256) (f : HwFault) (s : State) : Host.Outcome State Fault Refusal :=
  cellStep opNEDGE c f s (semNedge c)

/-! ## Timers (R120) -/

/-- ET, Q and RUN of a timer after an execution (R120): kinds 0 TON, 1 TOF, 2 TP; dt and pt in µs. -/
def timerCalc (kind : Nat) (r : TimerRec) (dt pt : Nat) (inp : Bool) : Nat × Bool × Bool :=
  let grown := min (r.et.toNat + dt) pt
  match kind with
  | 0 =>
    if !inp then (0, false, false)
    else if !r.inPrev then (0, pt == 0, false)
    else (grown, decide (pt ≤ grown), false)
  | 1 =>
    if inp then (0, true, false)
    else if r.inPrev then (0, decide (0 < pt), decide (0 < pt))
    else if r.run then (grown, decide (grown < pt), decide (grown < pt))
    else (r.et.toNat, false, false)
  | _ =>
    if r.run then (grown, decide (grown < pt), decide (grown < pt))
    else if inp && !r.inPrev then (0, decide (0 < pt), decide (0 < pt))
    else (if inp then r.et.toNat else 0, false, false)

/-- A timer instruction: journal, LB and LBQ (R116, R120). The preset consumes W (R136). -/
def timerOp (kind c : Nat) (i : IWord) (d : Dev) : Dev :=
  let x := d.cell c
  let r := mgetD d.prog.timers i.index {}
  let tau := (d.cellTask c).tau
  let dt := if r.fresh then 0 else (tau - r.tauLast).toNat
  let (et, q, run) := timerCalc kind r dt (x.w.toNat * baseUs i.mod) x.lb
  let r' : TimerRec := {
    et := BitVec.ofNat 64 et, tauLast := tau, inPrev := x.lb, q := q, run := run, fresh := false
    kind := BitVec.ofNat 2 kind, base := BitVec.ofNat 2 i.mod }
  let d := arithW c (modExec c (fun e => { e with timers := mput e.timers i.index r' }) d)
  modCell c (fun x => { x with lb := q, lbq := qMerge x.lbq x.wq }) d

/-- TON (R120). -/
def semTon (c : Nat) : IWord → Dev → Dev := timerOp 0 c

/-- TON on a cell. -/
def execCellTon (c : Fin 256) (f : HwFault) (s : State) : Host.Outcome State Fault Refusal :=
  cellStep opTON c f s (semTon c)

/-- TOF (R120). -/
def semTof (c : Nat) : IWord → Dev → Dev := timerOp 1 c

/-- TOF on a cell. -/
def execCellTof (c : Fin 256) (f : HwFault) (s : State) : Host.Outcome State Fault Refusal :=
  cellStep opTOF c f s (semTof c)

/-- TP (R120). -/
def semTp (c : Nat) : IWord → Dev → Dev := timerOp 2 c

/-- TP on a cell. -/
def execCellTp (c : Fin 256) (f : HwFault) (s : State) : Host.Outcome State Fault Refusal :=
  cellStep opTP c f s (semTp c)

/-! ## Counters (R124 to R126) -/

def putCounter (c n : Nat) (r : CtrRec) (d : Dev) : Dev :=
  modExec c (fun e => { e with counters := mput e.counters n { r with fresh := false } }) d

/-- CTU on a record (Table 3.8): the record, and OVF. -/
def countUp (r : CtrRec) (lb : Bool) (w : Word) : CtrRec × Bool :=
  let rise := lb && !(if r.fresh then lb else r.cuPrev)
  let top := r.cv == 0x7FFFFFFF
  let cv := if rise && !top then r.cv + 1 else r.cv
  ({ r with cv := cv, cuPrev := lb, qu := decide (w.toInt ≤ cv.toInt) }, rise && top)

/-- CTD on a record (Table 3.8): the record, and OVF. -/
def countDown (r : CtrRec) (lb : Bool) : CtrRec × Bool :=
  let rise := lb && !(if r.fresh then lb else r.cdPrev)
  let bottom := r.cv == 0x80000000
  let cv := if rise && !bottom then r.cv - 1 else r.cv
  ({ r with cv := cv, cdPrev := lb, qd := decide (cv.toInt ≤ 0) }, rise && bottom)

/-- The committed record, with what this execution has already done to it (R126): FRESH is the committed one. -/
def Dev.countBase (d : Dev) (c n : Nat) : CtrRec := { d.counterOf c n with fresh := (mgetD d.prog.counters n {}).fresh }

def counterOp (up : Bool) (c : Nat) (i : IWord) (d : Dev) : Dev :=
  let x := d.cell c
  let r := d.countBase c i.index
  let (r', o) := if up then countUp r x.lb x.w else countDown r x.lb
  let d := arithW c (putCounter c i.index r' d)
  modCell c (fun x => { x with lb := if up then r'.qu else r'.qd, lbq := qMerge x.lbq x.wq, ovf := x.ovf || o }) d

/-- CTU (R125). -/
def semCtu (c : Nat) : IWord → Dev → Dev := counterOp true c

/-- CTU on a cell. -/
def execCellCtu (c : Fin 256) (f : HwFault) (s : State) : Host.Outcome State Fault Refusal :=
  cellStep opCTU c f s (semCtu c)

/-- CTD (R125). -/
def semCtd (c : Nat) : IWord → Dev → Dev := counterOp false c

/-- CTD on a cell. -/
def execCellCtd (c : Fin 256) (f : HwFault) (s : State) : Host.Outcome State Fault Refusal :=
  cellStep opCTD c f s (semCtd c)

/-- CRST (R125). -/
def semCrst (c : Nat) (i : IWord) (d : Dev) : Dev :=
  let r := d.countBase c i.index
  putCounter c i.index (if (d.cell c).lb then { r with cv := 0 } else r) d

/-- CRST on a cell. -/
def execCellCrst (c : Fin 256) (f : HwFault) (s : State) : Host.Outcome State Fault Refusal :=
  cellStep opCRST c f s (semCrst c)

/-- CLD (R125). The load consumes W (R136). -/
def semCld (c : Nat) (i : IWord) (d : Dev) : Dev :=
  let r := d.countBase c i.index
  arithW c (putCounter c i.index (if (d.cell c).lb then { r with cv := (d.cell c).w } else r) d)

/-- CLD on a cell. -/
def execCellCld (c : Fin 256) (f : HwFault) (s : State) : Host.Outcome State Fault Refusal :=
  cellStep opCLD c f s (semCld c)

/-! ## Word instructions (Table 3.9) -/

/-- LDW (R127): the mark names an analogue provisional element (R135). -/
def semLdw (c : Nat) (i : IWord) (d : Dev) : Dev :=
  let (o, d) := readWord c i d
  modCell c (fun x => { x with w := o.value, wq := o.quality, mark := o.prov }) d

/-- LDW on a cell. -/
def execCellLdw (c : Fin 256) (f : HwFault) (s : State) : Host.Outcome State Fault Refusal :=
  cellStep opLDW c f s (semLdw c)

/-- MOVW (R127). It uses W, with COND met or not (R136). -/
def semMovw (c : Nat) (i : IWord) (d : Dev) : Dev :=
  let x := d.cell c
  let d := arithW c d
  if i.mod.testBit 0 && !x.lb then d else writeElem c i.space i.index x.w x.wq d

/-- MOVW on a cell. -/
def execCellMovw (c : Fin 256) (f : HwFault) (s : State) : Host.Outcome State Fault Refusal :=
  cellStep opMOVW c f s (semMovw c)

/-- CMP and CMPI: the comparison of W with an operand (R111, R127, R135). -/
def compareOp (c : Nat) (i : IWord) (d : Dev) : Dev :=
  let (o, d) := readWord c i d
  let x := d.cell c
  let r := compareKind i.mod x.w o.value
  setLB c r (qMerge x.wq o.quality) (signature c i.mod o r d)

/-- CMP (R127). -/
def semCmp (c : Nat) : IWord → Dev → Dev := compareOp c

/-- CMP on a cell. -/
def execCellCmp (c : Fin 256) (f : HwFault) (s : State) : Host.Outcome State Fault Refusal :=
  cellStep opCMP c f s (semCmp c)

/-- CMPI (R127). -/
def semCmpi (c : Nat) : IWord → Dev → Dev := compareOp c

/-- CMPI on a cell. -/
def execCellCmpi (c : Fin 256) (f : HwFault) (s : State) : Host.Outcome State Fault Refusal :=
  cellStep opCMPI c f s (semCmpi c)

/-- ADD, SUB and MUL: the exact result, saturated, with SAT (R127, R128) and ARITH (R136). -/
def arithOp (c : Nat) (g : IWord → Int → Int → Int) (i : IWord) (d : Dev) : Dev :=
  let (o, d) := readWord c i d
  let x := d.cell c
  let (y, sat) := satWord (g i x.w.toInt o.value.toInt)
  let d := setArithOpt c o.prov (arithW c d)
  modCell c (fun x => { x with w := y, wq := qMerge x.wq o.quality, sat := x.sat || sat }) d

/-- ADD (R127). -/
def semAdd (c : Nat) : IWord → Dev → Dev := arithOp c (fun _ a b => a + b)

/-- ADD on a cell. -/
def execCellAdd (c : Fin 256) (f : HwFault) (s : State) : Host.Outcome State Fault Refusal :=
  cellStep opADD c f s (semAdd c)

/-- SUB (R127). -/
def semSub (c : Nat) : IWord → Dev → Dev := arithOp c (fun _ a b => a - b)

/-- SUB on a cell. -/
def execCellSub (c : Fin 256) (f : HwFault) (s : State) : Host.Outcome State Fault Refusal :=
  cellStep opSUB c f s (semSub c)

/-- MUL (R127, R128): with QF the product is rounded from Q32.32 to Q16.16. -/
def semMul (c : Nat) : IWord → Dev → Dev := arithOp c (fun i a b => if i.mod.testBit 1 then rnd 16 (a * b) else a * b)

/-- MUL on a cell. -/
def execCellMul (c : Fin 256) (f : HwFault) (s : State) : Host.Outcome State Fault Refusal :=
  cellStep opMUL c f s (semMul c)

/-! ## Quality, flags, jumps and END -/

/-- QUAL (R130). -/
def semQual (c : Nat) (i : IWord) (d : Dev) : Dev :=
  match i.mod with
  | 0 => setLB c (qUsable (d.cell c).wq) qGOOD d
  | 1 => setLB c (qUsable (d.cell c).lbq) qGOOD d
  | 2 => modCell c (fun x => { x with w := x.wq.zeroExtend 32, wq := qGOOD }) (arithW c d)
  | _ => modCell c (fun x => { x with wq := qMerge x.wq (BitVec.ofNat 8 i.index) }) (arithW c d)

/-- QUAL on a cell. -/
def execCellQual (c : Fin 256) (f : HwFault) (s : State) : Host.Outcome State Fault Refusal :=
  cellStep opQUAL c f s (semQual c)

/-- FLG (R131). -/
def semFlg (c : Nat) (i : IWord) (d : Dev) : Dev :=
  let sel := i.mod.testBit 0
  let clr := i.mod.testBit 1
  modCell c (fun x => { x with
    lb := if sel then x.ovf else x.sat, lbq := qGOOD
    sat := x.sat && !(clr && !sel), ovf := x.ovf && !(clr && sel) }) d

/-- FLG on a cell. -/
def execCellFlg (c : Fin 256) (f : HwFault) (s : State) : Host.Outcome State Fault Refusal :=
  cellStep opFLG c f s (semFlg c)

/-- JMP (R132). -/
def semJmp (c : Nat) (i : IWord) (d : Dev) : Dev :=
  let lb := (d.cell c).lb
  let go := if i.mod = 0 then lb else if i.mod = 1 then !lb else true
  if go then modCell c (fun x => { x with pos := i.index % 2048 }) d else advance c d

/-- JMP on a cell. -/
def execCellJmp (c : Fin 256) (f : HwFault) (s : State) : Host.Outcome State Fault Refusal :=
  cellRow opJMP c f s (semJmp c)

/-- NOP (R133). -/
def semNop (_ : Nat) (_ : IWord) (d : Dev) : Dev := d

/-- NOP on a cell. -/
def execCellNop (c : Fin 256) (f : HwFault) (s : State) : Host.Outcome State Fault Refusal :=
  cellStep opNOP c f s (semNop c)

/-! ## A whole block -/

/-- The effect of one instruction word other than JMP and END, by its opcode (Table 3.4). -/
def cellSem (c : Nat) (i : IWord) (d : Dev) : Dev :=
  if i.op = opLD then semLd c i d
  else if i.op = opA then semA c i d
  else if i.op = opO then semO c i d
  else if i.op = opX then semX c i d
  else if i.op = opBA then semBa c i d
  else if i.op = opBO then semBo c i d
  else if i.op = opBX then semBx c i d
  else if i.op = opBC then semBc c i d
  else if i.op = opNOT then semNot c i d
  else if i.op = opASN then semAsn c i d
  else if i.op = opSET then semSet c i d
  else if i.op = opRST then semRst c i d
  else if i.op = opPEDGE then semPedge c i d
  else if i.op = opNEDGE then semNedge c i d
  else if i.op = opTON then semTon c i d
  else if i.op = opTOF then semTof c i d
  else if i.op = opTP then semTp c i d
  else if i.op = opCTU then semCtu c i d
  else if i.op = opCTD then semCtd c i d
  else if i.op = opCRST then semCrst c i d
  else if i.op = opCLD then semCld c i d
  else if i.op = opLDW then semLdw c i d
  else if i.op = opMOVW then semMovw c i d
  else if i.op = opCMP then semCmp c i d
  else if i.op = opCMPI then semCmpi c i d
  else if i.op = opADD then semAdd c i d
  else if i.op = opSUB then semSub c i d
  else if i.op = opMUL then semMul c i d
  else if i.op = opQUAL then semQual c i d
  else if i.op = opFLG then semFlg c i d
  else if i.op = opNOP then semNop c i d
  else d

/-- A cell runs its block to END, by fuel: a block is at most 2,048 words and jumps only forwards (R132). -/
def runWords (c : Nat) : Nat → Dev → Dev
  | 0, d => d
  | n + 1, d =>
    let i := d.cellWord c
    if i.op = opEND then d
    else if i.op = opJMP then runWords c n (semJmp c i d)
    else runWords c n (advance c (cellSem c i d))

/-! ## Confirmation (R158 to R160) -/

/-- The analogue test of Table 4.5 for one comparison, with the actual VALUE. -/
def sigHolds (el : Nat) (v : Word) (g : Sig) : Bool :=
  g.element != el || compareKind g.kind.toNat (g.left.getD v) (g.right.getD v) == g.result

/-- A provisional element that an execution read, now known: the test of its kind passes (Table 4.5). -/
def specHolds (r : SpecRec) (el : Nat) (q : Byte) (v : TV) : Bool :=
  v.quality == q && r.bits.all (fun b => b.1 != el || (b.2.2 &&& b.2.1) == (v.value &&& b.2.1)) &&
    !r.arith.contains el && r.sigs.all (sigHolds el v.value)

/-- What an execution waits for, and whether it must be made anew, with the runs of lower blocks as they stand. -/
def judgeRun (inputs snap : Map TV) (im : Image) (lower : Map Run) (b : Nat) (r : Run) : Run :=
  if r.needsReexec || r.remote then r
  else
    let known := r.exec.spec.quals.filterMap (fun e => (mget inputs e.1).map (fun v => (e, tvAccept (im.idOf spI e.1) v)))
    let waits := decide (known.length < r.exec.spec.quals.length)
    let fails := known.any (fun k => !specHolds r.exec.spec k.1.1 k.1.2 k.2)
    let now := r.exec.wreads.map fun w =>
      let (x, p) := workingFor lower b w.key
      let (v, q) := match x with
        | some y => (y.value, y.quality)
        | none => let t := tvAccept (im.idOf (keySpace w.key) (keyEl w.key)) (mgetD snap w.key {}); (t.value, t.quality)
      (p, v == w.value && q == w.quality)
    let pending := now.any (fun x => x.1)
    let changed := now.any (fun x => !x.1 && !x.2)
    if fails || changed then { r with needsReexec := true, provisional := false }
    else { r with provisional := waits || pending }

/-- Every finished execution of a task's cycle is confirmed, kept provisional or marked for re-execution, in ascending
block order (R158 to R160). -/
def judgeAll (inputs snap : Map TV) (im : Image) : Map Run → Map Run → Map Run
  | done, [] => done
  | done, (b, r) :: rest => judgeAll inputs snap im (done ++ [(b, judgeRun inputs snap im done b r)]) rest

/-- A block of another device of the stack reads one of the keys in the task (R193). -/
def Dev.readAway (d : Dev) (t : Nat) (ws : List Write) : Bool :=
  let im := d.prog.image.getD {}
  ((d.prog.map.map (fun (m : PlaceMap) => m.blocks)).getD []).any fun b =>
    b.position != d.sys.stackPos.toNat && d.blockTask b.block == t &&
      ws.any (fun w => (lget im.blocks b.block).reads.contains w.key)

/-- The working values of an execution go to the cells of other devices that read them, with their provisional mark
(R165, R193): class 1 scheduled data (log entry 28). -/
def sendWorking (t : Nat) (r : Run) (d : Dev) : Dev :=
  if r.remote || r.needsReexec || !d.inStack || !d.readAway t r.exec.writes then d
  else glSend false 1 0x20 0xFF (r.exec.writes.flatMap (fun w =>
    beBytes 1 (t + 128 * b2n r.provisional) ++ beBytes 1 w.quality.toNat ++ beBytes 2 r.exec.block ++ beBytes 4 w.key ++
      beBytes 4 w.value.toNat)) d

/-- The executions that a judgement turned from provisional into confirmed. -/
def newlyConfirmed (old new : Map Run) : List Run :=
  new.filterMap fun e =>
    match mget old e.1 with
    | some r => if r.provisional && !e.2.provisional && !e.2.needsReexec then some e.2 else none
    | none => none

def settle (t : Nat) (d : Dev) : Dev :=
  let k := d.task t
  let runs := judgeAll k.inputs k.snap (d.prog.image.getD {}) [] k.runs
  let now := newlyConfirmed k.runs runs
  now.foldl (fun d r => sendWorking t r d)
    (modStats t (fun x => { x with confirmedSpec := satPlus x.confirmedSpec now.length })
      (modTask t (fun k => { k with runs := runs }) d))

/-- END (R133): the execution is finished; what it read provisionally decides what it waits for. -/
def semEnd (c : Nat) (_ : IWord) (d : Dev) : Dev :=
  let x := d.cell c
  let k := d.task x.task
  let spec := !x.exec.spec.quals.isEmpty || x.exec.wreads.any (fun w => (workingFor k.runs x.block w.key).2)
  let r : Run := { exec := x.exec, provisional := spec }
  let d := modTask x.task (fun k => { k with runs := mput k.runs x.block r }) d
  let d := modStats x.task (fun y => { y with provisional := satPlus y.provisional (b2n spec) }) d
  settle x.task (sendWorking x.task r (modCell c haltCell d))

/-- END on a cell. -/
def execCellEnd (c : Fin 256) (f : HwFault) (s : State) : Host.Outcome State Fault Refusal :=
  cellRow opEND c f s (semEnd c)

/-- ILLEGAL_INSTRUCTION (R138): the word that the cell decodes is not one of Table 3.4, has an undefined MOD, or is a
branch operation beyond the stack. -/
def execIllegalInstruction (c : Fin 256) (w : Word) (spare : Option (Fin 256)) (s : State) :
    Host.Outcome State Fault Refusal :=
  nextD s fun d =>
    let x := d.cell c
    let i := decodeWord w
    if !x.running || !(!opListed i.op || i.modBad || branchBad x i.op) then d
    else cellFault c (spare.map (·.val)) (raise .dualrailError (cellDetail c 3 x.block) d)

/-! ## Starting a block -/

/-- The state of Table 3.1 at block entry (R101). -/
def enterBlock (t b : Nat) (x : Cell) : Cell :=
  { x with
    running := true, task := t, block := b, pos := 0, lb := false, lbq := qGOOD, w := 0, wq := qGOOD, stack := []
    sat := false, ovf := false, mark := none, exec := { block := b } }

/-- A cell begins a block's execution; a re-execution counts (Table 4.11). -/
def beginBlock (c t b : Nat) (d : Dev) : Dev :=
  let redo := (mget (d.task t).runs b).isSome
  let d := modCell c (enterBlock t b) d
  if redo then
    modStats t (fun x => { x with reexecs := satPlus x.reexecs 1 })
      (modTask t (fun k => { k with reexecFrom := some (k.reexecFrom.getD d.tick) }) d)
  else d

/-- The partner inputs of a task that a block reads and that the cycle does not have yet (R152, R157). -/
def Dev.missing (d : Dev) (t : Nat) (b : Block) : List Nat :=
  (b.reads.filter (fun k => keySpace k == spI)).map keyEl |>.filter (fun el => (mget (d.task t).inputs el).isNone)

/-- A block of a task is ready (R149), and waits for no partner input where speculation is disabled (R157). -/
def Dev.ready (d : Dev) (t b : Nat) : Bool :=
  let k := d.task t
  let im := d.prog.image.getD {}
  let bl := lget im.blocks b
  let open_ := match mget k.runs b with
    | none => true
    | some r => r.needsReexec
  let writersDone := (List.range b).all fun w =>
    let o := lget im.blocks w
    o.task != t || !o.writes.any (fun x => bl.reads.contains x) ||
      (match mget k.runs w with
       | some r => !r.needsReexec
       | none => false)
  (k.st == .execute || k.st == .late) && open_ && writersDone &&
    !d.prog.cells.toList.any (fun x => x.running && x.task == t && x.block == b) &&
    (k.cfg.specEn || (d.missing t bl).isEmpty)

/-- The block that a free cell starts next: lowest task, then lowest block (R149). -/
def Dev.nextBlock (d : Dev) (c : Nat) : Option (Nat × Nat) :=
  let bs := (d.placedOn c).map (fun b => (d.blockTask b, b))
  ((List.range 8).flatMap (fun t => (bs.filter (fun x => x.1 == t)).mergeSort (fun a b => a.2 ≤ b.2))).find?
    (fun x => d.ready x.1 x.2)

/-- BLOCK_START (R149). -/
def execBlockStart (c : Fin 256) (s : State) : Host.Outcome State Fault Refusal :=
  nextD s fun d =>
    let x := d.cell c
    if x.running || x.failed || x.level != .ok || d.prog.swap.inGap then d
    else match d.nextBlock c with
      | some (t, b) => beginBlock c t b d
      | none => d

/-! ## Rows of the ladder -/

/-- L0_RELOAD_DONE (R207): the faulted block starts again, if its cycle still runs. -/
def execL0ReloadDone (c : Fin 256) (s : State) : Host.Outcome State Fault Refusal :=
  nextD s fun d =>
    let x := d.cell c
    if x.level != .l0 then d
    else if d.ready x.task x.block then
      modCell c (fun x => { x with level := .l0run }) (beginBlock c x.task x.block d)
    else modCell c (fun x => { x with level := .ok }) d

/-- PROGRESS_STALL (R201): a running cell, or one with a ready block. -/
def execProgressStall (c : Fin 256) (spare : Option (Fin 256)) (s : State) : Host.Outcome State Fault Refusal :=
  nextD s fun d =>
    let x := d.cell c
    let at_ := if x.running then some (x.task, x.block) else d.nextBlock c
    match at_ with
    | some (t, b) =>
      if x.failed then d
      else
        let d := raise .progressStall (c + 512 * t + 65536 * (b % 65536)) d
        if d.inMigDomain c then ladderL2 (abortMigration d) else ladderL1 c 2 (spare.map (·.val)) d
    | none => d

/-- MIGRATION_DONE, once every task with blocks on the source has switched (R203). -/
def migCheck (spare : Option Nat) (d : Dev) : Dev :=
  let m := d.prog.mig
  if m.state != .switch || !(d.placedOn m.source).isEmpty then d
  else
    let d := raise .migrationDone (migDetail m d 0) (modProg (fun p => { p with mig := {} }) d)
    nextQueued spare (modCell m.source (fun x => { x with level := .ok }) d)

/-- MIGRATION_PREPARE_DONE (R203). -/
def execMigrationPrepareDone (s : State) : Host.Outcome State Fault Refusal :=
  nextD s fun d =>
    if d.prog.mig.state = .prepare then
      migCheck none (modProg (fun p => { p with mig := { p.mig with state := .switch } }) d)
    else d

/-- MIGRATION_SWITCH (R203, R204): at a switch point of the task, or after a fault or stall at once. -/
def execMigrationSwitch (t : Fin 8) (spare : Option (Fin 256)) (s : State) : Host.Outcome State Fault Refusal :=
  nextD s fun d =>
    let m := d.prog.mig
    let st := (d.task t).st
    let point := st == .publish || st == .wait || st == .stopped || m.cause == 1 || m.cause == 2
    if m.state != .switch || !point || !(d.tasksOn m.source).contains t.val then d
    else
      let pos := d.sys.stackPos.toNat
      let move := fun (b : PlacedBlock) =>
        if b.cell == m.source && b.position == pos && d.blockTask b.block == t.val then { b with cell := m.target } else b
      let d' := modProg (fun p => { p with
        map := p.map.map (fun (x : PlaceMap) => { x with blocks := x.blocks.map move })
        mig := { p.mig with switched := p.mig.switched ++ [t.val] } }) d
      migCheck (spare.map (·.val)) d'

end Sys2Proof.Machine
end

