-- ==== Sys2Proof/Machine/Rtc.lean ====
section
/-!
DEFINITION. Machine/Rtc.lean: the RTC count, its registers, its loads, the leap offset, the discipline by PTP and
calendar conversion (R457 to R478, R490, R491, R495, R496).
-/

namespace Sys2Proof.Machine

open Sys2Proof

/-! ## The count -/

/-- DISC_ACTIVE: DISCIPLINE is set and PTP is locked (Table 12.1). -/
def Dev.discActive (d : Dev) : Bool := d.rtc.discipline && d.net.ptp.locked

/-- The increment of one tick in hidden units (R459). -/
def rtcIncrement (trim : Int) : Int := 512 * 2 ^ 32 + divNearest (512 * 2 ^ 32 * trim) 1000000000

/-- The count as one number of hidden units: 40 bits of seconds and 56 of fraction. -/
def Rtc.full (r : Rtc) : Nat := r.sec.toNat * 2 ^ 56 + r.frac.toNat

def Rtc.setFull (r : Rtc) (x : Int) : Rtc :=
  { r with sec := BitVec.ofInt 40 (x / 2 ^ 56), frac := BitVec.ofInt 56 x }

/-- The leap offset in force for a count (R471). -/
def Rtc.leapFor (r : Rtc) (c : Nat) : Int :=
  match r.leapPend with
  | some (n, at_) => if at_.toNat ≤ c then n else r.leap
  | none => r.leap

/-- At a tick, an offset set without SCHEDULED and a scheduled change that is due become current (R471, R495). -/
def leapTick (d : Dev) : Dev :=
  let r := d.rtc
  let d1 := match r.leapNext with
    | some n => confChanged { d with rtc := { r with leap := n, leapNext := none } }
    | none => d
  match d1.rtc.leapPend with
  | some (n, at_) =>
    if at_.toNat ≤ r.timeWord.toNat then confChanged { d1 with rtc := { d1.rtc with leap := n, leapPend := none } }
    else d1
  | none => d1

def LoadSrc.code : LoadSrc → Nat
  | .ctrl => 1
  | .calendar => 2
  | .ptp => 3

/-- The detail word of TIME_STEP (Table 12.7): source, and new count minus old in ms, rounded to nearest
(log entry 10). -/
def timeStepDetail (src : LoadSrc) (new old : Nat) : Nat :=
  let ms := clampInt (-(2 ^ 29 - 1)) (2 ^ 29 - 1) (divNearest (((new : Int) - (old : Int)) * 1000) (2 ^ 24))
  src.code + 4 * (BitVec.ofInt 30 ms).toNat

/-- The load of a staged value at a tick (R466, R468). -/
def rtcLoad (d : Dev) : Dev :=
  match d.rtc.pending with
  | none => d
  | some (t, src) =>
    let r := d.rtc
    let r' := { r with
      sec := BitVec.ofNat 40 (t.toNat / 2 ^ 24), frac := BitVec.ofNat 56 (t.toNat % 2 ^ 24 * 2 ^ 32)
      osf := false, countLost := false, pending := none
      waiter := if src = .calendar then none else r.waiter }
    let d := raise .timeStep (timeStepDetail src t.toNat r.timeWord.toNat) { d with rtc := r' }
    leapTick (if src = .calendar then respondTo r.waiter stOk (leBytes 8 t.toNat) d else d)

/-- RTC_TICK (R459): an edge of the 32.768 kHz clock. A staged load suppresses the increment (R466). -/
def rtcTick (d : Dev) : Dev :=
  if !d.rtc.oscRun then d
  else if d.rtc.pending.isSome then rtcLoad d
  else leapTick { d with rtc := d.rtc.setFull ((d.rtc.full : Int) + rtcIncrement d.rtc.trim) }

/-! ## Registers -/

def refuse (d : Dev) : Dev := { d with rtc := { d.rtc with commitRefused := true } }

/-- A write to RTC_SET_SEC_HI, _LO or _FRAC (R467): discarded while PENDING. -/
def rtcSetWrite (r : Nat) (v : Nat) (d : Dev) : Dev :=
  if d.rtc.pending.isSome then refuse d
  else
    let x := d.rtc
    match r with
    | 0 => { d with rtc := { x with setSec := BitVec.ofNat 40 (v % 256 * 2 ^ 32 + x.setSec.toNat % 2 ^ 32) } }
    | 1 => { d with rtc := { x with setSec := BitVec.ofNat 40 (x.setSec.toNat / 2 ^ 32 * 2 ^ 32 + v % 2 ^ 32) } }
    | _ => { d with rtc := { x with setFrac := BitVec.ofNat 24 v } }

/-- COMMIT (R466): refused while PENDING or DISC_ACTIVE (R467). -/
def rtcCommit (d : Dev) : Dev :=
  if d.rtc.pending.isSome || d.discActive then refuse d
  else
    let t := BitVec.ofNat 64 (d.rtc.setSec.toNat * 2 ^ 24 + d.rtc.setFrac.toNat)
    { d with rtc := { d.rtc with pending := some (t, .ctrl) } }

/-- CANCEL (R467): a staged load does not take place. -/
def rtcCancel (d : Dev) : Dev := { d with rtc := { d.rtc with pending := none, waiter := none } }

/-- DISCIPLINE is written, and kept in the retentive configuration area (R463). -/
def rtcDiscipline (on : Bool) (d : Dev) : Dev :=
  let r := { d.rtc with discipline := on, leapFromPtp := d.rtc.leapFromPtp && on }
  if d.rtc.discipline = on then { d with rtc := r } else confChanged { d with rtc := r }

/-- A write to RTC_CTRL (Table 12.1): CANCEL wins over COMMIT (R467). -/
def rtcCtrlWrite (v : Nat) (d : Dev) : Dev :=
  let d1 := if v.testBit 1 then rtcCancel d else if v.testBit 0 then rtcCommit d else d
  rtcDiscipline (v.testBit 2) d1

/-- A write to RTC_TRIM (R464). -/
def rtcTrimWrite (v : Word) (d : Dev) : Dev :=
  if d.discActive || decide (v.toInt < -500000) || decide (500000 < v.toInt) then refuse d
  else { d with rtc := { d.rtc with trim := v.toInt } }

/-! ## Calendar conversion (R475 to R478) -/

def leapYear (y : Nat) : Bool := (y % 4 == 0 && y % 100 != 0) || y % 400 == 0

def monthLen (y m : Nat) : Nat :=
  match m with
  | 2 => if leapYear y then 29 else 28
  | 4 => 30 | 6 => 30 | 9 => 30 | 11 => 30
  | _ => 31

/-- Year and day of the year from days since 2000-01-01. -/
def yearOf : Nat → Nat → Nat → Nat × Nat
  | 0, y, days => (y, days)
  | fuel + 1, y, days =>
    let n := if leapYear y then 366 else 365
    if n ≤ days then yearOf fuel (y + 1) (days - n) else (y, days)

def monthOf (y : Nat) : Nat → Nat → Nat → Nat × Nat
  | 0, m, days => (m, days)
  | fuel + 1, m, days => if monthLen y m ≤ days then monthOf y fuel (m + 1) (days - monthLen y m) else (m, days)

/-- The last UTC second that has a calendar form: 2999-12-31 23:59:59. -/
def calendarMax : Int := 31556995199

/-- The calendar record of UTC seconds u and a fraction (R477). -/
def calendarOf (u frac : Nat) : Bytes :=
  let days := u / 86400
  let sod := u % 86400
  let (y, dy) := yearOf 1000 2000 days
  let (m, dm) := monthOf y 12 1 dy
  leBytes 2 y ++ leBytes 1 m ++ leBytes 1 (dm + 1) ++ leBytes 1 (sod / 3600) ++ leBytes 1 (sod % 3600 / 60) ++
    leBytes 1 (sod % 60) ++ leBytes 1 ((days + 5) % 7 + 1) ++ leBytes 4 frac

/-- A calendar record is refused, with which status (R476). -/
def calendarTests (c : Bytes) : List (Bool × Half) :=
  let y := getLe c 0 2
  let m := byteAt c 2
  let dd := byteAt c 3
  [ (decide (m < 1 ∨ 12 < m) || decide (dd < 1 ∨ monthLen y m < dd) || decide (23 < byteAt c 4) ||
      decide (59 < byteAt c 5) || decide (59 < byteAt c 6) || byteAt c 7 != 0 || byteAt c 11 != 0, stBadParam),
    (decide (y < 2000 ∨ 2999 < y), stRange) ]

/-- UTC seconds of a calendar record. -/
def calendarSeconds (c : Bytes) : Nat :=
  let y := getLe c 0 2
  let m := byteAt c 2
  let yd := ((List.range (y - 2000)).map (fun i => if leapYear (2000 + i) then 366 else 365)).sum
  let md := ((List.range (m - 1)).map (fun i => monthLen y (i + 1))).sum
  (yd + md + (byteAt c 3 - 1)) * 86400 + byteAt c 4 * 3600 + byteAt c 5 * 60 + byteAt c 6

/-- The time word of a calendar record, and the offset used (R478). -/
def calendarWord (r : Rtc) (c : Bytes) : Nat × Int :=
  let u : Int := calendarSeconds c
  let w := fun (off : Int) => ((u + off) * 2 ^ 24).toNat + getLe c 8 3
  let c0 := w r.leap
  match r.leapPend with
  | some (n, at_) => if at_.toNat ≤ c0 then (w n, n) else (c0, r.leap)
  | none => (c0, r.leap)

/-- UTC seconds of a time word (R477). -/
def utcOf (r : Rtc) (t : Nat) : Int := (t / 2 ^ 24 : Nat) - r.leapFor t

def utcOk (u : Int) : Bool := decide (0 ≤ u ∧ u ≤ calendarMax)

/-- A signed number as two bytes. -/
def le16 (x : Int) : Bytes := leBytes 2 (BitVec.ofInt 16 x).toNat

/-! ## Rows: registers, ticks and loads -/

/-- RTC_COMMIT (R466): a write of COMMIT that leaves DISCIPLINE as it stands. -/
def execRtcCommit (s : State) : Host.Outcome State Fault Refusal := nextD s rtcCommit

/-- RTC_CANCEL (R467): with or without COMMIT in the same write. -/
def execRtcCancel (commit : Bool) (s : State) : Host.Outcome State Fault Refusal :=
  nextD s fun d => rtcCtrlWrite (2 + b2n commit + 4 * b2n d.rtc.discipline) d

/-- RTC_DISCIPLINE_WRITE (R473). -/
def execRtcDisciplineWrite (on : Bool) (s : State) : Host.Outcome State Fault Refusal := nextD s (rtcDiscipline on)

/-- RTC_TRIM_WRITE (R464). -/
def execRtcTrimWrite (v : Word) (s : State) : Host.Outcome State Fault Refusal := nextD s (rtcTrimWrite v)

/-- RTC_SET_WRITE (R467): register 0 SEC_HI, 1 SEC_LO, 2 FRAC. -/
def execRtcSetWrite (r : Fin 3) (v : Word) (s : State) : Host.Outcome State Fault Refusal :=
  nextD s (rtcSetWrite r v.toNat)

/-- RTC_TICK (R459). -/
def execRtcTick (s : State) : Host.Outcome State Fault Refusal := nextD s rtcTick

/-- RTC_LOAD (R466): the tick that takes a staged load, while the oscillator runs. -/
def execRtcLoad (s : State) : Host.Outcome State Fault Refusal :=
  nextD s fun d => if d.rtc.oscRun then rtcLoad d else d

/-- LEAP_CHANGE_APPLY (R471). -/
def execLeapChangeApply (s : State) : Host.Outcome State Fault Refusal :=
  nextD s fun d => if d.rtc.oscRun then leapTick d else d

/-- RTC_DISCIPLINE_COMPARE (R473): PTP time as a time word. A step is staged beyond 1 ms; otherwise TRIM takes the
value that makes the difference decay, a free value within its range (log entry 11). -/
def execRtcDisciplineCompare (ptp : DWord) (s : State) : Host.Outcome State Fault Refusal :=
  nextD s fun d =>
    if !d.discActive then d
    else
      let diff : Int := (d.rtc.timeWord.toNat : Int) - ptp.toNat
      if 1000 * diff.natAbs > 2 ^ 24 then
        if d.rtc.pending.isSome then d else { d with rtc := { d.rtc with pending := some (ptp, .ptp) } }
      else
        let (x, d) := freshInt d
        { d with rtc := { d.rtc with trim := clampInt (-500000) 500000 x } }

/-- RTC_OSF is raised as OSF is set while the device runs (R470). -/
def setOsf (lost : Bool) (d : Dev) : Dev :=
  let was := d.rtc.osf
  let d := { d with rtc := { d.rtc with osf := true, countLost := d.rtc.countLost || lost } }
  raiseIf (!was && d.sys.fwReady) .rtcOsf (b2n (!d.rtc.oscRun) + 2 * b2n d.rtc.countLost) d

/-- RTC_OSC_STOP (R469): the count stands still from here. -/
def execRtcOscStop (s : State) : Host.Outcome State Fault Refusal :=
  nextD s fun d => setOsf false { d with rtc := { d.rtc with oscRun := false } }

/-- RTC_OSC_START (R469). -/
def execRtcOscStart (s : State) : Host.Outcome State Fault Refusal :=
  nextD s fun d => { d with rtc := { d.rtc with oscRun := true } }

/-- VBAT_RESTORE (R469): the count, TRIM and the leap offset restart from 0. -/
def execVbatRestore (s : State) : Host.Outcome State Fault Refusal :=
  nextD s fun d => setOsf true { d with rtc := { d.rtc with
    sec := 0, frac := 0, trim := 0, leap := 0, leapPend := none, leapNext := none } }

/-! ## Rows: commands -/

/-- TIME_SET_CALENDAR (R490). -/
def execTimeSetCalendar (o : Origin) (s : State) : Host.Outcome State Fault Refusal :=
  runCmd s o 0x0A00 always
    (fun _ d p => lenIs p 12 :: calendarTests p ++
      [(d.discActive, stNotPermitted), (d.rtc.pending.isSome, stBusy)])
    (fun _ d p =>
      let t := BitVec.ofNat 64 (calendarWord d.rtc p).1
      ({ d with rtc := { d.rtc with pending := some (t, .calendar), waiter := some o } }, .later))

/-- TIME_GET_CALENDAR (R477). -/
def execTimeGetCalendar (o : Origin) (s : State) : Host.Outcome State Fault Refusal :=
  runCmd s o 0x0A01 always
    (fun _ d p => [lenIs p 0, (!utcOk (utcOf d.rtc d.rtc.timeWord.toNat), stRange)])
    (fun _ d _ =>
      let t := d.rtc.timeWord.toNat
      (d, .ok (leBytes 8 t ++ calendarOf (utcOf d.rtc t).toNat (t % 2 ^ 24) ++ le16 (d.rtc.leapFor t) ++
        leBytes 1 (b2n d.rtc.osf + 2 * b2n d.discActive + 4 * b2n d.rtc.leapPend.isSome) ++ zeros 1)))

/-- CONVERT (R491). -/
def execConvert (o : Origin) (s : State) : Host.Outcome State Fault Refusal :=
  runCmd s o 0x0A02 always
    (fun _ d p =>
      let op := byteAt p 0
      [lenIs p 24, resv p [(1, 3)],
        ((op == 1 && !allZero p 4 8) || (op == 0 && !allZero p 12 12), stBadParam),
        (decide (1 < op), stBadParam)] ++
      (if op = 1 then calendarTests (slice p 12 12)
       else [(!utcOk (utcOf d.rtc (getLe p 4 8)), stRange)]))
    (fun _ d p =>
      if byteAt p 0 = 1 then
        let c := slice p 12 12
        let (t, off) := calendarWord d.rtc c
        (d, .ok (leBytes 8 t ++ calendarOf (calendarSeconds c) (getLe c 8 3) ++ le16 off ++ zeros 2))
      else
        let t := getLe p 4 8
        (d, .ok (leBytes 8 t ++ calendarOf (utcOf d.rtc t).toNat (t % 2 ^ 24) ++ le16 (d.rtc.leapFor t) ++ zeros 2)))

/-- LEAP_OFFSET_SET (R495). -/
def execLeapOffsetSet (o : Origin) (s : State) : Host.Outcome State Fault Refusal :=
  runCmd s o 0x0A06 always
    (fun _ d p =>
      let off := toSigned 16 (getLe p 0 2)
      let sched := (byteAt p 2).testBit 0
      let at_ := getLe p 4 8
      [lenIs p 16, (decide (1 < byteAt p 2) || !allZero p 3 1 || !allZero p 12 4, stBadParam),
        (d.rtc.leapFromPtp, stNotPermitted),
        (decide (off < -100 ∨ 100 < off) || (sched && decide (at_ ≤ d.rtc.timeWord.toNat)), stRange),
        (at_ % 2 ^ 24 != 0 || (!sched && at_ != 0), stBadParam)])
    (fun _ d p =>
      let off := toSigned 16 (getLe p 0 2)
      if (byteAt p 2).testBit 0 then
        (confChanged { d with rtc := { d.rtc with leapPend := some (off, BitVec.ofNat 64 (getLe p 4 8)) } }, .ok [])
      else ({ d with rtc := { d.rtc with leapNext := some off } }, .ok []))

end Sys2Proof.Machine
end

