-- ==== Sys2Proof/Machine/HostPort.lean ====
section
/-!
DEFINITION. Machine/HostPort.lean: the register space of BAR0 and of SPI (R55 to R63, Tables 2.2 to 2.14, 12.1), the
event registers, MSI-X, the PCIe endpoint's events and the system commands of R88 to R94.
-/

namespace Sys2Proof.Machine

open Sys2Proof

/-! ## Event registers and MSI-X -/

/-- Four words as one mask: word k holds bits 32k to 32k + 31. -/
def wordAt (k : Nat) (v : Word) : BitVec 128 := (v.zeroExtend 128) <<< (32 * k)

def wordOf (k : Nat) (x : BitVec 128) : Nat := x.toNat / 2 ^ (32 * k) % 2 ^ 32

/-- A W1C write to EVT_PENDINGk: the bits clear, with their PBA bits (R84, R86), and INT_N follows (R83). -/
def evtPendingClear (k : Nat) (v : Word) (d : Dev) : Dev :=
  let m := ~~~(wordAt k v)
  updInt { d with evt := { d.evt with pending := d.evt.pending &&& m },
                  host := { d.host with pba := d.host.pba &&& m } }

/-- A write to EVT_MASKk: a pending event that is unmasked sends its message (R84). -/
def evtMaskWrite (k : Nat) (v : Word) (d : Dev) : Dev :=
  let old := d.evt.mask
  let new := (old &&& ~~~(wordAt k 0xFFFFFFFF)) ||| wordAt k v
  let d := { d with evt := { d.evt with mask := new } }
  let fresh := d.evt.pending &&& old &&& ~~~new
  updInt ((List.range 128).foldl (fun d n => if fresh.getLsbD n then msixSend n d else d) d)

def evtCtrlWrite (v : Word) (d : Dev) : Dev :=
  updInt { d with evt := { d.evt with intEn := v.getLsbD 0 } }

/-- A write of one word of the MSI-X table (PCIe Base Specification): address, data and vector control. -/
def msixWrite (off : Nat) (v : Word) (d : Dev) : Dev :=
  let n := (off - 0x8000) / 16
  let f := fun (e : MsixEntry) => match (off - 0x8000) % 16 / 4 with
    | 0 => { e with addr := (e.addr &&& 0xFFFFFFFF00000000#64) ||| v.zeroExtend 64 }
    | 1 => { e with addr := (e.addr &&& 0x00000000FFFFFFFF#64) ||| (v.zeroExtend 64 <<< 32) }
    | 2 => { e with data := v }
    | _ => { e with masked := v.getLsbD 0 }
  msixRelease { d with host := { d.host with msix := vmod d.host.msix n f } }

/-! ## Writes -/

/-- SYS_RESET_CAUSE is W1C (Table 2.7). -/
def causeClear (v : Word) (c : ResetCause) : ResetCause :=
  { por := c.por && !v.getLsbD 0, pin := c.pin && !v.getLsbD 1, soft := c.soft && !v.getLsbD 2,
    swdg := c.swdg && !v.getLsbD 3, lockstep := c.lockstep && !v.getLsbD 4, thermal := c.thermal && !v.getLsbD 5,
    brownout := c.brownout && !v.getLsbD 6 }

/-- A 32-bit write to a register, by the address map of Table 2.3; any other address is discarded (R61). -/
def writeWord (pcie : Bool) (off : Nat) (v : Word) (m : Mems) (d : Dev) : Dev :=
  if off = 0x10 then { d with sys := { d.sys with cause := causeClear v d.sys.cause } }
  else if off = 0x14 then { d with sys := { d.sys with scratch := v } }
  else if 0x100 ≤ off ∧ off < 0x200 then
    let n := (off - 0x100) / 0x20
    match (off - 0x100) % 0x20 with
    | 0 => doorbell n v.toNat m d
    | 4 => if v.getLsbD 2 then setChan n (fun c => { c with dbIgnored := false }) d else d
    | _ => d
  else if 0x400 ≤ off ∧ off < 0x410 then evtPendingClear ((off - 0x400) / 4) v d
  else if 0x410 ≤ off ∧ off < 0x420 then evtMaskWrite ((off - 0x410) / 4) v d
  else if off = 0x420 then evtCtrlWrite v d
  else if off = 0x60C then
    if v.getLsbD 4 then { d with rtc := { d.rtc with commitRefused := false } } else d
  else if off = 0x610 then rtcSetWrite 0 v.toNat d
  else if off = 0x614 then rtcSetWrite 1 v.toNat d
  else if off = 0x618 then rtcSetWrite 2 v.toNat d
  else if off = 0x61C then rtcCtrlWrite v.toNat d
  else if off = 0x620 then rtcTrimWrite v d
  else if pcie && decide (0x8000 ≤ off ∧ off < 0x8800) then msixWrite off v d
  else d

/-- An offset within a command buffer (Table 2.3). -/
def isCmdBuf (off : Nat) : Bool := decide (0x10000 ≤ off ∧ off < 0x20000) && !off.testBit 12

/-- The accesses that a mailbox buffer accepts (R55). -/
def bufAccessOk (off len : Nat) : Bool :=
  decide (0 < len ∧ off % 4 + len ≤ 4) || (len == 8 && off % 8 == 0)

/-- A host write of bytes at an offset (R13, R55, R61). -/
def writeReg (pcie : Bool) (off : Nat) (data : Bytes) (m : Mems) (d : Dev) : Dev × Mems :=
  if 0x10000 ≤ off then
    if isCmdBuf off && bufAccessOk off data.length then (d, { m with bufs := Memory.writeN 0 m.bufs off data })
    else (d, m)
  else if data.length = 4 && off % 4 = 0 then (writeWord pcie off (BitVec.ofNat 32 (fromLe data)) m d, m)
  else (d, m)

/-! ## Reads -/

def DmaState.code : DmaState → Nat
  | .idle => 0
  | .running => 1
  | .halted => 2

/-- The six registers of a DMA channel (Table 2.14). -/
def dmaRegs (c : DmaChan) : List Nat :=
  [ c.state.code + 4 * c.queue.length + 512 * c.errKind.toNat, c.doneCount.toNat, c.lastId.toNat, c.errId.toNat,
    c.errAddr.toNat % 2 ^ 32, c.errAddr.toNat / 2 ^ 32 ]

def ChState.code : ChState → Nat
  | .idle => 0
  | .busy => 1
  | .done => 2
  | .closed => 3

/-- MBX_n_STATUS (Table 2.9). -/
def mbxStatus (c : Chan) : Nat :=
  c.state.code + 4 * b2n c.dbIgnored + 256 * c.tag.toNat + 65536 * c.result.toNat

/-- RTC_STATUS (Table 12.1). -/
def rtcStatus (d : Dev) : Nat :=
  b2n d.rtc.osf + 2 * b2n d.rtc.oscRun + 4 * b2n d.rtc.countLost + 8 * b2n d.rtc.pending.isSome +
    16 * b2n d.rtc.commitRefused + 32 * b2n d.discActive + 64 * b2n d.rtc.leapFromPtp

/-- A register's value, by the address map; 0 at any other address (R61). -/
def regValue (off : Nat) (d : Dev) : Nat :=
  if off = 0x00 then d.sys.ident.toNat % 2 ^ 32
  else if off = 0x04 then d.sys.ident.toNat / 2 ^ 32
  else if off = 0x08 then d.sys.fwVersion.toNat
  else if off = 0x0C then d.sysStatus
  else if off = 0x10 then d.sys.cause.word
  else if off = 0x14 then d.sys.scratch.toNat
  else if 0x20 ≤ off ∧ off < 0x30 then wordOf ((off - 0x20) / 4) d.sys.uid
  else if 0x100 ≤ off ∧ off < 0x200 then
    let c := vget d.mbx.chans ((off - 0x100) / 0x20)
    match (off - 0x100) % 0x20 with
    | 4 => mbxStatus c
    | 8 => c.respLen.toNat
    | _ => 0
  else if 0x400 ≤ off ∧ off < 0x410 then wordOf ((off - 0x400) / 4) d.evt.pending
  else if 0x410 ≤ off ∧ off < 0x420 then wordOf ((off - 0x410) / 4) d.evt.mask
  else if off = 0x420 then b2n d.evt.intEn
  else if off = 0x600 then d.rtc.sec.toNat / 2 ^ 32
  else if off = 0x604 then d.rtc.sec.toNat % 2 ^ 32
  else if off = 0x608 then d.rtc.frac.toNat / 2 ^ 32
  else if off = 0x60C then rtcStatus d
  else if off = 0x610 then d.rtc.setSec.toNat / 2 ^ 32
  else if off = 0x614 then d.rtc.setSec.toNat % 2 ^ 32
  else if off = 0x618 then d.rtc.setFrac.toNat
  else if off = 0x61C then 4 * b2n d.rtc.discipline
  else if off = 0x620 then (BitVec.ofInt 32 d.rtc.trim).toNat
  else if off = 0x624 then (BitVec.ofInt 16 d.rtc.leap).toNat + 65536 * b2n d.rtc.leapPend.isSome
  else if 0x800 ≤ off ∧ off < 0x880 then
    (dmaRegs (vget d.host.dma ((off - 0x800) / 0x20)))[(off - 0x800) % 0x20 / 4]?.getD 0
  else 0

/-- A byte of a mailbox buffer. While STATE is not DONE a response buffer's content is undefined: a free value (R71,
log entry 12). -/
def bufByte (off : Nat) (m : Mems) (d : Dev) : Byte × Dev :=
  if off.testBit 12 && !((vget d.mbx.chans ((off - 0x10000) / 0x2000)).state == .done) then
    let (x, d) := freshNat d
    (BitVec.ofNat 8 x, d)
  else (Memory.read 0 m.bufs off, d)

/-- n bytes read from an offset over SPI; the MSI-X ranges read 0 (R60). -/
def spiBytes : Nat → Nat → Mems → Dev → Bytes × Dev
  | 0, _, _, d => ([], d)
  | n + 1, off, m, d =>
    let (b, d) := if 0x10000 ≤ off then bufByte off m d
      else (BitVec.ofNat 8 (regValue (off / 4 * 4) d / 2 ^ (8 * (off % 4))), d)
    let (bs, d) := spiBytes n (off + 1) m d
    (b :: bs, d)

/-! ## SPI (R57 to R60) -/

/-- The failure that CS_N rising shows: kind in the detail word (R58). -/
def spiFail (kind : Nat) (d : Dev) : Dev :=
  raise .spiProtocolErr kind { d with host := { d.host with spiErr := true } }

def spiOk (d : Dev) : Dev := { d with host := { d.host with spiErr := false } }

/-- Bytes of a transfer from an address that lie below the next 4 KiB boundary. -/
def spiRoom (addr : Nat) : Nat := 4096 - addr % 4096

/-- The complete words of a WRITE, one after another. -/
def spiWriteWords : List Bytes → Nat → Mems → Dev → Dev × Mems
  | [], _, m, d => (d, m)
  | w :: ws, a, m, d =>
    let (d, m) := writeReg false a w m d
    spiWriteWords ws (a + 4) m d

/-- PORT_STATUS (Table 2.2). -/
def spiPortStatus (d : Dev) : Dev :=
  let b := b2n d.host.spiErr + 2 * b2n d.sys.fwReady + 4 * b2n ((d.evt.pending &&& ~~~d.evt.mask) != 0)
  spiOk (emit (.spiMiso [BitVec.ofNat 8 b]) d)

/-- A WRITE or READ from its address on: `n` data bytes, of them those before the boundary count. -/
def spiData (write : Bool) (addr : Nat) (data : Bytes) (n extra : Nat) (m : Mems) (d : Dev) : Dev × Mems :=
  let good := min n (spiRoom addr)
  let r : Dev × Mems :=
    if write then spiWriteWords (chunks 4 (data.take (good / 4 * 4))) addr m d
    else
      let (bs, d) := spiBytes good addr m d
      (emit (.spiMiso (bs ++ List.replicate (n - good) 0xFF#8)) d, m)
  if spiRoom addr < n then (spiFail 5 r.1, r.2)
  else if n % 4 != 0 || extra != 0 then (spiFail 4 r.1, r.2)
  else (spiOk r.1, r.2)

/-- A transaction: the whole bytes on MOSI, the bits after the last of them, and for a READ the data bytes clocked. -/
def spiTransaction (mosi : Bytes) (extra nRead : Nat) (m : Mems) (d : Dev) : Dev × Mems :=
  match mosi with
  | [] => (d, m)
  | i :: rest =>
    let ff := fun (d : Dev) => if i = 3 then emit (.spiMiso (List.replicate nRead 0xFF#8)) d else d
    if i = 5 then (spiPortStatus d, m)
    else if i ≠ 2 ∧ i ≠ 3 then (spiFail 1 d, m)
    else if rest.length < 3 then (spiFail 4 d, m)
    else
      let addr := getBe rest 0 3
      if 2 ^ 17 ≤ addr then (spiFail 2 (ff d), m)
      else if addr % 4 ≠ 0 then (spiFail 3 (ff d), m)
      else if i = 2 then spiData true addr (rest.drop 3) (rest.length - 3) extra m d
      else if rest.length < 4 then (spiFail 4 d, m)
      else spiData false addr [] nRead extra m d

/-! ## PCIe -/

/-- The detail word of PCIE_LINK (R603). -/
def linkDetail (up : Bool) (speed : BitVec 3) (width : BitVec 4) : Nat := b2n up + 2 * speed.toNat + 16 * width.toNat

/-- A transition of the data link layer (R603): to DL_Active with its speed and width, or away from it. -/
def pcieLink (up : Bool) (speed : BitVec 3) (width : BitVec 4) (d : Dev) : Dev :=
  if up = d.host.linkUp then d
  else if up then
    msixRelease (raise .pcieLink (linkDetail true speed width)
      { d with host := { d.host with linkUp := true, linkSpeed := speed, linkWidth := width } })
  else raise .pcieLink (linkDetail false d.host.linkSpeed d.host.linkWidth)
    { d with host := { d.host with linkUp := false } }

/-! ## Rows -/

/-- REGISTER_WRITE (R13): a host write over PCIe. -/
def execRegisterWrite (off : Nat) (data : Bytes) (s : State) : Host.Outcome State Fault Refusal :=
  nextM s (writeReg true off data)

/-- EVT_PENDING_CLEAR (R86). -/
def execEvtPendingClear (k : Fin 4) (v : Word) (s : State) : Host.Outcome State Fault Refusal :=
  nextD s (evtPendingClear k v)

/-- EVT_MASK_WRITE (R84). -/
def execEvtMaskWrite (k : Fin 4) (v : Word) (s : State) : Host.Outcome State Fault Refusal :=
  nextD s (evtMaskWrite k v)

/-- EVT_CTRL_WRITE (R83). -/
def execEvtCtrlWrite (v : Word) (s : State) : Host.Outcome State Fault Refusal := nextD s (evtCtrlWrite v)

/-- MSIX_MASK_WRITE (R84): the Function Mask, or one vector's Mask bit. -/
def execMsixMaskWrite (v : Option (Fin 128)) (masked : Bool) (s : State) : Host.Outcome State Fault Refusal :=
  nextD s fun d =>
    match v with
    | none => msixRelease { d with host := { d.host with msixMask := masked } }
    | some n => msixRelease { d with host := { d.host with
        msix := vmod d.host.msix n (fun e => { e with masked := masked }) } }

/-- SPI_TRANSACTION (R57). -/
def execSpiTransaction (mosi : Bytes) (extraBits nRead : Nat) (s : State) : Host.Outcome State Fault Refusal :=
  nextM s (spiTransaction mosi extraBits nRead)

/-- SPI_PORT_STATUS (R57). -/
def execSpiPortStatus (s : State) : Host.Outcome State Fault Refusal := nextD s spiPortStatus

/-- PCIE_LINK_TRANSITION (R603). -/
def execPcieLinkTransition (up : Bool) (speed : BitVec 3) (width : BitVec 4) (s : State) :
    Host.Outcome State Fault Refusal := nextD s (pcieLink up speed width)

/-- PCIE_PERST (R52, Table 2.1): the endpoint and domain D4 return to their reset state; a link that was up is lost. -/
def execPciePerst (s : State) : Host.Outcome State Fault Refusal :=
  nextD s fun d => { pcieLink false 0 0 d with host := {} }

/-- PCIE_POWER_STATE_CHANGE (R54). -/
def execPciePowerStateChange (d3hot : Bool) (s : State) : Host.Outcome State Fault Refusal :=
  nextD s fun d => msixRelease { d with host := { d.host with d3hot := d3hot } }

/-- PCIE_BUS_MASTER_ENABLE_CHANGE (R54). -/
def execPcieBusMasterEnableChange (on : Bool) (s : State) : Host.Outcome State Fault Refusal :=
  nextD s fun d => msixRelease { d with host := { d.host with busMaster := on } }

/-- GET_IDENTITY (R88, Table 2.25). -/
def execGetIdentity (o : Origin) (s : State) : Host.Outcome State Fault Refusal :=
  runCmd s o 0x0100 always (fun _ _ p => [lenIs p 0]) (fun _ d _ =>
    (d, .ok (leBytes 8 d.sys.ident.toNat ++ d.uidBytes ++ leBytes 4 d.sys.fwVersion.toNat ++
      leBytes 1 d.sys.stackPos.toNat ++ leBytes 1 d.sys.role.code ++ zeros 2)))

/-- The response of GET_STATUS (Table 2.26). -/
def statusPayload (d : Dev) : Bytes :=
  leBytes 4 d.sysStatus ++ leBytes 4 d.sys.cause.word ++ leBytes 4 d.hist.opSeconds.toNat ++
    leBytes 4 d.hist.powerCycles.toNat ++ leBytes 4 d.pwr.bootEpoch.toNat ++ leBytes 2 d.pwr.tj.toNat ++
    leBytes 2 d.pwr.vddCore.toNat ++ leBytes 4 d.sys.checks.sram.toNat ++ leBytes 4 d.sys.checks.fabric.toNat ++
    leBytes 4 d.sys.checks.network.toNat ++ leBytes 4 d.sys.checks.gligil.toNat ++
    leBytes 4 d.sys.checks.output.toNat ++ leBytes 16 d.evt.pending.toNat ++ zeros 4

/-- GET_STATUS (R89). -/
def execGetStatus (o : Origin) (s : State) : Host.Outcome State Fault Refusal :=
  runCmd s o 0x0101 always
    (fun _ _ p => [(p.length != 0 && p.length != 4, stBadLength), (decide (1 < getLe p 0 4), stBadParam)])
    (fun _ d p =>
      let d' := if (getLe p 0 4).testBit 0 then { d with sys := { d.sys with checks := {} } } else d
      (d', .ok (statusPayload d)))

/-- FIRST and COUNT of an event range (R93). -/
def evRangeBad (p : Bytes) : Bool := byteAt p 1 == 0 || decide (128 < byteAt p 0 + byteAt p 1)

/-- EVENT_CONFIG (R93). -/
def execEventConfig (o : Origin) (s : State) : Host.Outcome State Fault Refusal :=
  runCmd s o 0x0103 always
    (fun _ _ p =>
      let flags := p.drop 4
      [ (decide (p.length < 4) || p.length != 4 + byteAt p 1, stBadLength),
        (!allZero p 2 2 || flags.any (fun f => decide (3 < f.toNat)), stBadParam),
        (evRangeBad p, stRange),
        ((List.range flags.length).any (fun i => evReserved (byteAt p 0 + i) && byteAt flags i != 0), stBadParam) ])
    (fun _ d p =>
      let flags := p.drop 4
      let recs := (List.range flags.length).foldl (fun rs i =>
        vmod rs (byteAt p 0 + i) (fun r => { r with
          net := (byteAt flags i).testBit 0, log := (byteAt flags i).testBit 1 })) d.evt.recs
      ({ d with evt := { d.evt with recs := recs } }, .ok []))

/-- EVENT_READ (R94). -/
def execEventRead (o : Origin) (s : State) : Host.Outcome State Fault Refusal :=
  runCmd s o 0x0104 always
    (fun _ _ p => [lenIs p 4, (decide (1 < byteAt p 2) || byteAt p 3 != 0, stBadParam), (evRangeBad p, stRange)])
    (fun _ d p =>
      let ns := (List.range (byteAt p 1)).map (byteAt p 0 + ·)
      let out := ns.flatMap (evRecord d)
      let recs := if (byteAt p 2).testBit 0 then
          ns.foldl (fun rs n => vmod rs n (fun r => { r with count := 0, saturated := false })) d.evt.recs
        else d.evt.recs
      ({ d with evt := { d.evt with recs := recs } }, .ok out))

end Sys2Proof.Machine
end

