-- ==== Sys2Proof/Machine/Loop.lean ====
section
/-!
DEFINITION. Machine/Loop.lean: the loop units: source descriptors, samples of biquad-cascade and hysteretic slots,
coefficient sets, faults and the trace (chapter 06, R231 to R272).
-/

namespace Sys2Proof.Machine

open Sys2Proof

def modSlot (u n : Nat) (f : LoopSlot → LoopSlot) (d : Dev) : Dev :=
  { d with loops := vmod d.loops u (fun x => { x with slots := vmod x.slots n f }) }

def modTrace (u : Nat) (f : Trace → Trace) (d : Dev) : Dev :=
  { d with loops := vmod d.loops u (fun x => { x with trace := f x.trace }) }

def Dev.slot (d : Dev) (u n : Nat) : LoopSlot := vget (vget d.loops u).slots n

/-! ## Source descriptors (Table 6.1) -/

def srcIndex (w : Word) : Nat := bits w.toNat 15 0
def srcBit (w : Word) : Nat := bits w.toNat 20 16
def srcKind (w : Word) : Nat := bits w.toNat 27 24

/-- The element that a descriptor of kind 2 or 3 names, by key. -/
def srcKey (w : Word) : Option Nat :=
  match srcKind w with
  | 2 => some (ekey spQ (srcIndex w))
  | 3 => some (ekey spV (srcIndex w))
  | _ => none

/-- The declaration of a slot of this device (R233). -/
def Dev.loopDecl (d : Dev) (u n : Nat) : Option LoopDecl :=
  d.prog.image.bind fun im => im.loops.find? fun l =>
    l.position == d.sys.stackPos.toNat && l.unit == u && l.slot == n

/-! ## The input shadow (R236, R241) -/

/-- A committed or applied value written into the shadow fields that name its element. -/
def shadowPut (cfg : LoopCfg) (key : Nat) (v : Word × Byte) (x : Shadow) : Shadow :=
  { pv := if srcKey cfg.pv = some key then some v else x.pv,
    sp := if srcKey cfg.sp = some key then some v else x.sp,
    man := if srcKey cfg.man = some key then some v else x.man,
    ctrl := if srcKey cfg.ctrl = some key then some v else x.ctrl }

/-- Committed or applied elements go to every slot that names them, for use from the next tick (Table 4.6, action 4). -/
def shadowWrite (keys : List Nat) (d : Dev) : Dev :=
  { d with loops := d.loops.map (fun (u : LoopUnit) => { u with slots := u.slots.map (fun (s : LoopSlot) =>
    { s with spNext := keys.foldl (fun x k =>
        match mget d.prog.vals k with
        | some v => shadowPut s.cfg k (v.value, v.quality) x
        | none => x) s.spNext }) }) }

/-- A base tick begins: what the commits of the tick before wrote is what samples read. -/
def shadowTick (d : Dev) : Dev :=
  { d with loops := d.loops.map (fun (u : LoopUnit) =>
    { u with slots := u.slots.map (fun (s : LoopSlot) => { s with shadow := s.spNext }) }) }

/-- The shadow of a configuration: the committed values that its descriptors name. -/
def shadowInit (d : Dev) (cfg : LoopCfg) : Shadow :=
  let f := fun (w : Word) => (srcKey w).bind fun k => (mget d.prog.vals k).map fun v => (v.value, v.quality)
  { pv := f cfg.pv, sp := f cfg.sp, man := f cfg.man, ctrl := f cfg.ctrl }

/-! ## Arithmetic (R244) -/

/-- A product of a Q2.29 coefficient and a Q16.16 value, rounded to Q18.30. -/
def mulQ (c : Word) (x : Int) : Int := rnd 15 (c.toInt * x)

/-- The flags that a computation sets. -/
structure LFlags where
  satState : Bool := false
  ovf : Bool := false
  deriving DecidableEq, Repr

/-- One section's output: to_q16(sat48(rnd(b0 * x) + s1)). -/
def sectionOut (c : Section) (x s1 : Int) (f : LFlags) : Int × LFlags :=
  let (acc, c1) := clipTo 48 (mulQ c.b0 x + s1)
  let (y, c2) := clipTo 32 (rnd 14 acc)
  (y, { satState := f.satState || c1, ovf := f.ovf || c2 })

/-- Phase 1: the input and output of each section, from the first. -/
def phase1 : List Section → List (BitVec 48) → Int → LFlags → List (Int × Int) × LFlags
  | [], _, _, f => ([], f)
  | c :: cs, ss, x, f =>
    let (y, f) := sectionOut c x ((ss.head?.getD 0).toInt) f
    let (rest, f) := phase1 cs ss.tail y f
    ((x, y) :: rest, f)

/-- The new states of a section from its input and output. -/
def sectionState (c : Section) (x y : Int) (s2 : BitVec 48) (f : LFlags) : (BitVec 48 × BitVec 48) × LFlags :=
  let (n1, c1) := clipTo 48 (mulQ c.b1 x - mulQ c.a1 y + s2.toInt)
  let (n2, c2) := clipTo 48 (mulQ c.b2 x - mulQ c.a2 y)
  ((BitVec.ofInt 48 n1, BitVec.ofInt 48 n2), { f with satState := f.satState || c1 || c2 })

/-- The rate step of R248: round(r × PERIOD / 20,000), ties away from zero. -/
def rateStep (r : Word) (period : Nat) : Int := divNearest (r.toInt * period) 20000

/-- The limiters (R248): both clamps, in order; a rate of 0 does not limit. -/
def limit (u prev : Int) (outMin outMax rateUp rateDown : Word) (period : Nat) : Int :=
  let l := clampInt outMin.toInt outMax.toInt u
  let l := if rateUp = 0 then l else min l (prev + rateStep rateUp period)
  if rateDown = 0 then l else max l (prev - rateStep rateDown period)

/-! ## A sample -/

/-- What a sample reads: VALUE and quality of PV, SP and MAN, and CTRL. -/
structure LIn where
  pv : Word × Byte
  sp : Word × Byte
  man : Word × Byte
  manual : Bool
  deriving DecidableEq, Repr

/-- What a sample produced or used, for the trace (Table 6.4). -/
structure LRec where
  ys : List Int := []
  e : Int := 0
  u : Int := 0
  limHigh : Bool := false
  limLow : Bool := false
  rate : Bool := false
  back : Bool := false
  deriving DecidableEq, Repr, Inhabited

def LoopMode.code : LoopMode → Nat
  | .auto => 0
  | .manual => 1
  | .forced => 2
  | .badIn => 3
  | .fault => 4
  | .stopped => 5
  | .disabled => 6

/-- SP_FIXED of a set. -/
def CoefSet.spFixed : CoefSet → Word
  | .biquad _ _ _ _ _ _ _ x => x
  | .hyst _ _ _ _ _ x => x

/-- A value that nothing has supplied is unusable: BAD (log entry 16). -/
def noValue : Word × Byte := (0, qBAD)

/-- The inputs of slot n as they stand at the sample instant (R235, R236, R249). -/
def loopInputs (u n : Nat) (badAi : Half) (d : Dev) : LIn × Dev :=
  let s := d.slot u n
  let c := s.cfg
  let ai := srcIndex c.pv
  let (pv, d) :=
    if srcKind c.pv = 1 then
      let x := (vget d.ana.ai ai).elem
      if badAi.getLsbD ai then
        ((x.value, qBAD_CHECK), raise .aiCheck (ai + 16 * 2) (countCheck .sram d))
      else ((x.value, d.aiQuality ai), d)
    else (s.shadow.pv.getD noValue, d)
  let sp := match srcKind c.sp with
    | 4 => ((s.active.map (·.spFixed)).getD 0, qGOOD)
    | 5 =>
      let up := d.slot u (srcIndex c.sp)
      if up.cfg.enable then (up.out.value, up.out.quality) else noValue
    | _ => s.shadow.sp.getD noValue
  let manual := srcKind c.man != 0 && srcKind c.ctrl != 0 &&
    (s.shadow.ctrl.getD (0, qGOOD)).1.getLsbD (srcBit c.ctrl)
  ({ pv := pv, sp := sp, man := s.shadow.man.getD noValue, manual := manual }, d)

/-- The forced value of the bound channel, when it is forced (R239). -/
def Dev.boundForce (d : Dev) (c : LoopCfg) : Option Word :=
  match c.destKind with
  | 1 => (vget d.ana.ao c.destCh).forced
  | 2 => (vget d.dig.dout c.destCh).forced.map (fun b => if b then 1 else 0)
  | _ => none

/-- The mode of a sample without a hardware fault (Table 6.2). -/
def loopMode (i : LIn) (forced : Option Word) : LoopMode :=
  if !qUsable i.pv.2 || !qUsable i.sp.2 || (i.manual && !qUsable i.man.2) then .badIn
  else if forced.isSome then .forced
  else if i.manual then .manual
  else .auto

/-- The quality of a sample's output (Table 6.2). -/
def loopQuality (m : LoopMode) (safe : Bool) (i : LIn) : Byte :=
  match m with
  | .badIn => if safe then qSAFE_VALUE else qHELD
  | .fault => qHELD
  | .forced => qMergeAll [i.pv.2, i.sp.2, qFORCED]
  | .manual => qMergeAll [i.pv.2, i.sp.2, i.man.2]
  | _ => qMergeAll [i.pv.2, i.sp.2]

/-- The error (R244): saturating, with OVF where it clips. -/
def loopError (reverse : Bool) (i : LIn) : Int × Bool :=
  clipTo 32 (if reverse then i.pv.1.toInt - i.sp.1.toInt else i.sp.1.toInt - i.pv.1.toInt)

/-- A downstream slot with FREEZE_UP holds the upstream integrator back (R250): its limiters lowered or raised its
output in its previous sample. -/
def freezeDown (un : LoopUnit) (n : Nat) : Bool × Bool :=
  let ds := un.slots.toList.filter (fun (s : LoopSlot) => s.cfg.enable && s.cfg.freezeUp && srcKind s.cfg.sp == 5 &&
    srcIndex s.cfg.sp == n)
  (ds.any (·.lowered), ds.any (·.raised))

/-- The integrator's update is skipped (R246, R250): x is its input with its INT_NEG sign. -/
def intHeld (raised lowered : Bool) (down : Bool × Bool) (x : Int) : Bool :=
  (raised && decide (x < 0)) || (lowered && decide (0 < x)) || (down.1 && decide (0 < x)) || (down.2 && decide (x < 0))

/-- Phase 3: section i's states, with the output that the integrator section is given (`track`) or its skip. -/
def phase3 (intSec : Nat) (track : Option Int) (skipInt skipRest : Bool) :
    Nat → List Section → List (Int × Int) → LFlags → Vector (BitVec 48) 8 → Vector (BitVec 48) 8 →
    (Vector (BitVec 48) 8 × Vector (BitVec 48) 8) × LFlags
  | i, c :: cs, (x, y) :: xs, f, s1, s2 =>
    let skip := if i = intSec then skipInt else skipRest
    if skip then phase3 intSec track skipInt skipRest (i + 1) cs xs f s1 s2
    else
      let y' := if i = intSec then track.getD y else y
      let (n, f) := sectionState c x y' (vget s2 i) f
      phase3 intSec track skipInt skipRest (i + 1) cs xs f (vset s1 i n.1) (vset s2 i n.2)
  | _, _, _, f, s1, s2 => ((s1, s2), f)

/-- One sample of a biquad-cascade slot (R245 to R248), in a mode of Table 6.2 other than FAULT. -/
def biquadSample (un : LoopUnit) (n : Nat) (s : LoopSlot) (secs : List Section) (intSec : Nat) (intNeg : Bool)
    (outMin outMax rateUp rateDown : Word) (i : LIn) (forced : Option Word) : LoopSlot × LRec :=
  let m := loopMode i forced
  let (e, eo) := loopError s.cfg.reverse i
  let (xy, f) := phase1 secs s.s1.toList e { ovf := eo }
  let y := (xy.getLast?.map (·.2)).getD e
  let u := if m = .manual then i.man.1.toInt else y
  let prev := s.prev.toInt
  let lim := limit u prev outMin outMax rateUp rateDown s.cfg.period
  let cl := clampInt outMin.toInt outMax.toInt u
  let out := match m with
    | .badIn => if s.cfg.badSafe then s.cfg.safeOut.toInt else prev
    | .forced => (forced.getD 0).toInt
    | _ => lim
  let limited := m == .auto || m == .manual
  let raised := limited && decide (u < out)
  let lowered := limited && decide (out < u)
  let xi := (lget xy intSec).1
  let held := m == .auto && decide (intSec < secs.length) &&
    intHeld raised lowered (freezeDown un n) (if intNeg then -xi else xi)
  let hold := m == .badIn && !s.cfg.badSafe
  let skipInt := if m = .auto then held else !(s.cfg.track && !hold)
  let track := if m = .auto then none else some out
  let ((s1, s2), f) := phase3 intSec track skipInt (m == .badIn) 0 secs xy f s.s1 s.s2
  let f := if hold then {} else f
  let o := BitVec.ofInt 32 out
  ({ s with
      s1 := s1, s2 := s2, prev := o, mode := m, frozen := held, raised := raised, lowered := lowered
      satState := s.satState || f.satState, ovf := s.ovf || f.ovf
      satOut := s.satOut || (limited && out != u), faults := 0 },
   { ys := xy.map (·.2), e := e, u := u, limHigh := limited && decide (cl < u), limLow := limited && decide (u < cl),
     rate := limited && lim != cl })

/-- A minimum time in ticks, up to whole sample periods (R252). -/
def minTicks (ms period : Nat) : Nat := (ms * 20 + period - 1) / period * period

/-- Switchings in the window of 60 bins of 60 s (R253). -/
def switchings (bins : List (Nat × Nat)) (tick : Nat) : Nat :=
  ((bins.filter (fun b => decide (tick / 1200000 < b.1 + 60))).map (·.2)).sum

/-- One more switching in the bin of a tick; bins that have left the window go. -/
def countSwitch (bins : List (Nat × Nat)) (tick : Nat) : List (Nat × Nat) :=
  let b := tick / 1200000
  let kept := bins.filter (fun x => decide (b < x.1 + 60))
  mput kept b ((mget kept b).getD 0 + 1)

/-- One sample of a hysteretic slot (R251 to R253), in a mode of Table 6.2 other than FAULT. -/
def hystSample (tick : Nat) (s : LoopSlot) (bandLow bandHigh : Word) (minOn minOff maxSw : Nat) (i : LIn)
    (forced : Option Word) : LoopSlot × LRec :=
  let m := loopMode i forced
  let pv := i.pv.1.toInt
  let sp := i.sp.1.toInt
  let below := decide (pv < sp - bandLow.toInt)
  let above := decide (sp + bandHigh.toInt < pv)
  let demand := if below then !s.cfg.reverse else if above then s.cfg.reverse else s.onBit
  let since := fun (n : Nat) => s.since.all (fun t => decide (t + minTicks n s.cfg.period ≤ tick))
  let allowed := if demand then since minOff && (maxSw == 0 || decide (switchings s.bins tick < maxSw)) else since minOn
  let back := m == .auto && demand != s.onBit && !allowed
  let on := match m with
    | .badIn => if s.cfg.badSafe then s.cfg.safeOut.getLsbD 0 else s.onBit
    | .forced => (forced.getD 0).getLsbD 0
    | .manual => i.man.1 != 0
    | _ => if back then s.onBit else demand
  let w := BitVec.ofNat 32 (b2n on)
  ({ s with
      onBit := on, prev := w, mode := m, frozen := false, raised := false, lowered := false
      since := if on = s.onBit then s.since else some tick
      bins := if on && !s.onBit then countSwitch s.bins tick else s.bins
      satOut := s.satOut || back, faults := 0 },
   { e := (loopError s.cfg.reverse i).1, u := b2n (if m = .manual then i.man.1 != 0 else demand), back := back })

/-- The integrator section tracks an output from states of 0 (R258, R264): its state update with input 0. -/
def trackFrom (set : CoefSet) (out : Int) (s : LoopSlot) : LoopSlot :=
  match set with
  | .biquad secs intSec _ _ _ _ _ _ =>
    match secs[intSec]? with
    | some c =>
      let (n, _) := sectionState c 0 out 0 {}
      { s with s1 := vset s.s1 intSec n.1, s2 := vset s.s2 intSec n.2 }
    | none => s
  | .hyst .. => s

def zeroStates (s : LoopSlot) : LoopSlot := { s with s1 := Vector.replicate 8 0, s2 := Vector.replicate 8 0 }

/-- A sample in mode FAULT (R258): its results are discarded; the previous output stands. `inSet`: a parity error in
the active set, which is reloaded; otherwise the states are set to 0 and, with TRACK, follow the previous output. The
third in a row stops the slot. -/
def faultSample (inSet : Bool) (s : LoopSlot) : LoopSlot :=
  let s := if inSet then s
    else
      let z := zeroStates s
      if s.cfg.track then (match s.active with | some a => trackFrom a s.prev.toInt z | none => z) else z
  let n := s.faults + 1
  { s with hw := true, faults := n, stopped := decide (3 ≤ n), frozen := false, raised := false, lowered := false
           mode := if 3 ≤ n then .stopped else .fault }

/-! ## The trace -/

/-- The depth in records (Table of Trace). -/
def traceDepth (nodes : Nat) : Nat := 16384 / nodes

/-- Four node words of a sample; in mode FAULT what the discarded sample produced is free (log entry 17). -/
def nodeWord (code : Byte) (ref : Word) (i : LIn) (r : LRec) (s : LoopSlot) (d : Dev) : Word × Dev :=
  let c := code.toNat
  let free := s.mode == .fault || s.mode == .stopped
  let val := fun (x : Int) => if free then
      let (y, d) := freshInt d
      (BitVec.ofInt 32 y, d)
    else (BitVec.ofInt 32 x, d)
  if c < 8 then val (lget r.ys c)
  else match c with
  | 0x08 => val r.e
  | 0x09 => (i.pv.1, d)
  | 0x0A => (i.sp.1, d)
  | 0x0B => val r.u
  | 0x0C => (s.out.value, d)
  | 0x0D =>
    let md := match s.mode with
      | .stopped => 4
      | m => m.code
    (BitVec.ofNat 32 (b2n r.limHigh + 2 * b2n r.limLow + 4 * b2n r.rate + 8 * b2n s.frozen + 16 * md +
      128 * b2n r.back + 256 * s.out.quality.toNat), d)
  | _ => (((srcKey ref).bind (fun k => (mget d.prog.vals k).map (·.value))).getD 0, d)

def traceWords : List (Byte × Word) → LIn → LRec → LoopSlot → Dev → List Word × Dev
  | [], _, _, _, d => ([], d)
  | (c, ref) :: l, i, r, s, d =>
    let (w, d) := nodeWord c ref i r s d
    let (ws, d) := traceWords l i r s d
    (w :: ws, d)

/-- Whether a record is the trigger record (Table 6.6). -/
def traceFires (t : Trace) (words : List Word) (satOut newly : Bool) : Bool :=
  let cur := (lget words t.trigNode).toInt
  let lvl := t.level.toInt
  let rising := t.records.getLast?.any (fun p => decide ((lget p t.trigNode).toInt < lvl ∧ lvl ≤ cur))
  let falling := t.records.getLast?.any (fun p => decide (lvl < (lget p t.trigNode).toInt ∧ cur ≤ lvl))
  t.forceNext || (match t.trigMode with
    | 0 => true
    | 1 => rising
    | 2 => falling
    | 3 => rising || falling
    | 4 => satOut
    | 5 => newly
    | _ => false)

/-- LOOPUNITn_TRACE (R272). -/
def traceDone (u : Nat) (d : Dev) : Dev :=
  let t := (vget d.loops u).trace
  raise (.loopTrace (Fin.ofNat 8 u)) (t.slot + 32 * b2n t.truncated + 65536 * min 0xFFFF t.records.length) d

/-- A trace that its slot leaves behind ends with TRUNCATED (Table 6.5). -/
def traceCut (u n : Nat) (d : Dev) : Dev :=
  let t := (vget d.loops u).trace
  if t.slot != n then d
  else match t.state with
    | .armed => traceDone u (modTrace u (fun t => { t with
        state := .done, truncated := true, preActual := t.records.length, trigTick := t.lastTick }) d)
    | .triggered => traceDone u (modTrace u (fun t => { t with state := .done, truncated := true }) d)
    | _ => d

/-- A record added to a running trace (Table 6.5). -/
def traceAdd (t : Trace) (words : List Word) (fires : Bool) (tick : Nat) : Trace :=
  let depth := traceDepth t.nodes.length
  let t := { t with lastTick := tick }
  match t.state with
  | .armed =>
    if fires then
      let drop := t.records.length - t.pre
      let kept := t.records.drop drop
      let commit := match t.commitRecord with
        | some k => some (k - drop)
        | none => if t.commitSeen then some kept.length else none
      let recs := kept ++ [words]
      { t with
        records := recs, preActual := kept.length, trigTick := tick, commitRecord := commit, forced := t.forceNext
        forceNext := false, state := if depth ≤ recs.length then .done else .triggered }
    else
      let drop := if depth ≤ t.records.length then 1 else 0
      let kept := t.records.drop drop
      let commit := match t.commitRecord with
        | some k => some (k - drop)
        | none => if t.commitSeen then some kept.length else none
      { t with records := kept ++ [words], commitRecord := commit }
  | .triggered =>
    let commit := match t.commitRecord with
      | some k => some k
      | none => if t.commitSeen then some t.records.length else none
    let recs := t.records ++ [words]
    { t with records := recs, commitRecord := commit, state := if depth ≤ recs.length then .done else .triggered }
  | _ => t

/-- The trace's part in a sample of its slot (R259, R260). -/
def traceSample (u n : Nat) (i : LIn) (r : LRec) (satOut newly : Bool) (d : Dev) : Dev :=
  let t := (vget d.loops u).trace
  if t.slot != n || !(t.state == .armed || t.state == .triggered) then d
  else
    let due := t.count % t.decim == 0
    let d := modTrace u (fun t => { t with count := t.count + 1 }) d
    if !due then d
    else
      let (ws, d) := traceWords (t.nodes.zip t.refs) i r (d.slot u n) d
      let t' := traceAdd (vget d.loops u).trace ws (traceFires t ws satOut newly) d.tick
      let d := modTrace u (fun _ => t') d
      if t'.state = .done then traceDone u d else d

/-! ## Samples of a unit -/

/-- A slot computes samples: enabled, not stopped, restored to run, and the unit not quiescent (R257, R264, R265). -/
def Dev.loopsQuiet (d : Dev) : Bool :=
  d.stopped || d.sys.role == .arbiter || d.red.standby == .loading ||
    (d.sys.role == .standby && d.red.standby != .warmup)

def slotDue (tick : Nat) (s : LoopSlot) : Bool :=
  s.cfg.enable && !s.stopped && !s.waitCommit && decide (s.notBefore ≤ tick) && decide (s.cfg.phase ≤ tick) &&
    (tick - s.cfg.phase) % s.cfg.period == 0 && s.lastTick != some tick

/-- A committed set becomes active at a sample (R255). -/
def applyCommit (u n : Nat) (d : Dev) : Dev :=
  let s := d.slot u n
  match s.commitPend with
  | none => d
  | some (clear, from_) =>
    if d.tick < from_ then d
    else
      let d := modSlot u n (fun s =>
        let s := { s with active := s.staged, staged := none, commitPend := none }
        if clear then zeroStates s else s) d
      confChanged (modTrace u (fun t => if t.slot = n then { t with commitSeen := true } else t) d)

/-- Commands whose slots have all applied their sets answer with the tick (R267). -/
def commitAnswers (u : Nat) (d : Dev) : Dev :=
  let un := vget d.loops u
  let isDone := fun (w : Origin × Word) =>
    (List.range 32).all (fun n => !w.2.getLsbD n || (vget un.slots n).commitPend.isNone)
  let done := un.waiters.filter isDone
  let d := { d with loops := vmod d.loops u (fun x => { x with waiters := x.waiters.filter (fun w => !isDone w) }) }
  done.foldl (fun d w => respond w.1 stOk (leBytes 8 d.tick) d) d

/-- The output channel follows its slot. -/
def settleBound (c : LoopCfg) (d : Dev) : Dev :=
  match c.destKind with
  | 1 => settleAo c.destCh d
  | 2 => settleDo c.destCh d
  | _ => d

/-- One slot's sample (R239 to R254, R258, R271). -/
def sampleSlot (u n : Nat) (fault : Option Bool) (badAi : Half) (d : Dev) : Dev :=
  let d := applyCommit u n d
  let old := d.slot u n
  let (i, d) := loopInputs u n badAi d
  let forced := d.boundForce old.cfg
  let (s, r) : LoopSlot × LRec :=
    match fault, old.active with
    | some inSet, _ => (faultSample inSet old, {})
    | none, some (.biquad secs k neg mn mx up dn _) =>
      biquadSample (vget d.loops u) n old secs k neg mn mx up dn i forced
    | none, some (.hyst lo hi on off mx _) => hystSample d.tick old lo hi on off mx i forced
    | none, none => (old, {})
  let q := if s.stopped then qBAD_HARDWARE else loopQuality s.mode s.cfg.badSafe i
  let decl := d.loopDecl u n
  let (seq, d) := inputSeq (decl.map (·.outElement)) d
  let out := mkTV ((decl.map (·.id)).getD 0) s.prev q seq
  let d := modSlot u n (fun _ => { s with out := out, lastTick := some d.tick }) d
  let fresh := fun (a b : Bool) => b && !a
  let newly := [fresh old.satState s.satState, fresh old.satOut s.satOut, fresh old.ovf s.ovf, fresh old.hw s.hw]
  let code := ((List.range 4).map (fun k => if lget newly k then 2 ^ k else 0)).sum
  let hit := (List.range 4).any (fun k => lget newly k && s.cfg.evtMask.getLsbD k)
  let d := raiseIf hit (.loopSat (Fin.ofNat 8 u)) (n + 256 * code) d
  let satOut := r.back || ((s.mode == .auto || s.mode == .manual) && (s.raised || s.lowered))
  let d := traceSample u n i r satOut (lget newly 0 || lget newly 2 || lget newly 3) d
  let d := if s.stopped then traceCut u n d else d
  settleBound s.cfg d

/-- The slots of a unit that are due at this tick, in ascending order (R242). -/
def sampleUnit (u : Nat) (faults : List (Fin 32 × Bool)) (badAi : Half) (d : Dev) : Dev :=
  if d.loopsQuiet || decide (d.nUnits ≤ u) then d
  else
    let d := (List.range 32).foldl (fun d n =>
      if slotDue d.tick (d.slot u n) then
        sampleSlot u n ((faults.find? (fun f => f.1.val == n)).map (·.2)) badAi d
      else d) d
    commitAnswers u d

/-- The first commit of any task lets the slots restored enabled begin (R264). -/
def loopsFirstCommit (d : Dev) : Dev :=
  { d with loops := d.loops.map (fun (u : LoopUnit) => { u with slots := u.slots.map (fun (s : LoopSlot) =>
    if s.waitCommit then { s with waitCommit := false, notBefore := d.tick + 1 } else s) }) }

/-- LOOP_SAMPLE (R245): the slots with a fault of R258 (true: a parity error in the active set), and the AI results
whose CHECK fails. -/
def execLoopSample (u : Fin 8) (faults : List (Fin 32 × Bool)) (badAi : Half) (s : State) :
    Host.Outcome State Fault Refusal := nextD s (sampleUnit u faults badAi)

/-! ## Commands -/

/-- A unit that the variant lacks (R231). -/
def noUnit : Dev → Bytes → Bool := fun d p => decide (byteAt p 0 < 8 ∧ d.nUnits ≤ byteAt p 0)

/-- The class refusals of the 0x04xx commands. -/
def loopRole (d : Dev) : Bool × Half := (d.passive || d.stopped, stNotPermitted)

/-- A UNIT above 7 (R231). -/
def unitRange (p : Bytes) : Bool × Half := (decide (7 < byteAt p 0), stRange)

def loopCfgOf (p : Bytes) : LoopCfg :=
  let fl := byteAt p 2
  let w := fun k => BitVec.ofNat 32 (getLe p k 4)
  { enable := nbit fl 0, hysteretic := nbit fl 1, reverse := nbit fl 2, track := nbit fl 3, freezeUp := nbit fl 4,
    badSafe := byteAt p 3 == 1, period := getLe p 4 2, phase := getLe p 6 2, pv := w 8, sp := w 12, man := w 16,
    ctrl := w 20, destKind := byteAt p 24, destCh := byteAt p 25, evtMask := BitVec.ofNat 8 (byteAt p 26),
    safeOut := w 28 }

def CoefSet.isHyst : CoefSet → Bool
  | .biquad .. => false
  | .hyst .. => true

/-- INT_SEC is the last section (R247). -/
def CoefSet.intLast : CoefSet → Bool
  | .biquad secs k _ _ _ _ _ _ => k + 1 == secs.length
  | .hyst .. => true

/-- INDEX of a descriptor is out of range. -/
def indexOut (d : Dev) (w : Word) : Bool :=
  let im := d.prog.image.getD {}
  match srcKind w with
  | 1 => decide (15 < srcIndex w)
  | 2 => decide (im.nQ ≤ srcIndex w)
  | 3 => decide (im.nV ≤ srcIndex w)
  | 5 => decide (31 < srcIndex w)
  | _ => false

/-- A Q or V element of a descriptor is declared and of a kind: 1 packed-bit, 2 analogue (R235). -/
def elementOk (d : Dev) (w : Word) (kind : Nat) : Bool :=
  match srcKind w with
  | 2 => (d.prog.image.bind (fun im => im.qmvOf spQ (srcIndex w))).any (fun q => q.kind == kind)
  | 3 => (d.prog.image.bind (fun im => im.qmvOf spV (srcIndex w))).any (fun q => q.kind == kind)
  | _ => true

/-- Another slot is bound to the channel (R237). -/
def channelTaken (d : Dev) (u n kind ch : Nat) : Bool :=
  kind != 0 && (List.range 8).any (fun a => (List.range 32).any (fun b =>
    !(a == u && b == n) && (d.slot a b).cfg.destKind == kind && (d.slot a b).cfg.destCh == ch))

/-- The chain through SP keeps R249, towards the upstream slot and from the enabled downstream ones. -/
def chainOk (d : Dev) (u n : Nat) (c : LoopCfg) : Bool :=
  let fits := fun (up down : LoopCfg) => !up.hysteretic && up.period == down.period && up.phase == down.phase
  (srcKind c.sp != 5 || (decide (srcIndex c.sp < n) && fits (d.slot u (srcIndex c.sp)).cfg c)) &&
  (List.range 32).all (fun b =>
    let x := (d.slot u b).cfg
    !(x.enable && b != n && srcKind x.sp == 5 && srcIndex x.sp == n) || fits c x)

/-- The tests of LOOP_CONFIG after its class refusals (R263). -/
def loopCfgTests (d : Dev) (p : Bytes) : List (Bool × Half) :=
  let u := byteAt p 0
  let n := byteAt p 1
  let c := loopCfgOf p
  let s := d.slot u n
  let srcs := [c.pv, c.sp, c.man, c.ctrl]
  let rsv := srcs.any (fun w => bits w.toNat 23 21 != 0 || bits w.toNat 31 28 != 0) ||
    [c.pv, c.sp, c.man].any (fun w => srcBit w != 0)
  [ lenIs p 32,
    (decide (31 < byteAt p 2) || byteAt p 27 != 0 || decide (15 < byteAt p 26) || rsv ||
      (c.destKind == 0 && c.destCh != 0), stBadParam),
    (decide (7 < u) || decide (31 < n), stRange),
    (!d.fieldIo && (srcKind c.pv == 1 || c.destKind != 0), stNotPresent),
    ((d.loopDecl u n).isNone, stNotPermitted),
    (s.cfg.enable && { c with evtMask := s.cfg.evtMask, enable := s.cfg.enable } != s.cfg, stNotPermitted),
    (c.enable && (match s.active with | some a => a.isHyst != c.hysteretic | none => true), stNotPermitted),
    (c.period == 0 || decide (2000 < c.period) || decide (c.period ≤ c.phase) || srcs.any (indexOut d) ||
      (c.destKind == 1 && decide (7 < c.destCh)) || (c.destKind == 2 && decide (31 < c.destCh)), stRange),
    (decide (1 < byteAt p 3) || !([1, 2, 3].contains (srcKind c.pv)) || !([2, 3, 4, 5].contains (srcKind c.sp)) ||
      !([0, 2, 3].contains (srcKind c.man)) || !([0, 2].contains (srcKind c.ctrl)), stBadParam),
    (decide (2 < c.destKind) || (c.hysteretic && c.destKind == 1) || (!c.hysteretic && c.destKind == 2) ||
      channelTaken d u n c.destKind c.destCh, stBadParam),
    (!chainOk d u n c, stBadParam),
    ((c.track || c.freezeUp) && s.active.any (fun a => !a.intLast), stBadParam),
    (!elementOk d c.pv 2 || !elementOk d c.sp 2 || !elementOk d c.man 2 || !elementOk d c.ctrl 1, stBadParam) ]

/-- The present output of a slot's bound channel, or OUT_MIN without one (R264). -/
def presentOut (d : Dev) (c : LoopCfg) (set : CoefSet) : Word :=
  match c.destKind, set with
  | 1, _ => (vget d.ana.ao c.destCh).demand
  | _, .biquad _ _ _ mn _ _ _ _ => mn
  | _, _ => 0

/-- A slot is enabled (R254, R264). -/
def enableSlot (u n : Nat) (c : LoopCfg) (d : Dev) : Dev :=
  let on := c.destKind == 2 && (vget d.dig.dout c.destCh).demand
  modSlot u n (fun s =>
    let z := { zeroStates s with
      cfg := c, prev := 0, frozen := false, raised := false, lowered := false, faults := 0, stopped := false
      waitCommit := false, notBefore := d.tick + 1, lastTick := none, shadow := shadowInit d c
      spNext := shadowInit d c, onBit := on, since := none, bins := [], mode := .auto }
    match s.active with
    | some a =>
      if c.hysteretic then { z with prev := BitVec.ofNat 32 (b2n on) }
      else if c.track then
        let out := presentOut d c a
        { trackFrom a out.toInt z with prev := out }
      else z
    | none => z) d

/-- A slot is disabled (R265, R255): its output is 0 with BAD, its channel holds the last output until the next commit
of the output image, a pending set becomes active, and its trace ends. -/
def disableSlot (u n : Nat) (c : LoopCfg) (d : Dev) : Dev :=
  let s := d.slot u n
  let (seq, d) := inputSeq ((d.loopDecl u n).map (·.outElement)) d
  let out := mkTV (((d.loopDecl u n).map (·.id)).getD 0) 0 qBAD seq
  let d := modSlot u n (fun s => { s with cfg := c, out := out, mode := .disabled, stopped := false, faults := 0 }) d
  let d := match s.cfg.destKind with
    | 1 => modAo s.cfg.destCh (fun x => { x with slotHold := some s.prev }) d
    | 2 => modDo s.cfg.destCh (fun x => { x with slotHold := some s.onBit }) d
    | _ => d
  let d := modSlot u n (fun s => { s with commitPend := s.commitPend.map (fun p => (p.1, 0)) }) d
  commitAnswers u (traceCut u n (settleBound s.cfg (applyCommit u n d)))

/-- The effect of LOOP_CONFIG (R263 to R265). -/
def loopCfgApply (p : Bytes) (d : Dev) : Dev :=
  let u := byteAt p 0
  let n := byteAt p 1
  let c := loopCfgOf p
  let s := d.slot u n
  confChanged (
    if c.enable && !s.cfg.enable then settleBound c (enableSlot u n c d)
    else if !c.enable && s.cfg.enable then disableSlot u n c d
    else modSlot u n (fun s => { s with cfg := c, shadow := if s.cfg.enable then s.shadow else shadowInit d c
                                        spNext := if s.cfg.enable then s.spNext else shadowInit d c }) d)

/-- LOOP_CONFIG (R263). -/
def execLoopConfig (o : Origin) (s : State) : Host.Outcome State Fault Refusal :=
  runCmd s o 0x0400 noUnit (fun _ d p => loopRole d :: loopCfgTests d p)
    (fun _ d p => (forward 0x0400 p (loopCfgApply p d), .ok []))

/-- A set as LOOP_COEFF_STAGE carries it (Table 6.10). -/
def coefOf (p : Bytes) : CoefSet :=
  let w := fun k => BitVec.ofNat 32 (getLe p k 4)
  if byteAt p 2 = 0 then
    .biquad ((List.range (byteAt p 4)).map (fun i =>
        { b0 := w (32 + 20 * i), b1 := w (36 + 20 * i), b2 := w (40 + 20 * i), a1 := w (44 + 20 * i), a2 := w (48 + 20 * i) }))
      (byteAt p 5) (nbit (byteAt p 6) 0) (w 8) (w 12) (w 16) (w 20) (w 24)
  else .hyst (w 4) (w 8) (getLe p 12 4) (getLe p 16 4) (getLe p 20 2) (w 24)

/-- A coefficient whose bits [31:30] differ (R244). -/
def coefBad (w : Word) : Bool := w.getLsbD 31 != w.getLsbD 30

def setBad : CoefSet → Bool
  | .biquad secs k _ mn mx up dn _ =>
    secs.any (fun c => coefBad c.b0 || coefBad c.b1 || coefBad c.b2 || coefBad c.a1 || coefBad c.a2) ||
      decide (mx.toInt < mn.toInt) || up.msb || dn.msb || (decide (secs.length ≤ k) && k != 0xFF)
  | .hyst lo hi _ _ _ _ => lo.msb || hi.msb

def coefTests (d : Dev) (p : Bytes) : List (Bool × Half) :=
  let u := byteAt p 0
  let n := byteAt p 1
  let s := d.slot u n
  let hy := byteAt p 2 == 1
  let secs := byteAt p 4
  [ (if hy then p.length != 32
     else p.length != 32 + 20 * secs || secs == 0 || decide (8 < secs), stBadLength),
    (byteAt p 3 != 0 || !allZero p 28 4 || (if hy then !allZero p 22 2 else decide (1 < byteAt p 6) || byteAt p 7 != 0),
      stBadParam),
    (decide (7 < u) || decide (31 < n), stRange),
    (s.commitPend.isSome, stBusy),
    (decide (1 < byteAt p 2) || hy != s.cfg.hysteretic || setBad (coefOf p), stBadParam),
    ((s.cfg.track || s.cfg.freezeUp) && !(coefOf p).intLast, stBadParam),
    (hy && (decide (3600000 < getLe p 12 4) || decide (3600000 < getLe p 16 4)), stRange) ]

/-- LOOP_COEFF_STAGE (R266). -/
def execLoopCoeffStage (o : Origin) (s : State) : Host.Outcome State Fault Refusal :=
  runCmd s o 0x0401 noUnit (fun _ d p => loopRole d :: coefTests d p)
    (fun _ d p => (modSlot (byteAt p 0) (byteAt p 1) (fun s => { s with staged := some (coefOf p) }) d, .ok []))

def maskedSlots (m : Word) : List Nat := (List.range 32).filter (fun n => m.getLsbD n)

def coefCommitTests (d : Dev) (p : Bytes) : List (Bool × Half) :=
  let u := byteAt p 0
  let m : Word := BitVec.ofNat 32 (getLe p 4 4)
  [ lenIs p 8, (decide (1 < byteAt p 1) || !allZero p 2 2, stBadParam), unitRange p,
    (m == 0, stBadParam),
    ((maskedSlots m).any (fun n => (d.slot u n).staged.isNone), stNotPermitted),
    ((maskedSlots m).any (fun n => (d.slot u n).commitPend.isSome), stBusy) ]

/-- The bytes of a coefficient set, as LOOP_COEFF_STAGE carries them. -/
def coefBytes (u n : Nat) : CoefSet → Bytes
  | .biquad secs k neg mn mx up dn sp =>
    leBytes 1 u ++ leBytes 1 n ++ [0, 0] ++ leBytes 1 secs.length ++ leBytes 1 k ++ leBytes 1 (b2n neg) ++ [0] ++
      ([mn, mx, up, dn, sp].flatMap (fun w => leBytes 4 w.toNat)) ++ zeros 4 ++
      secs.flatMap (fun c => [c.b0, c.b1, c.b2, c.a1, c.a2].flatMap (fun w => leBytes 4 w.toNat))
  | .hyst lo hi on off mx sp =>
    leBytes 1 u ++ leBytes 1 n ++ [1, 0] ++ leBytes 4 lo.toNat ++ leBytes 4 hi.toNat ++ leBytes 4 on ++ leBytes 4 off ++
      leBytes 2 mx ++ zeros 2 ++ leBytes 4 sp.toNat ++ zeros 4

/-- Each masked set waits for its slot's next sample at least one tick later; a disabled slot takes it at once (R255).
The sets go to the standby (R257). -/
def coefMark (p : Bytes) (d : Dev) : Dev :=
  let u := byteAt p 0
  let m : Word := BitVec.ofNat 32 (getLe p 4 4)
  let clear := nbit (byteAt p 1) 0
  let d := (maskedSlots m).foldl (fun d n =>
    let s := d.slot u n
    let d := match s.staged with
      | some x => forward 0x0401 (coefBytes u n x) d
      | none => d
    let d := modSlot u n (fun s => { s with commitPend := some (clear, if s.cfg.enable then d.tick + 1 else 0) }) d
    if s.cfg.enable then d else applyCommit u n d) d
  forward 0x0402 p d

/-- LOOP_COEFF_COMMIT answers when each set has been taken (R267). -/
def coefCommit (o : Origin) (p : Bytes) (d : Dev) : Dev :=
  let u := byteAt p 0
  let m : Word := BitVec.ofNat 32 (getLe p 4 4)
  let d := coefMark p d
  commitAnswers u { d with loops := vmod d.loops u (fun x => { x with waiters := x.waiters ++ [(o, m)] }) }

/-- LOOP_COEFF_COMMIT (R267). -/
def execLoopCoeffCommit (o : Origin) (s : State) : Host.Outcome State Fault Refusal :=
  runCmd s o 0x0402 noUnit (fun _ d p => loopRole d :: coefCommitTests d p)
    (fun _ d p => (coefCommit o p d, .later))

/-- The status word of a slot (Table 6.11). -/
def slotStatus (s : LoopSlot) : Nat :=
  b2n s.satState + 2 * b2n s.satOut + 4 * b2n s.ovf + 8 * b2n s.hw + 16 * b2n s.frozen +
    32 * (if !s.cfg.enable then 6 else s.mode.code) + 256 * b2n (s.cfg.hysteretic && s.onBit) +
    512 * b2n s.staged.isSome + 1024 * b2n s.commitPend.isSome + 65536 * s.out.quality.toNat

/-- LOOP_FLAGS_READ_CLEAR (R268). -/
def execLoopFlagsReadClear (o : Origin) (s : State) : Host.Outcome State Fault Refusal :=
  runCmd s o 0x0403 noUnit
    (fun _ _ p => [lenIs p 8, (decide (1 < byteAt p 1) || !allZero p 2 2, stBadParam), unitRange p])
    (fun _ d p =>
      let u := byteAt p 0
      let m : Word := BitVec.ofNat 32 (getLe p 4 4)
      let out := (List.range 32).flatMap (fun n => leBytes 4 (slotStatus (d.slot u n)))
      let d' := if nbit (byteAt p 1) 0 then
          (maskedSlots m).foldl (fun d n => modSlot u n (fun s =>
            { s with satState := false, satOut := false, ovf := false, hw := false }) d) d
        else d
      (d', .ok out))

def TraceState.code : TraceState → Nat
  | .idle => 0
  | .armed => 1
  | .triggered => 2
  | .done => 3

/-- A DMA descriptor is reading a unit's trace (R262). -/
def Dev.traceRead (d : Dev) (u : Nat) : Bool :=
  d.host.dma.toList.any (fun (c : DmaChan) => c.state == .running &&
    c.queue.head?.any (fun x => x.object.toNat == 2 && x.objIndex.toNat == u && !x.toDevice))

/-- A node code that Table 6.4 lists and that the slot has. -/
def nodeOk (s : LoopSlot) (code : Nat) : Bool :=
  let n := match s.active with
    | some (.biquad secs ..) => secs.length
    | _ => 0
  if code < 8 then decide (code < n) else decide (code ≤ 0x0D) || code == 0x10

def traceTests (d : Dev) (p : Bytes) : List (Bool × Half) :=
  let u := byteAt p 0
  let op := byteAt p 1
  let s := d.slot u (byteAt p 2)
  let nodes := byteAt p 3
  let t := (vget d.loops u).trace
  let ref := fun k => BitVec.ofNat 32 (getLe p (8 + 4 * k) 4)
  [ lenIs p 36,
    (!allZero p 30 2 || ((op == 1 || op == 2) && !allZero p 2 34), stBadParam),
    unitRange p, (op == 0 && decide (31 < byteAt p 2), stRange),
    (op == 0 && (!s.cfg.enable || s.stopped), stNotPermitted),
    (op == 2 && t.state != .armed, stNotPermitted),
    (op == 0 && (t.state == .armed || t.state == .triggered), stBusy),
    ((op == 0 || op == 1) && d.traceRead u, stBusy),
    (decide (2 < op) || (op == 0 &&
      ((List.range (min nodes 4)).any (fun k => !nodeOk s (byteAt p (4 + k)) ||
          (byteAt p (4 + k) == 0x10 && (srcKey (ref k)).isNone) || (byteAt p (4 + k) != 0x10 && ref k != 0)) ||
        (List.range 4).any (fun k => decide (nodes ≤ k) && (byteAt p (4 + k) != 0xFF || ref k != 0)) ||
        decide (6 < byteAt p 28))), stBadParam),
    (op == 0 && (nodes == 0 || decide (4 < nodes) || getLe p 24 2 == 0 || decide (256 < getLe p 24 2) ||
      decide (traceDepth (max 1 nodes) ≤ getLe p 26 2) || decide (nodes ≤ byteAt p 29)), stRange) ]

/-- The effect of TRACE_ARM (R260, R269). -/
def traceArm (p : Bytes) (d : Dev) : Dev :=
  let u := byteAt p 0
  match byteAt p 1 with
  | 0 =>
    let nodes := byteAt p 3
    modTrace u (fun _ => {
      state := .armed, slot := byteAt p 2, nodes := slice p 4 nodes
      refs := (List.range nodes).map (fun k => BitVec.ofNat 32 (getLe p (8 + 4 * k) 4))
      decim := getLe p 24 2, pre := getLe p 26 2, trigMode := byteAt p 28, trigNode := byteAt p 29
      level := BitVec.ofNat 32 (getLe p 32 4) }) d
  | 1 => modTrace u (fun _ => {}) d
  | _ => modTrace u (fun t => { t with forceNext := true }) d

/-- TRACE_ARM (R269). -/
def execTraceArm (o : Origin) (s : State) : Host.Outcome State Fault Refusal :=
  runCmd s o 0x0404 noUnit (fun _ d p => loopRole d :: traceTests d p)
    (fun _ d p =>
      let d' := traceArm p d
      let t := (vget d'.loops (byteAt p 0)).trace
      (d', .ok (leBytes 2 (if t.nodes.isEmpty then 0 else traceDepth t.nodes.length) ++ leBytes 1 t.state.code ++ zeros 1)))

/-- The trace object (R261, Table 6.7); empty in any state but DONE. -/
def traceObject (u : Nat) (d : Dev) : Bytes :=
  let t := (vget d.loops u).trace
  let s := d.slot u t.slot
  if t.state != .done then []
  else
    let k := t.nodes.length
    let head := leBytes 2 1 ++ leBytes 1 u ++ leBytes 1 t.slot ++ leBytes 1 k ++
      leBytes 1 (b2n t.truncated + 2 * b2n t.forced + 4 * b2n s.cfg.hysteretic) ++ leBytes 2 t.decim ++
      t.nodes ++ List.replicate (4 - k) 0xFF#8 ++ t.refs.flatMap (fun w => leBytes 4 w.toNat) ++ zeros (16 - 4 * k) ++
      leBytes 2 s.cfg.period ++ zeros 2 ++ leBytes 4 t.records.length ++ leBytes 4 t.preActual ++ leBytes 8 t.trigTick ++
      leBytes 4 (t.commitRecord.getD 0xFFFFFFFF) ++ zeros 4
    let body := t.records.flatMap (fun r => r.flatMap (fun w => leBytes 4 w.toNat))
    let crc := crc32c (head ++ zeros 8 ++ body)
    head ++ leBytes 4 crc.toNat ++ zeros 4 ++ body

/-- TRACE_READ (R270). -/
def execTraceRead (o : Origin) (s : State) : Host.Outcome State Fault Refusal :=
  runCmd s o 0x0405 noUnit
    (fun _ d p =>
      let off := getLe p 4 4
      let len := getLe p 8 4
      [ lenIs p 12, resv p [(1, 3)], unitRange p,
        ((vget d.loops (byteAt p 0)).trace.state != .done, stNotPermitted),
        (off % 4 != 0 || len % 4 != 0 || len == 0 || decide (4080 < len) ||
          decide ((traceObject (byteAt p 0) d).length < off + len), stRange) ])
    (fun _ d p => (d, .ok (slice (traceObject (byteAt p 0) d) (getLe p 4 4) (getLe p 8 4))))

end Sys2Proof.Machine
end

