-- ==== Sys2Proof/Machine/Scrub.lean ====
section
/-!
DEFINITION. Machine/Scrub.lean: the background scrubber (R441 to R444), software scrub passes (R445 to R448, R452,
R453), the walk of the supervisor memory (R440), spares of the macros (R449) and the commands of chapter 11 but
REPAIR_COMMIT.
-/

namespace Sys2Proof.Machine

open Sys2Proof

/-! ## The memories of Table 11.1 -/

/-- Instances, size of each, rows per macro and macros per copy of a memory code; none for an unknown code. -/
def memShape (mem : Nat) : Option (Nat × Nat × Nat × Nat) :=
  match mem with
  | 0x01 => some (1, 0x800000, 2048, 64)
  | 0x02 => some (32, 0x40000, 2048, 2)
  | 0x03 => some (256, 0x2000, 128, 1)
  | 0x04 => some (256, 0x2000, 128, 1)
  | 0x05 => some (8, 0x10000, 1024, 1)
  | 0x06 => some (8, 0x10000, 1024, 1)
  | 0x07 => some (1, 0x80000, 2048, 4)
  | 0x08 => some (1, 0x100000, 2048, 8)
  | 0x09 => some (8, 0x2000, 128, 1)
  | 0x0A => some (1, 0x4000, 256, 1)
  | 0x0B => some (2, 0x10000, 1024, 1)
  | 0x0C => some (3, 0x8000, 512, 1)
  | _ => none

/-- Two copies (Table 11.1). -/
def memMirrored (mem : Nat) : Bool := mem == 0x01 || mem == 0x08

/-- Instances of a memory that the variant has (R429); those of the cell memories are told apart by `memAbsent`. -/
def memInstances (mem : Nat) (d : Dev) : Nat :=
  let n := ((memShape mem).map (·.1)).getD 0
  match mem with
  | 0x05 => min n d.nUnits
  | 0x06 => min n d.nUnits
  | 0x0A => if d.hasPanel then n else 0
  | 0x0C => if d.gligil then n else 0
  | _ => n

/-- The memory or instance is not present (R429). -/
def memAbsent (mem index : Nat) (d : Dev) : Bool :=
  (memShape mem).isSome &&
    (decide (memInstances mem d ≤ index) || ((mem == 0x03 || mem == 0x04) && !d.cellOn index))

/-- Macros of a memory, both copies. -/
def memMacros (mem : Nat) : Nat :=
  ((memShape mem).map (fun x => x.2.2.2)).getD 0 * (if memMirrored mem then 2 else 1)

/-- Lines of a kind in a macro: rows per macro, or 576 columns (R428). -/
def memLines (mem : Nat) (column : Bool) : Nat :=
  if column then 576 else ((memShape mem).map (fun x => x.2.2.1)).getD 0

/-! ## Spares (R449, R528, R538) -/

/-- A field-repair entry of user OTP. -/
def repairEntry (m : Mems) (e : Nat) : Bytes := Memory.readN 0 m.otp (0x1800 + 8 * e) 8

def repairUsed (m : Mems) (e : Nat) : Bool := !allZero (repairEntry m e) 0 8

/-- The complement of the XOR of bytes 0 to 5 (R538). -/
def repairCheck (b : Bytes) : Byte := ~~~((b.take 6).foldl (· ^^^ ·) 0)

def repairValid (m : Mems) (e : Nat) : Bool :=
  let b := repairEntry m e
  byteAt b 7 == 0x5A && byteAt b 6 == (repairCheck b).toNat && byteAt b 3 / 2 == 0

/-- Spares of a kind that valid field-repair entries have taken in a macro. -/
def fieldSpares (m : Mems) (mem index mac : Nat) (column : Bool) : Nat :=
  ((List.range 32).filter (fun e =>
    let b := repairEntry m e
    repairValid m e && byteAt b 0 == mem && byteAt b 1 == index && byteAt b 2 == mac &&
      byteAt b 3 % 2 == b2n column)).length

/-- Spares of a kind that the factory repair map has taken in a macro (Table 14.2, R529). -/
def factorySpares (m : Mems) (ok : Bool) (mem index mac : Nat) (column : Bool) : Nat :=
  if !ok then 0
  else ((List.range 60).filter (fun e =>
    let w := fromLe (Memory.readN 0 m.fuse (0x100 + 4 * e) 4)
    nbit w 31 && bits w 3 0 == mem && bits w 11 4 == index && bits w 18 12 == mac && bits w 19 19 == b2n column)).length

/-- Free spares of a kind in a macro: 4 rows and 2 columns in all. -/
def freeSpares (m : Mems) (d : Dev) (mem index mac : Nat) (column : Bool) : Nat :=
  (if column then 2 else 4) - fieldSpares m mem index mac column - factorySpares m d.otp.fuseOk mem index mac column

/-! ## Steps -/

/-- The entry of Table 11.7 for one failing byte. -/
def macroEntry (m : Mems) (d : Dev) (mem index mac row : Nat) (hard : Bool) : MacroErr :=
  let k := d.integ.candidates.find? (fun c => c.memory == mem && c.index == index && c.macro_ == mac)
  { memory := mem, index := index, macro_ := mac, hard := hard, candidate := hard && k.isSome
    noSpare := hard && k.any (fun c => freeSpares m d mem index mac c.column == 0), bytes := 1, row := row }

/-- What one failing byte adds to a summary (Table 11.6): its totals, its addresses (bit 31 for copy B) and its
macros. -/
def tally (r : ByteResult) (addrs : List Nat) (entries : List MacroErr) (s : Scrub) : Scrub :=
  let s := { s with
    errors := min 0xFFFFFFFF (s.errors + r.errors)
    corrected := min 0xFFFFFFFF (s.corrected + r.corrected)
    uncorrectable := min 0xFFFFFFFF (s.uncorrectable + r.uncorrectable)
    hard := min 0xFFFF (s.hard + r.hard)
    firstAddr := s.firstAddr.orElse fun _ => addrs.head?
    lastAddr := addrs.getLast?.orElse fun _ => s.lastAddr }
  entries.foldl (fun s e => addMacro e s) s

/-- A byte of the privileged store met by a scrub step (Table 11.5): source 1 background, 2 software. -/
def scrubStoreByte (m : Mems) (source a : Nat) (f : ByteFault) (s : Scrub) (d : Dev) : Scrub × Dev :=
  let (r, d) := privByte source a f d
  if r.errors = 0 then (s, d)
  else
    let both := f.badA == f.badB
    let inA := f.badA || both
    let inB := f.badB || both
    let mac := a / 131072
    let row := a % 131072 / 64
    let hard := decide (0 < r.hard)
    let addrs := (if inA then [a] else []) ++ (if inB then [a + 2 ^ 31] else [])
    let es := (if inA then [macroEntry m d 1 0 mac row hard] else []) ++
      (if inB then [macroEntry m d 1 0 (mac + 64) row hard] else [])
    (tally r addrs es s, d)

/-- A byte of another memory met by a software pass (R445): recorded; an instruction in cell or tile memory is reloaded
from the active slot. Which words of a tile memory hold instructions is the placer's choice, a free value. -/
def scrubOtherByte (m : Mems) (mem index a : Nat) (f : ByteFault) (s : Scrub) (d : Dev) : Scrub × Dev :=
  let inB := memMirrored mem && f.badB
  if !f.badA && !inB then (s, d)
  else
    let (instr, d) := if mem = 2 then freshBool d else (mem == 3, d)
    let size := 64 * memLines mem false
    let copies := ((memShape mem).map (fun x => x.2.2.2)).getD 1
    let addrs := (if f.badA then [a] else []) ++ (if inB then [a + 2 ^ 31] else [])
    let es := (if f.badA then [macroEntry m d mem index (a / size) (a % size / 64) false] else []) ++
      (if inB then [macroEntry m d mem index (a / size + copies) (a % size / 64) false] else [])
    (tally { errors := addrs.length, corrected := b2n instr } addrs es s, d)

/-- One KiB of a pass at an offset: its failing bytes in order. -/
def scrubKib (m : Mems) (source mem index base : Nat) (faults : List ByteFault) (s : Scrub) (d : Dev) : Scrub × Dev :=
  (faults.filter (fun f => decide (f.offset < 1024))).foldl (fun (x : Scrub × Dev) f =>
    if mem = 1 then scrubStoreByte m source (base + f.offset) f x.1 x.2
    else scrubOtherByte m mem index (base + f.offset) f x.1 x.2) (s, d)

/-- WEEVIL_STEP (R441 to R443): one KiB of both copies, deferred where it was written during the step; a pass ends at
the end of the store. -/
def weevilStep (faults : List ByteFault) (written : Bool) (m : Mems) (d : Dev) : Dev :=
  if written then d
  else
    let at_ := d.integ.weevilOffset
    let s := if at_ = 0 then
        { state := .running, memory := 1, length := 0x800000, startTick := d.tick }
      else d.integ.weevil
    let (s, d) := scrubKib m 1 1 0 at_ faults s d
    let s := { s with checked := s.checked + 1024 }
    if at_ + 1024 < 0x800000 then
      modInteg (fun g => { g with weevil := s, weevilOffset := at_ + 1024 }) d
    else
      let s := { s with state := .done, endTick := d.tick }
      modInteg (fun g => { g with
        weevil := s, weevilLast := s, weevilOffset := 0, weevilPasses := g.weevilPasses + 1
        weevilMs := (s.endTick - s.startTick) / 20 }) d

def execWeevilStep (faults : List ByteFault) (written : Bool) (s : State) : Host.Outcome State Fault Refusal :=
  nextR s (weevilStep faults written)

/-- SCRUB_DONE (Table 11.10). -/
def scrubEnd (p : Nat) (aborted : Bool) (s : Scrub) (d : Dev) : Dev :=
  raise .scrubDone (p + 4 * b2n aborted + 8 * b2n (decide (0 < s.errors)) + 65536 * min 0xFFFF s.errors)
    (modInteg (fun g => { g with passes := vset g.passes p { s with
      state := if aborted then .aborted else .done, endTick := d.tick } }) d)

/-- SCRUB_PASS_STEP (R445, R453): one KiB of a running pass; the pass ends after its last step, or after this one where
an ABORT waits. -/
def scrubPassStep (p : Nat) (faults : List ByteFault) (written : Bool) (m : Mems) (d : Dev) : Dev :=
  let s := vget d.integ.passes p
  if s.state != .running then d
  else if written then
    if s.abort then scrubEnd p true s d else d
  else
    let s := if s.at_ = 0 then { s with startTick := d.tick } else s
    let (s, d) := scrubKib m 2 s.memory s.index (s.offset + s.at_) faults s d
    let s := { s with checked := s.checked + 1024, at_ := s.at_ + 1024 }
    if s.length ≤ s.at_ then scrubEnd p false s d
    else if s.abort then scrubEnd p true s d
    else modInteg (fun g => { g with passes := vset g.passes p s }) d

def execScrubPassStep (p : Fin 4) (faults : List ByteFault) (written : Bool) (s : State) :
    Host.Outcome State Fault Refusal := nextR s (scrubPassStep p faults written)

/-- The walk of the supervisor memory by the rule of R434 (R440): each failing byte of copy A is corrected from copy B
and enters the functional log; `true` where a byte fails in both copies. -/
def superWalk : List ByteFault → Dev → Bool × Dev
  | [], d => (false, d)
  | f :: fs, d =>
    if !f.badA then superWalk fs d
    else if f.badB then (true, d)
    else
      let (hard, d) := correctByte 8 f.offset 2048 8 false f d
      superWalk fs (logFunctional
        { memory := 8, index := 0, macro_ := f.offset / 131072, hard := hard, candidate := hard, bytes := 1,
          row := f.offset % 131072 / 64 }
        { errors := 1, corrected := 1, hard := b2n hard } f.offset d)

/-! ## Summaries (Tables 11.6 and 11.7) -/

def ScrubState.code : ScrubState → Nat
  | .free => 0
  | .running => 1
  | .done => 2
  | .aborted => 3

def macroBytes (e : MacroErr) : Bytes :=
  leBytes 1 e.memory ++ leBytes 1 e.index ++ leBytes 1 e.macro_ ++
    leBytes 1 (b2n e.hard + 2 * b2n e.candidate + 4 * b2n e.noSpare) ++ leBytes 2 e.bytes ++ leBytes 2 e.row

/-- A summary as read under a PASS code. -/
def scrubBytes (pass : Nat) (s : Scrub) : Bytes :=
  leBytes 2 1 ++ leBytes 1 pass ++ leBytes 1 s.state.code ++ leBytes 1 s.memory ++ leBytes 1 (b2n s.more) ++
    leBytes 2 s.index ++ leBytes 4 s.offset ++ leBytes 4 s.length ++ leBytes 4 s.checked ++ leBytes 4 s.errors ++
    leBytes 4 s.corrected ++ leBytes 4 s.uncorrectable ++ leBytes 4 (s.firstAddr.getD 0xFFFFFFFF) ++
    leBytes 4 (s.lastAddr.getD 0xFFFFFFFF) ++ leBytes 8 s.startTick ++
    leBytes 8 (if s.state = .running then 0 else s.endTick) ++ leBytes 2 s.entries.length ++ leBytes 2 s.hard ++
    zeros 4 ++ (s.entries.map macroBytes).flatten

/-- The summary of a PASS code; none for any other PASS. -/
def Dev.summary (d : Dev) (pass : Nat) : Option Scrub :=
  if pass < 4 then some (vget d.integ.passes pass)
  else if pass = 0xFE then some d.integ.funcLog
  else if pass = 0xFF then some d.integ.weevilLast
  else none

/-! ## Commands -/

def noMemory : Dev → Bytes → Bool := fun d p => memAbsent (byteAt p 0) (byteAt p 1) d

/-- Two byte ranges share a byte. -/
def rangesMeet (a n b k : Nat) : Bool := decide (a < b + k) && decide (b < a + n)

def scrubOverlap (d : Dev) (p : Bytes) : Bool :=
  d.integ.passes.toList.any (fun s => s.state == .running && s.memory == byteAt p 0 && s.index == byteAt p 1 &&
    rangesMeet s.offset s.length (getLe p 4 4) (getLe p 8 4))

def freePass (d : Dev) : Option Nat := (List.range 4).find? (fun n => (vget d.integ.passes n).state == .free)

def intervalBad (n : Nat) : Bool := decide (n < 10 ∨ 10000 < n)

/-- The statuses of R452 and R446, in their order. -/
def scrubTests (d : Dev) (p : Bytes) : List (Bool × Half) :=
  let size := ((memShape (byteAt p 0)).map (fun x => x.2.1)).getD 0
  let off := getLe p 4 4
  let len := getLe p 8 4
  [ lenIs p 16, resv p [(2, 2)],
    ((memShape (byteAt p 0)).isNone, stBadParam),
    (off % 1024 != 0 || len % 1024 != 0 || len == 0 || decide (size < off + len), stRange),
    (getLe p 12 4 != 0 && intervalBad (getLe p 12 4), stRange),
    (scrubOverlap d p || (freePass d).isNone, stBusy) ]

/-- SCRUB_RANGE starts a software pass (R452). -/
def scrubStart (p : Bytes) (d : Dev) : Dev × Reply :=
  match freePass d with
  | none => (d, .fail stBusy)
  | some n =>
    let iv := if getLe p 12 4 = 0 then d.integ.interval else getLe p 12 4
    let len := getLe p 8 4
    let s : Scrub := { state := .running, memory := byteAt p 0, index := byteAt p 1, offset := getLe p 4 4, length := len,
                       interval := iv }
    (modInteg (fun g => { g with passes := vset g.passes n s }) d,
     .ok (leBytes 1 n ++ zeros 3 ++ leBytes 4 ((len / 1024 * iv + 999) / 1000)))

def execScrubRange (o : Origin) (s : State) : Host.Outcome State Fault Refusal :=
  runCmd s o 0x0900 noMemory (fun _ d p => scrubTests d p) fun _ d p => scrubStart p d

/-- The statuses of R453, in their order. -/
def summaryTests (d : Dev) (p : Bytes) : List (Bool × Half) :=
  let pass := byteAt p 0
  let release := (byteAt p 1).testBit 0
  let abort := (byteAt p 1).testBit 1
  let running := decide (pass < 4) && (vget d.integ.passes pass).state == .running
  [ lenIs p 4, resv p [(2, 2)], (byteAt p 1 / 4 != 0, stBadParam),
    ((d.summary pass).isNone, stRange),
    ((pass == 0xFF && (release || abort)) || (abort && !running) || (release && abort), stBadParam),
    (release && running, stNotPermitted) ]

/-- ABORT and RELEASE of SCRUB_SUMMARY (R453). -/
def summaryAct (p : Bytes) (d : Dev) : Dev :=
  let pass := byteAt p 0
  if (byteAt p 1).testBit 1 then
    modInteg (fun g => { g with passes := vmod g.passes pass (fun s => { s with abort := true }) }) d
  else if (byteAt p 1).testBit 0 then
    if pass = 0xFE then modInteg (fun g => { g with funcLog := { state := .done, memory := 0xFF } }) d
    else modInteg (fun g => { g with passes := vset g.passes pass {} }) d
  else d

def execScrubSummary (o : Origin) (s : State) : Host.Outcome State Fault Refusal :=
  runCmd s o 0x0901 always (fun _ d p => summaryTests d p) fun _ d p =>
    (summaryAct p d, .ok (scrubBytes (byteAt p 0) ((d.summary (byteAt p 0)).getD {})))

/-- The response of WEEVIL_CONFIG. -/
def weevilBytes (d : Dev) : Bytes :=
  leBytes 4 d.integ.interval ++ leBytes 4 d.integ.weevilPasses ++ leBytes 4 d.integ.weevilOffset ++
    leBytes 4 d.integ.weevilMs

/-- WEEVIL_CONFIG (R454). -/
def execWeevilConfig (o : Origin) (s : State) : Host.Outcome State Fault Refusal :=
  runCmd s o 0x0902 always (fun _ _ p =>
      [ lenIs p 8, resv p [(1, 3)], (decide (1 < byteAt p 0), stBadParam),
        (byteAt p 0 == 1 && getLe p 4 4 != 0, stBadParam),
        (byteAt p 0 == 0 && intervalBad (getLe p 4 4), stRange) ])
    fun _ d p =>
      let d := if byteAt p 0 = 0 then confChanged (modInteg (fun g => { g with interval := getLe p 4 4 }) d) else d
      (d, .ok (weevilBytes d))

end Sys2Proof.Machine
end

