-- ==== Sys2Proof/Machine/Dma.lean ====
section
/-!
DEFINITION. Machine/Dma.lean: the DMA objects (Table 2.29), the channels (R95 to R100, Table 2.23), the DMA commands,
and writes into the privileged store.
-/

namespace Sys2Proof.Machine

open Sys2Proof

/-! ## Writes into the privileged store -/

/-- Where a program slot starts in each copy (Table 11.2). -/
def slotBase (slot : Nat) : Nat := if slot = 0 then 0 else 0x300000

/-- The inactive slot. -/
def Dev.inactive (d : Dev) : Nat := 1 - b2n d.prog.activeSlot

/-- Every write goes to both copies (R437). -/
def storeWrite (a : Nat) (data : Bytes) (m : Mems) : Mems :=
  { m with storeA := Memory.writeN 0 m.storeA a data, storeB := Memory.writeN 0 m.storeB a data }

/-- A functional read takes copy A (R434). -/
def storeReadN (m : Mems) (a n : Nat) : Bytes := Memory.readN 0 m.storeA a n

/-- Image bytes written into a slot at an offset, and the words recorded as written (R215, R221). -/
def stageWrite (slot off : Nat) (data : Bytes) (m : Mems) (d : Dev) : Dev × Mems :=
  (modProg (fun p => { p with load := { p.load with
      written := p.load.written ++ (List.range (data.length / 4)).map (fun i => off / 4 + i) } }) d,
   storeWrite (slotBase slot + off) data m)

/-! ## Objects (Table 2.29) -/

/-- The values of a space in a committed value image, element 0 first. -/
def spaceBytes (n space : Nat) (vals : Map TV) : Bytes :=
  (List.range n).flatMap (fun e => tvBytes (mgetD vals (ekey space e) {}))

/-- The committed value image of a task (R183, Table 4.13); empty before its first commit. -/
def commitObject (t : Nat) (d : Dev) : Bytes :=
  match d.prog.image, (if t < 8 then (d.task t).committed else none) with
  | some im, some c =>
    let offQ := 64 + 8 * im.nI
    let offM := offQ + 8 * im.nQ
    let offV := offM + 8 * im.nM
    let head := leBytes 2 1 ++ leBytes 1 t ++ leBytes 1 (b2n c.forced) ++ leBytes 4 c.cycle.toNat ++
      leBytes 8 c.tick ++ leBytes 8 im.imageId.toNat ++ leBytes 4 im.nI ++ leBytes 4 im.nQ ++ leBytes 4 im.nM ++
      leBytes 4 im.nV ++ leBytes 4 offQ ++ leBytes 4 offM ++ leBytes 4 offV ++ zeros 4
    let body := (List.range im.nI).flatMap (fun e => tvBytes (mgetD c.inputs e {})) ++
      spaceBytes im.nQ spQ c.vals ++ spaceBytes im.nM spM c.vals ++ spaceBytes im.nV spV c.vals
    head ++ leBytes 4 (crc32c (head ++ zeros 8 ++ body)).toNat ++ zeros 4 ++ body
  | _, _ => []

/-- The content of a device-to-host object. -/
def objectBytes (obj index : Nat) (d : Dev) : Bytes :=
  match obj with
  | 2 => if index < d.nUnits then traceObject index d else []
  | 3 => if index < 3 then histObject index 0 (histTotal index d) d else []
  | 5 => commitObject index d
  | 6 => match d.summary index with
    | some s => scrubBytes index s
    | none => []
  | _ => []

/-- The present size of an object. -/
def objectSize (obj index : Nat) (d : Dev) : Nat :=
  match obj with
  | 1 => if index = 0 && d.prog.load.open_ then d.prog.load.length else 0
  | 4 => if index = 0 && d.hasPanel then 8192 else 0
  | _ => (objectBytes obj index d).length

/-- Objects that the host writes. -/
def objectToDevice (obj : Nat) : Bool := obj == 1 || obj == 4

/-! ## Descriptors -/

def parseDesc (b : Bytes) : Desc :=
  { hostAddr := BitVec.ofNat 64 (getLe b 0 8), length := BitVec.ofNat 32 (getLe b 8 4)
    objOffset := BitVec.ofNat 32 (getLe b 12 4), object := BitVec.ofNat 16 (getLe b 16 2)
    objIndex := BitVec.ofNat 16 (getLe b 18 2), toDevice := (byteAt b 20).testBit 0, event := (byteAt b 20).testBit 1
    id := BitVec.ofNat 32 (getLe b 24 4) }

/-- The descriptors of a DMA_SUBMIT payload. -/
def descBytes (p : Bytes) : List Bytes := (List.range (byteAt p 1)).map (fun i => slice p (4 + 32 * i) 32)

/-- A reserved bit of a descriptor that is not 0 (the reserved test of R66). -/
def descReserved (b : Bytes) : Bool := getLe b 20 4 / 4 != 0 || !allZero b 28 4

/-- An unknown OBJECT, or a DIR that the object does not allow (R98). -/
def descParamBad (b : Bytes) : Bool :=
  let x := parseDesc b
  x.object == 0 || decide (6 < x.object.toNat) || x.toDevice != objectToDevice x.object.toNat

/-- A misaligned field, a LENGTH out of bounds, or an end beyond the object's present size (R98). -/
def descRangeBad (d : Dev) (b : Bytes) : Bool :=
  let x := parseDesc b
  x.hostAddr.toNat % 4 != 0 || x.length.toNat % 4 != 0 || x.objOffset.toNat % 4 != 0 || x.length == 0 ||
    decide (16777216 < x.length.toNat) ||
    decide (objectSize x.object.toNat x.objIndex.toNat d < x.objOffset.toNat + x.length.toNat)

/-! ## Channels -/

def modDma (n : Nat) (f : DmaChan → DmaChan) (d : Dev) : Dev :=
  { d with host := { d.host with dma := vmod d.host.dma n f } }

def Dev.dma (d : Dev) (n : Nat) : DmaChan := vget d.host.dma n

/-- A channel halts (R97): the queue behind the failing descriptor is discarded, DMA_ERROR. -/
def dmaHalt (n kind : Nat) (x : Desc) (addr : DWord) (d : Dev) : Dev :=
  raise .dmaError (n + 256 * kind) (modDma n (fun c => { c with
    state := .halted, errKind := BitVec.ofNat 3 kind, errId := x.id, errAddr := addr, queue := [], image := [] }) d)

/-- The descriptor at the head of the queue starts: what it will read is taken now (R96, R183, R448); an object that has
become too small halts the channel (ERR_KIND 7). -/
def dmaStart (n : Nat) (d : Dev) : Dev :=
  match (d.dma n).queue with
  | [] => modDma n (fun c => { c with state := .idle, image := [] }) d
  | x :: _ =>
    if objectSize x.object.toNat x.objIndex.toNat d < x.objOffset.toNat + x.length.toNat then
      dmaHalt n 7 x x.hostAddr d
    else
      let img := if x.toDevice then []
        else slice (objectBytes x.object.toNat x.objIndex.toNat d) x.objOffset.toNat x.length.toNat
      modDma n (fun c => { c with state := .running, image := img }) d

/-- What a host-to-device descriptor writes (R501, R215). -/
def dmaStore (x : Desc) (off : Nat) (data : Bytes) (m : Mems) (d : Dev) : Dev × Mems :=
  if x.object = 1 then stageWrite d.inactive (x.objOffset.toNat + off) data m d
  else drawBytes (x.objOffset.toNat + off) data m d

/-- The owning block has locked the object (R502). -/
def Dev.objLocked (d : Dev) (x : Desc) : Bool := x.object == 4 && d.panel.locked

/-- The running descriptor completes: its data has moved, DONE_COUNT and LAST_ID, DMA_DONE where EVENT is set; the next
descriptor starts (R97). -/
def dmaDone (n : Nat) (data : Bytes) (m : Mems) (d : Dev) : Dev × Mems :=
  let c := d.dma n
  match c.queue with
  | [] => (d, m)
  | x :: rest =>
    if c.state != .running || !d.pcieMayWrite || d.objLocked x then (d, m)
    else if x.toDevice && data.length != x.length.toNat then (d, m)
    else if x.toDevice && decide (objectSize x.object.toNat x.objIndex.toNat d < x.objOffset.toNat + x.length.toNat) then
      (dmaHalt n 7 x x.hostAddr d, m)
    else
      let (d, m) := if x.toDevice then dmaStore x 0 data m d else (emit (.dmaWrite x.hostAddr.toNat c.image) d, m)
      let d := modDma n (fun c => { c with doneCount := c.doneCount + 1, lastId := x.id, queue := rest, image := [] }) d
      let d := raiseIf x.event .dmaDone (n + 256 * (x.id.toNat % 2 ^ 24)) d
      (dmaStart n d, m)

def execDmaDescriptorDone (n : Fin 4) (data : Bytes) (s : State) : Host.Outcome State Fault Refusal :=
  nextM s (dmaDone n data)

/-- Free bytes: what the host's memory held is not the device's to know. -/
def freeBytes : Nat → Dev → Bytes × Dev
  | 0, d => ([], d)
  | n + 1, d =>
    let (x, d) := freshNat d
    let (xs, d) := freeBytes n d
    (BitVec.ofNat 8 x :: xs, d)

/-- Bytes of a descriptor below the failing address. -/
def dmaMoved (x : Desc) (addr : DWord) : Nat := min x.length.toNat (addr.toNat - x.hostAddr.toNat) / 4 * 4

/-- DMA_HALT (R97): the running descriptor fails at a host address; what lies below it has moved. A cause of Table 2.23
other than 7, which the device finds itself. -/
def dmaFail (n : Nat) (kind : Nat) (addr : DWord) (m : Mems) (d : Dev) : Dev × Mems :=
  let c := d.dma n
  match c.queue with
  | [] => (d, m)
  | x :: _ =>
    if c.state != .running || kind = 0 || kind = 7 then (d, m)
    else
      let k := dmaMoved x addr
      if x.toDevice then
        let (b, d) := freeBytes k d
        let (d, m) := dmaStore x 0 b m d
        (dmaHalt n kind x addr d, m)
      else (dmaHalt n kind x addr (if k = 0 then d else emit (.dmaWrite x.hostAddr.toNat (c.image.take k)) d), m)

def execDmaHalt (n : Fin 4) (kind : BitVec 3) (addr : DWord) (s : State) : Host.Outcome State Fault Refusal :=
  nextM s (dmaFail n kind.toNat addr)

/-- A program swap makes a committed value image smaller than a queued descriptor needs: ERR_KIND 7 (R183). -/
def dmaShrink (d : Dev) : Dev :=
  (List.range 4).foldl (fun d n =>
    match ((d.dma n).queue.find? fun x => x.object == 5 &&
        decide (objectSize 5 x.objIndex.toNat d < x.objOffset.toNat + x.length.toNat)) with
    | some x => dmaHalt n 7 x x.hostAddr d
    | none => d) d

/-! ## Commands -/

/-- CHANNEL beyond 3, for every 0x0Dxx command. -/
def dmaRange (p : Bytes) : Bool × Half := (decide (3 < byteAt p 0), stRange)

/-- The statuses of R98, in their order. -/
def submitTests (d : Dev) (p : Bytes) : List (Bool × Half) :=
  let c := d.dma (byteAt p 0)
  [ (p.length != 4 + 32 * byteAt p 1, stBadLength), resv p [(2, 2)], ((descBytes p).any descReserved, stBadParam),
    dmaRange p, (byteAt p 1 == 0 || decide (64 < byteAt p 1), stRange),
    (!d.pcieMayWrite || c.state == .halted, stNotPermitted),
    ((descBytes p).any descParamBad, stBadParam),
    ((descBytes p).any (descRangeBad d), stRange),
    (decide (64 < c.queue.length + byteAt p 1), stBusy) ]

/-- DMA_SUBMIT (R98): all descriptors are queued; an idle channel starts. -/
def dmaSubmit (p : Bytes) (d : Dev) : Dev × Reply :=
  let n := byteAt p 0
  let idle := (d.dma n).state == .idle
  let d := modDma n (fun c => { c with queue := c.queue ++ (descBytes p).map parseDesc }) d
  let k := (d.dma n).queue.length
  (if idle then dmaStart n d else d, .ok (leBytes 1 k ++ leBytes 1 (64 - k) ++ zeros 2))

def execDmaSubmit (o : Origin) (s : State) : Host.Outcome State Fault Refusal :=
  runCmd s o 0x0D00 always (fun _ d p => submitTests d p) fun _ d p => dmaSubmit p d

/-- DMA_STATUS (R99): the registers as they were before CLEAR_HALT acts. -/
def execDmaStatus (o : Origin) (s : State) : Host.Outcome State Fault Refusal :=
  runCmd s o 0x0D01 always (fun _ _ p =>
      [ lenIs p 4, resv p [(2, 2)], (byteAt p 1 / 2 != 0, stBadParam), dmaRange p ])
    fun _ d p =>
      let c := d.dma (byteAt p 0)
      let clear := (byteAt p 1).testBit 0 && c.state == .halted
      (if clear then modDma (byteAt p 0) (fun c => { c with state := .idle, errKind := 0 }) d else d,
       .ok ((dmaRegs c).flatMap (leBytes 4)))

/-- DMA_ABORT (R100): the running descriptor stops after a request; what a device-to-host descriptor had written by then
stays, a free number of words, and a host-to-device object is invalid until it is written again in full. -/
def dmaAbort (p : Bytes) (d : Dev) : Dev × Reply :=
  let n := byteAt p 0
  let c := d.dma n
  if c.state != .running then (d, .ok (zeros 4))
  else
    let d := match c.queue with
      | [] => d
      | x :: _ =>
        if x.toDevice then
          if x.object = 1 then modProg (fun p => { p with load := { p.load with written := [] } }) d
          else modPanel (fun p => { p with unwritten := List.range 8192 }) d
        else
          let (k, d) := freshNat d
          let part := c.image.take (k % (x.length.toNat / 4 + 1) * 4)
          if part.isEmpty then d else emit (.dmaWrite x.hostAddr.toNat part) d
    (modDma n (fun c => { c with state := .idle, queue := [], image := [] }) d,
     .ok (leBytes 2 c.queue.length ++ zeros 2))

def execDmaAbort (o : Origin) (s : State) : Host.Outcome State Fault Refusal :=
  runCmd s o 0x0D02 always (fun _ _ p => [ lenIs p 4, resv p [(1, 3)], dmaRange p ]) fun _ d p => dmaAbort p d

end Sys2Proof.Machine
end

