-- ==== Sys2Proof/Machine/Checkpoint.lean ====
section
/-!
DEFINITION. Machine/Checkpoint.lean: the checkpoint image of a program (R405, Table 10.6) byte by byte: its regions, the
entries of the device's own state, and an entry read back from a replica.
-/

namespace Sys2Proof.Machine

open Sys2Proof

/-! ## Regions -/

/-- The retentive elements of a space, in ascending order (R405). -/
def Image.retentive (im : Image) (space : Nat) : List Nat :=
  (im.qmv.filter (fun q => q.space == space && q.flags.getLsbD 0)).map (·.element)

/-- The entries of a region of Table 10.6. -/
def Image.ckCount (im : Image) (region : Nat) : Nat :=
  match region with
  | 0 => 8
  | 1 => im.nT
  | 2 => im.nC
  | 3 => (im.nE + 3) / 4
  | 4 => im.nQ
  | 5 => (im.retentive spM).length
  | 6 => (im.retentive spV).length
  | 7 => min im.nK 4096
  | _ => im.loops.length

/-- The size of an entry of a region. -/
def ckSize (region : Nat) : Nat :=
  match region with
  | 0 => 12
  | 1 => 24
  | 3 => 1
  | 7 => 12
  | 8 => 104
  | _ => 8

/-- The offset of a region: the header begins with the 8 bytes of IMAGE_ID. -/
def Image.ckBase (im : Image) (region : Nat) : Nat :=
  8 + ((List.range region).map (fun r => ckSize r * im.ckCount r)).sum

/-- The size of the checkpoint image. -/
def Image.checkpointSize (im : Image) : Nat := im.ckBase 9

/-! ## Entries -/

def timerBytes (r : TimerRec) : Bytes :=
  leBytes 8 r.et.toNat ++ leBytes 8 r.tauLast.toNat ++
    leBytes 1 (b2n r.inPrev + 2 * b2n r.q + 4 * b2n r.run + 8 * b2n r.fresh + 16 * r.kind.toNat + 64 * r.base.toNat) ++
    zeros 7

def timerOfBytes (b : Bytes) : TimerRec :=
  let f := byteAt b 16
  { et := w64 (getLe b 0 8), tauLast := w64 (getLe b 8 8), inPrev := f.testBit 0, q := f.testBit 1, run := f.testBit 2,
    fresh := f.testBit 3, kind := BitVec.ofNat 2 (f / 16), base := BitVec.ofNat 2 (f / 64) }

def ctrBytes (r : CtrRec) : Bytes :=
  leBytes 4 r.cv.toNat ++
    leBytes 1 (b2n r.cuPrev + 2 * b2n r.cdPrev + 4 * b2n r.qu + 8 * b2n r.qd + 16 * b2n r.fresh) ++ zeros 3

def ctrOfBytes (b : Bytes) : CtrRec :=
  let f := byteAt b 4
  { cv := w32 (getLe b 0 4), cuPrev := f.testBit 0, cdPrev := f.testBit 1, qu := f.testBit 2, qd := f.testBit 3
    fresh := f.testBit 4 }

/-- Two bits of the E area: PREV and FRESH. -/
def edgeBits (r : EdgeRec) : Nat := b2n r.prev + 2 * b2n r.fresh

/-- The E area's byte n: memories 4n to 4n + 3. -/
def edgeByte (e : Map EdgeRec) (n : Nat) : Nat :=
  ((List.range 4).map (fun i => edgeBits (mgetD e (4 * n + i) {}) * 4 ^ i)).sum

def edgeOfByte (b k : Nat) : EdgeRec := { prev := b.testBit (2 * (k % 4)), fresh := b.testBit (2 * (k % 4) + 1) }

/-- The loop state of a slot: s1 and s2, previous output, and its hysteretic part (log entry 28): output bit, ms since
the last change, switchings in the window. -/
def loopBytes (s : LoopSlot) (tick : Nat) : Bytes :=
  let ms := match s.since with
    | some t => min 0x7FFF ((tick - t) / 20)
    | none => 0x7FFF
  s.s1.toList.flatMap (fun x => leBytes 6 x.toNat) ++ s.s2.toList.flatMap (fun x => leBytes 6 x.toNat) ++
    leBytes 4 s.prev.toNat ++ leBytes 2 (b2n s.onBit + 2 * ms) ++ leBytes 2 (min 0xFFFF (switchings s.bins tick))

/-- A slot with the loop state of a replica. -/
def loopOfBytes (b : Bytes) (tick : Nat) (s : LoopSlot) : LoopSlot :=
  let h := getLe b 100 2
  let n := getLe b 102 2
  { s with
    s1 := Vector.ofFn (fun (i : Fin 8) => BitVec.ofNat 48 (getLe b (6 * i.val) 6))
    s2 := Vector.ofFn (fun (i : Fin 8) => BitVec.ofNat 48 (getLe b (48 + 6 * i.val) 6))
    prev := w32 (getLe b 96 4), onBit := h.testBit 0
    since := if h / 2 = 0x7FFF then none else some (tick - 20 * (h / 2))
    bins := if n = 0 then [] else [(tick / 1200000, n)] }

/-- K element number and value of an override. -/
def kBytes (e : Nat × TV) : Bytes := leBytes 4 e.1 ++ tvBytes e.2

/-- Entry n of a region, from the device's own committed state. -/
def Dev.ckEntry (d : Dev) (im : Image) (region n : Nat) : Bytes :=
  let val := fun (k : Nat) => tvBytes (mgetD d.prog.vals k {})
  match region with
  | 0 => leBytes 4 (vget d.pwr.retData.counters n).toNat ++ leBytes 8 (vget d.pwr.retData.taus n).toNat
  | 1 => timerBytes (mgetD d.prog.timers n {})
  | 2 => ctrBytes (mgetD d.prog.counters n {})
  | 3 => leBytes 1 (edgeByte d.prog.edges n)
  | 4 => val (ekey spQ n)
  | 5 => val (ekey spM (lget (im.retentive spM) n))
  | 6 => val (ekey spV (lget (im.retentive spV) n))
  | 7 => ((d.pwr.retData.kOver[n]?).map kBytes).getD (zeros 12)
  | _ =>
    let l := lget im.loops n
    if l.position = d.sys.stackPos.toNat then loopBytes (d.slot l.unit l.slot) d.tick else zeros 104

/-- The whole checkpoint image of the device (R405, R408). -/
def Dev.checkpoint (d : Dev) (im : Image) : Bytes :=
  leBytes 8 im.imageId.toNat ++ (List.range 9).flatMap (fun r => (List.range (im.ckCount r)).flatMap (d.ckEntry im r))

/-! ## The replica -/

/-- Bytes written over others from an offset, where they fit. -/
def patch (rep : Bytes) (off : Nat) (data : Bytes) : Bytes :=
  if off + data.length ≤ rep.length then rep.take off ++ data ++ rep.drop (off + data.length) else rep

/-- A replica of the size that the image fixes. -/
def Image.sized (im : Image) (rep : Bytes) : Bytes := padTo im.checkpointSize rep

/-- Entry n of a region of a replica. -/
def Image.ckRead (im : Image) (rep : Bytes) (region n : Nat) : Bytes :=
  slice rep (im.ckBase region + ckSize region * n) (ckSize region)

/-- A record of a delta applied to a replica: one entry of a region. -/
def Image.ckApply (im : Image) (rep : Bytes) (x : DeltaRec) : Bytes :=
  if x.region ≤ 8 && decide (x.entry < im.ckCount x.region) && x.data.length == ckSize x.region then
    patch rep (im.ckBase x.region + ckSize x.region * x.entry) x.data
  else rep

/-- A committed value of a replica. -/
def ckValue (b : Bytes) : TV := tvOfWord (fromLe b)

/-- The committed Q element of a replica (R416). -/
def Dev.replicaQ (d : Dev) (el : Nat) : TV := ckValue ((d.prog.image.getD {}).ckRead d.red.replica 4 el)

/-- An override takes its place in the region: that of its element, or a new one while one is left. -/
def kPut (m : Map TV) (el : Nat) (v : TV) : Map TV :=
  if m.any (fun e => e.1 == el) then m.map (fun e => if e.1 = el then (el, v) else e)
  else if m.length < 4096 then m ++ [(el, v)] else m

/-! ## A program's first state -/

/-- The tagged value of an initial VALUE (R42): SEQ as of the counter of the task that writes the element (log entry
30). -/
def Dev.initTV (d : Dev) (im : Image) (space el : Nat) (x : Word) : TV :=
  let seq : Byte := ((im.writerOf (ekey space el)).map (fun t => (vget d.prog.tasks t).counter.setWidth 8)).getD 0
  mkTV (im.idOf space el) x qGOOD seq

/-- Every Q, M and V element at its initial VALUE, and every K element at its VALUE in the image. -/
def Dev.initVals (d : Dev) (im : Image) : Map TV :=
  (im.qmv.map (fun q => (ekey q.space q.element, d.initTV im q.space q.element q.initial))) ++
    (List.range im.kInit.length).map (fun k => (ekey spK k, d.initTV im spK k (lget im.kInit k).value))

/-- Every declared timer as R121 creates it. -/
def Image.initTimers (im : Image) : Map TimerRec :=
  im.stateDecl.foldl (fun m s =>
    if s.space = spT then mput m s.instanceNo { kind := BitVec.ofNat 2 s.mode } else m) []

end Sys2Proof.Machine
end

