-- ==== Sys2Proof/Machine/Partner.lean ====
section
/-!
DEFINITION. Machine/Partner.lean: the partner table (R347 to R349), the subscriptions of the active image (R351), and
the loss and return of a partner (R348, R172, R173).
-/

namespace Sys2Proof.Machine

open Sys2Proof

def modNet (f : Net → Net) (d : Dev) : Dev := { d with net := f d.net }

def modPartner (k : Nat) (f : Partner → Partner) (d : Dev) : Dev :=
  modNet (fun n => { n with partners := n.partners.modify k f }) d

def modSub (i : Nat) (f : Sub → Sub) (d : Dev) : Dev :=
  modNet (fun n => { n with subs := mput n.subs i (f (mgetD n.subs i {})) }) d

def Dev.sub (d : Dev) (i : Nat) : Sub := mgetD d.net.subs i {}

/-- The subscriptions of the active image. -/
def Dev.subSets (d : Dev) : List SetDecl := (d.prog.image.map (fun (im : Image) => im.subSets)).getD []

def Dev.pubSets (d : Dev) : List SetDecl := (d.prog.image.map (fun (im : Image) => im.pubSets)).getD []

/-! ## The sender of a partner identity (R349) -/

/-- The entry that a subscriber follows for a PARTNER_ID: the PRESENT one that announces the active role, with the
greatest LEASE_EPOCH where several do; without one, a station that runs unpaired in role 0 (log entry 19). -/
def Dev.selectSender (d : Dev) (pid : Word) : Option Nat :=
  let at_ := fun (role : Nat) => (List.range d.net.partners.length).filter fun k =>
    let p := lget d.net.partners k
    p.state == .present && p.partnerId == pid && p.role == role
  let best := fun (l : List Nat) => l.foldl (fun (a : Option Nat) k =>
    match a with
    | none => some k
    | some j => if (lget d.net.partners j).leaseEpoch.toNat < (lget d.net.partners k).leaseEpoch.toNat then some k
        else a) none
  (best (at_ 1)).orElse fun _ => (at_ 0).head?

/-- The device takes part in value sets: it runs or follows a program, is not fenced and not in safe state (R607), and
speaks for its stack (R336). -/
def Dev.mayExchange (d : Dev) : Bool := !d.stopped && d.master && d.sys.role != .arbiter

/-- SUBSCRIBE_REQ for a subscription, to the sender selected (R351). -/
def sendSubscribe (i : Nat) (d : Dev) : Dev :=
  let x := lget d.subSets i
  match d.selectSender x.partner with
  | none =>
    let known := d.net.partners.any (fun p => p.partnerId == x.partner && p.state == .lost)
    modSub i (fun u => { u with state := if known then .partnerLost else .idle }) d
  | some k =>
    let d := modSub i (fun u => { u with state := .requested, asmCycle := none, asmFrags := [] }) d
    if !d.mayExchange then d
    else stationTo (lget d.net.partners k).ip 0x12 (beBytes 2 x.setNo ++ zeros 2 ++ beBytes 4 x.signature.toNat ++
      beBytes 4 (d.task x.task).cfg.period) d

/-- The subscriptions to a PARTNER_ID. -/
def Dev.subsOf (d : Dev) (pid : Word) : List Nat :=
  (List.range d.subSets.length).filter (fun i => (lget d.subSets i).partner == pid)

/-- The sender followed for a PARTNER_ID may have changed: requests to the new one, or the subscriptions wait (R349,
R351). -/
def senderChanged (pid : Word) (old : Option Nat) (d : Dev) : Dev :=
  let new := d.selectSender pid
  if new == old then d
  else (d.subsOf pid).foldl (fun d i =>
    match (d.sub i).state with
    | .suspended => d
    | .refused => d
    | _ =>
      if new.isSome then sendSubscribe i d
      else modSub i (fun u => { u with state := .partnerLost, asmCycle := none, asmFrags := [] }) d) d

/-- A partner is declared LOST (R348): its own subscriptions to this device end (R353, R356). -/
def partnerLost (k cause : Nat) (d : Dev) : Dev :=
  let p := lget d.net.partners k
  if p.state != .present then d
  else
    let old := d.selectSender p.partnerId
    let d := modPartner k (fun p => { p with
      state := .lost, lossCause := cause, lostCount := min 0xFFFF (p.lostCount + 1), lostAt := d.tick, unacked := 0 }) d
    let d := modNet (fun n => { n with
      subscribers := n.subscribers.map (fun (x : Subscriber) =>
        if x.partnerId == p.partnerId && x.sender == p.sender then { x with lost := true } else x)
      evSubs := n.evSubs.filter (fun x => !(x.partnerId == p.partnerId && x.sender == p.sender)) }) d
    senderChanged p.partnerId old (raise .partnerLost (k + 512 * cause) d)

/-- The entry of a pair {PARTNER_ID, SENDER}. -/
def Dev.partnerOf (d : Dev) (pid : Word) (sender : DWord) : Option Nat :=
  (List.range d.net.partners.length).find? fun k =>
    let p := lget d.net.partners k
    p.state != .free && p.partnerId == pid && p.sender == sender

/-- The entry is reserved: the active image subscribes to its partner (R347). -/
def Dev.reserved (d : Dev) (p : Partner) : Bool := d.subSets.any (fun s => s.partner == p.partnerId)

/-- The entry that a new pair takes: a free one, a new one, or that of the partner LOST longest among those not
reserved (R347). -/
def Dev.newEntry (d : Dev) : Option Nat :=
  let ks := List.range d.net.partners.length
  match ks.find? (fun k => (lget d.net.partners k).state == .free) with
  | some k => some k
  | none =>
    if d.net.partners.length < 512 then some d.net.partners.length
    else (ks.filter (fun k =>
        let p := lget d.net.partners k
        p.state == .lost && !d.reserved p)).foldl (fun (a : Option Nat) k =>
      match a with
      | none => some k
      | some j => if (lget d.net.partners k).lostAt < (lget d.net.partners j).lostAt then some k else a) none

/-- The subscriptions of a new image start (R351). -/
def subscribeAll (d : Dev) : Dev :=
  (List.range d.subSets.length).foldl (fun d i => sendSubscribe i d) (modNet (fun n => { n with subs := [], groups := [] }) d)

/-! ## The pair path -/

/-- The pair path is down (Table 10.8): the standby is unpaired, a shadow compare ends, and the active device has no
standby. -/
def pairDown (d : Dev) : Dev :=
  if !d.red.pathUp || d.pairUp then d
  else
    let st := d.red.standby
    let st := if st == .ready || st == .syncing || st == .joining then StandbyState.unpaired else st
    shadowEnd 5 { d with red := { d.red with pathUp := false, shapeOk := false, standby := st, peerState := .none } }

end Sys2Proof.Machine
end

