-- ==== Sys2Proof/Machine/Tasks.lean ====
section
/-!
DEFINITION. Machine/Tasks.lean: the cycle of a task instant by instant (chapter 04): the base tick, the input freeze,
partner inputs and their policies, confirmation, the commit and its limits, in a stack and in a takeover's warm-up.
-/

namespace Sys2Proof.Machine

open Sys2Proof

/-! ## Inputs of a cycle -/

/-- A source outside this device, or of an absent field block. -/
def lostInput : Word × Byte := (0, qBAD_SOURCE_LOST)

/-- The last value of a bus field, stack input or source of another position. -/
def Dev.fieldValue (d : Dev) (el : Nat) : Word × Byte :=
  match mget d.prog.fieldIn el with
  | some v => (v.value, v.quality)
  | none => lostInput

/-- The declaration of a Q, M or V element by its source identity. -/
def Image.qmvById (im : Image) (id : Word) : Option QDecl := im.qmv.find? (fun q => q.id == id)

/-- The position that a key's writing block is placed on; the own one where no block writes it. -/
def Dev.writerPos (d : Dev) (key : Nat) : Nat :=
  let im := d.prog.image.getD {}
  let blocks := (d.prog.map.map (fun (m : PlaceMap) => m.blocks)).getD []
  match (List.range im.blocks.length).find? (fun b => (lget im.blocks b).writes.contains key) with
  | none => d.sys.stackPos.toNat
  | some b => ((blocks.find? (fun p => p.block == b)).map (·.position)).getD d.sys.stackPos.toNat

/-- A stack input (R151, R153): what its writer committed, or BAD_SOURCE_LOST where its writer is not reachable. -/
def Dev.stackInput (d : Dev) (el : Nat) (id : Word) : Word × Byte :=
  match (d.prog.image.getD {}).qmvById id with
  | none => d.fieldValue el
  | some q =>
    let key := ekey q.space q.element
    let pos := d.writerPos key
    if pos = d.sys.stackPos.toNat then
      let v := mgetD d.prog.vals key {}
      (v.value, v.quality)
    else if (vget d.gl.pos pos).reachable then d.fieldValue el
    else lostInput

/-- An AI result at the freeze: a failing CHECK is counted and reported (R44). -/
def freezeAi (ch : Nat) (bad : Bool) (d : Dev) : (Word × Byte) × Dev :=
  let e := (vget d.ana.ai ch).elem
  if bad then ((e.value, qBAD_CHECK), raise .aiCheck (ch + 16) (countCheck .sram d)) else ((e.value, d.aiQuality ch), d)

/-- The fast count at the freeze of the task that reads it: DELTA gives the edges since the last one (R282). -/
def freezeFast (t el ch : Nat) (d : Dev) : (Word × Byte) × Dev :=
  let d :=
    if (vget d.dig.di ch).cfg.mode = 2 && (d.prog.image.getD {}).readerOf (ekey spI el) == some t then
      modDi ch (fun c => { c with lastDelta := min c.fast 0x7FFFFFFF, fast := 0 }) d
    else d
  ((BitVec.ofNat 32 (vget d.dig.di ch).fastValue, qGOOD), d)

/-- What a source other than an owned partner input gives at t0 (R151). -/
def freezeSource (t el : Nat) (level : Word) (badAi : Half) (d : Dev) : (Word × Byte) × Dev :=
  let im := d.prog.image.getD {}
  let x := im.iOf el
  let here := x.position == d.sys.stackPos.toNat
  match x.source with
  | 0 =>
    let (v, d) := freshNat d
    let (q, d) := freshNat d
    ((BitVec.ofNat 32 v, BitVec.ofNat 8 q), d)
  | 7 =>
    if !here then (d.fieldValue el, d)
    else match im.loops.find? (fun l => l.outElement == el) with
      | some l => let o := (d.slot l.unit l.slot).out; ((o.value, o.quality), d)
      | none => (d.fieldValue el, d)
  | 8 => (d.stackInput el x.id, d)
  | 9 => ((d.partner el).predicted, d)
  | 10 => (d.fieldValue el, d)
  | 11 => (d.fieldValue el, d)
  | src =>
    if !here then (d.fieldValue el, d)
    else if !d.fieldIo then (lostInput, d)
    else match src with
      | 1 => ((BitVec.ofNat 32 (b2n (d.dig.diState x.channel)), d.dig.diQuality x.channel), d)
      | 2 => ((BitVec.ofNat 32 (d.doStatus x.channel (level.getLsbD x.channel)), d.doQuality x.channel), d)
      | 3 => freezeAi x.channel (badAi.getLsbD x.channel) d
      | 4 => (((vget d.ana.ao x.channel).readback.value, d.aoQuality x.channel), d)
      | 5 => ((BitVec.ofNat 32 (d.aoStatus x.channel), d.aoQuality x.channel), d)
      | _ => freezeFast t el x.channel d

/-- The force on an element (R225). -/
def Dev.forceOn (d : Dev) (space el : Nat) : Option Force :=
  d.prog.forces.find? (fun f => f.space == space && f.element == el)

/-- VALUE and quality under a force (R225). -/
def forced (f : Force) (v : Word × Byte) : Word × Byte :=
  ((v.1 &&& ~~~f.mask) ||| (f.value &&& f.mask), if f.mask = 0xFFFFFFFF then qFORCED else qMerge v.2 qFORCED)

/-- An element enters the input image of task t, stamped with its counter. -/
def latch (t el : Nat) (v : Word × Byte) (d : Dev) : Dev :=
  let x := mkTV ((d.prog.image.getD {}).idOf spI el) v.1 v.2 ((d.task t).counter.setWidth 8)
  modTask t (fun k => { k with inputs := mput k.inputs el x }) d

/-! ## Partner inputs (R152, R166 to R169) -/

def modPIn (el : Nat) (f : PInput → PInput) (d : Dev) : Dev :=
  modProg (fun p => { p with partnerIn := mput p.partnerIn el (f ((mget p.partnerIn el).getD {})) }) d

/-- The partner inputs that a task owns. -/
def Image.ownedInputs (im : Image) (t : Nat) : List Nat :=
  (im.subSets.filter (fun s => s.task == t)).flatMap (fun s => s.items.map (·.2))

/-- The effective value of a STALE input (Table 4.8). -/
def PInput.effective (p : PInput) : Word × Byte :=
  match p.policy.kind with
  | 1 => (p.policy.value, qSUBSTITUTED)
  | 2 => (p.policy.value, qSAFE_VALUE)
  | _ =>
    (p.lastTaken.getD 0,
      if !p.received || (p.policy.holdLimit != 0 && decide (p.policy.holdLimit < p.staleRun)) then qBAD_SOURCE_LOST
      else qHELD)

/-- The policy value that the input keeps until it has been taken twice in a row (R169); after a restart that of Table
4.8 with no value received since CYCLE_START (log entry 40). -/
def PInput.kept (p : PInput) : TV :=
  p.lastEffective.getD { value := p.effective.1, quality := p.effective.2 }

/-- What an input carries in a cycle in which it is taken (R169). -/
def PInput.carried (p : PInput) (v : TV) : Word × Byte :=
  if 2 ≤ p.takesSince then (v.value, v.quality) else (p.kept.value, p.kept.quality)

/-- An input is taken for the cycle. A forced one already stands in the input image. -/
def takeInput (t el : Nat) (v : TV) (d : Dev) : Dev :=
  let d := modPIn el (fun p => { p with
    taken := some v, pendingVal := none, takesSince := min 2 (p.takesSince + 1), staleRun := 0
    lastEffective := some p.kept, lastTaken := some v.value, received := true }) d
  if (d.forceOn spI el).isSome then d else latch t el ((d.partner el).carried v) d

/-- The latest value of the input interval before t0 (R152). -/
def awaitFreeze (el : Nat) (v : TV) (d : Dev) : Dev :=
  modPIn el (fun p => { p with pendingVal := some v, pendingAt := d.tick }) d

/-- In the first cycle after CYCLE_START the input interval begins just after t0 − P + w: what arrived before is not
latched (R152). -/
def dropEarly (t : Nat) (owned : List Nat) (d : Dev) : Dev :=
  let k := d.task t
  if k.st != .starting then d
  else owned.foldl (fun d el => modPIn el (fun p => { p with
    pendingVal := if p.pendingAt + k.cfg.period < d.tick + k.cfg.window then none else p.pendingVal }) d) d

/-- A value of a complete set instance arrives for the input of its owning task (R152). -/
def arrive (t el : Nat) (v : TV) (d : Dev) : Dev :=
  let k := d.task t
  match k.st with
  | .stopped => awaitFreeze el v d
  | .fault => awaitFreeze el v d
  | .starting => awaitFreeze el v d
  | _ =>
    if k.deadlinePassed then awaitFreeze el v d
    else if (d.partner el).taken.isSome then d
    else takeInput t el v d

/-- The freeze of one I element. -/
def freezeEl (t : Nat) (level : Word) (badAi : Half) (owned : List Nat) (d : Dev) (el : Nat) : Dev :=
  let im := d.prog.image.getD {}
  if (im.iOf el).kind = 0 then d
  else
    let f := d.forceOn spI el
    if owned.contains el then
      let d := modPIn el (fun p => { p with taken := none }) d
      match (d.partner el).pendingVal, f with
      | none, none => d
      | none, some f => latch t el (forced f (d.partner el).predicted) d
      | some v, none => takeInput t el v d
      | some v, some f =>
        let d := takeInput t el v d
        latch t el (forced f ((d.partner el).carried v)) d
    else
      let (v, d) := freezeSource t el level badAi d
      latch t el (match f with
        | some f => forced f v
        | none => v) d

/-! ## The task instant -/

/-- A K element takes a value (R211, R214): its override goes to the retentive data area and into the next delta. -/
def overrideK (el : Nat) (v : TV) (d : Dev) : Dev :=
  let d := modProg (fun p => { p with vals := mput p.vals (ekey spK el) v }) d
  { d with
    pwr := { d.pwr with retData := { d.pwr.retData with kOver := kPut d.pwr.retData.kOver el v } }
    red := { d.red with firn := { d.red.firn with kNew := (d.red.firn.kNew ++ [el]).dedup } } }

/-- Committed staged records of a task apply whole at its t0 (R214). -/
def applyRecords (t : Nat) (d : Dev) : Dev :=
  let im := d.prog.image.getD {}
  let mine := fun (r : StagedRec) => r.committed && im.records.any (fun x => x.record == r.record && x.task == t)
  let now := d.prog.stagedRecs.filter mine
  if now.isEmpty then d
  else
    let d := now.foldl (fun d r =>
      match im.records.find? (fun x => x.record == r.record) with
      | none => d
      | some x => r.values.foldl (fun d e =>
          let el := x.firstK + e.1
          let d := overrideK el (mkTV (im.idOf spK el) e.2 qGOOD ((d.task t).counter.setWidth 8)) d
          shadowWrite [ekey spK el] d) d) d
    let rest := d.prog.stagedRecs.filter (fun r => !mine r)
    let d := modProg (fun p => { p with stagedRecs := rest }) d
    if rest.any (·.committed) then d
    else respondTo (d.prog.recCommitWaiter) stOk (leBytes 1 rest.length ++ zeros 3)
      (modProg (fun p => { p with recCommitWaiter := none }) d)

/-- New input policies take effect (R182). -/
def applyPolicies (owned : List Nat) (d : Dev) : Dev :=
  owned.foldl (fun d el =>
    if (d.partner el).staged.isSome then
      modPIn el (fun p => { p with policy := p.staged.getD p.policy, staged := none }) d
    else d) d

/-- The input freeze (R151, R161): a cycle begins. -/
def beginCycle (t : Nat) (level : Word) (badAi : Half) (d : Dev) : Dev :=
  let im := d.prog.image.getD {}
  let owned := im.ownedInputs t
  let d := applyRecords t (applyPolicies owned (dropEarly t owned (dropCycle t d)))
  let d := modTask t (fun k => { k with
    st := .execute, t0 := d.tick, deadlinePassed := false, inputs := [], snap := d.prog.vals, confirmedAt := none
    reexecFrom := none, anyStale := false }) d
  let d := { d with gl := { d.gl with confirmed := vset d.gl.confirmed t 0, decision := vset d.gl.decision t none } }
  (List.range im.nI).foldl (freezeEl t level badAi owned) d

/-- The tick is an instant of the task (R146). -/
def Task.instant (k : Task) (tick origin : Nat) : Bool :=
  (k.st == .starting && tick == k.firstT0) ||
  (k.st == .wait && (tick - origin) % k.cfg.period == k.cfg.phase && decide (k.firstT0 ≤ tick))

/-- Every position of the stack is reachable and none is at a wrong place (R371). -/
def Dev.stackWhole (d : Dev) : Bool :=
  !d.gl.positionFault && (List.range (max 1 d.otp.settings.stackSize)).all (fun i =>
    i == d.sys.stackPos.toNat || (vget d.gl.pos i).reachable)

/-- TASK_INSTANT (R151): in a swap gap the cycle is skipped (R218), in power-fail hold none starts (R551), and no task
starts before its stack is whole (R371). -/
def execTaskInstant (t : Fin 8) (level : Word) (badAi : Half) (s : State) : Host.Outcome State Fault Refusal :=
  nextD s fun d =>
    let k := d.task t
    let wait := modTask t (fun k => { k with firstT0 := if k.st = .starting then k.firstT0 + k.cfg.period else k.firstT0 })
    if !k.instant d.tick d.prog.origin then d
    else if d.prog.swap.inGap then
      modProg (fun p => { p with report := { p.report with skipped := vmod p.report.skipped t (satAdd 255 1) } }) (wait d)
    else if d.pwr.hold || (k.st == .starting && !d.stackWhole) then wait d
    else beginCycle t level badAi d

/-! ## The input deadline -/

/-- An input becomes STALE (R166). -/
def goStale (t el : Nat) (d : Dev) : Dev :=
  let d := modPIn el (fun p =>
    let p := { p with staleRun := p.staleRun + 1, takesSince := 0 }
    { p with lastEffective := some { value := p.effective.1, quality := p.effective.2 } }) d
  let d := modStats t (fun x => { x with stale := satPlus x.stale 1 }) (modTask t (fun k => { k with anyStale := true }) d)
  if (d.forceOn spI el).isSome then d else latch t el (d.partner el).effective d

/-- Deadlines at which every input that task t owns of a partner is STALE (R172): at the third it is lost. -/
def countSilent (t : Nat) (stale : List Nat) (pid : Word) (d : Dev) : Dev :=
  let im := d.prog.image.getD {}
  let els := (im.subSets.filter (fun s => s.task == t && s.partner == pid)).flatMap (fun s => s.items.map (·.2))
  let key := pid.toNat * 8 + t
  let n := if els.all (fun e => stale.contains e) then mgetD d.prog.partnerStale key 0 + 1 else 0
  let put := fun (n : Nat) (d : Dev) => modProg (fun p => { p with partnerStale := mput p.partnerStale key n }) d
  if n < 3 then put n d
  else match d.selectSender pid with
    | some k => partnerLost k 2 (put 0 d)
    | none => put 0 d

/-- INPUT_DEADLINE (R166, R172). -/
def execInputDeadline (t : Fin 8) (s : State) : Host.Outcome State Fault Refusal :=
  nextD s fun d =>
    let k := d.task t
    let im := d.prog.image.getD {}
    if !(k.st == .execute || k.st == .ready) || k.deadlinePassed || d.tick != k.t0 + k.cfg.window then d
    else
      let stale := (im.ownedInputs t).filter (fun el => (d.partner el).taken.isNone)
      let d := stale.foldl (fun d el => goStale t el d) (modTask t (fun k => { k with deadlinePassed := true }) d)
      let d := (List.range im.subSets.length).foldl (fun d i =>
        let x := lget im.subSets i
        if x.task == t.val && x.items.any (fun it => stale.contains it.2) then
          modSub i (fun u => { u with stale := min 0xFFFFFFFF (u.stale + 1) }) d
        else d) d
      let d := ((im.subSets.filter (fun x => x.task == t.val)).map (·.partner)).dedup.foldl
        (fun d pid => countSilent t stale pid d) d
      settle t d

/-! ## Confirmation -/

/-- The blocks of a task on this device. -/
def Dev.ownBlocks (d : Dev) (t : Nat) : List Nat :=
  ((d.prog.map.map (fun (m : PlaceMap) => m.blocks)).getD []).filterMap fun b =>
    if b.position == d.sys.stackPos.toNat && d.blockTask b.block == t then some b.block else none

/-- Every block has executed, and no result depends on a provisional element (Table 4.4). -/
def Dev.allConfirmed (d : Dev) (t : Nat) : Bool :=
  (d.ownBlocks t).all fun b =>
    match mget (d.task t).runs b with
    | some r => !r.provisional && !r.needsReexec
    | none => false

/-- Times within a cycle are in 0.1 µs, 500 to the base tick. -/
def tickUnits : Nat := 500

/-- The confirm limit d − 10 µs from t0, in 0.1 µs (R146). -/
def Task.confirmLimit (k : Task) : Nat := k.cfg.offset * tickUnits - 100

/-- The tick of the lateness limit (R175). -/
def Task.latenessTick (k : Task) : Nat := min (k.t0 + k.cfg.offset + k.cfg.maxLate) (k.t0 + k.cfg.period)

/-- The cells that recovered at L0 with this cycle are whole again (R207). -/
def l0Done (t : Nat) (d : Dev) : Dev :=
  modProg (fun p => { p with cells := p.cells.map (fun (c : Cell) =>
    if c.task == t && c.level == .l0run && !c.running then { c with level := .ok } else c) }) d

/-- A device reports its confirmation to the master (R164, R374). -/
def reportConfirm (t : Nat) (d : Dev) : Dev :=
  if !d.inStack then d
  else if d.master then
    { d with gl := { d.gl with confirmed := vmod d.gl.confirmed t (fun b => b ||| 1) } }
  else glSend false 0 0x10 0 (beBytes 1 t ++ beBytes 4 (d.task t).counter.toNat) d

/-- CYCLE_CONFIRMED (R158, R175): at_ is the instant of confirmation from t0, in 0.1 µs. -/
def execCycleConfirmed (t : Fin 8) (at_ : Nat) (s : State) : Host.Outcome State Fault Refusal :=
  nextD s fun d =>
    let k := d.task t
    if at_ / tickUnits + k.t0 != d.tick || !d.allConfirmed t then d
    else match k.st with
      | .execute =>
        if k.confirmLimit < at_ then d
        else
          let re := match k.reexecFrom with
            | some f => at_ - (f - k.t0) * tickUnits
            | none => 0
          reportConfirm t (l0Done t (modTask t (fun k => { k with
            st := .ready, confirmedAt := some at_
            stats := { k.stats with reexecMax := BitVec.ofNat 32 (max k.stats.reexecMax.toNat re) } }) d))
      | .late =>
        if d.tick < k.latenessTick then
          let late := at_ - k.cfg.offset * tickUnits
          stopCheck t (dropCycle t (modTask t (fun k => { k with
            st := .wait, stats := { k.stats with lateMax := BitVec.ofNat 32 (max k.stats.lateMax.toNat late) } }) d))
        else d
      | _ => d

/-! ## The confirm limit -/

/-- A cycle overruns at its confirm limit (R174, R176, R184). -/
def overrun (t : Nat) (d : Dev) : Dev :=
  let k := d.task t
  let n := k.overruns + 1
  let d := modTask t (fun k => { k with
    st := .late, overruns := n, stats := { k.stats with overruns := satPlus k.stats.overruns 1 } }) d
  let d := if h : t < 8 then
      raise (.taskOverrun ⟨t, h⟩) (k.counter.toNat % 2 ^ 24 + 2 ^ 24 * min 15 n) d
    else d
  if k.cfg.ovrN < n then taskFault t (1 + 2 * b2n (k.cfg.maxLate == 0)) d else d

/-- The positions that hold blocks of a task, as a mask. -/
def Dev.holders (d : Dev) (t : Nat) : Byte :=
  ((d.prog.map.map (fun (m : PlaceMap) => m.blocks)).getD []).foldl (fun (a : Byte) b =>
    if d.blockTask b.block == t then a ||| (1#8 <<< b.position) else a) 0

/-- The master's commit decision: every device that holds blocks has confirmed (R164). -/
def Dev.decides (d : Dev) (t : Nat) : Bool :=
  (d.task t).st == .ready &&
    ((d.holders t &&& ~~~(1#8)) &&& ~~~(vget d.gl.confirmed t)) == 0

def sendDecision (t : Nat) (go : Bool) (d : Dev) : Dev :=
  glSend false 0 0x11 0xFF (beBytes 1 t ++ beBytes 4 (d.task t).counter.toNat ++ beBytes 1 (b2n go)) d

/-- The confirmed value of a Q element in the cycle: its last write, with the merged quality, else as committed. -/
def confirmedQ (k : Task) (key : Nat) : Word × Byte :=
  let ws := (k.runs.flatMap (fun e => e.2.exec.writes)).filter (fun w => w.key == key)
  match ws.getLast? with
  | some w => (w.value, qMergeAll (ws.map (·.quality)))
  | none => let v := mgetD k.snap key {}; (v.value, v.quality)

/-- The element of a pair agrees with the replica (R416). -/
def sameQ (analogue : Bool) (tol : Word) (a : Word × Byte) (b : TV) : Bool :=
  a.2.msb == b.quality.msb &&
    (if analogue then decide ((a.1.toInt - b.value.toInt).natAbs ≤ tol.toNat) else a.1 == b.value)

/-- COMPARE_MISMATCH (Table 10.14), counted in LEASE_STATUS. -/
def mismatch (context t : Nat) (analogue : Bool) (el : Nat) (d : Dev) : Dev :=
  raise .compareMismatch (context + 4 * t + 32 * b2n analogue + 256 * (el % 2 ^ 14))
    { d with red := { d.red with compareMismatch := satInc d.red.compareMismatch } }

/-- The Q elements of a task that a comparison counts: written by it and not exempt. -/
def Image.comparedQ (im : Image) (t : Nat) : List QDecl :=
  im.qmv.filter (fun q => q.space == spQ && !q.flags.getLsbD 1 && im.writerOf (ekey spQ q.element) == some t)

def modTake (f : Takeover → Takeover) (d : Dev) : Dev := { d with red := { d.red with takeover := f d.red.takeover } }

/-- The device is the new holder in its warm-up (R415). -/
def Dev.warming (d : Dev) : Bool := d.sys.role == .active && d.red.standby == .warmup

/-- The comparison at the confirm limit of the WARMUP-th warm-up cycle of a task, and of later ones (R416). -/
def warmCompare (t : Nat) (d : Dev) : Dev :=
  let tk := d.red.takeover
  if !d.warming || vget tk.passed t || vget tk.warmCount t + 1 < d.red.cfg.warmup then d
  else
    let im := d.prog.image.getD {}
    let bad := (im.comparedQ t).find? fun q =>
      !sameQ (q.kind == 2) d.red.cfg.analogTol (confirmedQ (d.task t) (ekey spQ q.element))
        (d.replicaQ q.element)
    match bad with
    | none => modTake (fun k => { k with passed := vset k.passed t true }) d
    | some q =>
      let d := mismatch 1 t (q.kind == 2) q.element (modTake (fun k => { k with allMatched := false }) d)
      if !d.red.cfg.mismatchRetry then modTake (fun k => { k with passed := vset k.passed t true }) d
      else
        let d := modTake (fun k => { k with failures := vmod k.failures t (· + 1) }) d
        if 16 ≤ vget d.red.takeover.failures t then enterSafe d else d

/-- CONFIRM_LIMIT (R164, R174). -/
def execConfirmLimit (t : Fin 8) (s : State) : Host.Outcome State Fault Refusal :=
  nextD s fun d =>
    let k := d.task t
    if d.tick + 1 != k.t0 + k.cfg.offset then d
    else
      let d := if d.inStack && d.master && (k.st == .ready || k.st == .execute) then
          sendDecision t (d.decides t) { d with gl := { d.gl with decision := vset d.gl.decision t (some (d.decides t)) } }
        else d
      match k.st with
      | .execute => overrun t d
      | .ready => if d.inStack && d.master && !d.decides t then overrun t d else warmCompare t d
      | _ => d

/-- LATENESS_LIMIT (R175, R176). -/
def execLatenessLimit (t : Fin 8) (s : State) : Host.Outcome State Fault Refusal :=
  nextD s fun d =>
    let k := d.task t
    if k.st != .late || d.tick < k.latenessTick then d
    else taskFault t 2 (modStats t (fun x => { x with lateMax := 0xFFFFFFFF }) d)

/-! ## The commit -/

/-- The executions of the cycle in ascending block order, their writes in order. -/
def Task.writes (k : Task) : List Write := k.runs.flatMap (fun e => e.2.exec.writes)

/-- The journals become the records (Table 4.6, action 1). -/
def commitJournals (t : Nat) (d : Dev) : Dev :=
  (d.task t).runs.foldl (fun d e => modProg (fun p => { p with
    timers := mputAll p.timers e.2.exec.timers, counters := mputAll p.counters e.2.exec.counters
    edges := mputAll p.edges e.2.exec.edges }) d) d

/-- The Q, M and V elements that the blocks of a task write: the task produces them (Table 1.6). -/
def Image.producedBy (im : Image) (t : Nat) : List Nat :=
  ((im.blocks.filter (fun b => b.task == t)).flatMap Block.writes).dedup

/-- The working values become the committed ones (action 2, R107), then the forces of Q (R225). An element of the task
that the cycle did not write keeps VALUE and quality; SEQ is the counter of the commit for it too (Table 1.6, R147). -/
def commitValues (t : Nat) (d : Dev) : Dev :=
  let k := d.task t
  let im := d.prog.image.getD {}
  let seq : Byte := k.counter.setWidth 8
  let put := fun (d : Dev) (key : Nat) (v : Word × Byte) =>
    modProg (fun p => { p with vals := mput p.vals key (mkTV (im.idOf (keySpace key) (keyEl key)) v.1 v.2 seq) }) d
  let d := (im.producedBy t).foldl (fun d key => match mget d.prog.vals key with
    | some v => let v := tvAccept (im.idOf (keySpace key) (keyEl key)) v; put d key (v.value, v.quality)
    | none => d) d
  let d := (k.writes.map (·.key)).dedup.foldl (fun d key => put d key (confirmedQ k key)) d
  d.prog.forces.foldl (fun d f =>
    let key := ekey spQ f.element
    if f.space == spQ && (im.writerOf key).all (fun w => w == t) then
      let v := mgetD d.prog.vals key {}
      put d key (forced f (v.value, v.quality))
    else d) d

/-- The keys that a commit of the task changed. -/
def Dev.commitKeys (d : Dev) (t : Nat) : List Nat :=
  ((d.task t).writes.map (·.key) ++ (d.prog.forces.filter (fun f => f.space == spQ)).map (fun f => ekey spQ f.element)).dedup

/-- The committed retentive elements and the commit stamp go to the privileged store (action 5, R405). -/
def commitRetentive (t : Nat) (keys : List Nat) (d : Dev) : Dev :=
  let im := d.prog.image.getD {}
  let kept := keys.filter (fun key => ((im.qmvOf (keySpace key) (keyEl key)).map (fun q => q.flags.getLsbD 0)).getD false)
  let r := d.pwr.retData
  { d with pwr := { d.pwr with retData := { r with
    counters := vset r.counters t ((d.task t).counter + 1), taus := vset r.taus t (d.task t).tau
    elems := kept.foldl (fun m key => mput m key (mgetD d.prog.vals key {})) r.elems } } }

/-- The counter and the statistics of a commit (action 6, R147, Table 4.11), and the committed value image (R183). -/
def commitStats (t : Nat) (d : Dev) : Dev :=
  let k := d.task t
  let at_ := k.confirmedAt.getD 0
  let slack := k.confirmLimit - at_
  let qmv := d.prog.vals.filter (fun e => keySpace e.1 != spK)
  let img : CommitImage := {
    forced := !d.prog.forces.isEmpty, cycle := k.counter, tick := d.tick, inputs := k.inputs, vals := qmv }
  modTask t (fun k => { k with
    counter := k.counter + 1, overruns := 0, committed := some img
    stats := { k.stats with
      commits := k.stats.commits + 1, confTime := BitVec.ofNat 32 at_
      confMax := BitVec.ofNat 32 (max k.stats.confMax.toNat at_)
      slackMin := if k.stats.slackSeen then BitVec.ofNat 32 (min k.stats.slackMin.toNat slack) else BitVec.ofNat 32 slack
      slackSeen := true } }) d

/-- What every partner input of the task carried (R155). -/
def commitInputs (t : Nat) (d : Dev) : Dev :=
  ((d.prog.image.getD {}).ownedInputs t).foldl (fun d el =>
    match mget (d.task t).inputs el with
    | some v => modPIn el (fun p => { p with lastConfirmed := some v }) d
    | none => d) d

/-- The commit of a task delivers its results: not on a standby, nor in a warm-up before the release (R415, R417). -/
def Dev.delivers (d : Dev) (t : Nat) : Bool :=
  d.sys.role != .standby && (!d.warming || vget d.red.takeover.released t)

/-- The tasks that run. -/
def Dev.runningTasks (d : Dev) : List Nat := (List.range 8).filter (fun t => (d.task t).st.running)

/-- The release of a task in a takeover (R417): at the last one the takeover is done. -/
def releaseTask (t : Nat) (d : Dev) : Dev :=
  if !d.warming then d
  else
    let d := modTake (fun k => { k with freed := vset k.freed t true }) d
    if (d.runningTasks).all (fun x => vget d.red.takeover.freed x) then
      let ms := (d.tick - d.red.takeover.grantTick) / 20
      raise .takeoverDone (min 0xFFFF ms + 65536 * b2n d.red.takeover.allMatched)
        { d with red := { d.red with
          standby := .none, takeover := { d.red.takeover with lastMs := ms } } }
    else d

/-- A cycle of a task commits (R162, Table 4.6): in full, or in a warm-up without delivering (R415). -/
def commitTask (t : Nat) (m : Mems) (d : Dev) : Dev :=
  let keys := d.commitKeys t
  let full := d.delivers t
  let d := commitValues t (commitJournals t d)
  let d := if full then commitToField t (d.task t).anyStale d else d
  let d := shadowWrite keys d
  let d := commitRetentive t keys d
  let d := commitStats t (commitInputs t d)
  let d := if full then panelCommit t m (historyCommit t d) else d
  let d := modProg (fun p => { p with writePend := p.writePend.map (fun (w : WritePend) =>
    if w.task == t then { w with due := true } else w) }) (loopsFirstCommit d)
  let d := modTask t (fun k => { k with st := .publish, toPublish := full }) d
  let d := if full then releaseTask t d
    else modTake (fun k => { k with
      warmCount := vmod k.warmCount t (· + 1), released := vset k.released t (vget k.passed t) }) d
  if (d.task t).stopReq == some true then settleAll (modTask t (fun k => { k with stoppedSafe := true }) d) else d

/-- COMMIT_POINT (R162, R374): a device that has no decision to commit overruns. -/
def execCommitPoint (t : Fin 8) (s : State) : Host.Outcome State Fault Refusal :=
  nextR s fun m d =>
    let k := d.task t
    if k.st != .ready || d.tick != k.t0 + k.cfg.offset || d.prog.swap.inGap then d
    else if d.inStack && vget d.gl.decision t != some true then overrun t d
    else commitTask t m d

/-- A cycle in progress is abandoned without commit (R218, R551); what arrives from now on belongs to the next one. -/
def abandonCycle (t : Nat) (d : Dev) : Dev :=
  match (d.task t).st with
  | .execute => stopCheck t (dropCycle t (modTask t (fun k => { k with st := .wait, deadlinePassed := true }) d))
  | .ready => stopCheck t (dropCycle t (modTask t (fun k => { k with st := .wait, deadlinePassed := true }) d))
  | .late => stopCheck t (dropCycle t (modTask t (fun k => { k with st := .wait, deadlinePassed := true }) d))
  | _ => d

/-- Power-fail hold (R551, R553): cycles in progress are abandoned and the flush of the history begins. -/
def enterHold (d : Dev) : Dev :=
  if d.pwr.hold then d
  else
    let d := (List.range 8).foldl (fun d t => abandonCycle t d) d
    startFlush 3 { d with pwr := { d.pwr with hold := true, step2 := false, eraseSuspended := d.pwr.eraseBusy } }

/-- The hold ends at the later of the end of PFW and the end of step 2 (R554). -/
def leaveHold (d : Dev) : Dev :=
  if d.pwr.hold && d.pwr.step2 && !d.pfwOn then { d with pwr := { d.pwr with hold := false } } else d

/-! ## Written values (R212) -/

/-- WRITE_VALUES_APPLY (R212): after the commit of the named task, or at once while it is stopped. -/
def execWriteValuesApply (s : State) : Host.Outcome State Fault Refusal :=
  nextD s fun d =>
    match d.prog.writePend with
    | none => d
    | some w =>
      let k := d.task w.task
      let im := d.prog.image.getD {}
      let stopped := !k.st.running
      if !w.due && !stopped then d
      else
        let seq : Byte := k.counter.setWidth 8
        let d := w.entries.foldl (fun d e =>
          let v := mkTV (im.idOf e.1 e.2.1) e.2.2.2 e.2.2.1 seq
          if e.1 = spK then overrideK e.2.1 v d
          else modProg (fun p => { p with vals := mput p.vals (ekey e.1 e.2.1) v }) d) d
        let keys := w.entries.map (fun e => ekey e.1 e.2.1)
        let r := d.pwr.retData
        let kept := keys.filter (fun key =>
          ((im.qmvOf (keySpace key) (keyEl key)).map (fun q => q.flags.getLsbD 0)).getD false)
        let d := { d with pwr := { d.pwr with retData := { r with
          elems := kept.foldl (fun x key => mput x key (mgetD d.prog.vals key {})) r.elems } } }
        let d := shadowWrite keys (modProg (fun p => { p with writePend := none }) d)
        respondTo w.waiter stOk ((if w.due then leBytes 4 (k.counter - 1).toNat else leBytes 4 0xFFFFFFFF) ++
          leBytes 8 d.tick ++ zeros 4) d

/-! ## The base tick -/

/-- A base tick begins on the device (R34): operating time, the loop shadows, and settings that wait for no task. -/
def tickStep (d : Dev) : Dev :=
  let d := shadowTick (opTick { d with tick := d.tick + 1 })
  if d.cycleRun then d
  else if d.fieldIo then settleAll (aoNewCfg (doNewCfg d)) else d

/-- TICK markers leave on ports A and B (R373): control character K28.1 and the low 16 bits of the tick. -/
def markTick (d : Dev) : Dev :=
  if d.gligil && d.inStack then
    emitAll [.gligil glA 0 0x3C 0xFF (beBytes 2 (d.tick % 65536)), .gligil glB 0 0x3C 0xFF (beBytes 2 (d.tick % 65536))] d
  else d

/-- BASE_TICK (R373): on the stack master; a device in reset has no tick. -/
def execBaseTick (s : State) : Host.Outcome State Fault Refusal :=
  nextD s fun d => if d.pwr.phase == .inReset || !d.master then d else markTick (tickStep d)

/-- TICK_MARKER_RECEIVED (R373): the first copy of a marker gives the tick; each one goes on to the other port. -/
def execTickMarkerReceived (p : Fin 2) (n : Half) (s : State) : Host.Outcome State Fault Refusal :=
  nextD s fun d =>
    if d.pwr.phase == .inReset || d.master || !d.gligil then d
    else
      let ahead := (n.toNat + 65536 - d.tick % 65536) % 65536
      let d := if ahead = 0 || 32768 ≤ ahead then d else tickStep { d with tick := d.tick + ahead - 1 }
      emit (.gligil (1 - p.val) 0 0x3C 0xFF (beBytes 2 n.toNat))
        { d with gl := { d.gl with tickLost := false } }

/-- TICK_LOST (R372): blocks and loop units stop, outputs go safe and FENCE_N is asserted: fence cause 6. -/
def execTickLost (s : State) : Host.Outcome State Fault Refusal :=
  nextD s fun d =>
    if d.master || !d.inStack then d
    else fence 6 { d with gl := { d.gl with tickLost := true } }

end Sys2Proof.Machine
end

