-- ==== Sys2Proof/Machine/Gligil.lean ====
section
/-!
DEFINITION. Machine/Gligil.lean: the ports of the Gligil link, the ring and its status frames (R365, R370 to R372,
R383), class 2 retransmission (R369), and the scheduled traffic of a stack (R164, R374, R375).
-/

namespace Sys2Proof.Machine

open Sys2Proof

/-- A row that only a device with the Gligil link has. -/
def glD (s : State) (f : Dev → Dev) : Host.Outcome State Fault Refusal := nextD s fun d => if d.gligil then f d else d

def modGl (f : Gl → Gl) (d : Dev) : Dev := { d with gl := f d.gl }

def Gl.port (g : Gl) (p : Nat) : GlPort := if p = 0 then g.portA else if p = 1 then g.portB else g.portP

def modPort (p : Nat) (f : GlPort → GlPort) (d : Dev) : Dev :=
  modGl (fun g => match p with
    | 0 => { g with portA := f g.portA }
    | 1 => { g with portB := f g.portB }
    | _ => { g with portP := f g.portP }) d

/-- S, the stack size of the active settings. -/
def Dev.stackS (d : Dev) : Nat := max 1 (min 8 d.otp.settings.stackSize)

/-! ## The ring (R372) -/

/-- Link i joins port A of position i to port B of position i + 1 (R365). -/
def linkUp (pos : Vector PosStatus 8) (s i : Nat) : Bool := (vget pos i).portA && (vget pos ((i + 1) % s)).portB

/-- The positions that lie within k unbroken links of p, upwards and downwards. -/
def reachFrom (pos : Vector PosStatus 8) (s p : Nat) : List Nat :=
  let up := (List.range s).takeWhile (fun k => k = 0 || linkUp pos s ((p + k - 1) % s))
  let down := (List.range s).takeWhile (fun k => k = 0 || linkUp pos s ((p + s - k) % s))
  up.map (fun k => (p + k) % s) ++ down.map (fun k => (p + s - k) % s)

/-- The state of a ring of s devices: a stack of one has no ring link. -/
def ringOf (pos : Vector PosStatus 8) (s : Nat) : Ring :=
  if s ≤ 1 then .closed
  else match ((List.range s).filter (fun i => !linkUp pos s i)).length with
    | 0 => .closed
    | 1 => .open_
    | _ => .split

def Ring.code : Ring → Nat
  | .closed => 0
  | .open_ => 1
  | .split => 2

/-- A neighbour on a port that breaks R365, or has the own position. -/
def Dev.wrongNeighbour (d : Dev) (p : Nat) : Bool :=
  let x := d.gl.port p
  let own := d.sys.stackPos.toNat
  let s := d.stackS
  x.up && (match p with
    | 0 => x.neighbour == own || x.neighbour != (own + 1) % s
    | 1 => x.neighbour == own || x.neighbour != (own + s - 1) % s
    | _ => x.neighbour != own)

/-- A position fault (R371). -/
def Dev.misplaced (d : Dev) : Bool :=
  decide (d.stackS ≤ d.sys.stackPos.toNat) || (List.range 3).any d.wrongNeighbour

/-- STACK_LINK_CHANGE (Table 9.13) on a port; a change of the ring alone names port A (log entry 29). -/
def linkEvent (p : Nat) (d : Dev) : Dev :=
  let x := d.gl.port p
  raise .stackLinkChange (p + 4 * b2n x.up + 8 * d.gl.ring.code + 32 * b2n d.gl.positionFault + 64 * x.neighbour) d

/-- Ring, reachability and position fault as they now stand. A stack master that can no longer reach a device of a
split ring handles it as failed, at L2 (R372). -/
def ringUpdate (changed : Option Nat) (d : Dev) : Dev :=
  let own := d.sys.stackPos.toNat
  let s := d.stackS
  let was := d.gl
  let pos := vset was.pos own d.ownStatus
  let near := reachFrom pos s own
  let pos := Vector.ofFn (fun (i : Fin 8) =>
    { vget pos i.val with reachable := i.val == own || (near.contains i.val && decide (i.val < s)) })
  let d := modGl (fun g => { g with pos := pos, ring := ringOf pos s }) d
  let d := modGl (fun g => { g with positionFault := d.misplaced }) d
  let d := match changed with
    | some p => linkEvent p d
    | none => if was.ring != d.gl.ring || was.positionFault != d.gl.positionFault then linkEvent 0 d else d
  let lost := (List.range s).any (fun i => (vget was.pos i).reachable && !(vget pos i).reachable)
  if d.master && d.gl.ring == .split && lost then ladderL2 d else d

/-! ## Ports (R370) -/

/-- GLIGIL_PORT_UP: the link identity of the neighbour and the hop latency measured. -/
def execGligilPortUp (p : Fin 3) (neighbour : Fin 8) (variant : Half) (uid : DWord) (latency : Half) (s : State) :
    Host.Outcome State Fault Refusal :=
  glD s fun d =>
    if (d.gl.port p).up then d
    else
      let d := modPort p (fun x => { x with up := true, neighbour := neighbour, latency := latency.toNat }) d
      let d := if p.val < 2 then
          modGl (fun g => { g with pos := vmod g.pos neighbour (fun x =>
            { x with variant := variant, uid := uid.setWidth 32 }) }) d
        else d
      ringUpdate (some p) d

/-- GLIGIL_PORT_DOWN. -/
def execGligilPortDown (p : Fin 3) (s : State) : Host.Outcome State Fault Refusal :=
  glD s fun d =>
    if !(d.gl.port p).up then d
    else
      let d := ringUpdate (some p) (modPort p (fun x => { x with up := false }) d)
      if p = 2 then pairDown d else d

/-- RING_STATUS_FRAME (R383): from its own position the device sends its frame; one received reports a position, its
station safe state (R210), and a qualified PFW (R552), which the master passes on and every device follows. -/
def execRingStatusFrame (src : Fin 8) (st : PosStatus) (safe pfw : Bool) (s : State) : Host.Outcome State Fault Refusal :=
  glD s fun d =>
    if src.val = d.sys.stackPos.toNat then sendStatus d
    else
      let d := modGl (fun g => { g with pos := vmod g.pos src (fun x => { st with reachable := x.reachable }) }) d
      let d := ringUpdate none d
      let d := if safe then enterSafe d else d
      let was := d.pfwOn
      let d := { d with pwr := { d.pwr with pfwAt := vset d.pwr.pfwAt src pfw } }
      if d.pfwOn then (if d.master && !was then enterHold (sendStatus d) else enterHold d)
      else if was then leaveHold (if d.master then sendStatus d else d)
      else d

/-- FENCE_NOTICE_RECEIVED (R387): cause 7. -/
def execFenceNoticeReceived (s : State) : Host.Outcome State Fault Refusal :=
  glD s fun d => if d.master then d else fence 7 d

/-! ## Class 2 frames (R369) -/

/-- GLIGIL_RETRANSMIT: a frame is sent again at most 8 times. Forwarding and pair traffic goes on port P. -/
def execGligilRetransmit (seq : Half) (s : State) : Host.Outcome State Fault Refusal :=
  glD s fun d =>
    match d.gl.pendingTx.find? (fun f => f.seq == seq) with
    | none => d
    | some f =>
      let again := fun (x : GlPending) => if x.seq == seq then { x with tries := x.tries + 1 } else x
      let left := if f.tries + 1 < 8 then d.gl.pendingTx.map again else d.gl.pendingTx.filter (fun x => x.seq != seq)
      let d := modGl (fun g => { g with pendingTx := left }) d
      let onP := f.kind == 0x31 || decide (0x40 ≤ f.kind)
      emit (.gligil (if onP then glP else d.ringPort f.dst) 2 f.kind f.dst f.data) d

/-- GLIGIL_ACK_RECEIVED. -/
def execGligilAckReceived (src : Fin 8) (seq : Half) (s : State) : Host.Outcome State Fault Refusal :=
  glD s (modGl fun g => { g with pendingTx := g.pendingTx.filter (fun f => !(f.seq == seq && f.dst == src.val)) })

/-! ## Scheduled traffic -/

/-- GLIGIL_CONFIRM_FRAME (R164): for the cycle in progress. -/
def execGligilConfirmFrame (src : Fin 8) (t : Fin 8) (cycle : Word) (s : State) : Host.Outcome State Fault Refusal :=
  glD s fun d =>
    let k := d.task t
    if !d.master || cycle != k.counter || !(k.st == .execute || k.st == .ready) then d
    else modGl (fun g => { g with confirmed := vmod g.confirmed t (fun b => b ||| (1#8 <<< src.val)) }) d

/-- GLIGIL_COMMIT_DECISION (R374). -/
def execGligilCommitDecision (t : Fin 8) (cycle : Word) (commit : Bool) (s : State) : Host.Outcome State Fault Refusal :=
  glD s fun d =>
    if d.master || cycle != (d.task t).counter then d
    else modGl (fun g => { g with decision := vset g.decision t (some commit) }) d

/-- A working value of a block on another device: its last value replaces an earlier one (R165, R193). -/
def takeWorking (t block key : Nat) (value : Word) (quality : Byte) (prov : Bool) (d : Dev) : Dev :=
  let k := d.task t
  if !(k.st == .execute || k.st == .ready || k.st == .late) then d
  else
    let ws := ((mget k.runs block).map (fun (r : Run) => r.exec.writes)).getD []
    let r : Run := {
      exec := { block := block, writes := ws.filter (fun w => w.key != key) ++ [⟨key, value, quality⟩] }
      provisional := prov, remote := true }
    settle t (modTask t (fun k => { k with runs := mput k.runs block r }) d)

/-- A stack publication: each of its readers latches it at its next input freeze (R151, R375). -/
def takePublication (id : Word) (tv : TV) (d : Dev) : Dev :=
  let im := d.prog.image.getD {}
  let (v, d) := readTV .gligil id tv d
  (List.range im.nI).foldl (fun d el =>
    let x := im.iOf el
    if x.source = 8 && x.id == id then modProg (fun p => { p with fieldIn := mput p.fieldIn el v }) d else d) d

/-- GLIGIL_SCHEDULED_DATA. -/
def execGligilScheduledData (vals : List SchedVal) (s : State) : Host.Outcome State Fault Refusal :=
  glD s fun d => vals.foldl (fun d v =>
    match v with
    | .publication id tv => takePublication id tv d
    | .working t block key value quality prov => takeWorking t block key value quality prov d) d

/-! ## STACK_STATUS (R383) -/

/-- An entry of Table 9.12: the tick phase error of a device that is not the master is a measurement of its own, open
here. -/
def posBytes (p : Nat) (x : PosStatus) : Bytes :=
  leBytes 1 p ++ leBytes 1 (b2n x.reachable) ++ leBytes 2 x.variant.toNat ++ leBytes 4 x.uid.toNat ++
    leBytes 1 (b2n x.portA) ++ leBytes 1 (b2n x.portB) ++ leBytes 1 x.portP ++ zeros 1 ++ leBytes 2 x.latency.toNat ++
    leBytes 2 x.phase.toNat ++ leBytes 4 x.discA.toNat ++ leBytes 4 x.discB.toNat ++ leBytes 4 x.discP.toNat ++ zeros 4

/-- STACK_STATUS (R383). -/
def execStackStatus (o : Origin) (s : State) : Host.Outcome State Fault Refusal :=
  runCmd s o 0x0706 (fun d _ => !d.gligil)
    (fun _ _ p => [lenIs p 4, resv p [(1, 3)], (decide (1 < byteAt p 0), stBadParam)])
    (fun _ d p =>
      let own := d.sys.stackPos.toNat
      let (x, d) : Nat × Dev := if d.master then (0, d) else freshNat d
      let pos := vset d.gl.pos own { d.ownStatus with phase := BitVec.ofNat 16 x }
      let near := ((List.range d.stackS).filter (fun i => (vget pos i).reachable)).length
      let state := if d.master then 0 else if d.gl.tickLost then 2 else 1
      let head := leBytes 1 d.stackS ++ leBytes 1 near ++ leBytes 1 own ++ leBytes 1 state ++
        leBytes 1 d.gl.ring.code ++ zeros 11
      let clear := fun (x : GlPort) => { x with discarded := 0 }
      let d := if (byteAt p 0).testBit 0 then
          modGl (fun g => { g with portA := clear g.portA, portB := clear g.portB, portP := clear g.portP }) d
        else d
      (d, .ok (head ++ (List.range 8).flatMap (fun i => posBytes i (vget pos i)))))

end Sys2Proof.Machine
end

