-- ==== Sys2Proof/Machine/Network.lean ====
section
/-!
DEFINITION. Machine/Network.lean: the Ethernet ports, HSR and PRP, PTP, and the station protocol: announcements,
partners, value sets, subscriptions and event frames (R335 to R356, R377 to R380).
-/

namespace Sys2Proof.Machine

open Sys2Proof

/-! ## Links -/

/-- Ports in use: A alone in SINGLE (Table 9.2). -/
def Dev.portUsed (d : Dev) (p : Nat) : Bool := p == 0 || d.net.cfg.mode != 0

def Dev.linkUp (d : Dev) (p : Nat) : Bool := d.portUsed p && (if p = 0 then d.net.linkA else d.net.linkB)

/-- A change of a port's link (R336). The network comes up with its first link (R401). -/
def linkChange (p : Nat) (up : Bool) (d : Dev) : Dev :=
  let was := if p = 0 then d.net.linkA else d.net.linkB
  if was == up || (up && !d.portUsed p) then d
  else
    let none_ := !d.net.linkA && !d.net.linkB
    let d := modNet (fun n => if p = 0 then { n with linkA := up } else { n with linkB := up }) d
    let d := if up && none_ then
        { d with red := { d.red with lease := { d.red.lease with netUpTick := d.tick } } } else d
    pairDown (raise (if p = 0 then .portALink else .portBLink) (b2n up) d)

/-- ETH_LINK_CHANGE (R336). -/
def execEthLinkChange (p : Fin 2) (up : Bool) (s : State) : Host.Outcome State Fault Refusal := nextD s (linkChange p up)

/-! ## ARP, ICMP and IGMP (Table 9.1) -/

/-- ARP_REQUEST_RECEIVED (R335). -/
def execArpRequestReceived (p : Fin 2) (target sender : Word) (s : State) : Host.Outcome State Fault Refusal :=
  nextD s fun d => if d.linkUp p && d.net.cfg.ip != 0 && target == d.net.cfg.ip then emit (.arpReply sender) d else d

/-- ICMP_ECHO_REQUEST_RECEIVED (R335). -/
def execIcmpEchoRequestReceived (p : Fin 2) (dst src : Word) (data : Bytes) (s : State) :
    Host.Outcome State Fault Refusal :=
  nextD s fun d => if d.linkUp p && d.net.cfg.ip != 0 && dst == d.net.cfg.ip then emit (.icmpReply src data) d else d

/-- The groups that the device is a member of. -/
def Dev.joined (d : Dev) : List Word :=
  if d.net.cfg.ip = 0 then [] else (if d.master then [announceGroup] else []) ++ d.net.groups

/-- IGMP_QUERY_RECEIVED (R335): a general query has group 0. -/
def execIgmpQueryReceived (p : Fin 2) (group : Word) (s : State) : Host.Outcome State Fault Refusal :=
  nextD s fun d =>
    if d.linkUp p then emitAll ((d.joined.filter (fun g => group == 0 || g == group)).map (.igmpReport ·)) d else d

/-! ## HSR and PRP (R337 to R339) -/

def redError (kind port : Nat) (d : Dev) : Dev := raise .hsrPrpError (kind + 8 * port) d

/-- HSR_SUPERVISION_SEND (R338, R339): the supervision frames of this interval, and the nodes that have been heard on
one port only for three intervals; the port reported is the silent one (log entry 20). -/
def execHsrSupervisionSend (s : State) : Host.Outcome State Fault Refusal :=
  nextD s fun d =>
    if d.net.cfg.mode = 0 then d
    else
      let d := emitAll [.eth 0 0 [], .eth 1 0 []] d
      let one := fun (n : Node) => n.seenA != n.seenB
      let silent := (d.net.nodes.filter (fun n => one n && n.onePort == 2)).map (fun n => if n.seenA then 1 else 0)
      let d := modNet (fun x => { x with nodes := x.nodes.map (fun (n : Node) =>
        { n with onePort := if one n then n.onePort + 1 else 0, seenA := false, seenB := false }) }) d
      silent.foldl (fun d p => redError 2 p d) d

/-- A frame's source enters the node table (R338); a full table is an error (R339). -/
def nodeSeen (p : Nat) (fr : RedFrame) (d : Dev) : Dev :=
  let mark := fun (n : Node) =>
    if fr.supervision then { n with seenA := n.seenA || p == 0, seenB := n.seenB || p == 1 } else n
  if d.net.nodes.any (fun n => n.mac == fr.mac) then
    modNet (fun x => { x with nodes := x.nodes.map (fun (n : Node) => if n.mac == fr.mac then mark n else n) }) d
  else if d.net.nodes.length < 512 then
    modNet (fun x => { x with nodes := x.nodes ++ [mark { mac := fr.mac }] }) d
  else redError 3 p d

/-- The MAC address of port A in the factory fuse block (Table 14.1). -/
def macA (m : Mems) : Nat := fromLe (Memory.readN 0 m.fuse 0x18 6)

/-- HSR_PRP_FRAME_RECEIVED (R337, R339): wrong tags are reported; the copies of a frame within 400 ms are discarded;
HSR frames for others go on to the other port, and the device's own are removed. -/
def execHsrPrpFrameReceived (p : Fin 2) (fr : RedFrame) (s : State) : Host.Outcome State Fault Refusal :=
  nextR s fun m d =>
    if d.net.cfg.mode = 0 || !d.linkUp p then d
    else
      let d := match fr.tag with
        | .prp lanB =>
          if d.net.cfg.mode = 2 then redError 4 p d
          else if lanB != (p.val == 1) then redError 1 p d else d
        | .hsr => if d.net.cfg.mode = 1 then redError 4 p d else d
        | .none => d
      let own := fr.mac == macA m || fr.mac == macA m + 1
      if own then d
      else
        let d := nodeSeen p fr d
        let key := 2 * fr.mac + p.val
        let live := d.net.dups.filter (fun x => decide (d.tick < x.2.2 + 8000))
        let again := live.any (fun x => x.1 == key && x.2.1 == fr.seq)
        let d := modNet (fun n => { n with dups := if again then live else live ++ [(key, fr.seq, d.tick)] }) d
        if d.net.cfg.mode = 2 && !fr.forMe && !again then emit (.eth (1 - p.val) 1 fr.data) d else d

/-- HSR_NODE_AGEOUT (R338). -/
def execHsrNodeAgeout (mac : Nat) (s : State) : Host.Outcome State Fault Refusal :=
  nextD s (modNet fun n => { n with nodes := n.nodes.filter (fun x => x.mac != mac) })

/-! ## PTP (R340, R341) -/

def modPtp (f : Ptp → Ptp) (d : Dev) : Dev := modNet (fun n => { n with ptp := f n.ptp }) d

/-- PTP_LOCK_CHANGE; an unlocked clock no longer gives the leap offset (R341, R474). -/
def ptpChange (gm : Bool) (d : Dev) : Dev :=
  let l := d.net.ptp.locked
  raise .ptpLockChange (b2n l + 2 * b2n gm)
    (if l then d else { d with rtc := { d.rtc with leapFromPtp := false } })

/-- The lock is set or lost. -/
def setLock (l : Bool) (d : Dev) : Dev :=
  if d.net.ptp.locked == l then d else ptpChange false (modPtp (fun p => { p with locked := l, good := 0, bad := 0 }) d)

/-- The order of the best-master comparison: smaller is better. -/
def PtpMaster.rank (m : PtpMaster) : List Nat :=
  [m.priority1, m.clockClass, m.accuracy, m.variance, m.priority2, m.gmId.toNat, m.steps]

def rankLess : List Nat → List Nat → Bool
  | a :: as, b :: bs => decide (a < b) || (a == b && rankLess as bs)
  | _, _ => false

/-- The device's own clock (PRESUMED, log entry 21). -/
def Dev.ownClock (d : Dev) : PtpMaster :=
  { priority1 := d.net.ptp.cfg.priority1, clockClass := 248, accuracy := 0xFE, variance := 0xFFFF,
    priority2 := d.net.ptp.cfg.priority2, gmId := d.sender, steps := 0 }

/-- The master that the clock follows: port A's unless it has none (Table 9.3). -/
def Dev.bestMaster (d : Dev) : Option (Nat × PtpMaster) :=
  match d.net.ptp.masterA, d.net.ptp.masterB with
  | some m, _ => some (0, m)
  | none, some m => if d.net.cfg.mode = 0 then none else some (1, m)
  | none, none => none

/-- The state decision: slave of the best master, or master itself where it is better and may be (R340). `alone`: the
wait for an Announce has ended. -/
def ptpDecide (alone : Bool) (d : Dev) : Dev :=
  let p := d.net.ptp
  let own := d.ownClock
  let (master, port, gm, steps) : Bool × Nat × DWord × Nat := match d.bestMaster with
    | some (k, m) =>
      if !p.cfg.slaveOnly && rankLess own.rank m.rank then (true, 0, own.gmId, 0) else (false, k, m.gmId, m.steps + 1)
    | none => if !p.cfg.slaveOnly && (alone || p.isMaster) then (true, 0, own.gmId, 0) else (false, 0, p.gmId, p.steps)
  let d := modPtp (fun p => { p with isMaster := master, port := port, gmId := gm, steps := steps }) d
  let changed := gm != p.gmId
  let unlock := p.locked && (master || d.bestMaster.isNone)
  let d := if unlock then modPtp (fun p => { p with locked := false, good := 0, bad := 0 }) d else d
  if changed || unlock then ptpChange changed d else d

/-- PTP_ANNOUNCE_RECEIVED (R341, R472): the grandmaster's leap offset, and the leap that it announces for the end of
the UTC day. -/
def execPtpAnnounceReceived (p : Fin 2) (m : PtpMaster) (utc : Int) (valid leap59 leap61 : Bool) (s : State) :
    Host.Outcome State Fault Refusal :=
  nextD s fun d =>
    if !d.net.ptp.cfg.enable || !d.linkUp p then d
    else
      let d := ptpDecide false (modPtp (fun x =>
        if p = 0 then { x with masterA := some m } else { x with masterB := some m }) d)
      if !(d.discActive && valid && !d.net.ptp.isMaster && d.net.ptp.port == p.val) then d
      else
        let n := utc - 32
        let old := d.rtc
        let day := ((d.rtc.sec.toNat - n) / 86400 + 1) * 86400
        let step : Int := if leap61 then 1 else if leap59 then -1 else 0
        let at_ : DWord := BitVec.ofInt 64 ((day + n + step) * 2 ^ 24)
        let r := { d.rtc with
          leapFromPtp := true, leap := n, leapPend := if step = 0 then d.rtc.leapPend else some (n + step, at_) }
        let d := { d with rtc := r }
        if old.leap = n && old.leapPend = r.leapPend then d else confChanged d

/-- PTP_ANNOUNCE_RECEIPT_TIMEOUT (R340). -/
def execPtpAnnounceReceiptTimeout (p : Fin 2) (s : State) : Host.Outcome State Fault Refusal :=
  nextD s fun d =>
    if !d.net.ptp.cfg.enable then d
    else ptpDecide true (modPtp (fun x => if p = 0 then { x with masterA := none } else { x with masterB := none }) d)

/-- PTP_SYNC_RECEIVED (R341): the offset from the master, in ns. -/
def execPtpSyncReceived (p : Fin 2) (offset : Int) (s : State) : Host.Outcome State Fault Refusal :=
  nextD s fun d =>
    let x := d.net.ptp
    if !x.cfg.enable || x.isMaster || d.bestMaster.isNone || x.port != p.val then d
    else
      let good := if offset.natAbs < 1000 then min 16 (x.good + 1) else 0
      let bad := if 10000 < offset.natAbs then min 4 (x.bad + 1) else 0
      let d := modPtp (fun x => { x with offset := offset, good := good, bad := bad }) d
      if !x.locked && good = 16 then setLock true d
      else if x.locked && bad = 4 then setLock false d else d

/-- PTP_SYNC_TIMEOUT (R341). -/
def execPtpSyncTimeout (s : State) : Host.Outcome State Fault Refusal :=
  nextD s fun d => setLock false (modPtp (fun x => { x with good := 0 }) d)

/-- The ports that PTP messages leave on. -/
def Dev.ptpPorts (d : Dev) : List Nat := (List.range 2).filter (fun p => d.linkUp p)

/-- PTP_SEND_TIMER (R340): 0 Sync with Follow_Up, 1 Announce, 2 Delay_Req or Pdelay_Req. -/
def execPtpSendTimer (kind : Fin 3) (s : State) : Host.Outcome State Fault Refusal :=
  nextD s fun d =>
    let x := d.net.ptp
    let send := fun (t : Nat) => d.ptpPorts.map (fun p => Out.ptp p t [])
    if !x.cfg.enable then d
    else if kind = 0 then (if x.isMaster then emitAll (send 0 ++ send 8) d else d)
    else if kind = 1 then (if x.isMaster then emitAll (send 0xB) d else d)
    else if x.cfg.p2p then emitAll (send 2) d
    else if !x.isMaster && d.bestMaster.isSome then emit (.ptp x.port 1 []) d else d

/-- PTP_DELAY_REQ_RECEIVED (R340). -/
def execPtpDelayReqReceived (p : Fin 2) (pdelay : Bool) (data : Bytes) (s : State) :
    Host.Outcome State Fault Refusal :=
  nextD s fun d =>
    let x := d.net.ptp
    if !x.cfg.enable || !d.linkUp p then d
    else if pdelay then (if x.cfg.p2p then emitAll [.ptp p 3 data, .ptp p 0xA data] d else d)
    else if x.isMaster && !x.cfg.p2p then emit (.ptp p 9 data) d else d

/-- PTP_DELAY_RESP_RECEIVED (R340). -/
def execPtpDelayRespReceived (p : Fin 2) (delay : Int) (s : State) : Host.Outcome State Fault Refusal :=
  nextD s fun d =>
    let x := d.net.ptp
    if !x.cfg.enable || x.port != p.val then d else modPtp (fun x => { x with delay := delay }) d

/-! ## Announcements (R346 to R348) -/

/-- A page of the announcement (Table 9.6). -/
def announcePage (d : Dev) (page pages : Nat) (sets : List SetDecl) : Bytes :=
  beBytes 2 d.variant ++ beBytes 1 (d.field 23 16) ++ beBytes 1 (max 1 d.otp.settings.stackSize) ++
    beBytes 4 (if d.red.lease.state.holds then d.red.lease.epoch.toNat else 0) ++
    beBytes 8 ((d.prog.image.map (fun (im : Image) => im.imageId.toNat)).getD 0) ++ beBytes 2 d.net.cfg.announcePeriod ++
    beBytes 1 page ++ beBytes 1 pages ++ beBytes 2 sets.length ++ zeros 2 ++
    sets.flatMap (fun s => beBytes 2 s.setNo ++ beBytes 2 s.items.length ++ beBytes 4 (d.task s.task).cfg.period ++
      beBytes 4 s.signature.toNat ++ beBytes 4 s.group.toNat)

/-- The ANNOUNCE pages leave: not while fenced or in safe state (R607), and for the stack from its master. -/
def announce (d : Dev) : Dev :=
  if d.stopped || !d.master || !d.sys.fwReady || d.sys.recovery || d.net.cfg.partnerId = 0 then d
  else
    let pages := match chunks 64 (d.pubSets.take 256) with
      | [] => [[]]
      | l => l
    (List.range pages.length).foldl (fun d i =>
      stationTo announceGroup 0x01 (announcePage d i pages.length (lget pages i)) d) d

/-- ANNOUNCE_SEND (R346). -/
def execAnnounceSend (s : State) : Host.Outcome State Fault Refusal := nextD s announce

/-- The announced sets of a page. -/
def annSets (p : Bytes) : List AnnSet :=
  (List.range (getBe p 20 2)).map fun i =>
    { setNo := getBe p (24 + 16 * i) 2, count := getBe p (26 + 16 * i) 2, period := getBe p (28 + 16 * i) 4,
      signature := BitVec.ofNat 32 (getBe p (32 + 16 * i) 4), group := BitVec.ofNat 32 (getBe p (36 + 16 * i) 4) }

/-- An announcement whose payload follows Table 9.6. -/
def announceOk (h : StHeader) : Bool :=
  let p := h.payload
  decide (24 ≤ p.length) && decide (getBe p 20 2 ≤ 64) && p.length == 24 + 16 * getBe p 20 2 &&
    decide (1 ≤ byteAt p 19 ∧ byteAt p 19 ≤ 4) && decide (byteAt p 18 < byteAt p 19) && allZero p 22 2 &&
    h.partner != 0 && h.partner != 0xFFFFFFFF

/-- An entry takes an announcement. -/
def annUpdate (ip : Word) (h : StHeader) (tick : Nat) (p : Partner) : Partner :=
  let x := h.payload
  let sets := annSets x
  { p with
    state := .present, role := h.role, partnerId := h.partner, sender := h.sender, ip := ip
    variant := BitVec.ofNat 16 (getBe x 0 2), leaseEpoch := BitVec.ofNat 32 (getBe x 4 4)
    imageId := BitVec.ofNat 64 (getBe x 8 8), annPeriod := getBe x 16 2, lastAnn := tick
    sets := if byteAt x 18 = 0 then sets
      else p.sets.filter (fun a => !sets.any (fun b => b.setNo == a.setNo)) ++ sets }

/-- Subscriptions refused by an image that the partner no longer runs are requested again (R351). -/
def retryRefused (pid : Word) (image : DWord) (d : Dev) : Dev :=
  (d.subsOf pid).foldl (fun d i =>
    if (d.sub i).state == .refused && (d.sub i).refusedImage != image then sendSubscribe i d else d) d

/-- An ANNOUNCE is taken (R347 to R349). -/
def announced (ip : Word) (h : StHeader) (d : Dev) : Dev :=
  let old := d.selectSender h.partner
  match d.partnerOf h.partner h.sender with
  | some k =>
    let d := modPartner k (annUpdate ip h d.tick) d
    let d := senderChanged h.partner old d
    if d.selectSender h.partner == some k then retryRefused h.partner (lget d.net.partners k).imageId d else d
  | none =>
    match d.newEntry with
    | none => modNet (fun n => { n with dropped := min 0xFFFFFFFF (n.dropped + 1) }) d
    | some k =>
      let e := annUpdate ip h d.tick {}
      let d := modNet (fun n => { n with
        partners := if k < n.partners.length then n.partners.set k e else n.partners ++ [e] }) d
      senderChanged h.partner old (raise .partnerNew k d)

/-- ANNOUNCE_RECEIVED (R347): the stack master keeps the partner table (R336). -/
def execAnnounceReceived (ip : Word) (data : Bytes) (s : State) : Host.Outcome State Fault Refusal :=
  nextD s fun d =>
    if !d.master then d
    else withStation 0x01 data d fun h => if announceOk h then announced ip h d else countDiscard d

/-- ANNOUNCE_TIMEOUT (R348, cause 1). -/
def execAnnounceTimeout (k : Fin 512) (s : State) : Host.Outcome State Fault Refusal :=
  nextD s fun d =>
    let p := lget d.net.partners k
    if p.lastAnn + d.net.cfg.lossCount * p.annPeriod * 20 ≤ d.tick then partnerLost k 1 d else d

/-- WITHDRAW_RECEIVED (R348, cause 4). -/
def execWithdrawReceived (ip : Word) (data : Bytes) (s : State) : Host.Outcome State Fault Refusal :=
  nextD s fun d =>
    withStation 0x02 data d fun h =>
      match d.partnerOf h.partner h.sender with
      | some k => if (lget d.net.partners k).ip == ip then partnerLost k 4 d else d
      | none => d

/-- DATAGRAM_REJECTED (R345): a datagram that fails its framing, or arrived fragmented where it must not. -/
def execDatagramRejected (data : Bytes) (fragmented : Bool) (s : State) : Host.Outcome State Fault Refusal :=
  nextD s fun d =>
    let mailbox := getBe data 3 1 == 0x20 || getBe data 3 1 == 0x21
    if d.net.cfg.ip = 0 then d
    else match stationParse data with
      | none => countDiscard d
      | some _ => if fragmented && !mailbox then countDiscard d else d

/-! ## Value sets (R349 to R353) -/

/-- Values in a fragment of a set of COUNT values. -/
def fragLen (count frags frag : Nat) : Nat := if frag + 1 = frags then count - 176 * (frags - 1) else 176

/-- A fragment that belongs to a set of COUNT values (R352). -/
def fragOk (count : Nat) (p : Bytes) : Bool :=
  let frags := (count + 175) / 176
  byteAt p 3 == frags && decide (byteAt p 2 < frags) && getBe p 8 2 == 176 * byteAt p 2 &&
    getBe p 10 2 == fragLen count frags (byteAt p 2) && p.length == 16 + 8 * getBe p 10 2 && allZero p 12 4

/-- The tagged values of a fragment. -/
def fragValues (p : Bytes) : List TV := (List.range (getBe p 10 2)).map (fun j => tvOfWord (getBe p (16 + 8 * j) 8))

/-- A complete instance: its values go to the owning task's inputs (R43, R152) and it is acknowledged (R352). -/
def instanceHeld (i : Nat) (x : SetDecl) (k : Nat) (cycle : Word) (vals : List TV) (d : Dev) : Dev :=
  let im := d.prog.image.getD {}
  let d := modSub i (fun u => { u with
    lastCycle := some cycle, lastFrom := (lget d.net.partners k).sender, held := min 0xFFFFFFFF (u.held + 1), asmCycle := none, asmFrags := [] }) d
  let d := if d.mayExchange then
      stationTo (lget d.net.partners k).ip 0x11 (beBytes 2 x.setNo ++ zeros 2 ++ beBytes 4 cycle.toNat) d
    else d
  (List.range x.items.length).foldl (fun d j =>
    let el := (lget x.items j).2
    let (v, d) := readTV .network (im.idOf spI el) (lget vals j) d
    arrive x.task el v d) d

/-- A fragment of the subscribed set i is taken (R352): a cycle that is not greater than the last held is discarded, but
for a new sender's (R349). -/
def takeFragment (i : Nat) (x : SetDecl) (k : Nat) (p : Bytes) (d : Dev) : Dev :=
  let u := d.sub i
  let cycle : Word := BitVec.ofNat 32 (getBe p 4 4)
  let frag := byteAt p 2
  let same := u.lastFrom == (lget d.net.partners k).sender
  if !fragOk x.items.length p then countDiscard d
  else if same && u.lastCycle == some cycle then countDiscard d
  else if same && u.lastCycle.any (fun c => !seqGreater cycle c) then d
  else
    let fresh := match u.asmCycle with
      | none => true
      | some c => seqGreater cycle c
    if !fresh && u.asmCycle != some cycle then d
    else if !fresh && (mget u.asmFrags frag).isSome then countDiscard d
    else
      let frags := mput (if fresh then [] else u.asmFrags) frag (fragValues p)
      if frags.length = (x.items.length + 175) / 176 then
        instanceHeld i x k cycle (frags.flatMap (·.2)) d
      else modSub i (fun u => { u with asmCycle := some cycle, asmFrags := frags }) d

/-- The subscription that a datagram's sender and set number name, with the sender's entry (R349). -/
def Dev.subFrom (d : Dev) (h : StHeader) (setNo : Nat) : Option (Nat × Nat) :=
  match d.partnerOf h.partner h.sender with
  | none => none
  | some k =>
    if d.selectSender h.partner == some k then
      ((List.range d.subSets.length).find? (fun i =>
        (lget d.subSets i).partner == h.partner && (lget d.subSets i).setNo == setNo)).map (fun i => (i, k))
    else none

/-- SET_DATA_RECEIVED (R352). -/
def execSetDataReceived (ip : Word) (data : Bytes) (s : State) : Host.Outcome State Fault Refusal :=
  nextD s fun d =>
    if !d.master then d
    else withStation 0x10 data d fun h =>
      match d.subFrom h (getBe h.payload 0 2) with
      | some (i, k) =>
        if (d.sub i).state == .active && (lget d.net.partners k).ip == ip then
          takeFragment i (lget d.subSets i) k h.payload d
        else d
      | none => d

/-- SET_ACK_RECEIVED (R352). -/
def execSetAckReceived (ip : Word) (data : Bytes) (s : State) : Host.Outcome State Fault Refusal :=
  nextD s fun d =>
    withStation 0x11 data d fun h =>
      let n := getBe h.payload 0 2
      let c : Word := BitVec.ofNat 32 (getBe h.payload 4 4)
      if h.payload.length != 8 then countDiscard d
      else modNet (fun x => { x with subscribers := x.subscribers.map (fun (y : Subscriber) =>
        if y.setNo == n && y.partnerId == h.partner && y.sender == h.sender && y.ip == ip &&
            y.lastAck.all (fun l => seqGreater c l) then { y with lastAck := some c } else y) }) d

/-! ## Subscriptions (R351, R356) -/

/-- The answer to a request for a value set (R351). -/
def Dev.subscribeResult (d : Dev) (h : StHeader) : Nat :=
  let n := getBe h.payload 0 2
  match d.pubSets.find? (fun s => s.setNo == n) with
  | none => 1
  | some x =>
    let others := d.net.subscribers.filter (fun y =>
      y.setNo == n && !y.lost && !(y.partnerId == h.partner && y.sender == h.sender))
    if getBe h.payload 4 4 != x.signature.toNat then 2
    else if 32 ≤ others.length then 3
    else if getBe h.payload 8 4 < (d.task x.task).cfg.period then 4
    else 0

def subscribeAnswer (ip : Word) (n r : Nat) (d : Dev) : Dev := stationTo ip 0x13 (beBytes 2 n ++ beBytes 1 r ++ zeros 1) d

/-- SUBSCRIBE_REQ_RECEIVED (R351, R356, R607). -/
def execSubscribeReqReceived (ip : Word) (data : Bytes) (s : State) : Host.Outcome State Fault Refusal :=
  nextD s fun d =>
    withStation 0x12 data d fun h =>
      let n := getBe h.payload 0 2
      if h.payload.length != 12 || !allZero h.payload 2 2 then countDiscard d
      else if n = 0xFFFF then
        let others := d.net.evSubs.filter (fun y => !(y.partnerId == h.partner && y.sender == h.sender))
        if getBe h.payload 4 4 != 0 then subscribeAnswer ip n 2 d
        else if 8 ≤ others.length then subscribeAnswer ip n 3 d
        else subscribeAnswer ip n 0 (modNet (fun x => { x with evSubs := others ++ [⟨h.partner, h.sender, ip⟩] }) d)
      else if d.stopped || !d.master then d
      else
        let r := d.subscribeResult h
        if r != 0 then subscribeAnswer ip n r d
        else
          let t := ((d.pubSets.find? (fun s => s.setNo == n)).map (fun (s : SetDecl) => s.task)).getD 0
          let y : Subscriber := {
            setNo := n, partnerId := h.partner, sender := h.sender, ip := ip, lastAck := some ((d.task t).counter - 1) }
          let others := d.net.subscribers.filter (fun y =>
            !(y.setNo == n && y.partnerId == h.partner && y.sender == h.sender))
          subscribeAnswer ip n 0 (modNet (fun x => { x with subscribers := others ++ [y] }) d)

/-- SUBSCRIBE_RESP_RECEIVED (R351): accepted, the set's group is joined. -/
def execSubscribeRespReceived (ip : Word) (data : Bytes) (s : State) : Host.Outcome State Fault Refusal :=
  nextD s fun d =>
    withStation 0x13 data d fun h =>
      if h.payload.length != 4 then countDiscard d
      else match d.subFrom h (getBe h.payload 0 2) with
        | none => d
        | some (i, k) =>
          let p := lget d.net.partners k
          let r := byteAt h.payload 2
          if (d.sub i).state != .requested || p.ip != ip then d
          else if r != 0 then modSub i (fun u => { u with state := .refused, reason := r, refusedImage := p.imageId }) d
          else
            let d := modSub i (fun u => { u with state := .active, reason := 0 }) d
            match p.sets.find? (fun a => a.setNo == (lget d.subSets i).setNo) with
            | some a =>
              if d.net.groups.contains a.group then d
              else emit (.igmpReport a.group) (modNet (fun n => { n with groups := n.groups ++ [a.group] }) d)
            | none => d

/-- SUBSCRIBE_RETRY (R351). -/
def execSubscribeRetry (k : Fin 256) (s : State) : Host.Outcome State Fault Refusal :=
  nextD s fun d => if (d.sub k).state == .requested then sendSubscribe k d else d

/-- An event record with its fields big-endian (Table 9.5). -/
def eventBe (r : Bytes) : Bytes :=
  r.take 2 ++ (slice r 2 2).reverse ++ (slice r 4 4).reverse ++ (slice r 8 8).reverse

/-- EVENT_FRAME_SEND (R87, R356). -/
def execEventFrameSend (s : State) : Host.Outcome State Fault Refusal :=
  nextD s fun d =>
    let frames := (chunks 32 d.evt.netQueue).map (fun rs => rs.flatMap eventBe)
    let subs := d.net.evSubs
    let d := { d with evt := { d.evt with netQueue := [] } }
    subs.foldl (fun d x => frames.foldl (fun d f => stationTo x.ip 0x30 f d) d) d

/-! ## NET_CONFIG (R377) -/

/-- A unicast address under a netmask (R377). -/
def unicast (ip mask : Nat) : Bool :=
  let o := ip / 2 ^ 24
  let host := 2 ^ 32 - 1 - mask
  decide (1 ≤ o ∧ o ≤ 223) && o != 127 &&
    (decide (host ≤ 1) || (ip % (host + 1) != 0 && ip % (host + 1) != host))

/-- A contiguous netmask. -/
def maskOk (mask : Nat) : Bool := (List.range 33).any (fun k => mask + 2 ^ k == 2 ^ 32)

def netCfgOf (p : Bytes) : NetCfg :=
  { mode := byteAt p 0, flags := BitVec.ofNat 8 (byteAt p 1), pcp := byteAt p 2, dscp := byteAt p 3, vid := getLe p 4 2,
    announcePeriod := getLe p 6 2, ip := w32 (getLe p 8 4), mask := w32 (getLe p 12 4), gateway := w32 (getLe p 16 4),
    partnerId := w32 (getLe p 20 4), lossCount := byteAt p 24, sfi := slice p 28 6 }

/-- The tests of R377 on the fields alone. -/
def netCfgTests (p : Bytes) : List (Bool × Half) :=
  let c := netCfgOf p
  let ip := c.ip.toNat
  let mask := c.mask.toNat
  let gw := c.gateway.toNat
  let host := 2 ^ 32 - mask
  [ (decide (2 < c.mode) || decide (7 < c.flags.toNat) || !maskOk mask ||
      !c.sfi.all (fun b => decide (0x30 ≤ b.toNat ∧ b.toNat ≤ 0x39) || decide (0x41 ≤ b.toNat ∧ b.toNat ≤ 0x5A)),
      stBadParam),
    (decide (63 < c.dscp) || decide (c.announcePeriod < 10) || decide (1000 < c.announcePeriod) || c.partnerId == 0 ||
      c.partnerId == 0xFFFFFFFF || decide (c.lossCount < 2) || decide (10 < c.lossCount) ||
      (c.flags.getLsbD 0 && (decide (7 < c.pcp) || c.vid == 0 || decide (4094 < c.vid))), stRange),
    (ip != 0 && !unicast ip mask, stRange),
    (gw != 0 && !(unicast gw mask && ip / host == gw / host), stRange) ]

/-- What only a device without a running task may change. -/
def netFixed (a b : NetCfg) : Bool :=
  a.mode == b.mode && a.flags.getLsbD 1 == b.flags.getLsbD 1 && a.flags.getLsbD 2 == b.flags.getLsbD 2 &&
    a.ip == b.ip && a.mask == b.mask && a.gateway == b.gateway && a.partnerId == b.partnerId

/-- The settings apply: links restart with MODE or an interface, and without an address nothing is left of the station
protocol's state. -/
def netApply (c : NetCfg) (d : Dev) : Dev :=
  let o := d.net.cfg
  let restart := o.mode != c.mode || o.flags.getLsbD 1 != c.flags.getLsbD 1 || o.flags.getLsbD 2 != c.flags.getLsbD 2
  let d := if restart then linkChange 1 false (linkChange 0 false d) else d
  modNet (fun n =>
    if c.ip = 0 then { n with cfg := c, partners := [], groups := [], subscribers := [], evSubs := [],
                              subs := n.subs.map (fun e => (e.1, { e.2 with state := .idle })) }
    else { n with cfg := c }) d

/-- The tests of NET_CONFIG (R377). -/
def netTests (d : Dev) (p : Bytes) : List (Bool × Half) :=
  [lenIs p 40, resv p [(25, 3), (34, 6)]] ++ netCfgTests p ++
    [(d.cycleRun && !netFixed d.net.cfg (netCfgOf p), stNotPermitted)]

/-- NET_CONFIG (R377). -/
def execNetConfig (o : Origin) (s : State) : Host.Outcome State Fault Refusal :=
  runCmd s o 0x0700 always (fun _ d p => netTests d p)
    (fun _ d p =>
      let d := netApply (netCfgOf p) d
      (confChanged { d with pwr := { d.pwr with netConfigured := true } }, .ok []))

/-! ## PARTNER_TABLE_READ and SUBSCRIBE (R378, R379) -/

def PartnerState.code : PartnerState → Nat
  | .free => 0
  | .present => 1
  | .lost => 2

/-- An entry of Table 9.11. -/
def partnerBytes (d : Dev) (k : Nat) : Bytes :=
  let p := lget d.net.partners k
  if p.state == .free then leBytes 2 k ++ zeros 38
  else
    let active := (d.subsOf p.partnerId).filter (fun i =>
      (d.sub i).state == .active && d.selectSender p.partnerId == some k)
    let own := d.net.subscribers.filter (fun x => x.partnerId == p.partnerId && x.sender == p.sender)
    leBytes 2 k ++ leBytes 1 p.state.code ++ leBytes 1 p.role ++ leBytes 4 p.partnerId.toNat ++
      leBytes 8 p.sender.toNat ++ leBytes 4 p.ip.toNat ++ leBytes 2 p.variant.toNat ++ leBytes 2 p.sets.length ++
      leBytes 4 (min 0xFFFFFFFF ((d.tick - p.lastAnn) / 20)) ++ leBytes 1 (min 255 active.length) ++
      leBytes 1 (min 255 own.length) ++ leBytes 2 p.lostCount ++ leBytes 4 p.leaseEpoch.toNat ++
      leBytes 1 p.lossCause ++ zeros 3

/-- PARTNER_TABLE_READ (R378). -/
def execPartnerTableRead (o : Origin) (s : State) : Host.Outcome State Fault Refusal :=
  runCmd s o 0x0701 always
    (fun _ _ p => [lenIs p 4,
      (decide (511 < getLe p 0 2) || getLe p 2 2 == 0 || decide (100 < getLe p 2 2), stRange)])
    (fun _ d p =>
      let first := getLe p 0 2
      let n := min (getLe p 2 2) (512 - first)
      let used := (d.net.partners.filter (fun p => p.state != .free)).length
      (d, .ok (leBytes 2 used ++ leBytes 2 n ++ leBytes 4 d.net.dropped ++ leBytes 4 (min 0xFFFFFFFF d.net.discarded) ++
        zeros 4 ++ (List.range n).flatMap (fun i => partnerBytes d (first + i)))))

def SubState.code : SubState → Nat
  | .idle => 0
  | .requested => 1
  | .active => 2
  | .refused => 3
  | .suspended => 4
  | .partnerLost => 5

def subBytes (d : Dev) (i : Nat) : Bytes :=
  let u := d.sub i
  let x := lget d.subSets i
  leBytes 2 i ++ leBytes 1 u.state.code ++ leBytes 1 u.reason ++ leBytes 4 x.partner.toNat ++ leBytes 2 x.setNo ++
    zeros 2 ++ leBytes 4 (u.lastCycle.getD 0).toNat ++ leBytes 4 u.held ++ leBytes 4 u.stale

/-- One operation of SUBSCRIBE on a subscription. -/
def subOp (op i : Nat) (d : Dev) : Dev :=
  match op with
  | 1 => modSub i (fun u => { u with state := .suspended, asmCycle := none, asmFrags := [] }) d
  | 2 => if (d.sub i).state == .refused then d else sendSubscribe i d
  | 3 => sendSubscribe i (modSub i (fun u => { u with reason := 0 }) d)
  | _ => d

/-- SUBSCRIBE (R379). -/
def execSubscribe (o : Origin) (s : State) : Host.Outcome State Fault Refusal :=
  runCmd s o 0x0702 always
    (fun _ d p => [
      (byteAt p 0 != 0 && (d.passive || !d.master), stNotPermitted), lenIs p 8, resv p [(1, 1), (6, 2)],
      (getLe p 4 2 == 0 || decide (128 < getLe p 4 2) || decide (d.subSets.length < getLe p 2 2 + getLe p 4 2), stRange),
      (decide (3 < byteAt p 0), stBadParam)])
    (fun _ d p =>
      let is := (List.range (getLe p 4 2)).map (getLe p 2 2 + ·)
      let d := is.foldl (fun d i => subOp (byteAt p 0) i d) d
      (d, .ok (leBytes 2 d.subSets.length ++ leBytes 2 is.length ++ is.flatMap (subBytes d))))

/-! ## PTP_CONFIG (R380) -/

def ptpCfgOf (p : Bytes) : PtpCfg :=
  let f := byteAt p 1
  { domain := byteAt p 0, enable := f.testBit 0, p2p := f.testBit 1, slaveOnly := f.testBit 2, udp := f.testBit 3,
    priority1 := byteAt p 2, priority2 := byteAt p 3, logSync := toSigned 8 (byteAt p 4),
    logAnnounce := toSigned 8 (byteAt p 5), logDelay := toSigned 8 (byteAt p 6), announceTimeout := byteAt p 7 }

def Ptp.stateCode (x : Ptp) (following : Bool) : Nat :=
  if !x.cfg.enable then 0 else if x.isMaster then 2 else if !following then 1 else if x.locked then 4 else 3

/-- The response of PTP_CONFIG. -/
def ptpStatus (d : Dev) : Bytes :=
  let x := d.net.ptp
  leBytes 1 (x.stateCode d.bestMaster.isSome) ++ leBytes 1 x.port ++ zeros 2 ++
    leBytes 8 (BitVec.ofInt 64 x.offset).toNat ++ leBytes 4 (BitVec.ofInt 32 x.delay).toNat ++
    leBytes 8 x.gmId.toNat ++ leBytes 2 x.steps ++ zeros 6

/-- New PTP settings: a change of domain or transport, or a clock turned off, starts the lock anew. -/
def ptpApply (c : PtpCfg) (d : Dev) : Dev :=
  let o := d.net.ptp.cfg
  let restart := o.domain != c.domain || o.udp != c.udp || !c.enable
  let d := if restart then
      modPtp (fun x => { x with masterA := none, masterB := none, isMaster := false, good := 0, bad := 0 }) (setLock false d)
    else d
  confChanged (modPtp (fun x => { x with cfg := c }) d)

/-- The tests of PTP_CONFIG (R380). -/
def ptpTests (d : Dev) (p : Bytes) : List (Bool × Half) :=
  let c := ptpCfgOf p
  let readOnly := (byteAt p 1).testBit 7
  [ lenIs p 16, resv p [(8, 8)],
    (decide (byteAt p 1 / 16 % 8 ≠ 0) || (readOnly && (byteAt p 1 != 0x80 || !allZero p 0 1 || !allZero p 2 6)),
      stBadParam),
    (!readOnly && (decide (127 < c.domain) || decide (c.logSync < -3) || decide (1 < c.logSync) ||
      decide (c.logAnnounce < 0) || decide (3 < c.logAnnounce) || decide (c.logDelay < -3) || decide (5 < c.logDelay) ||
      decide (c.announceTimeout < 2) || decide (10 < c.announceTimeout)), stRange),
    (!readOnly && d.net.cfg.mode == 2 && !c.p2p, stBadParam) ]

/-- PTP_CONFIG (R380). -/
def execPtpConfig (o : Origin) (s : State) : Host.Outcome State Fault Refusal :=
  runCmd s o 0x0703 always (fun _ d p => ptpTests d p)
    (fun _ d p =>
      let d := if (byteAt p 1).testBit 7 then d else ptpApply (ptpCfgOf p) d
      (d, .ok (ptpStatus d)))

end Sys2Proof.Machine
end

