-- ==== Sys2Proof/Machine/Lease.lean ====
section
/-!
DEFINITION. Machine/Lease.lean: the lease of a stack master and the arbiter's side of it (R391 to R404, R426), the pair
settings and the lease's status (R411, R423).
-/

namespace Sys2Proof.Machine

open Sys2Proof

/-! ## Lease messages (Table 10.3) -/

/-- The fields of a lease message. -/
structure LeaseMsg where
  station : Word := 0
  epoch : Word := 0
  reqNo : Word := 0
  leaseMs : Nat := 0
  candidate : DWord := 0
  cold : Bool := false
  fallback : Bool := false
  prefer : Bool := false
  remain : Nat := 0
  reason : Nat := 0
  deriving DecidableEq, Repr

def LeaseMsg.bytes (x : LeaseMsg) : Bytes :=
  beBytes 4 x.station.toNat ++ beBytes 4 x.epoch.toNat ++ beBytes 4 x.reqNo.toNat ++ beBytes 4 x.leaseMs ++
    beBytes 8 x.candidate.toNat ++ beBytes 2 (b2n x.cold + 2 * b2n x.fallback + 4 * b2n x.prefer) ++
    beBytes 2 (min 0xFFFF x.remain) ++ beBytes 1 x.reason ++ zeros 3

def leaseMsgOf (p : Bytes) : Option LeaseMsg :=
  if p.length != 32 || !allZero p 29 3 || decide (7 < getBe p 24 2) then none
  else some {
    station := w32 (getBe p 0 4), epoch := w32 (getBe p 4 4), reqNo := w32 (getBe p 8 4), leaseMs := getBe p 12 4
    candidate := w64 (getBe p 16 8), cold := (getBe p 24 2).testBit 0, fallback := (getBe p 24 2).testBit 1
    prefer := (getBe p 24 2).testBit 2, remain := getBe p 26 2, reason := byteAt p 28 }

/-- The own clock, in 0.1 µs. -/
def Dev.now (d : Dev) : Nat := d.tick * tickUnits

/-- A lease length in 0.1 µs, and its drift margin δ (R395). -/
def leaseLen (ms : Nat) : Nat := ms * 10000
def leaseDrift (ms : Nat) : Nat := 2 * ms + 10000

def Dev.leaseL (d : Dev) : Nat := leaseLen d.red.cfg.leaseMs

def modLease (f : Lease → Lease) (d : Dev) : Dev := { d with red := { d.red with lease := f d.red.lease } }

/-! ## The candidate -/

/-- A request of this device (R392): the next REQ_NO, kept as outstanding with its send instant (R393, R396). -/
def leaseRequest (cold fallback : Bool) (d : Dev) : LeaseMsg × Dev :=
  let n := d.red.lease.reqNo + 1
  let x : LeaseMsg := {
    station := d.net.cfg.partnerId, epoch := if d.red.lease.state.holds then d.red.lease.epoch else 0, reqNo := n
    leaseMs := d.red.cfg.leaseMs, candidate := d.sender, cold := cold, fallback := fallback, prefer := d.red.cfg.prefer }
  (x, modLease (fun l => { l with reqNo := n, outstanding := l.outstanding ++ [⟨n, d.now, cold⟩] }) d)

def toArbiter (type : Nat) (x : LeaseMsg) (d : Dev) : Dev :=
  stationAuth d.red.cfg.arbiterIp type d.red.cfg.keyIndex d.pwr.bootEpoch x.bytes d

/-- LEASE_REQ (R412, R401). -/
def sendLeaseReq (cold : Bool) (d : Dev) : Dev :=
  let (x, d) := leaseRequest cold false d
  toArbiter 0x40 x (modLease (fun l => { l with state := .requesting }) d)

/-- The device is a paired standby master that may ask for the lease at all. -/
def Dev.candidate (d : Dev) : Bool :=
  d.red.cfg.paired && d.master && d.sys.role == .standby && !d.stopped && !d.red.lease.state.holds &&
    decide (d.red.lease.quietUntil ≤ d.now)

/-- A READY standby keeps a request pending (R412). -/
def requestLease (d : Dev) : Dev :=
  if d.candidate && d.red.standby == .ready then sendLeaseReq false d else d

/-- The conditions of a COLD request (R401). -/
def Dev.coldOk (d : Dev) : Bool :=
  let wait := 3 * d.net.cfg.announcePeriod * 20
  d.candidate && (d.red.standby == .none || d.red.standby == .unpaired || d.red.standby == .syncing ||
      d.red.standby == .joining) &&
    (d.net.linkA || d.net.linkB) && decide (d.red.lease.netUpTick + wait ≤ d.tick) &&
    !d.net.partners.any (fun p => p.partnerId == d.net.cfg.partnerId && p.role == 1 && decide (d.tick < p.lastAnn + wait))

/-- COLD_LEASE_REQUEST (R401). -/
def execColdLeaseRequest (s : State) : Host.Outcome State Fault Refusal :=
  nextD s fun d => if d.coldOk then sendLeaseReq true d else d

/-- The request that an answer echoes, if it is outstanding in this boot epoch and meant for this device (R393). -/
def Dev.answers (d : Dev) (x : LeaseMsg) (epoch : Word) : Option Outstanding :=
  if epoch == d.pwr.bootEpoch && x.station == d.net.cfg.partnerId && x.candidate == d.sender then
    d.red.lease.outstanding.find? (fun o => o.reqNo == x.reqNo)
  else none

/-- An answer of the arbiter: its MAC holds under KEY_INDEX, and it comes from ARBITER_IP (R391, R392). -/
def arbiterAnswer (type : Nat) (ip : Word) (data : Bytes) (d : Dev) (f : LeaseMsg → Outstanding → Dev) : Dev :=
  withStation type data d fun h =>
    match authParse data h d with
    | none => countDiscard d
    | some (p, key, epoch) =>
      match leaseMsgOf p with
      | none => countDiscard d
      | some x =>
        if ip != d.red.cfg.arbiterIp || key != d.red.cfg.keyIndex then d
        else match d.answers x epoch with
          | some o => f x o
          | none => d

/-- The lease as an answer to a request leaves it (R396): it ends at s + L − δ. -/
def leaseFrom (o : Outstanding) (ms : Nat) (l : Lease) : Lease :=
  if o.sent < l.answered then l
  else { l with
    answered := o.sent, leaseEnd := o.sent + leaseLen ms - leaseDrift ms
    outstanding := l.outstanding.filter (fun y => decide (o.sent < y.sent)) }

/-- LEASE_GRANT_RECEIVED (R396, Table 10.4): a READY standby begins its takeover (Table 10.8); a COLD grant makes the
device active at once (R401), and it stops standing by. -/
def execLeaseGrantReceived (ip : Word) (data : Bytes) (s : State) : Host.Outcome State Fault Refusal :=
  nextD s fun d =>
    arbiterAnswer 0x41 ip data d fun x o =>
      if d.stopped || d.red.lease.state != .requesting then d
      else
        let ready := d.red.standby == .ready
        let d := modLease (fun l => { leaseFrom o d.red.cfg.leaseMs l with state := .holding, epoch := x.epoch }) d
        let d := raise .leaseGranted (b2n x.cold + 2 * b2n x.fallback + 256 * (x.epoch.toNat % 2 ^ 24))
          { d with sys := { d.sys with role := .active } }
        if ready then
          raise .takeoverStart x.epoch.toNat (shadowEnd 5 { d with red := { d.red with
            standby := .loading
            takeover := { grantTick := d.tick, lastMs := d.red.takeover.lastMs } } })
        else { d with red := { d.red with standby := .none }, pwr := { d.pwr with autostartDue := true } }

/-- LEASE_DENY_RECEIVED (R398): the request is repeated if the device is still entitled. -/
def execLeaseDenyReceived (ip : Word) (data : Bytes) (s : State) : Host.Outcome State Fault Refusal :=
  nextD s fun d =>
    arbiterAnswer 0x42 ip data d fun _ o =>
      let d := modLease (fun l => { l with outstanding := l.outstanding.filter (fun y => y.reqNo != o.reqNo) }) d
      if d.red.lease.state != .requesting then d
      else if d.candidate && d.red.standby == .ready then sendLeaseReq false d
      else if o.cold && d.coldOk then sendLeaseReq true d
      else modLease (fun l => { l with state := .none }) d

/-! ## The holder -/

/-- An acknowledgement extends the lease; one of the arbiter ends LATE and FALLBACK (Table 10.4). -/
def leaseAck (arbiter : Bool) (x : LeaseMsg) (o : Outstanding) (d : Dev) : Dev :=
  let l := d.red.lease
  if !l.state.holds || x.epoch != l.epoch || x.fallback == arbiter || (!arbiter && l.state != .fallback) then d
  else modLease (fun l =>
    let l := leaseFrom o d.red.cfg.leaseMs l
    { l with
      renewals := satInc l.renewals, arbiterLost := l.arbiterLost && !arbiter
      state := if arbiter then .holding else l.state }) d

/-- LEASE_ACK_RECEIVED (R396, R402): from the arbiter, or from the standby on the pair path. -/
def execLeaseAckReceived (via : Via) (data : Bytes) (s : State) : Host.Outcome State Fault Refusal :=
  nextD s fun d =>
    match via with
    | .portP =>
      match leaseMsgOf data with
      | some x =>
        (match d.answers x d.pwr.bootEpoch with
          | some o => if d.gligil && !d.red.cfg.network then leaseAck false x o d else d
          | none => d)
      | none => d
    | .net ip =>
      if ip == d.red.cfg.arbiterIp then arbiterAnswer 0x44 ip data d fun x o => leaseAck (!x.fallback) x o d
      else withStation 0x44 data d fun h =>
        match authParse data h d with
        | none => countDiscard d
        | some (p, _, epoch) =>
          match (leaseMsgOf p).bind (fun x => (d.answers x epoch).map (fun o => (x, o))) with
          | some (x, o) => if d.red.cfg.network && ip == d.red.cfg.peerIp then leaseAck false x o d else d
          | none => d

/-- Three consecutive requests each unanswered for L / 12 (Table 10.4). -/
def Dev.unanswered3 (d : Dev) : Bool :=
  decide (3 ≤ (d.red.lease.outstanding.filter (fun o => decide (o.sent + d.leaseL / 12 ≤ d.now))).length)

/-- ARBITER_LOST, once, and fallback where it is set (Table 10.4). -/
def arbiterTest (d : Dev) : Dev :=
  if d.red.lease.state != .late || d.red.lease.arbiterLost || !d.unanswered3 then d
  else
    let fb := d.red.cfg.fallback
    raise .arbiterLost (b2n fb) (modLease (fun l => { l with
      arbiterLost := true, arbLostCount := satInc l.arbLostCount, state := if fb then .fallback else l.state }) d)

/-- LEASE_RENEW_TIMER (R396): to the arbiter, and under fallback on the pair path too (R402). -/
def execLeaseRenewTimer (s : State) : Host.Outcome State Fault Refusal :=
  nextD s fun d =>
    if !d.red.lease.state.holds then d
    else
      let d := arbiterTest d
      let (x, d) := leaseRequest false false d
      let d := toArbiter 0x43 x d
      if d.red.lease.state == .fallback then pairSend 0x43 { x with fallback := true }.bytes d else d

/-- The instant lies within the base tick that has begun. -/
def Dev.reached (d : Dev) (t : Nat) : Bool := decide (t < d.now + tickUnits)

/-- LEASE_LATE_TIMER (R396). -/
def execLeaseLateTimer (s : State) : Host.Outcome State Fault Refusal :=
  nextD s fun d =>
    let l := d.red.lease
    if l.state != .holding || !d.reached (l.answered + 2 * d.leaseL / 3) then d
    else
      let d := modLease (fun l => { l with state := .late, lateRenewals := satInc l.lateRenewals }) d
      arbiterTest (raise .leaseRenewLate (min 0xFFFF ((l.leaseEnd - d.now) / 10000)) d)

/-- LEASE_END (R396): fence cause 1. -/
def execLeaseEnd (s : State) : Host.Outcome State Fault Refusal :=
  nextD s fun d =>
    if d.red.lease.state.holds && d.reached d.red.lease.leaseEnd then fence 1 d else d

/-- FENCE_LEASE_RELEASE (R404): LEASE_RELEASE to the arbiter, and the fence notice on the pair path. -/
def execFenceLeaseRelease (s : State) : Host.Outcome State Fault Refusal :=
  nextD s fun d =>
    if !d.red.releaseDue then d
    else
      let (x, d) := leaseRequest false false d
      let d := toArbiter 0x45 { x with epoch := d.red.lease.epoch } d
      pairSend 0x4B [0] { d with red := { d.red with releaseDue := false } }

/-- FALLBACK_QUIET_END (R402): the interval after a fallback acknowledgement has passed. -/
def execFallbackQuietEnd (s : State) : Host.Outcome State Fault Refusal :=
  nextD s fun d => if d.red.lease.quietUntil = 0 || d.now < d.red.lease.quietUntil then d
    else requestLease (modLease (fun l => { l with quietUntil := 0 }) d)

/-! ## The arbiter -/

def modArb (e : Nat) (f : ArbEntry → ArbEntry) (d : Dev) : Dev :=
  { d with red := { d.red with arbiters := vmod d.red.arbiters e f } }

def Dev.arb (d : Dev) (e : Nat) : ArbEntry := vget d.red.arbiters e

/-- R397: a new grant may be made at or after g + L + δ. -/
def ArbEntry.openAt (x : ArbEntry) (now : Nat) : Bool :=
  match x.g with
  | some g => decide (g + leaseLen x.leaseMs + leaseDrift x.leaseMs ≤ now)
  | none => true

/-- The entry may grant now: neither disabled nor quiet, its raised epochs are saved (R399), and R397 allows it. -/
def Dev.arbOpen (d : Dev) (e : Nat) : Bool :=
  let x := d.arb e
  x.enable && x.state != .disabled && x.state != .quiet && !d.red.arbQuietSave && x.openAt d.now

/-- An answer of the arbiter: the trailer carries the requester's boot epoch (R392). -/
def arbAnswer (e type : Nat) (r : ArbReq) (x : LeaseMsg) (d : Dev) : Dev :=
  stationAuth r.ip type (d.arb e).key r.bootEpoch x.bytes d

def Dev.arbMsg (d : Dev) (e : Nat) (r : ArbReq) : LeaseMsg :=
  let x := d.arb e
  { station := x.station, epoch := x.heldEpoch, reqNo := r.reqNo, leaseMs := x.leaseMs, candidate := r.candidate,
    cold := r.cold, prefer := r.prefer }

/-- The time until the arbiter may grant, in ms. -/
def Dev.arbRemain (d : Dev) (e : Nat) : Nat :=
  let x := d.arb e
  match x.g with
  | some g => (g + leaseLen x.leaseMs + leaseDrift x.leaseMs - d.now + 9999) / 10000
  | none => 0

/-- LEASE_DENY with its reason (R398). -/
def arbDeny (e : Nat) (r : ArbReq) (reason : Nat) (d : Dev) : Dev :=
  arbAnswer e 0x42 r { d.arbMsg e r with epoch := 0, remain := d.arbRemain e, reason := reason }
    (modArb e (fun x => { x with denials := satInc x.denials }) d)

/-- Why a request is denied after its wait: the lease is held, or a quiet or grace period runs. -/
def Dev.arbReason (d : Dev) (e : Nat) : Nat :=
  let x := d.arb e
  match x.state, x.g with
  | .quiet, _ => 1
  | _, some g => if d.now < g + leaseLen x.leaseMs then 0 else 1
  | _, none => 1

/-- A new grant (R397, R399): the epoch rises by 1 and is saved; the COLD requests that waited are denied. -/
def arbGrant (e : Nat) (r : ArbReq) (d : Dev) : Dev :=
  let others := (d.arb e).cold.filter (fun y => y.candidate != r.candidate)
  let d := modArb e (fun x => { x with
    epoch := x.epoch + 1, heldEpoch := x.epoch + 1, holder := r.candidate
    g := some d.now, state := .held, grants := satInc x.grants, cold := []
    pending := x.pending.filter (fun y => y.candidate != r.candidate) }) d
  let d := arbAnswer e 0x41 r (d.arbMsg e r) (confChanged d)
  let d := raise .leaseGranted (b2n r.cold + 256 * ((d.arb e).epoch.toNat % 2 ^ 24)) d
  others.foldl (fun d y => arbDeny e y 0 d) d

/-- The first of the pending requests is granted, where R397 lets it. -/
def arbNext (e : Nat) (d : Dev) : Dev :=
  match (d.arb e).pending with
  | [] => d
  | r :: _ => if d.arbOpen e then arbGrant e r d else d

/-- A request that the arbiter takes is newer than the last one of its candidate and boot epoch (R393). -/
def Dev.reqFresh (d : Dev) (c : DWord) (epoch n : Word) : Bool :=
  match d.red.arbLast.find? (fun y => y.1 == c && y.2.1 == epoch) with
  | some y => decide (y.2.2.toNat < n.toNat)
  | none => true

def noteReq (c : DWord) (epoch n : Word) (d : Dev) : Dev :=
  { d with red := { d.red with
    arbLast := d.red.arbLast.filter (fun y => !(y.1 == c && y.2.1 == epoch)) ++ [(c, epoch, n)] } }

/-- The entry that serves a station. -/
def Dev.arbEntry (d : Dev) (station : Word) : Option Nat :=
  (List.range 16).find? (fun e => (d.arb e).enable && (d.arb e).station == station)

/-- A message for the arbiter, with what its trailer names: a failing MAC raises MBX_AUTH_FAIL (R393). -/
def forArbiter (type : Nat) (ip : Word) (data : Bytes) (d : Dev) (f : LeaseMsg → Nat → Word → StHeader → Dev → Dev) : Dev :=
  if d.sys.role != .arbiter || !d.sys.fwReady then d
  else withStation type data d fun h =>
    match authParse data h d with
    | none => raise .mbxAuthFail ip.toNat d
    | some (p, key, epoch) =>
      match leaseMsgOf p with
      | none => countDiscard d
      | some x => if d.reqFresh x.candidate epoch x.reqNo then f x key epoch h (noteReq x.candidate epoch x.reqNo d) else d

/-- A request of a station that the arbiter serves (R397, R398, R401, R426). -/
def arbRequest (e : Nat) (x : LeaseMsg) (r : ArbReq) (d : Dev) : Dev :=
  let y := d.arb e
  if x.leaseMs != y.leaseMs then arbDeny e r 2 d
  else if x.cold then
    if y.state == .quiet then arbDeny e r 1 d
    else if !d.arbOpen e then arbDeny e r 4 d
    else modArb e (fun y => { y with
      state := .collecting, cold := y.cold.filter (fun z => z.candidate != r.candidate) ++ [r] }) d
  else if d.arbOpen e then arbGrant e r d
  else modArb e (fun y => { y with pending := y.pending.filter (fun z => z.candidate != r.candidate) ++ [r] }) d

/-- LEASE_REQ_RECEIVED (R398). -/
def execLeaseReqReceived (ip : Word) (data : Bytes) (s : State) : Host.Outcome State Fault Refusal :=
  nextD s fun d =>
    forArbiter 0x40 ip data d fun x key epoch _ d =>
      let r : ArbReq := {
        candidate := x.candidate, ip := ip, bootEpoch := epoch, reqNo := x.reqNo, cold := x.cold, prefer := x.prefer
        since := d.now }
      match d.arbEntry x.station with
      | some e => if key != (d.arb e).key then raise .mbxAuthFail ip.toNat d else arbRequest e x r d
      | none => stationAuth ip 0x42 key epoch { x with epoch := 0, remain := 0, reason := 3 }.bytes d

/-- LEASE_REQ_PENDING_EXPIRY (R398): after L / 3. -/
def execLeaseReqPendingExpiry (e : Fin 16) (cand : DWord) (s : State) : Host.Outcome State Fault Refusal :=
  nextD s fun d =>
    match (d.arb e).pending.find? (fun y => y.candidate == cand) with
    | none => d
    | some r =>
      if !d.reached (r.since + leaseLen (d.arb e).leaseMs / 3) then d
      else arbDeny e r (d.arbReason e)
        (modArb e (fun x => { x with pending := x.pending.filter (fun y => y.candidate != cand) }) d)

/-- ARBITER_GRANT_READY (R397): g + L + δ has come. -/
def execArbiterGrantReady (e : Fin 16) (s : State) : Host.Outcome State Fault Refusal :=
  nextD s fun d =>
    let x := d.arb e
    if d.sys.role != .arbiter || !(x.state == .held || x.state == .grace) || !x.openAt d.now then d
    else arbNext e (modArb e (fun x => { x with state := .free, holder := 0 }) d)

/-- ARBITER_QUIET_END (R400): not before the raised epochs are saved (R399). -/
def execArbiterQuietEnd (e : Fin 16) (s : State) : Host.Outcome State Fault Refusal :=
  nextD s fun d =>
    if d.sys.role != .arbiter || (d.arb e).state != .quiet || d.red.arbQuietSave ||
        decide (d.now + tickUnits ≤ leaseLen (d.arb e).leaseMs + leaseDrift (d.arb e).leaseMs) then d
    else arbNext e (modArb e (fun x => { x with state := .free }) d)

/-- COLD_WAIT_EXPIRY (R401): the request with PREFER, or the earliest. -/
def execColdWaitExpiry (e : Fin 16) (s : State) : Host.Outcome State Fault Refusal :=
  nextD s fun d =>
    let x := d.arb e
    if x.state != .collecting || !d.arbOpen e then d
    else match x.cold with
      | [] => d
      | r :: _ =>
        if d.reached (r.since + x.coldWait * 10000) then arbGrant e ((x.cold.find? (·.prefer)).getD r) d else d

/-- A renewal of the holder, or in the quiet period of a device that announces ROLE 1 (R397, R400). -/
def arbRenew (e : Nat) (ip : Word) (x : LeaseMsg) (epoch : Word) (h : StHeader) (d : Dev) : Dev :=
  let y := d.arb e
  let r : ArbReq := {
    candidate := x.candidate, ip := ip, bootEpoch := epoch, reqNo := x.reqNo, cold := false, prefer := false, since := d.now }
  let ack := fun (d : Dev) => arbAnswer e 0x44 r (d.arbMsg e r) d
  if y.state == .quiet then
    if h.role != 1 then d
    else
      let ep := if y.epoch.toNat < x.epoch.toNat then x.epoch else y.epoch
      ack (confChanged (modArb e (fun y => { y with
        epoch := ep, heldEpoch := x.epoch, holder := x.candidate
        g := some d.now, state := .held }) d))
  else match y.g with
    | some g =>
      if y.state == .held && y.holder == x.candidate && y.heldEpoch == x.epoch &&
          decide (d.now < g + leaseLen y.leaseMs) then ack (modArb e (fun y => { y with g := some d.now }) d)
      else d
    | none => d

/-- The standby stands in the time from g + L to g + L + δ after its last fallback acknowledgement, in which R397
acknowledges nothing. -/
def Dev.fallbackGrace (d : Dev) (ms : Nat) : Bool :=
  decide (d.now < d.red.lease.quietUntil ∧ d.red.lease.quietUntil ≤ d.now + leaseDrift ms)

/-- A READY standby acknowledges a fallback renewal under R397, and keeps quiet after it (R402). -/
def fallbackAck (x : LeaseMsg) (send : Bytes → Dev → Dev) (d : Dev) : Dev :=
  if d.sys.role != .standby || d.red.standby != .ready || !x.fallback || x.station != d.net.cfg.partnerId ||
      x.leaseMs != d.red.cfg.leaseMs || d.fallbackGrace x.leaseMs then d
  else send x.bytes (modLease (fun l => { l with
    quietUntil := d.now + leaseLen x.leaseMs + leaseDrift x.leaseMs }) d)

/-- LEASE_RENEW_RECEIVED (R397, R402). -/
def execLeaseRenewReceived (via : Via) (data : Bytes) (s : State) : Host.Outcome State Fault Refusal :=
  nextD s fun d =>
    match via with
    | .portP =>
      match leaseMsgOf data with
      | some x => if d.gligil && !d.red.cfg.network then fallbackAck x (glSend true 2 0x44 d.sys.stackPos.toNat) d else d
      | none => d
    | .net ip =>
      if d.sys.role == .arbiter then
        forArbiter 0x43 ip data d fun x key epoch h d =>
          match d.arbEntry x.station with
          | some e => if key != (d.arb e).key then raise .mbxAuthFail ip.toNat d else arbRenew e ip x epoch h d
          | none => d
      else if !d.red.cfg.network || ip != d.red.cfg.peerIp then d
      else withStation 0x43 data d fun h =>
        match authParse data h d with
        | none => countDiscard d
        | some (p, key, epoch) =>
          match leaseMsgOf p with
          | some x => fallbackAck x (fun b d => stationAuth ip 0x44 key epoch b d) d
          | none => countDiscard d

/-- LEASE_RELEASE_RECEIVED (R397): at once free for the next grant. -/
def execLeaseReleaseReceived (ip : Word) (data : Bytes) (s : State) : Host.Outcome State Fault Refusal :=
  nextD s fun d =>
    forArbiter 0x45 ip data d fun x key _ _ d =>
      match d.arbEntry x.station with
      | none => d
      | some e =>
        let y := d.arb e
        if key != y.key then raise .mbxAuthFail ip.toNat d
        else if y.state != .held || y.holder != x.candidate || y.heldEpoch != x.epoch then d
        else arbNext e (modArb e (fun y => { y with
          state := .free, g := none, holder := 0 }) d)

/-! ## Commands -/

def pairCfgOf (p : Bytes) : PairCfg :=
  let f := byteAt p 1
  { paired := byteAt p 0 == 1, network := f.testBit 0, fallback := f.testBit 1, prefer := f.testBit 2, warmup := byteAt p 2,
    mismatchRetry := byteAt p 3 == 1, leaseMs := getLe p 4 4, arbiterIp := w32 (getLe p 8 4), peerIp := w32 (getLe p 12 4),
    keyIndex := byteAt p 16, joinCycles := byteAt p 17, snapshotPeriod := getLe p 18 2, analogTol := w32 (getLe p 20 4) }

/-- What only an idle device may change (R423). -/
def pairFixed (a b : PairCfg) : Bool :=
  a.paired == b.paired && a.network == b.network && a.fallback == b.fallback && a.prefer == b.prefer &&
    a.leaseMs == b.leaseMs && a.arbiterIp == b.arbiterIp && a.peerIp == b.peerIp && a.keyIndex == b.keyIndex

/-- Commands of this class belong to position 0 (R22). -/
def posTest (d : Dev) : Bool × Half := (!d.master, stNotPermitted)

/-- The tests of PAIR_CONFIG (R423). -/
def pairTests (d : Dev) (p : Bytes) : List (Bool × Half) :=
  let c := pairCfgOf p
  [ posTest d, (!d.gligil || d.sys.role == .arbiter, stNotPermitted),
    ((d.cycleRun || d.sys.role == .active || d.sys.fenced) && !pairFixed d.red.cfg c, stNotPermitted),
    lenIs p 32, resv p [(24, 8)],
    (decide (1 < byteAt p 0) || decide (1 < byteAt p 3) || decide (7 < byteAt p 1) || (c.network && c.peerIp == 0),
      stBadParam),
    (c.warmup == 0 || decide (15 < c.warmup) || decide (c.leaseMs < 20) || decide (2000 < c.leaseMs) ||
      decide (7 < c.keyIndex) || c.joinCycles == 0 || decide (c.snapshotPeriod < 10) ||
      decide (600 < c.snapshotPeriod) || decide (0x10000 < c.analogTol.toNat), stRange) ]

/-- PAIR_CONFIG (R423): a FAULTY standby starts again (Table 10.8). A new MODE gives its role at the next reset
(R386). -/
def execPairConfig (o : Origin) (s : State) : Host.Outcome State Fault Refusal :=
  runCmd s o 0x0800 always (fun _ d p => pairTests d p)
    (fun _ d p =>
      let st := if d.red.standby == .faulty then StandbyState.unpaired else d.red.standby
      (confChanged { d with red := { d.red with cfg := pairCfgOf p, standby := st } }, .ok []))

def StandbyState.code : StandbyState → Nat
  | .none => 0
  | .unpaired => 1
  | .syncing => 2
  | .joining => 3
  | .ready => 4
  | .loading => 5
  | .warmup => 6
  | .faulty => 7

def LeaseState.code : LeaseState → Nat
  | .none => 0
  | .requesting => 1
  | .holding => 2
  | .late => 3
  | .fallback => 4
  | .fenced => 5

/-- The response of LEASE_STATUS (Table 10.11): on an active device, the standby state that its standby reports. -/
def leaseStatus (d : Dev) : Bytes :=
  let r := d.red
  let l := r.lease
  let st := if d.sys.role == .active && !d.takingOver then r.peerState else r.standby
  let left := if l.state.holds then (l.leaseEnd - d.now) / 10 else 0
  let last := (List.range 8).foldl (fun a t => max a (vget r.firn.lastDelta t)) 0
  let lag := if d.sys.role == .standby then min 0xFFFFFFFF ((d.tick - last) * 50) else 0
  leBytes 1 d.sys.role.code ++ leBytes 1 st.code ++ leBytes 1 l.state.code ++
    leBytes 1 (b2n d.pairUp + 2 * b2n (d.net.linkA || d.net.linkB)) ++ leBytes 4 l.epoch.toNat ++
    leBytes 4 r.cfg.leaseMs ++ leBytes 4 (min 0xFFFFFFFF left) ++ leBytes 4 l.renewals.toNat ++
    leBytes 4 l.lateRenewals.toNat ++ leBytes 4 l.arbLostCount.toNat ++ leBytes 4 r.firn.gaps.toNat ++
    leBytes 4 r.firn.acked.toNat ++ leBytes 4 r.firn.passMs ++ leBytes 4 lag ++
    leBytes 4 ((d.prog.image.map Image.checkpointSize).getD 0) ++ leBytes 4 r.takeover.lastMs ++
    leBytes 1 (min 2 r.shadow.state) ++ zeros 3 ++ leBytes 4 r.compareMismatch.toNat ++ zeros 4

/-- LEASE_STATUS (R411, R427). -/
def execLeaseStatus (o : Origin) (s : State) : Host.Outcome State Fault Refusal :=
  runCmd s o 0x0801 always
    (fun _ d p => [posTest d, lenIs p 4, resv p [(1, 3)], (decide (1 < byteAt p 0), stBadParam)])
    (fun _ d p =>
      let d' := if (byteAt p 0).testBit 0 then
          let d := modLease (fun l => { l with renewals := 0, lateRenewals := 0, arbLostCount := 0 }) d
          { d with red := { d.red with
            compareMismatch := 0, firn := { d.red.firn with gaps := 0, acked := 0 } } }
        else d
      (d', .ok (leaseStatus d)))

def ArbState.code : ArbState → Nat
  | .disabled => 0
  | .quiet => 1
  | .free => 2
  | .held => 3
  | .grace => 4
  | .collecting => 5

/-- The state that a held entry shows: grace from g + L (Table 10.13). -/
def ArbEntry.shown (x : ArbEntry) (now : Nat) : ArbState :=
  match x.state, x.g with
  | .held, some g => if g + leaseLen x.leaseMs ≤ now then .grace else .held
  | st, _ => st

/-- The response of ARBITER_CONFIG (Table 10.13). -/
def arbBytes (e : Nat) (d : Dev) : Bytes :=
  let x := d.arb e
  let since := match x.g with
    | some g => min 0xFFFFFFFF ((d.now - g) / 10000)
    | none => 0xFFFFFFFF
  leBytes 1 e ++ leBytes 1 (x.shown d.now).code ++ zeros 2 ++ leBytes 8 x.holder.toNat ++ leBytes 4 x.epoch.toNat ++
    leBytes 4 since ++ leBytes 4 x.grants.toNat ++ leBytes 4 x.denials.toNat ++ zeros 4

/-- SET of ARBITER_CONFIG: a station newly served is quiet while a quiet period from the arbiter's reset runs (R400). Its
epoch stays with the entry, and g of R397 with its station, enabled or not (log entry 43). -/
def arbSet (p : Bytes) (d : Dev) : Dev :=
  let e := byteAt p 1
  let on := (byteAt p 2).testBit 0
  let st := w32 (getLe p 4 4)
  let fresh := fun (x : ArbEntry) => x.station != st
  confChanged (modArb e (fun x => { x with
    enable := on, key := byteAt p 3, station := st, leaseMs := getLe p 8 4, coldWait := getLe p 12 2
    state := if !on then .disabled else if x.enable && !fresh x then x.state
      else if !fresh x && x.g.isSome then .held
      else if d.now < leaseLen (getLe p 8 4) + leaseDrift (getLe p 8 4) then .quiet else .free
    holder := if fresh x then 0 else x.holder
    g := if fresh x then none else x.g
    pending := if !on || fresh x then [] else x.pending
    cold := if !on || fresh x then [] else x.cold }) d)

/-- The tests of ARBITER_CONFIG (R426). -/
def arbTests (d : Dev) (p : Bytes) : List (Bool × Half) :=
  let e := byteAt p 1
  let x := d.arb e
  let on := (byteAt p 2).testBit 0
  let set_ := byteAt p 0 == 0
  let st := w32 (getLe p 4 4)
  let shown := x.shown d.now
  [ (d.red.cfg.paired || d.cycleRun, stNotPermitted),
    lenIs p 24, resv p [(14, 10)], (byteAt p 0 == 1 && !allZero p 2 22, stBadParam),
    (set_ && (shown == .held || shown == .grace) && (st != x.station || getLe p 8 4 != x.leaseMs), stNotPermitted),
    (decide (15 < e) || (set_ && (decide (7 < byteAt p 3) || decide (getLe p 8 4 < 20) || decide (2000 < getLe p 8 4) ||
      decide (5000 < getLe p 12 2))), stRange),
    (decide (1 < byteAt p 0) || (set_ && decide (1 < byteAt p 2)) ||
      (set_ && on && (List.range 16).any (fun k => k != e && (d.arb k).enable && (d.arb k).station == st)), stBadParam) ]

/-- ARBITER_CONFIG (R426). -/
def execArbiterConfig (o : Origin) (s : State) : Host.Outcome State Fault Refusal :=
  runCmd s o 0x0805 always (fun _ d p => arbTests d p)
    (fun _ d p =>
      let d := if byteAt p 0 == 0 then arbSet p d else d
      (d, .ok (arbBytes (byteAt p 1) d)))

end Sys2Proof.Machine
end

