-- ==== Sys2Proof/Machine/Firn.lean ====
section
/-!
DEFINITION. Machine/Firn.lean: the checkpoint stream of a paired station (R388, R405 to R409), the standby's states
(R411), takeover (R413 to R417), planned switchover (R419) and shadow compare (R421, R425).
-/

namespace Sys2Proof.Machine

open Sys2Proof

def modFirn (f : Firn → Firn) (d : Dev) : Dev := { d with red := { d.red with firn := f d.red.firn } }
def modShadow (f : ShadowCmp → ShadowCmp) (d : Dev) : Dev := { d with red := { d.red with shadow := f d.red.shadow } }
def setStandby (st : StandbyState) (d : Dev) : Dev := { d with red := { d.red with standby := st } }

/-- The device runs no task and tracks the tasks of its active counterpart. -/
def Dev.follows (d : Dev) : Bool := d.sys.role == .standby && d.red.cfg.paired

/-- The last delta of a task lies within its overrun tolerance of an instant: the task runs on the active device
(log entry 31). -/
def Dev.peerRuns (d : Dev) (at_ t : Nat) : Bool :=
  let l := vget d.red.firn.lastDelta t
  let c := (d.task t).cfg
  decide (0 < l ∧ at_ ≤ l + (c.ovrN + 2) * c.period + 40)

def Dev.peerTasks (d : Dev) (at_ : Nat) : List Nat := (List.range 8).filter (d.peerRuns at_)

/-- CYCLE of CHECKPOINT_GAP: the counter of the lowest-numbered running task (log entry 31). -/
def Dev.gapCounter (d : Dev) : Word :=
  if d.follows then
    (((d.peerTasks d.tick).head?).map (fun t =>
      w32 (getLe ((d.prog.image.getD {}).ckRead d.red.replica 0 t) 0 4))).getD 0
  else ((d.runningTasks.head?).map (fun t => (d.task t).counter)).getD 0

/-! ## The active side -/

/-- The stream runs: an active device with a standby of its own shape on the pair path. -/
def Dev.streams (d : Dev) : Bool :=
  d.red.cfg.paired && d.sys.role == .active && d.red.pathUp && d.red.shapeOk && !d.takingOver && !d.sys.fenced

/-- A firn frame goes out under the next STREAM_SEQ (R406). -/
def firnSend (type : Nat) (body : Bytes) (d : Dev) : Dev :=
  let n := d.red.firn.txSeq + 1
  let p := beBytes 4 n.toNat ++ body
  pairSend type p (modFirn (fun f => { f with txSeq := n, unacked := f.unacked ++ [(n, p.length)] }) d)

/-- Bytes sent and not acknowledged. -/
def Firn.backlog (f : Firn) : Nat := (f.unacked.map (·.2)).sum

/-- The next segment of the running pass: 1,008 bytes of the image as it stands (R408). -/
def sendSegment (im : Image) (off : Nat) (d : Dev) : Dev :=
  let data := slice (d.checkpoint im) off 1008
  let d := firnSend 0x49 (beBytes 4 d.red.firn.pass ++ beBytes 4 off ++ beBytes 2 data.length ++ zeros 2 ++ data) d
  if im.checkpointSize ≤ off + 1008 then
    modFirn (fun f => { f with passOff := none, passLast := some f.txSeq }) d
  else modFirn (fun f => { f with passOff := some (off + 1008) }) d

/-- Segments go out while fewer than 64 frames are unacknowledged (log entry 32). -/
def pumpPass (im : Image) : Nat → Dev → Dev
  | 0, d => d
  | n + 1, d =>
    match d.red.firn.passOff with
    | none => d
    | some off => if 64 ≤ d.red.firn.unacked.length then d else pumpPass im n (sendSegment im off d)

/-- A pass starts (R408). -/
def startPassSend (d : Dev) : Dev :=
  match d.prog.image with
  | none => d
  | some im =>
    if !d.streams then d
    else pumpPass im 64 (modFirn (fun f => { f with
      pass := f.pass + 1, passOff := some 0, passLast := none, passStart := d.tick }) d)

/-- The active device holds 0.5 MiB of unacknowledged frames: a gap of kind 2 (R409). -/
def backlogTest (d : Dev) : Dev :=
  if d.red.firn.backlog < 0x80000 then d
  else
    let d := modFirn (fun f => { f with unacked := [], gaps := satInc f.gaps }) d
    startPassSend (gapEvent 2 d.gapCounter { d with red := { d.red with peerState := .syncing } })

/-- FIRN_PASS_START (R408). -/
def execFirnPassStart (s : State) : Host.Outcome State Fault Refusal := nextD s startPassSend

/-- The elements and instances that the executions of a task's cycle on this device changed. -/
def Dev.ownRuns (d : Dev) (t : Nat) : List Exec :=
  ((d.task t).runs.filter (fun e => !e.2.remote)).map (fun e => e.2.exec)

/-- The records of a delta that a cycle gives (R407): journals, and the Q, retentive M and retentive V elements
written. -/
def Dev.cycleRecords (d : Dev) (im : Image) (t : Nat) : List DeltaRec :=
  let rs := d.ownRuns t
  let mk := fun (region n : Nat) => (⟨region, n, d.ckEntry im region n⟩ : DeltaRec)
  let keys := (rs.flatMap (fun r => r.writes.map (·.key))).dedup
  let inSpace := fun (sp : Nat) => (keys.filter (fun k => keySpace k == sp)).map keyEl
  let index := fun (sp el : Nat) => (im.retentive sp).findIdx? (· == el)
  ((rs.flatMap (fun r => r.timers.map (·.1))).dedup.map (mk 1)) ++
    ((rs.flatMap (fun r => r.counters.map (·.1))).dedup.map (mk 2)) ++
    ((rs.flatMap (fun r => r.edges.map (fun e => e.1 / 4))).dedup.map (mk 3)) ++
    ((inSpace spQ).map (mk 4)) ++ ((inSpace spM).filterMap (fun el => (index spM el).map (mk 5))) ++
    ((inSpace spV).filterMap (fun el => (index spV el).map (mk 6)))

/-- The loop states that a delta carries: 8 declared slots in rotation, with the lowest-numbered running task. -/
def Dev.loopRecords (d : Dev) (im : Image) (t : Nat) : List DeltaRec :=
  let n := im.loops.length
  if d.runningTasks.head? != some t || n = 0 then []
  else (List.range (min 8 n)).map fun i =>
    let k := (d.red.firn.loopRot + i) % n
    ⟨8, k, d.ckEntry im 8 k⟩

/-- The whole delta of a committed cycle (R407). -/
def Dev.delta (d : Dev) (im : Image) (t : Nat) : List DeltaRec :=
  let ks := d.red.firn.kNew.filterMap (fun el => d.pwr.retData.kOver.findIdx? (fun e => e.1 == el))
  d.cycleRecords im t ++ ks.map (fun n => ⟨7, n, d.ckEntry im 7 n⟩) ++ d.loopRecords im t ++ [⟨0, t, d.ckEntry im 0 t⟩]

def DeltaRec.bytes (r : DeltaRec) : Bytes := beBytes 1 r.region ++ beBytes 3 r.entry ++ r.data

/-- Records packed into frames of at most 1,008 bytes, none split (Table 10.7). -/
def packRecords : List DeltaRec → Bytes → List Bytes
  | [], cur => [cur]
  | r :: rs, cur =>
    if 1008 < cur.length + r.bytes.length then cur :: packRecords rs r.bytes else packRecords rs (cur ++ r.bytes)

/-- The delta of a task's commit goes to the standby (R407). -/
def sendDelta (t : Nat) (final : Bool) (d : Dev) : Dev :=
  match d.prog.image with
  | none => d
  | some im =>
    if !d.streams then d
    else
      let frames := packRecords (d.delta im t) []
      let d := (List.range frames.length).foldl (fun d i =>
        firnSend 0x48 (beBytes 1 t ++ beBytes 1 (b2n (decide (i + 1 = frames.length)) + 2 * b2n final) ++ beBytes 2 i ++
          beBytes 4 (d.task t).counter.toNat ++ zeros 4 ++ lget frames i) d) d
      let n := im.loops.length
      let rot := if d.runningTasks.head? = some t && n != 0 then (d.red.firn.loopRot + min 8 n) % n else d.red.firn.loopRot
      backlogTest (modFirn (fun f => { f with kNew := [], loopRot := rot }) d)

/-- SHADOW_INPUT (R421, log entry 28): the frozen input image and τ of a cycle, to a standby that compares. -/
def sendShadowInput (t : Nat) (d : Dev) : Dev :=
  if !d.streams || d.red.cfg.network || !(d.red.shadow.state == 1 || d.red.peerState == .joining) then d
  else
    let k := d.task t
    pairSend 0x4C (beBytes 1 t ++ zeros 3 ++ beBytes 4 (k.counter - 1).toNat ++ beBytes 8 k.tau.toNat ++
      k.inputs.flatMap (fun e => beBytes 4 e.1 ++ beBytes 8 (tvWord e.2))) d

/-- FIRN_ACK_RECEIVED (R409, R411): the highest STREAM_SEQ applied, with the state that the standby reports. -/
def execFirnAckReceived (seq : Word) (st : StandbyState) (s : State) : Host.Outcome State Fault Refusal :=
  nextD s fun d =>
    if !d.streams then d
    else
      let was := d.red.peerState
      let ended := d.red.firn.passLast.any (fun l => !seqGreater l seq)
      let d := modFirn (fun f => { f with
        acked := seq, unacked := f.unacked.filter (fun u => seqGreater u.1 seq)
        passLast := if ended then none else f.passLast
        passMs := if ended then (d.tick - f.passStart) / 20 else f.passMs }) d
      let d := { d with red := { d.red with peerState := st } }
      let d := if was = .ready && st != .ready then shadowEnd 5 d else d
      if st = .syncing && was != .syncing then startPassSend d
      else pumpPass (d.prog.image.getD {}) 64 d

/-! ## The standby side: frames -/

/-- A pair message of a type, by the path that PAIR_CONFIG selects (R391, R392): its payload. -/
def pairPayload (type : Nat) (via : Via) (data : Bytes) (d : Dev) (f : Bytes → Dev) : Dev :=
  match via with
  | .portP => if d.gligil && d.red.cfg.paired && !d.red.cfg.network then f data else d
  | .net ip =>
    withStation type data d fun h =>
      match authParse data h d with
      | none => countDiscard d
      | some (p, _, _) => if d.red.cfg.paired && d.red.cfg.network && ip == d.red.cfg.peerIp then f p else d

/-- FIRN_ACK (R409). -/
def sendFirnAck (d : Dev) : Dev :=
  if !d.follows || !d.red.pathUp || !d.red.shapeOk then d
  else pairSend 0x4A (beBytes 4 d.red.firn.rxSeq.toNat ++ beBytes 1 d.red.standby.code)
    (modFirn (fun f => { f with sinceAck := 0 }) d)

/-- FIRN_ACK_SEND (R409). -/
def execFirnAckSend (s : State) : Host.Outcome State Fault Refusal := nextD s sendFirnAck

/-- The records of a delta frame; none where it is not whole. -/
def parseRecords : Nat → Bytes → Option (List DeltaRec)
  | 0, b => if b.isEmpty then some [] else none
  | n + 1, b =>
    if b.isEmpty then some []
    else
      let region := byteAt b 0
      let size := ckSize region
      if 8 < region || b.length < 4 + size then none
      else (parseRecords n (b.drop (4 + size))).map (fun rs => ⟨region, getBe b 1 3, slice b 4 size⟩ :: rs)

/-- A standby's pass has completed without a gap on the active image (Table 10.8). -/
def passComplete (d : Dev) : Dev :=
  let im := d.prog.image.getD {}
  if d.red.standby != .syncing || w64 (getLe d.red.replica 0 8) != im.imageId then d
  else if (d.peerTasks d.tick).isEmpty then requestLease (setStandby .ready d)
  else setStandby .joining { d with red := { d.red with joinDone := Vector.replicate 8 0 } }

/-- One frame applied in stream order (R408). -/
def applyFrame (f : FirnFrame) (d : Dev) : Dev :=
  let im := d.prog.image.getD {}
  let put := fun (r : Bytes) (d : Dev) => { d with red := { d.red with replica := r } }
  match f with
  | .delta t last _ _ _ recs =>
    let d := put (recs.foldl (fun r x => im.ckApply r x) (im.sized d.red.replica)) d
    if last then modFirn (fun f => { f with lastDelta := vset f.lastDelta t d.tick }) d else d
  | .segment pass off data =>
    let d := put (patch (im.sized d.red.replica) off data) d
    let x := d.red.firn
    let (got, clean) := if off = 0 then (0, true) else (x.rxGot, x.rxClean && x.rxPass == pass)
    let got := if off = got then got + data.length else got
    let d := modFirn (fun f => { f with rxPass := pass, rxGot := got, rxClean := clean }) d
    if clean && got = im.checkpointSize then passComplete d else d

/-- Frames held out of order that have become due (R406), by fuel. -/
def drainFrames : Nat → Dev → Dev
  | 0, d => d
  | n + 1, d =>
    let x := d.red.firn
    match x.staging.find? (fun e => e.1 == x.rxSeq + 1) with
    | none => d
    | some (q, f) =>
      drainFrames n (applyFrame f (modFirn (fun x => { x with
        rxSeq := q, sinceAck := x.sinceAck + 1, staging := x.staging.filter (fun e => e.1 != q) }) d))

/-- A firn frame arrives: applied in order, held while one before it is missing, discarded when it has been applied
(R406). -/
def takeFrame (seq : Word) (f : FirnFrame) (d : Dev) : Dev :=
  let x := d.red.firn
  if !d.follows || !d.red.shapeOk || d.red.standby == .faulty || d.red.standby == .unpaired then d
  else
    let d := if x.synced then d else modFirn (fun y => { y with synced := true, rxSeq := seq - 1, staging := [] }) d
    let x := d.red.firn
    if !seqGreater seq x.rxSeq || x.staging.any (fun e => e.1 == seq) then d
    else
      let d := modFirn (fun y => { y with staging := y.staging ++ [(seq, f)] }) d
      let d := drainFrames (x.staging.length + 1) d
      if 64 ≤ d.red.firn.sinceAck then sendFirnAck d else d

/-- FIRN_DELTA_RECEIVED (R406, R407). -/
def execFirnDeltaReceived (via : Via) (data : Bytes) (s : State) : Host.Outcome State Fault Refusal :=
  nextD s fun d =>
    pairPayload 0x48 via data d fun p =>
      let fl := byteAt p 5
      if p.length < 16 || 7 < byteAt p 4 || 3 < fl || !allZero p 12 4 then d
      else match parseRecords p.length (p.drop 16) with
        | none => d
        | some recs => takeFrame (w32 (getBe p 0 4))
            (.delta (byteAt p 4) (fl.testBit 0) (fl.testBit 1) (getBe p 6 2) (w32 (getBe p 8 4)) recs) d

/-- FIRN_SEGMENT_RECEIVED (R406, R408). -/
def execFirnSegmentReceived (via : Via) (data : Bytes) (s : State) : Host.Outcome State Fault Refusal :=
  nextD s fun d =>
    pairPayload 0x49 via data d fun p =>
      if p.length < 16 || !allZero p 14 2 || p.length != 16 + getBe p 12 2 then d
      else takeFrame (w32 (getBe p 0 4)) (.segment (getBe p 4 4) (getBe p 8 4) (p.drop 16)) d

/-- A standby that leaves READY asks for the lease no longer (R412). -/
def dropRequest (d : Dev) : Dev :=
  if d.follows then modLease (fun l => { l with
    outstanding := [], state := if l.state = .requesting then .none else l.state }) d else d

/-- FIRN_GAP_TIMEOUT (R409): a frame missing for 10 ms. The stream goes on from what has arrived, and the standby
leaves READY. -/
def execFirnGapTimeout (s : State) : Host.Outcome State Fault Refusal :=
  nextD s fun d =>
    match d.red.firn.staging with
    | [] => d
    | e :: es =>
      if !d.follows then d
      else
        let low := es.foldl (fun a x => if seqGreater a x.1 then x.1 else a) e.1
        let d := modFirn (fun f => { f with rxSeq := low - 1, rxClean := false, gaps := satInc f.gaps }) d
        let d := drainFrames (es.length + 1) d
        let st := d.red.standby
        let d := if st = .ready || st = .joining then setStandby .syncing (shadowEnd 5 d) else d
        sendFirnAck (gapEvent 1 d.gapCounter (modFirn (fun f => { f with rxClean := false }) (dropRequest d)))

/-! ## Pairing (R388) -/

/-- The shape record of the own stack: VARIANT at each position. -/
def Dev.shape (d : Dev) : List Half := (List.range d.stackS).map fun i =>
  if i = d.sys.stackPos.toNat then BitVec.ofNat 16 d.variant else (vget d.gl.pos i).variant

/-- SHAPE_RECORD_EXCHANGE (R388): the pair path rises, with the peer's record, or falls. -/
def execShapeRecordExchange (up : Bool) (peer : List (Half × DWord)) (s : State) : Host.Outcome State Fault Refusal :=
  nextD s fun d =>
    if !d.red.cfg.paired || !d.master then d
    else if !up then
      let st := d.red.standby
      let st := if st == .ready || st == .syncing || st == .joining then StandbyState.unpaired else st
      shadowEnd 5 (dropRequest { d with red := { d.red with
        pathUp := false, shapeOk := false, standby := st, peerState := .none
        firn := { d.red.firn with synced := false, staging := [] } } })
    else if peer.map (·.1) != d.shape then
      gapEvent 3 d.gapCounter { d with red := { d.red with
        pathUp := true, shapeOk := false, standby := if d.follows then .unpaired else d.red.standby } }
    else
      let fresh : Firn := { d.red.firn with
        synced := false, staging := [], rxClean := false, rxGot := 0, unacked := [], passOff := none, passLast := none }
      let d := { d with red := { d.red with pathUp := true, shapeOk := true, peerState := .none, firn := fresh } }
      if d.follows && d.red.standby == .unpaired then sendFirnAck (setStandby .syncing d) else d

/-! ## Shadow compare (R411, R421) -/

/-- The committed values that a shadow cycle starts from: the replica, the K overrides, and the standby's own
non-retentive M and V. -/
def Dev.shadowVals (d : Dev) (im : Image) : Map TV :=
  let rep := d.red.replica
  let q := (List.range im.nQ).map (fun n => (ekey spQ n, ckValue (im.ckRead rep 4 n)))
  let kept := fun (sp region : Nat) => (List.range (im.retentive sp).length).map (fun n =>
    (ekey sp (lget (im.retentive sp) n), ckValue (im.ckRead rep region n)))
  let k := (List.range (im.ckCount 7)).filterMap (fun n =>
    let b := im.ckRead rep 7 n
    if allZero b 0 12 then none else some (ekey spK (getLe b 0 4), ckValue (b.drop 4)))
  let base := if d.prog.vals.isEmpty then d.initVals im else d.prog.vals
  mputAll (mputAll base (q.filter (fun e => (im.qmvOf spQ (keyEl e.1)).isSome))) (kept spM 5 ++ kept spV 6 ++ k)

/-- The records of a replica. -/
def Image.ckTimers (im : Image) (rep : Bytes) : Map TimerRec :=
  (List.range im.nT).map (fun n => (n, timerOfBytes (im.ckRead rep 1 n)))
def Image.ckCounters (im : Image) (rep : Bytes) : Map CtrRec :=
  (List.range im.nC).map (fun n => (n, ctrOfBytes (im.ckRead rep 2 n)))
def Image.ckEdges (im : Image) (rep : Bytes) : Map EdgeRec :=
  (List.range im.nE).map (fun k => (k, edgeOfByte (byteAt (im.ckRead rep 3 (k / 4)) 0) k))

/-- A copy of the device on which a cycle of task t runs from the replica and a frozen input image (R421): it drives
nothing, and only its results are looked at. -/
def Dev.shadowDev (d : Dev) (im : Image) (t : Nat) (tau : DWord) (cycle : Word) (inputs : Map TV) : Dev :=
  let vals := d.shadowVals im
  let k : Task := { d.task t with st := .execute, counter := cycle, t0 := tau.toNat / 50, inputs := inputs, snap := vals,
                                  deadlinePassed := true, runs := [] }
  { d with prog := { d.prog with
      vals := vals, timers := im.ckTimers d.red.replica, counters := im.ckCounters d.red.replica
      edges := im.ckEdges d.red.replica, forces := [], tasks := vset d.prog.tasks t k } }

/-- A block of the shadow cycle. -/
def shadowBlock (t b : Nat) (d : Dev) : Dev :=
  let d := runWords 0 2048 (modCell 0 (enterBlock t b) d)
  modTask t (fun k => { k with runs := mput k.runs b { exec := (d.cell 0).exec } }) d

/-- The results of a shadow cycle: its committed copy. -/
def shadowRun (im : Image) (t : Nat) (d : Dev) : Dev :=
  let d := (List.range im.blocks.length).foldl (fun d b =>
    if (lget im.blocks b).task == t then shadowBlock t b d else d) d
  commitValues t (commitJournals t d)

/-- The first record in which two deltas differ, in regions 1 to 6. -/
def firstDiff (a b : List DeltaRec) : Option DeltaRec :=
  let x := a.filter (fun r => 1 ≤ r.region && decide (r.region ≤ 6))
  let y := b.filter (fun r => 1 ≤ r.region && decide (r.region ≤ 6))
  (x.find? (fun r => !y.contains r)).orElse fun _ => y.find? (fun r => !x.contains r)

/-- A compared cycle without a mismatch: JOINING ends once JOIN_CYCLES cycles of every running task have passed
(Table 10.8). -/
def joinStep (t : Nat) (d : Dev) : Dev :=
  if d.red.standby != .joining then d
  else
    let d := { d with red := { d.red with joinDone := vmod d.red.joinDone t (· + 1) } }
    if (d.peerTasks d.tick).all (fun x => decide (d.red.cfg.joinCycles ≤ vget d.red.joinDone x)) then
      requestLease (setStandby .ready d)
    else d

/-- The first mismatch stays in the report (Table 10.12). -/
def shadowMiss (t : Nat) (r : DeltaRec) (cycle : Word) (d : Dev) : Dev :=
  modShadow (fun s => { s with
    mismatches := s.mismatches + 1
    firstTask := if s.mismatches = 0 then t else s.firstTask
    firstElem := if s.mismatches = 0 then (if r.region = 4 then r.entry else 0xFFFF) else s.firstElem
    firstCycle := if s.mismatches = 0 then cycle else s.firstCycle }) d

/-- SHADOW_INPUT_RECEIVED (R411, R421): a cycle of the active device runs from the replica as it stood before its delta,
and is compared with that delta; one not finished within 2 periods is skipped. -/
def execShadowInputReceived (t : Fin 8) (tau : DWord) (cycle : Word) (inputs : Map TV) (delta : List DeltaRec)
    (inTime : Bool) (s : State) : Host.Outcome State Fault Refusal :=
  nextD s fun d =>
    match d.prog.image with
    | none => d
    | some im =>
      let join := d.red.standby == .joining
      if !d.follows || !(join || d.red.standby == .ready) || d.red.cfg.network then d
      else if !inTime then modShadow (fun s => { s with skipped := s.skipped + 1 }) d
      else
        let x := shadowRun im t (d.shadowDev im t tau cycle inputs)
        let d := modProg (fun p => { p with vals := x.prog.vals }) d
        match firstDiff (x.cycleRecords im t) delta with
        | none => joinStep t (modShadow (fun s => { s with compared := s.compared + 1 }) d)
        | some r =>
          let d := modShadow (fun s => { s with compared := s.compared + 1 }) d
          let analogue := r.region == 4 && im.analogue spQ r.entry
          let d := mismatch (if join then 2 else 3) t analogue (if r.region = 4 then r.entry else 0x3FFF) (shadowMiss t r cycle d)
          if join then standbyFaulty d else d

/-- SHADOW_COMPARE_TIMEOUT (R425): DURATION has passed. -/
def execShadowCompareTimeout (s : State) : Host.Outcome State Fault Refusal :=
  nextD s fun d => if d.tick < d.red.shadow.until_ then d else shadowEnd 2 d

/-! ## Takeover (R413 to R417) -/

/-- The elapsed time that a timer of a task is rebased by (R414), in µs. -/
def Dev.rebase (d : Dev) (im : Image) (t : Nat) : DWord :=
  let arrived := vget d.red.firn.lastDelta t - (d.task t).cfg.offset
  BitVec.ofNat 64 (50 * arrived) - w64 (getLe (im.ckRead d.red.replica 0 t) 4 8)

/-- The task whose blocks use a timer. -/
def Image.timerTask (im : Image) (n : Nat) : Nat :=
  ((im.blocks.find? (fun b => (b.code.map decodeWord).any (fun i => isTimer i.op && i.index == n))).map (·.task)).getD 0

/-- The replica becomes the device's own state (R413). -/
def loadReplica (im : Image) (d : Dev) : Dev :=
  let rep := d.red.replica
  let vals := Dev.shadowVals { d with prog := { d.prog with vals := [] } } im
  let timers := (im.ckTimers rep).map (fun e => (e.1, { e.2 with tauLast := e.2.tauLast + d.rebase im (im.timerTask e.1) }))
  let d := modProg (fun p => { p with
    vals := vals, timers := timers, counters := im.ckCounters rep, edges := im.ckEdges rep, forces := []
    tasks := Vector.ofFn (fun (t : Fin 8) =>
      { vget p.tasks t.val with counter := w32 (getLe (im.ckRead rep 0 t) 0 4) }) }) d
  let kept := fun (sp : Nat) => (im.retentive sp).map (fun el => (ekey sp el, mgetD vals (ekey sp el) {}))
  let kOver := (List.range (im.ckCount 7)).filterMap (fun n =>
    let b := im.ckRead rep 7 n
    if allZero b 0 12 then none else some (getLe b 0 4, ckValue (b.drop 4)))
  let d := { d with pwr := { d.pwr with retData := {
    counters := Vector.ofFn (fun (t : Fin 8) => w32 (getLe (im.ckRead rep 0 t) 0 4))
    taus := Vector.ofFn (fun (t : Fin 8) => w64 (getLe (im.ckRead rep 0 t) 4 8))
    elems := kept spM ++ kept spV, kOver := kOver } } }
  let d := (List.range im.loops.length).foldl (fun d n =>
    let l := lget im.loops n
    if l.position = d.sys.stackPos.toNat then
      modSlot l.unit l.slot (fun s => loopOfBytes (im.ckRead rep 8 n) d.tick s) d
    else d) d
  shadowWrite (vals.map (·.1)) d

/-- TAKEOVER_LOAD_DONE (R413, R414): the last device of the stack has loaded. The tasks that ran on the failed device
start from the new origin. -/
def execTakeoverLoadDone (s : State) : Host.Outcome State Fault Refusal :=
  nextD s fun d =>
    match d.prog.image with
    | none => d
    | some im =>
      if d.red.standby != .loading || d.stopped then d
      else
        let last := (List.range 8).foldl (fun a t => max a (vget d.red.firn.lastDelta t)) 0
        let ts := (d.peerTasks last).filter (fun t => (d.task t).cfg.enable)
        let d := modProg (fun p => { p with origin := d.tick }) (loadReplica im d)
        let d := ts.foldl (fun d t => modTask t (fun k => { k with
          st := .starting, firstT0 := d.tick + k.cfg.phase, overruns := 0, stopReq := none, stoppedSafe := false, runs := [] }) d) d
        announce (if ts.isEmpty then setStandby .none d else setStandby .warmup d)

/-! ## Planned switchover (R419, R424) -/

/-- SWITCHOVER_FENCE (R419): after the commit at the fence instant, its delta goes out with FINAL, and the device
fences: cause 4. -/
def execSwitchoverFence (s : State) : Host.Outcome State Fault Refusal :=
  nextD s fun d =>
    match d.red.switchAt with
    | none => d
    | some at_ =>
      if d.tick < at_ then d
      else
        let d := match d.runningTasks.head? with
          | some t => if (d.task t).toPublish then
              sendDelta t true (modTask t (fun k => { k with st := .wait, toPublish := false }) d) else d
          | none => d
        fence 4 d

/-- The first commit point of the lowest-numbered running task at least 1 ms ahead. -/
def Dev.commitAhead (d : Dev) : Nat :=
  let from_ := d.tick + 20
  match d.runningTasks.head? with
  | none => from_
  | some t =>
    let k := d.task t
    let first := (if k.st = .starting then k.firstT0 else k.t0) + k.cfg.offset
    if from_ ≤ first || k.cfg.period = 0 then first
    else first + (from_ - first + k.cfg.period - 1) / k.cfg.period * k.cfg.period

/-- Operations of R220 that are incomplete: a program swap or a migration. -/
def Dev.moving (d : Dev) : Bool := d.prog.swap.pending || d.prog.swap.inGap || d.prog.mig.state != .none

/-- SWITCHOVER_REQUEST (R424). -/
def execSwitchoverRequest (o : Origin) (s : State) : Host.Outcome State Fault Refusal :=
  runCmd s o 0x0802 always
    (fun _ d p => [posTest d, lenIs p 8, resv p [(4, 4)], (getLe p 0 4 != 0x5A5A0802, stBadParam),
      (!d.red.lease.state.holds || d.red.peerState != .ready, stNotPermitted), (d.moving, stBusy)])
    (fun _ d _ =>
      let at_ := d.commitAhead
      ({ d with red := { d.red with switchAt := some at_ } }, .ok (leBytes 8 at_)))

/-- SHADOW_COMPARE_START (R425). -/
def execShadowCompareStart (o : Origin) (s : State) : Host.Outcome State Fault Refusal :=
  runCmd s o 0x0803 always
    (fun _ d p => [posTest d,
      (d.sys.role != .active || d.red.peerState != .ready || d.red.cfg.network, stNotPermitted),
      lenIs p 8, resv p [(5, 3)], (decide (1 < byteAt p 4), stBadParam), (d.red.shadow.state == 1, stBusy),
      (getLe p 0 4 == 0 || decide (86400 < getLe p 0 4), stRange)])
    (fun _ d p =>
      let x : ShadowCmp := {
        state := 1, until_ := d.tick + 20000 * getLe p 0 4, startTick := d.tick, stopOnMismatch := (byteAt p 4).testBit 0 }
      ({ d with red := { d.red with shadow := x } }, .ok (leBytes 8 d.tick)))

/-- The report of Table 10.12. On the active device the counts come from its standby by a way that the manual does not
give: they are free (log entry 33). -/
def shadowReport (d : Dev) : Bytes × Dev :=
  let s := d.red.shadow
  let out := fun (state c m k t el : Nat) (cyc : Word) (sec : Nat) =>
    leBytes 1 state ++ zeros 3 ++ leBytes 8 c ++ leBytes 4 m ++ leBytes 4 k ++ leBytes 1 t ++ zeros 1 ++ leBytes 2 el ++
      leBytes 4 cyc.toNat ++ leBytes 4 sec
  let sec := if s.state = 1 then (d.tick - s.startTick) / 20000 else s.ranS
  if d.sys.role == .standby then (out s.state s.compared s.mismatches s.skipped s.firstTask s.firstElem s.firstCycle sec, d)
  else if s.state = 0 then (out 0 0 0 0 0 0 0 0, d)
  else
    let (c, d) := freshNat d
    let (m, d) := freshNat d
    let (k, d) := freshNat d
    let (t, d) := freshNat d
    let (el, d) := freshNat d
    let (cyc, d) := freshNat d
    let state := if s.stopOnMismatch && m % 2 ^ 32 != 0 then 4 else s.state
    (out state c m k (t % 8) el (w32 cyc) sec, d)

/-- SHADOW_COMPARE_STOP (R425). -/
def execShadowCompareStop (o : Origin) (s : State) : Host.Outcome State Fault Refusal :=
  runCmd s o 0x0804 always
    (fun _ d p => [posTest d, lenIs p 4, resv p [(1, 3)], (decide (1 < byteAt p 0), stBadParam)])
    (fun _ d p =>
      let d := if (byteAt p 0).testBit 0 then d else shadowEnd 3 d
      let (b, d) := shadowReport d
      (d, .ok b))

end Sys2Proof.Machine
end

