-- ==== Sys2Proof/Machine/Otp.lean ====
section
/-!
DEFINITION. Machine/Otp.lean: user OTP and the factory fuse block (chapter 14): records and their states, the settings and
keys in force from reset, programming a record, and the commands of class 0x0Cxx with REPAIR_COMMIT.
-/

namespace Sys2Proof.Machine

open Sys2Proof

/-! ## Records (R530 to R533) -/

/-- Settings slot s and key generation k (Table 14.3). -/
def settingsBase (s : Nat) : Nat := 0x400 * s
def keysBase (k : Nat) : Nat := 0x1000 + 0x400 * k

/-- The 1,024 bytes of a record. -/
def otpRecord (m : Mems) (base : Nat) : Bytes := Memory.readN 0 m.otp base 1024

def recordUsed (b : Bytes) : Bool := !allZero b 0 1024

/-- GENERATION, VALID and the CRC all hold (R531). -/
def recordValid (n : Nat) (b : Bytes) : Bool :=
  getLe b 0 4 == n && getLe b 4 4 == 0xA5A55A5A && getLe b 1020 4 == (crc32c (b.take 4 ++ slice b 8 1012)).toNat

/-- The numbers among n records whose record passes a test. -/
def recordsWith (m : Mems) (base : Nat → Nat) (n : Nat) (f : Nat → Bytes → Bool) : List Nat :=
  (List.range n).filter (fun i => f i (otpRecord m (base i)))

def usedRecords (m : Mems) (base : Nat → Nat) (n : Nat) : List Nat := recordsWith m base n (fun _ b => recordUsed b)
def validRecords (m : Mems) (base : Nat → Nat) (n : Nat) : List Nat := recordsWith m base n recordValid

def maskOf (l : List Nat) : Nat := (l.map (2 ^ ·)).sum

/-- The record that a write takes: the lowest blank one above every used one (R534). -/
def nextRecord (m : Mems) (base : Nat → Nat) (n : Nat) : Option Nat :=
  let k := match (usedRecords m base n).getLast? with
    | some u => u + 1
    | none => 0
  if k < n then some k else none

/-- Reserved bytes of a settings content (offsets 8 to 1,019 of the record, Table 14.5; those of NET_DEFAULTS,
Table 9.10). -/
def settingsResv (c : Bytes) : Bool :=
  !(allZero c 5 3 && allZero c 52 960 && allZero c (12 + 25) 3 && allZero c (12 + 34) 6)

/-- A field outside its range (R535); NET_DEFAULTS that are not all 0 are tested as NET_CONFIG tests its request. -/
def settingsRange (c : Bytes) : Bool :=
  let nd := slice c 12 40
  decide (8 < byteAt c 2) || decide (16 < byteAt c 3) ||
    (byteAt c 4 != 0 && (decide (byteAt c 4 < 5) || decide (50 < byteAt c 4))) ||
    (!allZero nd 0 40 && (firstFail (netCfgTests nd)).isSome)

/-- A valid slot that may be active (R533). -/
def settingsUsable (n : Nat) (b : Bytes) : Bool :=
  let c := slice b 8 1012
  recordValid n b && getLe c 0 2 == 1 && !settingsResv c && !settingsRange c

/-- The settings of a content (Table 14.5). -/
def settingsOf (c : Bytes) : Settings :=
  { stackSize := if byteAt c 2 = 0 then 1 else byteAt c 2, spareReserve := byteAt c 3
    speedGuard := if byteAt c 4 = 0 then 15 else byteAt c 4
    subsysVendor := BitVec.ofNat 16 (getLe c 8 2), subsysId := BitVec.ofNat 16 (getLe c 10 2)
    netDefaults := slice c 12 40 }

/-- The keys of a content (Table 14.6). -/
def keysOf (c : Bytes) : Keys :=
  { signHashes := (List.range (byteAt c 0)).map (fun i => slice c (8 + 32 * i) 32)
    hmacPresent := BitVec.ofNat 8 (byteAt c 136)
    hmac := (List.range 8).map (fun i => slice c (152 + 32 * i) 32) }

/-- What the device reads at every reset (R528, R529, R533): the fuse block and the records of user OTP. -/
def otpAtReset (m : Mems) : Otp :=
  let slot := (recordsWith m settingsBase 4 settingsUsable).getLast?
  let gen := (validRecords m keysBase 2).getLast?
  { fuseOk := fromLe (Memory.readN 0 m.fuse 0x1F0 4) == (crc32c (Memory.readN 0 m.fuse 0 0x1F0)).toNat
    sg := Vector.ofFn (fun (t : Fin 32) => BitVec.ofNat 16 (fromLe (Memory.readN 0 m.fuse (0x20 + 2 * t.val) 2)))
    activeSlot := slot, activeGen := gen
    settings := (slot.map (fun s => settingsOf (slice (otpRecord m (settingsBase s)) 8 1012))).getD {}
    keys := gen.map (fun k => keysOf (slice (otpRecord m (keysBase k)) 8 1012)) }

/-! ## Programming (R532, R539) -/

def otpWriteBytes (a : Nat) (b : Bytes) (m : Mems) : Mems := { m with otp := Memory.writeN 0 m.otp a b }

/-- A complete record: content, GENERATION, CRC, VALID. -/
def fullRecord (n : Nat) (content : Bytes) : Bytes :=
  let c := padTo 1012 content
  leBytes 4 n ++ leBytes 4 0xA5A55A5A ++ c ++ leBytes 4 (crc32c (leBytes 4 n ++ c)).toNat

/-- What a write that does not complete leaves: a record that is neither blank nor valid (R531, R532). Which bytes it
holds is open: VALID does not hold, and not every byte is 0. -/
def spoil (n valid : Nat) (d : Dev) : Bytes × Dev :=
  let (b, d) := freeBytes n d
  let b := b.set valid ((lget b valid) &&& 0xFD)
  (if allZero b 0 n then b.set 0 1 else b, d)

/-- Where an OTP write stands, and the bytes it programs. -/
def OtpWrite.target : OtpWrite → Nat × Bytes
  | .settings n c _ => (settingsBase n, fullRecord n c)
  | .keys n c _ => (keysBase n, fullRecord n c)
  | .repair e b _ _ => (0x1800 + 8 * e, b)

def OtpWrite.waiter : OtpWrite → Waiter
  | .settings _ _ w => w
  | .keys _ _ w => w
  | .repair _ _ _ w => w

def OtpWrite.code : OtpWrite → Nat
  | .settings .. => 0x0C01
  | .keys .. => 0x0C03
  | .repair .. => 0x0903

/-- Area and number of SETTINGS_CHANGED (R542). -/
def OtpWrite.detail : OtpWrite → Nat
  | .settings n .. => 1 + 256 * n
  | .keys n .. => 2 + 256 * n
  | .repair e .. => 3 + 256 * e

/-- The number that the response names. -/
def OtpWrite.number : OtpWrite → Nat
  | .settings n .. => n
  | .keys n .. => n
  | .repair e .. => e

/-- A write that is cut short spoils its record. -/
def spoilWrite (w : OtpWrite) (m : Mems) (d : Dev) : Dev × Mems :=
  let n := w.target.2.length
  let (b, d) := spoil n (if n = 8 then 7 else 4) d
  (d, otpWriteBytes w.target.1 b m)

/-- A committed candidate leaves the list (R455). -/
def dropCandidate (k : Candidate) (d : Dev) : Dev :=
  modInteg (fun g => { g with candidates := g.candidates.filter (fun c => c != k) }) d

/-- OTP_WRITE_DONE: the record reads back and is valid, or it is spoiled (Table 14.4). -/
def otpDone (ok : Bool) (m : Mems) (d : Dev) : Dev × Mems :=
  match d.otp.write with
  | none => (d, m)
  | some w =>
    let d := { d with otp := { d.otp with write := none } }
    if ok then
      let d := match w with
        | .repair _ _ (some k) _ => dropCandidate k d
        | _ => d
      (respondTo w.waiter stOk (leBytes 1 w.number ++ zeros 3) (raise .settingsChanged w.detail d),
       otpWriteBytes w.target.1 w.target.2 m)
    else
      let (d, m) := spoilWrite w m d
      (respondTo w.waiter stInternal [] (raise .fwFault w.code d), m)

def execOtpWriteDone (ok : Bool) (s : State) : Host.Outcome State Fault Refusal := nextM s (otpDone ok)

/-- The refusals of R539 that follow the others. -/
def otpBusy (d : Dev) : List (Bool × Half) :=
  [ (d.otp.write.isSome, stBusy), (d.pwr.pfw || d.pwr.hold, stNotPermitted) ]

def startOtp (w : OtpWrite) (d : Dev) : Dev := { d with otp := { d.otp with write := some w } }

/-! ## Class 0x0Cxx -/

/-- The head of SETTINGS_READ. -/
def otpHead (m : Mems) (d : Dev) : Bytes :=
  leBytes 1 (d.otp.activeSlot.getD 0xFF) ++ leBytes 1 (maskOf (usedRecords m settingsBase 4)) ++
    leBytes 1 (maskOf (validRecords m settingsBase 4)) ++ leBytes 1 (d.otp.activeGen.getD 0xFF) ++
    leBytes 1 (maskOf (usedRecords m keysBase 2)) ++
    leBytes 1 ((List.range 32).filter (repairUsed m)).length ++ zeros 10

/-- SETTINGS_READ (R533). -/
def execSettingsRead (o : Origin) (s : State) : Host.Outcome State Fault Refusal :=
  runCmd s o 0x0C00 always
    (fun _ _ p => [ lenIs p 4, resv p [(1, 3)], (decide (3 < byteAt p 0) && byteAt p 0 != 0xFF, stRange) ])
    fun m d p =>
      (d, .ok (otpHead m d ++ (if byteAt p 0 = 0xFF then [] else otpRecord m (settingsBase (byteAt p 0)))))

/-- SETTINGS_WRITE_GENERATION (R540): it answers when the slot is programmed. -/
def execSettingsWriteGeneration (o : Origin) (s : State) : Host.Outcome State Fault Refusal :=
  runCmd s o 0x0C01 always
    (fun m d p =>
      let c := p.drop 8
      [ (o == .net, stNotPermitted), lenIs p 1020, (!allZero p 4 4 || settingsResv c, stBadParam),
        (getLe p 0 4 != 0x5A5A0C01 || getLe c 0 2 != 1, stBadParam), (settingsRange c, stRange),
        ((nextRecord m settingsBase 4).isNone, stOtpExhausted) ] ++ otpBusy d)
    fun m d p => (startOtp (.settings ((nextRecord m settingsBase 4).getD 0) (p.drop 8) (some o)) d, .later)

/-- FUSE_READ (R528). -/
def execFuseRead (o : Origin) (s : State) : Host.Outcome State Fault Refusal :=
  runCmd s o 0x0C02 always
    (fun _ _ p =>
      let off := getLe p 0 2
      let n := getLe p 2 2
      [ lenIs p 4, (off % 4 != 0 || n % 4 != 0 || decide (n < 4) || decide (512 < n) || decide (512 < off + n), stRange) ])
    fun m d p =>
      (d, .ok (Memory.readN 0 m.fuse (getLe p 0 2) (getLe p 2 2) ++ leBytes 1 (b2n (!d.otp.fuseOk))))

/-- The three tests of R541 that R540 does not have. -/
def keysBad (c : Bytes) : Bool :=
  decide (byteAt c 0 < 1 ∨ 4 < byteAt c 0) ||
    (List.range 4).any (fun i => decide (byteAt c 0 ≤ i) && !allZero c (8 + 32 * i) 32) ||
    (List.range 8).any (fun i => (byteAt c 136).testBit i == allZero c (152 + 32 * i) 32)

/-- KEY_INSTALL (R541). -/
def execKeyInstall (o : Origin) (s : State) : Host.Outcome State Fault Refusal :=
  runCmd s o 0x0C03 always
    (fun m d p =>
      let c := p.drop 8
      [ lenIs p 1020, (!(allZero p 4 4 && allZero c 1 7 && allZero c 137 15 && allZero c 408 604), stBadParam),
        (getLe p 0 4 != 0x5A5A0C03 || keysBad c, stBadParam),
        ((nextRecord m keysBase 2).isNone, stOtpExhausted) ] ++ otpBusy d)
    fun m d p => (startOtp (.keys ((nextRecord m keysBase 2).getD 0) (p.drop 8) (some o)) d, .later)

/-! ## REPAIR_COMMIT -/

/-- What REPAIR_COMMIT names: a held candidate (OP 1), or the line of its request (OP 2). -/
def repairTarget (d : Dev) (p : Bytes) : Option Candidate :=
  match byteAt p 0 with
  | 1 => d.integ.candidates[byteAt p 1]?
  | 2 => some { memory := byteAt p 8, index := byteAt p 9, macro_ := byteAt p 10, column := byteAt p 11 == 1
                line := getLe p 12 2, bytes := 0 }
  | _ => none

/-- The entry of R538. -/
def repairBytes (k : Candidate) : Bytes :=
  let b := leBytes 1 k.memory ++ leBytes 1 k.index ++ leBytes 1 k.macro_ ++ leBytes 1 (b2n k.column) ++ leBytes 2 k.line
  b ++ [repairCheck b, 0x5A]

/-- Entries of the field-repair area that are blank, lowest first. -/
def blankRepairs (m : Mems) : List Nat := (List.range 32).filter (fun e => !repairUsed m e)

/-- The statuses of R455. -/
def repairTests (o : Origin) (m : Mems) (d : Dev) (p : Bytes) : List (Bool × Half) :=
  let op := byteAt p 0
  let writes := op == 1 || op == 2
  let spareless := match repairTarget d p with
    | some k => freeSpares m d k.memory k.index k.macro_ k.column == 0
    | none => false
  [ (o == .net, stNotPermitted), lenIs p 16, resv p [(2, 2), (14, 2)],
    (decide (3 < op) || getLe p 4 4 != (if writes then 0x5A5A0903 else 0) ||
      (op == 2 && (decide (1 < byteAt p 11) || (memShape (byteAt p 8)).isNone)), stBadParam),
    (((op == 1 || op == 3) && decide (d.integ.candidates.length ≤ byteAt p 1)) ||
      (op == 2 && (decide (memMacros (byteAt p 8) ≤ byteAt p 10) ||
        decide (memLines (byteAt p 8) (byteAt p 11 == 1) ≤ getLe p 12 2))) || spareless, stRange),
    (writes && (blankRepairs m).isEmpty, stOtpExhausted) ] ++
    (if writes then otpBusy d else [])

/-- The LIST of candidates. -/
def repairList (m : Mems) (d : Dev) : Bytes :=
  let free := (blankRepairs m).length
  leBytes 1 (32 - free) ++ leBytes 1 free ++ leBytes 1 d.integ.candidates.length ++ zeros 1 ++
    d.integ.candidates.flatMap (fun k =>
      leBytes 1 k.memory ++ leBytes 1 k.index ++ leBytes 1 k.macro_ ++ leBytes 1 (b2n k.column) ++ leBytes 2 k.line ++
        leBytes 2 k.bytes ++ leBytes 1 (freeSpares m d k.memory k.index k.macro_ k.column) ++ zeros 3)

def repairAct (o : Origin) (m : Mems) (d : Dev) (p : Bytes) : Dev × Reply :=
  match byteAt p 0 with
  | 0 => (d, .ok (repairList m d))
  | 3 =>
    (match d.integ.candidates[byteAt p 1]? with
     | some k => dropCandidate k d
     | none => d, .ok ([0xFF] ++ zeros 3))
  | _ =>
    match repairTarget d p, (blankRepairs m).head? with
    | some k, some e =>
      (startOtp (.repair e (repairBytes k) (if byteAt p 0 = 1 then some k else none) (some o)) d, .later)
    | _, _ => (d, .fail stInternal)

/-- REPAIR_COMMIT (R455). -/
def execRepairCommit (o : Origin) (s : State) : Host.Outcome State Fault Refusal :=
  runCmd s o 0x0903 (fun d p => byteAt p 0 == 2 && memAbsent (byteAt p 8) (byteAt p 9) d) (repairTests o) (repairAct o)

end Sys2Proof.Machine
end

