-- ==== Sys2Proof/Machine/Serial.lean ====
section
/-!
DEFINITION. Machine/Serial.lean: the CAN FD controllers (R359 to R361, R381) and the RS-485 UARTs as Modbus RTU master
or IEC 61162-1 listener (R362 to R364, R382).
-/

namespace Sys2Proof.Machine

open Sys2Proof

def modSer (f : Ser → Ser) (d : Dev) : Dev := { d with ser := f d.ser }
def modCan (c : Nat) (f : Can → Can) (d : Dev) : Dev := modSer (fun x => { x with can := vmod x.can c f }) d
def modUart (u : Nat) (f : Uart → Uart) (d : Dev) : Dev := modSer (fun x => { x with uart := vmod x.uart u f }) d

def Dev.img (d : Dev) : Image := d.prog.image.getD {}
def Dev.here (d : Dev) (position : Nat) : Bool := position == d.sys.stackPos.toNat

/-! ## Fields -/

/-- A bus field's element takes a VALUE and quality (R42). -/
def putField (el : Nat) (value : Word) (quality : Byte) (d : Dev) : Dev :=
  let (seq, d) := inputSeq (some el) d
  let v := mkTV (d.img.idOf spI el) value quality seq
  modProg (fun p => { p with fieldIn := mput p.fieldIn el v }) d

/-- The field takes BAD_SOURCE_LOST and keeps its VALUE (R360 to R363). -/
def loseField (el : Nat) (d : Dev) : Dev := putField el (d.fieldValue el).1 qBAD_SOURCE_LOST d

/-- An integer as an element carries it: bits, or Q16.16; a value beyond Q16.16 is left open (log entry 23). -/
def fieldWord (analogue : Bool) (x : Int) (d : Dev) : Word × Dev :=
  if !analogue then (BitVec.ofInt 32 x, d)
  else if -32768 ≤ x ∧ x ≤ 32767 then (BitVec.ofInt 32 (x * 65536), d)
  else
    let (n, d) := freshNat d
    (BitVec.ofNat 32 n, d)

/-- A quotient whose rounding the manual leaves open: either neighbour (log entry 23). -/
def openQuotient (a b : Int) (d : Dev) : Int × Dev :=
  if a % b = 0 then (a / b, d)
  else
    let (up, d) := freshBool d
    (a / b + (if up then 1 else 0), d)

/-- The number of n bytes that a committed value gives on a bus: its bits, or its integer; one that the field cannot
hold is left open (log entry 23). -/
def busNumber (analogue signed : Bool) (n : Nat) (v : Word) (d : Dev) : Nat × Dev :=
  if !analogue then (v.toNat % 256 ^ n, d)
  else
    let (x, d) := openQuotient v.toInt 65536 d
    let lo : Int := if signed then -(256 ^ n / 2 : Nat) else 0
    let hi : Int := if signed then (256 ^ n / 2 - 1 : Nat) else (256 ^ n - 1 : Nat)
    if lo ≤ x ∧ x ≤ hi then ((x % (256 ^ n : Nat)).toNat, d)
    else
      let (k, d) := freshNat d
      (k % 256 ^ n, d)

/-! ## CAN FD -/

/-- The receive objects of a controller of this device. -/
def Dev.canRx (d : Dev) (c : Nat) : List CanDecl :=
  d.img.canObjs.filter (fun x => !x.transmit && x.ctrl == c && d.here x.position)

/-- A frame matches a receive object: format, the identifier under the mask, and enough bytes (log entry 24). -/
def CanDecl.accepts (x : CanDecl) (id : Nat) (ext : Bool) (data : Bytes) : Bool :=
  x.extended == ext && (id &&& x.mask) == (x.id &&& x.mask) && decide (x.length ≤ data.length)

/-- The integer of a received field. -/
def CanField.number (f : CanField) (data : Bytes) : Int :=
  let x := if f.bigEndian then getBe data f.offset f.size else getLe data f.offset f.size
  if f.signed then toSigned (8 * f.size) x else x

/-- CAN_FRAME_RECEIVED (R360). -/
def execCanFrameReceived (c : Fin 4) (id : Nat) (ext fd : Bool) (data : Bytes) (s : State) :
    Host.Outcome State Fault Refusal :=
  nextD s fun d =>
    let k := vget d.ser.can c
    if !k.cfg.enable || k.busOff || (fd && !k.cfg.fd) then d
    else ((d.canRx c).filter (fun x => x.accepts id ext data)).foldl (fun d x =>
      x.fields.foldl (fun d f =>
        let (v, d) := fieldWord f.analogue (f.number data) d
        putField f.element v qGOOD d) d) d

/-- CAN_RX_TIMEOUT (R360). -/
def execCanRxTimeout (k : Nat) (s : State) : Host.Outcome State Fault Refusal :=
  nextD s fun d =>
    match d.img.canObjs[k]? with
    | some x =>
      if x.transmit || !d.here x.position then d else x.fields.foldl (fun d f => loseField f.element d) d
    | none => d

/-- CAN_BUS_OFF_ENTRY (R361). -/
def execCanBusOffEntry (c : Fin 4) (tec : Byte) (s : State) : Host.Outcome State Fault Refusal :=
  nextD s fun d =>
    let k := vget d.ser.can c
    if !k.cfg.enable || k.busOff then d
    else
      let d := modCan c (fun k => { k with busOff := true, tec := tec, busOffs := min 0xFFFF (k.busOffs + 1) }) d
      raise (.canBusoff c) tec.toNat
        ((d.canRx c).foldl (fun d x => x.fields.foldl (fun d f => loseField f.element d) d) d)

/-- CAN_BUSOFF_RECOVERY (R361). -/
def execCanBusoffRecovery (c : Fin 4) (s : State) : Host.Outcome State Fault Refusal :=
  nextD s fun d =>
    let k := vget d.ser.can c
    if k.cfg.autoRecover && k.busOff then modCan c (fun k => { k with busOff := false, tec := 0, rec_ := 0 }) d else d

/-- The data of a transmit object: committed values, or the substitute of an unusable one (R360). -/
def canData (x : CanDecl) (d : Dev) : Bytes × Dev :=
  x.fields.foldl (fun (a : Bytes × Dev) f =>
    let v := mgetD a.2.prog.vals (ekey f.space f.element) {}
    let w := if qUsable v.quality then v.value else f.substitute
    let (n, d) := busNumber f.analogue f.signed f.size w a.2
    let b := if f.bigEndian then beBytes f.size n else leBytes f.size n
    (a.1.take f.offset ++ b ++ a.1.drop (f.offset + f.size), d)) (zeros x.length, d)

/-- The transmit objects of a task that has committed (R360), at their multiples of its period. -/
def sendCan (t : Nat) (d : Dev) : Dev :=
  (List.range d.img.canObjs.length).foldl (fun d i =>
    let x := lget d.img.canObjs i
    if !x.transmit || x.task != t || !d.here x.position then d
    else
      let n := mgetD d.net.canCount i 0 + 1
      let due := x.period ≤ n
      let d := modNet (fun y => { y with canCount := mput y.canCount i (if due then 0 else n) }) d
      let k := vget d.ser.can x.ctrl
      if !due || !k.cfg.enable || k.busOff || k.cfg.listenOnly then d
      else
        let (b, d) := canData x d
        emit (.can x.ctrl x.id b) d) d

def canCfgOf (p : Bytes) : CanCfg :=
  let f := byteAt p 1
  { enable := f.testBit 0, fd := f.testBit 1, brs := f.testBit 2, listenOnly := f.testBit 3, autoRecover := f.testBit 4,
    tdc := f.testBit 5, nbrp := byteAt p 2, ntseg1 := byteAt p 3, ntseg2 := byteAt p 4, nsjw := byteAt p 5,
    dbrp := byteAt p 6, dtseg1 := byteAt p 7, dtseg2 := byteAt p 8, dsjw := byteAt p 9, tdco := byteAt p 10 }

/-- The tests of R381 but for the role. -/
def canTests (p : Bytes) : List (Bool × Half) :=
  let c := canCfgOf p
  let r := fun (x lo hi : Nat) => decide (x < lo) || decide (hi < x)
  [ lenIs p 16, resv p [(11, 5)], (decide (63 < byteAt p 1), stBadParam),
    (decide (3 < byteAt p 0) || r c.nbrp 1 32 || r c.ntseg1 1 255 || r c.ntseg2 1 128 || r c.nsjw 1 c.ntseg2 ||
      r c.dbrp 1 32 || r c.dtseg1 1 32 || r c.dtseg2 1 16 || r c.dsjw 1 c.dtseg2 || decide (127 < c.tdco) ||
      decide (c.nbrp * (1 + c.ntseg1 + c.ntseg2) < 80) || decide (c.dbrp * (1 + c.dtseg1 + c.dtseg2) < 10), stRange) ]

/-- The controller rejoins the bus with new settings (R381). -/
def canApply (p : Bytes) (d : Dev) : Dev :=
  confChanged (modCan (byteAt p 0) (fun k => { k with cfg := canCfgOf p, busOff := false, tec := 0, rec_ := 0 }) d)

def canStatus (k : Can) : Bytes :=
  let st := if !k.cfg.enable then 0 else if k.busOff then 3
    else if 128 ≤ k.tec.toNat ∨ 128 ≤ k.rec_.toNat then 2 else 1
  leBytes 1 st ++ leBytes 1 k.tec.toNat ++ leBytes 1 k.rec_.toNat ++ zeros 1 ++ leBytes 2 k.busOffs ++ zeros 2

/-- CAN_CONFIG (R381). -/
def execCanConfig (o : Origin) (s : State) : Host.Outcome State Fault Refusal :=
  runCmd s o 0x0704 (fun d p => decide (byteAt p 0 < 4 ∧ d.nCan ≤ byteAt p 0))
    (fun _ d p => roleTest d :: canTests p)
    (fun _ d p =>
      let d := forward 0x0704 p (canApply p d)
      (d, .ok (canStatus (vget d.ser.can (byteAt p 0)))))

/-! ## UARTs -/

/-- UART_ERROR is raised at the first error since it was cleared (R364); every one counts. -/
def uartError (u kind : Nat) (d : Dev) : Dev :=
  let d := modUart u (fun x => { x with errors := min 0xFFFFFFFF (x.errors + 1) }) d
  raiseIf (!d.evt.pending.getLsbD 106) .uartError (u + 2 * kind) d

/-- The CRC of a Modbus RTU frame (PRESUMED, log entry 25). -/
def modbusCrcBit (r : Half) : Half := if r.getLsbD 0 then (r >>> 1) ^^^ 0xA001#16 else r >>> 1
def modbusCrc (d : Bytes) : Half := d.foldl (fun r b => Nat.iterate modbusCrcBit 8 (r ^^^ b.zeroExtend 16)) 0xFFFF#16
def modbusFrame (d : Bytes) : Bytes := d ++ leBytes 2 (modbusCrc d).toNat

/-- The registers that a poll entry writes, from committed values (R362). -/
def pollData (x : PollDecl) (d : Dev) : Bytes × Dev :=
  x.regs.foldl (fun (a : Bytes × Dev) r =>
    let v := mgetD a.2.prog.vals (ekey r.space r.element) {}
    let (n, d) := busNumber r.analogue r.signed 2 v.value a.2
    (a.1 ++ beBytes 2 n, d)) ([], d)

/-- The request of a poll entry. -/
def pollRequest (x : PollDecl) (d : Dev) : Bytes × Dev :=
  let head := beBytes 1 x.slave ++ beBytes 1 x.function ++ beBytes 2 x.start
  if x.function ≤ 4 then (modbusFrame (head ++ beBytes 2 x.regs.length), d)
  else
    let (b, d) := pollData x d
    if x.function = 6 then (modbusFrame (head ++ b), d)
    else (modbusFrame (head ++ beBytes 2 x.regs.length ++ beBytes 1 b.length ++ b), d)

/-- MODBUS_POLL (R362, R607): a standby or an arbiter sends nothing. -/
def execModbusPoll (u : Fin 2) (k : Nat) (s : State) : Host.Outcome State Fault Refusal :=
  nextD s fun d =>
    let y := vget d.ser.uart u
    match d.img.polls[k]? with
    | some x =>
      if y.mode != 1 || x.uart != u.val || !d.here x.position || y.awaiting.isSome || d.stopped || d.passive then d
      else
        let (b, d) := pollRequest x d
        emit (.uart u b) (modUart u (fun y => { y with awaiting := some k }) d)
    | none => d

/-- The elements that a poll entry reads are lost. -/
def loseRegs (x : PollDecl) (d : Dev) : Dev :=
  if x.function ≤ 4 then x.regs.foldl (fun d r => loseField r.element d) d else d

/-- The registers of a reply go to their elements (R362). -/
def takeRegs (x : PollDecl) (data : Bytes) (d : Dev) : Dev :=
  if 4 < x.function then d
  else (List.range x.regs.length).foldl (fun d i =>
    let r := lget x.regs i
    let n := getBe data (3 + 2 * i) 2
    let (v, d) := fieldWord r.analogue (if r.signed then toSigned 16 n else n) d
    putField r.element v qGOOD d) d

/-- A reply that answers a poll entry. -/
def replyOk (x : PollDecl) (data : Bytes) : Bool :=
  byteAt data 0 == x.slave && byteAt data 1 == x.function &&
    (if x.function ≤ 4 then byteAt data 2 == 2 * x.regs.length && data.length == 5 + 2 * x.regs.length
     else data.length == 8 && getBe data 2 2 == x.start)

/-- MODBUS_REPLY (R362, R364): err 1 framing, 2 parity, 3 overrun. -/
def execModbusReply (u : Fin 2) (data : Bytes) (err : Fin 4) (s : State) : Host.Outcome State Fault Refusal :=
  nextD s fun d =>
    match (vget d.ser.uart u).awaiting.bind (fun k => d.img.polls[k]?) with
    | none => d
    | some x =>
      let d := modUart u (fun y => { y with awaiting := none }) d
      if err != 0 then uartError u err (loseRegs x d)
      else if data.length < 4 || getLe data (data.length - 2) 2 != (modbusCrc (data.take (data.length - 2))).toNat then
        uartError u 4 (loseRegs x d)
      else if replyOk x data then takeRegs x data d
      else loseRegs x d

/-- MODBUS_REPLY_TIMEOUT (R362, R364). -/
def execModbusReplyTimeout (u : Fin 2) (s : State) : Host.Outcome State Fault Refusal :=
  nextD s fun d =>
    match (vget d.ser.uart u).awaiting with
    | none => d
    | some k =>
      let d := uartError u 6 (modUart u (fun y => { y with awaiting := none }) d)
      match d.img.polls[k]? with
      | some x => loseRegs x d
      | none => d

/-! ## Sentences (R363) -/

def hexDigit (b : Byte) : Nat :=
  let x := b.toNat
  if 0x30 ≤ x ∧ x ≤ 0x39 then x - 0x30 else if 0x41 ≤ x ∧ x ≤ 0x46 then x - 0x37
  else if 0x61 ≤ x ∧ x ≤ 0x66 then x - 0x57 else 16

def sentenceXor (d : Bytes) : Byte := d.foldl (fun a b => a ^^^ b) 0

/-- The characters between the start character and the "*" of a sentence whose checksum holds. -/
def sentenceBody (d : Bytes) : Option Bytes :=
  let n := d.length
  let body := (d.drop 1).take (n - 6)
  if decide (6 ≤ n ∧ n ≤ 82) && (byteAt d 0 == 0x24 || byteAt d 0 == 0x21) && byteAt d (n - 5) == 0x2A &&
      byteAt d (n - 2) == 0x0D && byteAt d (n - 1) == 0x0A &&
      16 * hexDigit (BitVec.ofNat 8 (byteAt d (n - 4))) + hexDigit (BitVec.ofNat 8 (byteAt d (n - 3))) ==
        (sentenceXor body).toNat then some body
  else none

/-- Fields between commas. -/
def splitFields : Bytes → List Bytes
  | [] => [[]]
  | b :: bs =>
    match splitFields bs with
    | [] => [[b]]
    | f :: fs => if b = 0x2C then [] :: f :: fs else (b :: f) :: fs

/-- Digits of a decimal number: its digits as one integer, and how many stand after the point. -/
def decimalOf : Bytes → Nat → Option Nat → Option (Nat × Nat)
  | [], n, k => some (n, k.getD 0)
  | b :: bs, n, k =>
    if b = 0x2E then (if k.isSome then none else decimalOf bs n (some 0))
    else if 0x30 ≤ b.toNat ∧ b.toNat ≤ 0x39 then decimalOf bs (10 * n + (b.toNat - 0x30)) (k.map (· + 1))
    else none

/-- A signed decimal number as a fraction. -/
def numberOf (d : Bytes) : Option (Int × Nat) :=
  let neg := d.head? == some 0x2D
  let body := if neg then d.drop 1 else d
  if body.isEmpty then none
  else (decimalOf body 0 none).map (fun r => (if neg then -(r.1 : Int) else r.1, 10 ^ r.2))

/-- A decoded field goes to its element: a status letter, a decimal number as Q16.16, or an integer as bits; what it
cannot read is lost as an empty field is (log entry 26). -/
def takeSentence (x : ListenDecl) (f : Bytes) (d : Dev) : Dev :=
  if x.letter then
    if f = [0x41] then putField x.element 1 qGOOD d
    else if f = [0x56] then putField x.element 0 qGOOD d else loseField x.element d
  else match numberOf f with
    | none => loseField x.element d
    | some (n, q) =>
      if x.analogue then
        let (y, d) := openQuotient (n * 65536) q d
        if -(2 ^ 31) ≤ y ∧ y < 2 ^ 31 then putField x.element (BitVec.ofInt 32 y) qGOOD d
        else
          let (k, d) := freshNat d
          putField x.element (BitVec.ofNat 32 k) qGOOD d
      else putField x.element (BitVec.ofInt 32 (n / q)) qGOOD d

/-- The listener fields that a sentence of an address serves. -/
def ListenDecl.matches_ (x : ListenDecl) (u : Nat) (address : Bytes) : Bool :=
  x.uart == u && address.drop 2 == x.formatter && (x.talker == zeros 2 || x.talker == address.take 2)

/-- LISTENER_SENTENCE_RECEIVED (R363, R364): err 1 framing, 2 parity, 3 overrun. -/
def execListenerSentenceReceived (u : Fin 2) (data : Bytes) (err : Fin 4) (s : State) :
    Host.Outcome State Fault Refusal :=
  nextD s fun d =>
    if (vget d.ser.uart u).mode != 2 then d
    else if err != 0 then uartError u err d
    else match sentenceBody data with
      | none => uartError u 5 d
      | some body =>
        let fs := splitFields body
        (d.img.listens.filter (fun x => d.here x.position && x.matches_ u (lget fs 0))).foldl (fun d x =>
          match fs[x.field]? with
          | some f => takeSentence x f d
          | none => loseField x.element d) d

/-- LISTENER_FIELD_TIMEOUT (R363). -/
def execListenerFieldTimeout (k : Nat) (s : State) : Host.Outcome State Fault Refusal :=
  nextD s fun d =>
    match d.img.listens[k]? with
    | some x => if d.here x.position && (vget d.ser.uart x.uart).mode == 2 then loseField x.element d else d
    | none => d

/-! ## UART_CONFIG -/

/-- The tests of R382 but for the role. -/
def uartTests (p : Bytes) : List (Bool × Half) :=
  let baud := getLe p 4 4
  let fmt := byteAt p 2
  [ lenIs p 16, resv p [(3, 1), (12, 4)], (decide (7 < fmt), stBadParam),
    (decide (1 < byteAt p 0) || decide (2 < byteAt p 1) || fmt % 4 == 3 || decide (baud < 1200) ||
      decide (3000000 < baud) || getLe p 8 2 == 0 || decide (1000 < getLe p 8 2) || decide (8 < byteAt p 10) ||
      decide (8 < byteAt p 11), stRange),
    (byteAt p 1 == 2 && (baud != 4800 || fmt != 0), stBadParam) ]

/-- The UART takes new settings; a poll in progress is given up. -/
def uartApply (p : Bytes) (d : Dev) : Dev :=
  let fmt := byteAt p 2
  confChanged (modUart (byteAt p 0) (fun x => { x with
    mode := byteAt p 1, parity := fmt % 4, twoStop := fmt.testBit 2, baud := getLe p 4 4, respTimeout := getLe p 8 2
    deLead := byteAt p 10, deLag := byteAt p 11, errors := 0, awaiting := none }) d)

/-- UART_CONFIG (R382): the rate set lies within 1 % of BAUD and is otherwise open (log entry 27). -/
def execUartConfig (o : Origin) (s : State) : Host.Outcome State Fault Refusal :=
  runCmd s o 0x0705 always
    (fun _ d p => roleTest d :: uartTests p)
    (fun _ d p =>
      let errors := (vget d.ser.uart (byteAt p 0)).errors
      let baud := getLe p 4 4
      let d := forward 0x0705 p (uartApply p d)
      let (n, d) := freshNat d
      let lo := (baud * 99 + 99) / 100
      let set_ := lo + n % (baud * 101 / 100 - lo + 1)
      (d, .ok (leBytes 4 set_ ++ leBytes 4 errors)))

end Sys2Proof.Machine
end

