-- ==== Sys2Proof/Machine/Place.lean ====
section
/-!
DEFINITION. Machine/Place.lean: the placement checker (R189 to R199, R354, R375, R405, R410, R574, R605), the speed
monitors (R195 to R197) and the revalidation of the running map (R196). The placer itself is a search that the manual
does not give: a row carries the map it found, and the checker here accepts or refuses it.
-/

namespace Sys2Proof.Machine

open Sys2Proof

/-! ## Speed (R195) -/

/-- S_g of a tile, in ps. -/
def Dev.sg (d : Dev) (tile : Nat) : Nat := (vget d.otp.sg tile).toNat

def Dev.readings (d : Dev) (tile : Nat) : List Half := (vget d.prog.speed tile).readings

/-- The greatest reading of the last 1 s, as it stood j samples ago; 0 before the first sample. -/
def Dev.sNowAgo (d : Dev) (tile j : Nat) : Nat :=
  (((d.readings tile).drop j).take 10000).foldl (fun a x => max a x.toNat) 0

def Dev.sNow (d : Dev) (tile : Nat) : Nat := d.sNowAgo tile 0

/-- The validation slot time t_v of a tile, in ps: 1 / 340 MHz times the speed factor. -/
def Dev.slotTime (d : Dev) (tile : Nat) : Rat :=
  (50000 : Rat) / 17 * max 1 ((d.sNow tile : Rat) / d.sg tile * ((100 + d.otp.settings.speedGuard : Nat) : Rat) / 100)

/-- The margin of a tile averaged over the last 1 ms of samples; none without a sample or a factory reading. -/
def Dev.margin (d : Dev) (tile : Nat) : Option Rat :=
  let n := min 10 (d.readings tile).length
  if n = 0 ∨ d.sg tile = 0 then none
  else some (((List.range n).map (fun j => (d.sg tile : Rat) / d.sNowAgo tile j)).sum / n - 1)

/-- The present margin of a tile in whole percent: 0 without a factory reading (R195); which whole number stands for a
fraction is left open, and the margin before the first sample (log entry 36). -/
def marginPercent (tile : Nat) (d : Dev) : Int × Dev :=
  if d.sg tile = 0 then (0, d)
  else
    let (x, d) := if d.sNow tile = 0 then freshInt d else openQuotient (100 * ((d.sg tile : Int) - d.sNow tile)) (d.sNow tile) d
    (clampInt (-128) 127 x, d)

/-! ## The map -/

def Dev.own (d : Dev) : Nat := d.sys.stackPos.toNat

def PlacedBlock.task (im : Image) (b : PlacedBlock) : Nat := (lget im.blocks b.block).task

/-- The cells of this device that a map uses. -/
def PlaceMap.cells (m : PlaceMap) (own : Nat) : List Nat :=
  ((m.blocks.filter (fun b => b.position == own)).map (·.cell)).dedup

/-- The empty enabled cells that a map leaves (R191, R206). -/
def Dev.sparesLeft (d : Dev) (m : PlaceMap) : Nat :=
  ((List.range 256).filter (fun c => d.cellOn c && !(d.cell c).failed && !(m.cells d.own).contains c)).length

/-- The spare reserve (R191). -/
def Dev.spareReserve (d : Dev) : Nat :=
  if d.otp.settings.spareReserve = 0 then max 1 (d.nCells / 48) else d.otp.settings.spareReserve

def codeLen (im : Image) (bs : List PlacedBlock) : Nat := (bs.map (fun b => (lget im.blocks b.block).code.length)).sum

/-- Every block of the image has one place: an enabled cell that has not failed, with room for its instructions (R190,
R191 preference 5, R206). -/
def mapShape (d : Dev) (im : Image) (m : PlaceMap) : Bool :=
  let mine := m.blocks.filter (fun b => b.position == d.own)
  m.blocks.length == im.blocks.length && noDup (m.blocks.map (·.block)) &&
    m.blocks.all (fun b => decide (b.block < im.blocks.length) && decide (b.position < im.stackSize)) &&
    mine.all (fun b => d.cellOn b.cell && !(d.cell b.cell).failed && d.sg (tileOf b.cell) != 0) &&
    (m.cells d.own).all (fun c => decide (codeLen im (mine.filter (fun b => b.cell == c && !b.inTile)) ≤ 2048)) &&
    (List.range 32).all (fun t => decide (4 * codeLen im (mine.filter (fun b => tileOf b.cell == t && b.inTile)) ≤ 262144))

/-- The tasks 1 to 7 that share a cell with a block of task 0. -/
def sharers (im : Image) (m : PlaceMap) : List Nat :=
  ((m.blocks.filter (fun b => b.task im != 0 &&
    m.blocks.any (fun c => c.position == b.position && c.cell == b.cell && c.task im == 0))).map (fun b => b.task im)).dedup

/-- The cell-sharing rule of R192 between a task and task 0. -/
def Dev.shareOk (d : Dev) (k : Nat) : Bool := decide ((d.task k).cfg.period ≤ 3 * (d.task 0).cfg.period)

/-- The cycle budget of R194. -/
def Dev.budgetOk (d : Dev) (bs : Vector Budget 8) (t : Nat) : Bool :=
  let l := (d.task t).confirmLimit
  decide ((vget bs t).ck ≤ l) && decide ((vget bs t).rk ≤ l)

/-- The load of a cell of this device by the tasks T, at t_v (R194). -/
def Dev.cellLoad (d : Dev) (im : Image) (m : PlaceMap) (T : List Nat) (c : Nat) : Rat :=
  ((m.blocks.filter (fun b => b.position == d.own && b.cell == c && T.contains (b.task im))).map (fun b =>
    (b.cost : Rat) * d.slotTime (tileOf c) / ((d.task (b.task im)).cfg.period * 50000000 : Nat))).sum

def Dev.overloaded (d : Dev) (im : Image) (m : PlaceMap) (T : List Nat) (c : Nat) : Bool :=
  decide ((4 : Rat) / 5 < d.cellLoad im m T c)

/-! ## Links (R354, R375, R410) -/

/-- Bytes per ms that the sets of the tasks T put on a port (R354). -/
def Dev.setLoad (d : Dev) (im : Image) (T : List Nat) : Rat :=
  (((im.pubSets ++ im.subSets).filter (fun x => T.contains x.task)).map (fun x =>
    ((8 * x.items.length * 20 : Nat) : Rat) / (d.task x.task).cfg.period)).sum

/-- The instructions of a task. -/
def Image.taskCode (im : Image) (t : Nat) : List IWord :=
  (im.blocks.filter (fun b => b.task == t)).flatMap (fun b => b.code.map decodeWord)

/-- Every record that a task's blocks can change, with its header entry (R407, R410). -/
def Image.worstDelta (im : Image) (t : Nat) : List DeltaRec :=
  let ws := im.taskCode t
  let rec_ := fun (region entry : Nat) => ({ region := region, entry := entry, data := zeros (ckSize region) } : DeltaRec)
  let used := fun (p : Nat → Bool) => ((ws.filter (fun i => p i.op)).map (·.index)).dedup
  let keys := ((im.blocks.filter (fun b => b.task == t)).flatMap Block.writes).dedup
  let kept := fun (region sp : Nat) => (List.range (im.retentive sp).length).filterMap (fun n =>
    if keys.contains (ekey sp (lget (im.retentive sp) n)) then some (rec_ region n) else none)
  [rec_ 0 t] ++ (used isTimer).map (rec_ 1) ++ (used isCounter).map (rec_ 2) ++
    (((used isEdge).map (· / 4)).dedup).map (rec_ 3) ++
    ((keys.filter (fun k => keySpace k == spQ)).map (fun k => rec_ 4 (keyEl k))) ++ kept 5 spM ++ kept 6 spV

/-- Its bytes, with 24 for each frame (R410). -/
def Image.deltaSize (im : Image) (t : Nat) : Nat :=
  let rs := im.worstDelta t
  (rs.map (fun r => r.bytes.length)).sum + 24 * (packRecords rs []).length

/-- The limits of R410 on a paired device: the loop share rides on the lowest of the tasks. -/
def Dev.deltaOk (d : Dev) (im : Image) (T : List Nat) : Bool :=
  let perMs := fun (n t : Nat) => ((n * 20 : Nat) : Rat) / (d.task t).cfg.period
  let loops := match T.head? with
    | some t => perMs (min 8 im.loops.length * (4 + ckSize 8)) t
    | none => 0
  let budget : Rat := if d.red.cfg.network then 25000 else 625000
  !d.red.cfg.paired ||
    (T.all (fun t => decide (im.deltaSize t ≤ 16384)) &&
      decide ((T.map (fun t => perMs (im.deltaSize t) t)).sum + loops ≤ budget * 9 / 10))

/-- Bytes of the tagged values that a task's commit publishes over the stack (R375). -/
def Image.stackBytes (im : Image) (t : Nat) : Nat :=
  let keys := ((im.blocks.filter (fun b => b.task == t)).flatMap Block.writes).dedup
  8 * (keys.filter (fun k => im.iDecl.any (fun i => i.source == 8 && i.id == im.idOf (keySpace k) (keyEl k)))).length

/-- Two tasks have a common commit point. -/
def Dev.coincide (d : Dev) (t u : Nat) : Bool :=
  let a := (d.task t).cfg
  let b := (d.task u).cfg
  (a.phase + a.offset) % Nat.gcd a.period b.period == (b.phase + b.offset) % Nat.gcd a.period b.period

/-- Every two of a list of tasks. -/
def pairsOk (f : Nat → Nat → Bool) : List Nat → Bool
  | [] => true
  | t :: ts => ts.all (f t) && pairsOk f ts

/-- At most 32 KiB of stack publications at any one commit point (R375). -/
def Dev.stackOk (d : Dev) (im : Image) (T : List Nat) : Bool :=
  T.sublists.all (fun S => !pairsOk d.coincide S || decide ((S.map im.stackBytes).sum ≤ 32768))

/-! ## The checker -/

/-- What the checker tests of a set of tasks with the timing in force (R194, R354, R375, R410, R605). -/
def Dev.fits (d : Dev) (im : Image) (m : PlaceMap) (bs : Vector Budget 8) (T : List Nat) : Bool :=
  T.all (d.budgetOk bs) && (m.cells d.own).all (fun c => !d.overloaded im m T c) &&
    decide (d.setLoad im T ≤ 98304) && d.deltaOk im T && d.stackOk im T

/-- The tasks that are enabled, and have blocks in the image (R605). -/
def Dev.enabled (d : Dev) (im : Image) : List Nat :=
  (List.range 8).filter (fun t => (d.task t).cfg.enable && im.tasks.getLsbD t)

/-- The retentive footprint (R574). -/
def Image.footprint (im : Image) : Nat :=
  96 + 8 * ((im.retentive spM).length + (im.retentive spV).length) + 12 * min im.nK 4096

/-- Check 4 of R215: the image is built for this stack, and the checker accepts the map. -/
def Dev.placeOk (d : Dev) (im : Image) (m : PlaceMap) : Bool :=
  let T := d.enabled im
  im.stackSize == d.stackS && mapShape d im m && decide (d.spareReserve ≤ d.sparesLeft m) &&
    (sharers im m).all (fun k => T.contains k && T.contains 0 && d.shareOk k) &&
    d.fits im m m.budgets T && (!d.red.cfg.paired || decide (im.checkpointSize ≤ 1048576)) &&
    decide (im.footprint ≤ 524288)

/-! ## Speed rows -/

/-- Readings kept: 1 s, and what the margins of the last 1 ms need. -/
def speedKeep : Nat := 10009

/-- SPEED_MARGIN_LOW of a tile (R197). Whether the map still fits at the new t_v follows from C_k and R_k, which the
checker finds only at the next revalidation: free where the load still fits. -/
def speedTest (tile : Nat) (d : Dev) : Dev :=
  let g := (d.otp.settings.speedGuard : Rat) / 100
  match d.margin tile with
  | none => d
  | some m =>
    let arm := fun (b : Bool) (d : Dev) =>
      modProg (fun p => { p with speed := vmod p.speed tile (fun x => { x with armed := b }) }) d
    if m < g && (vget d.prog.speed tile).armed then
      let (b, d) := freshBool d
      let load := match d.prog.image, d.prog.map with
        | some im, some map => (map.cells d.own).all (fun c => !d.overloaded im map (d.enabled im) c)
        | _, _ => true
      let (pc, d) := marginPercent tile d
      raise .speedMarginLow (tile + 32 * b2n (b && load) + 256 * (BitVec.ofInt 8 pc).toNat + 65536 * (d.sNow tile % 65536))
        (arm false d)
    else if g + 5 / 100 ≤ m then arm true d
    else d

/-- SPEED_MONITOR_SAMPLE (R196, R197): a reading of every tile. -/
def speedSample (r : List Half) (d : Dev) : Dev :=
  (List.range (min 32 r.length)).foldl (fun d tile =>
    speedTest tile (modProg (fun p => { p with speed := vmod p.speed tile (fun x =>
      { x with readings := (lget r tile :: x.readings).take speedKeep }) }) d)) d

def execSpeedMonitorSample (r : List Half) (s : State) : Host.Outcome State Fault Refusal := nextD s (speedSample r)

/-- A fault that waited in the L1 queue for an operation of R220 begins its migration, once the engine is free (R208, R220). -/
def queuedMove (src tgt : Nat) (d : Dev) : Option Dev :=
  match d.prog.migQueue with
  | [] => none
  | q :: _ => if q.cell == src && !d.stopped then some (nextQueued (some tgt) d) else none

/-- MAP_REVALIDATION (R196): the bounds at the present t_v; where a task no longer fits or a cell is overloaded, the
migration that restores the fit, if there is one; a queued fault's migration goes first (log entry 42). -/
def revalidate (b : List Budget) (move : Option (Nat × Nat)) (d : Dev) : Dev :=
  match d.prog.image, d.prog.map with
  | some im, some m =>
    let bs : Vector Budget 8 := Vector.ofFn (fun (t : Fin 8) => lget b t.val)
    let m := { m with budgets := bs }
    let d := modProg (fun p => { p with map := some m }) d
    let T := d.enabled im
    match move with
    | none => d
    | some (src, tgt) =>
      match queuedMove src tgt d with
      | some d => d
      | none =>
      let heavy := d.overloaded im m T src
      let slow := !T.all (d.budgetOk bs)
      if d.prog.mig.state != .none || d.opBusy || d.stopped || (d.placedOn src).isEmpty || !d.spareOk tgt then d
      else if heavy then startMigration src tgt 4 d
      else if slow then startMigration src tgt 3 d
      else d
  | _, _ => d

def execMapRevalidation (b : List Budget) (move : Option (Fin 256 × Fin 256)) (s : State) :
    Host.Outcome State Fault Refusal := nextD s (revalidate b (move.map (fun x => (x.1.val, x.2.val))))

end Sys2Proof.Machine
end

