-- ==== Sys2Proof/Machine/Program.lean ====
section
/-!
DEFINITION. Machine/Program.lean: loading, checking and swapping a program (R211 to R222, R228, R563 to R565): the four
checks of R215, the swap gap with the state transfer of R219, and the frames that carry an image or a map.
-/

namespace Sys2Proof.Machine

open Sys2Proof

/-! ## Class 0x02xx -/

/-- The refusals that every command of the class has (chapter 05, Commands). -/
def progClass (d : Dev) : Bool × Half := (!d.master || d.passive || d.stopped, stNotPermitted)

/-- One of the operations of R220 is incomplete. -/
def Dev.r220 (d : Dev) : Bool := d.opBusy || d.prog.mig.state != .none

def modSlotRec (n : Nat) (f : Slot → Slot) (d : Dev) : Dev := modProg (fun p => { p with slots := vmod p.slots n f }) d

def Dev.slotRec (d : Dev) (n : Nat) : Slot := vget d.prog.slots n

def modLoad (f : Load → Load) (d : Dev) : Dev := modProg (fun p => { p with load := f p.load }) d

/-! ## The checks of R215 -/

/-- A well-formed container header of a TYPE (R564). -/
def headerOk (type limit : Nat) (b : Bytes) : Bool :=
  getLe b 0 4 == 0xD44C0C01 && getLe b 4 2 == type && getLe b 6 2 == 1 && getLe b 8 4 % 4 == 0 &&
    decide (192 ≤ getLe b 8 4 ∧ getLe b 8 4 ≤ limit) && allZero b 24 40

/-- The signature of a container over header bytes 0 to 127 and its body (R563). -/
def signatureOk (b : Bytes) : Bool := ecdsaVerify (slice b 64 64) (slice b 128 64) (b.take 128 ++ b.drop 192)

/-- Check 2: the signature of a program image (R565). -/
def imageSigned (d : Dev) (b : Bytes) : Bool :=
  headerOk 2 3145728 b && getLe b 8 4 == b.length &&
    (match d.otp.keys with
     | some k => k.signHashes.contains (sha256 (slice b 64 64))
     | none => false) && signatureOk b

/-- The image in a slot, as it was loaded. -/
def slotImage (m : Mems) (d : Dev) (n : Nat) : Bytes := storeReadN m (slotBase n) (d.slotRec n).length

/-- The result of checks 2 to 4 on an image, with a map that the placer found (R215). -/
def checkImage (b : Bytes) (map : Option PlaceMap) (d : Dev) : SlotResult × List Finding :=
  if !imageSigned d b then (.sigFailed, [])
  else
    let fs := verify b
    if !fs.isEmpty then (.findings, fs)
    else match map with
      | some m => if d.placeOk (parseImage b) m then (.accepted, []) else (.placementFailed, [])
      | none => (.placementFailed, [])

def SlotResult.code : SlotResult → Nat
  | .empty => 0
  | .checking => 1
  | .accepted => 2
  | .sigFailed => 3
  | .findings => 4
  | .placementFailed => 5
  | .incomplete => 6

/-- PLACEMENT_DONE (R228). -/
def placementEvent (n : Nat) (d : Dev) : Dev :=
  let s := d.slotRec n
  raise .placementDone (n + 2 * s.result.code + 65536 * min 0xFFFF s.findings.length) d

/-- The checks of a slot begin. -/
def startChecks (n : Nat) (d : Dev) : Dev :=
  modSlotRec n (fun s => { s with result := .checking, findings := [] }) (modProg (fun p => { p with checking := some n }) d)

/-! ## Loading -/

/-- A load begins (Table 5.4): the slot is invalid, and checks that ran on it end. -/
def beginLoad (n len : Nat) (d : Dev) : Dev :=
  let d := modSlotRec n (fun _ => { result := .incomplete, length := len }) d
  modProg (fun p => { p with
    checking := if p.checking = some n then none else p.checking
    load := { open_ := true, state := .receiving, length := len } }) d

/-- Distinct words written since BEGIN. -/
def Load.words (l : Load) : List Nat := l.written.dedup

/-- Check 1: every word of the declared length has been written (R215). -/
def Load.covered (l : Load) : Bool := (List.range (l.length / 4)).all (fun w => l.written.contains w)

def LoadState.code : LoadState → Nat
  | .idle => 0
  | .receiving => 1
  | .checking => 2
  | .accepted => 3
  | .rejected => 4

/-- The response of PROGRAM_LOAD. -/
def loadReply (d : Dev) : Bytes :=
  leBytes 1 d.prog.load.state.code ++ zeros 3 ++ leBytes 4 (4 * d.prog.load.words.length)

/-- Where a program image starts in boot flash (Table 15.6). -/
def flashImage (i : Nat) : Nat := if i = 0 then 0x300000 else 0x700000

def flashReadN (m : Mems) (a n : Nat) : Bytes := Memory.readN flashFill m.flash a n

/-- LENGTH of the container of a flash image. -/
def flashImageLen (m : Mems) (i : Nat) : Nat := fromLe (flashReadN m (flashImage i + 8) 4)

/-- The load is closed and its checks begin. -/
def endLoad (n : Nat) (d : Dev) : Dev :=
  startChecks n (modLoad (fun l => { l with open_ := false, state := .checking }) d)

/-- FROM_FLASH (Table 5.4): BEGIN, copy and END. -/
def fromFlash (slot i : Nat) (m : Mems) (d : Dev) : Dev × Mems :=
  let n := flashImageLen m i
  let (d, m) := stageWrite slot 0 (flashReadN m (flashImage i) n) m (beginLoad slot n d)
  (endLoad slot d, m)

def loadLenBad (n : Nat) : Bool := n % 4 != 0 || decide (n < 64 ∨ 3145728 < n)

/-- The statuses of R221. -/
def loadTests (m : Mems) (d : Dev) (p : Bytes) : List (Bool × Half) :=
  let op := byteAt p 0
  let arg := getLe p 4 4
  let l := d.prog.load
  [ progClass d,
    (decide (p.length < 8) || (op == 1 && (p.length % 4 != 0 || decide (p.length < 12 ∨ 4080 < p.length))) ||
      (op != 1 && p.length != 8), stBadLength),
    resv p [(1, 3)], (decide (4 < op), stBadParam), ((op == 2 || op == 3) && arg != 0, stBadParam),
    (op == 0 && loadLenBad arg, stRange),
    (op == 1 && l.open_ && (arg % 4 != 0 || decide (l.length < arg + (p.length - 8))), stRange),
    (op == 4 && (decide (1 < arg) || loadLenBad (flashImageLen m arg)), stRange),
    ((op == 1 || op == 2) && !l.open_, stNotPermitted),
    (op == 2 && !l.covered, stRange),
    ((op == 0 || op == 4) && (d.prog.swap.pending || d.prog.swap.inGap), stBusy),
    ((op == 2 || op == 4) && d.r220, stBusy) ]

/-- The effect of PROGRAM_LOAD (Table 5.4). -/
def loadAct (m : Mems) (d : Dev) (p : Bytes) : (Dev × Mems) × Reply :=
  let arg := getLe p 4 4
  let r : Dev × Mems := match byteAt p 0 with
    | 0 => (beginLoad d.inactive arg d, m)
    | 1 => stageWrite d.inactive arg (p.drop 8) m d
    | 2 => (endLoad d.inactive d, m)
    | 3 => (modSlotRec d.inactive (fun s => if d.prog.load.open_ then { s with result := .incomplete } else s)
        (modLoad (fun _ => {}) d), m)
    | _ => fromFlash d.inactive arg m d
  (r, .ok (loadReply r.1))

/-- PROGRAM_LOAD where END fails its coverage: the slot stays incomplete (R215, R221). -/
def execProgramLoad (o : Origin) (s : State) : Host.Outcome State Fault Refusal :=
  runCmdM s o 0x0200 always loadTests loadAct

/-! ## Activation -/

/-- Every element of Q, M and V of a new image: carried over by key and kind (R219), else at its initial value. -/
def Dev.carryVals (d : Dev) (old new : Image) : Map TV :=
  new.qmv.foldl (fun m q =>
    let v := match old.qmv.find? (fun o => o.space == q.space && o.key == q.key) with
      | some o =>
        let x := tvAccept o.id (mgetD d.prog.vals (ekey o.space o.element) {})
        mkTV q.id x.value x.quality x.seq
      | none => d.initTV new q.space q.element q.initial
    mput m (ekey q.space q.element) v)
    ((List.range new.kInit.length).map (fun k => (ekey spK k, d.initTV new spK k (lget new.kInit k).value)))

/-- The instance of an old image with the same key and kind. -/
def Image.sameState (old : Image) (s : SDecl) : Option SDecl :=
  old.stateDecl.find? (fun o => o.space == s.space && o.key == s.key)

/-- The base of time that an image's instructions give a timer. -/
def Image.timerBase (im : Image) (n : Nat) : BitVec 2 :=
  let ws := im.blocks.flatMap (fun b => b.code.map decodeWord)
  ((ws.find? (fun i => isTimer i.op && i.index == n)).map (fun i => BitVec.ofNat 2 i.mod)).getD 0

/-- The records of one space of a new image: carried over, or created. -/
def carryRecs {α : Type} (space : Nat) (old new : Image) (recs : Map α) (keep : SDecl → α → α) (make : SDecl → α) : Map α :=
  new.stateDecl.foldl (fun m s =>
    if s.space != space then m
    else mput m s.instanceNo (match (old.sameState s).bind (fun o => mget recs o.instanceNo) with
      | some r => keep s r
      | none => make s)) []

def newTimer (im : Image) (s : SDecl) : TimerRec := { kind := BitVec.ofNat 2 s.mode, base := im.timerBase s.instanceNo }

/-- The partner inputs of an image, under its own policies (Table 5.3): one that the image in force has under the same
source identity keeps what it received and its STALE history (R169, log entry 41). -/
def Dev.newPartners (d : Dev) (im : Image) : Map PInput :=
  let old := d.prog.image.getD {}
  (List.range im.iDecl.length).filterMap (fun el =>
    let i := im.iOf el
    let was := ((List.range old.iDecl.length).find? (fun e => (old.iOf e).source == 9 && (old.iOf e).id == i.id)).bind
      (fun e => mget d.prog.partnerIn e)
    if i.source = 9 then
      some (el, { (was.getD {}) with
        policy := { kind := i.policy, holdLimit := i.holdLimit, value := i.policyValue }, staged := none })
    else none)

/-- The last values of stack inputs and bus fields stand under the new element numbers, by source identity. -/
def Dev.carryFields (d : Dev) (old new : Image) : Map TV :=
  (List.range new.iDecl.length).filterMap (fun el =>
    let id := (new.iOf el).id
    ((List.range old.iDecl.length).find? (fun e => (old.iOf e).id == id && (old.iOf e).source != 9)).bind (fun e =>
      (mget d.prog.fieldIn e).map (fun v => (el, v))))

/-- T, C, E, M, V, Q: the order of the counts of Table 5.6. -/
def swapKinds : List Nat := [spT, spC, spE, spM, spV, spQ]

/-- The items of an image with an instance key: kind and key. -/
def Image.items (im : Image) : List (Nat × DWord) :=
  im.stateDecl.map (fun s => (s.space, s.key)) ++ im.qmv.map (fun q => (q.space, q.key))

def countBy (l : List (Nat × DWord)) : Vector Nat 6 :=
  Vector.ofFn (fun (i : Fin 6) => min 0xFFFF (l.filter (fun x => x.1 == lget swapKinds i.val)).length)

/-- The swap report of Table 5.6: which items are kept, new and removed. -/
def swapReport (us : Nat) (old new : Image) (forces : Nat) (r : SwapReport) : SwapReport :=
  let a := old.items
  let b := new.items
  let gone := a.filter (fun x => !b.contains x)
  { r with gapUs := us, kept := countBy (b.filter (fun x => a.contains x))
           fresh := countBy (b.filter (fun x => !a.contains x)), removed := countBy gone
           forcesReleased := forces, removedItems := gone.map (fun x => (x.2, x.1)) }

/-- The retentive elements of the image in force go to the retentive data area; overrides of the old one are gone. -/
def retainAll (im : Image) (d : Dev) : Dev :=
  let kept := (im.retentive spM).map (ekey spM) ++ (im.retentive spV).map (ekey spV)
  { d with
    pwr := { d.pwr with retData := { d.pwr.retData with
      elems := kept.foldl (fun m k => mput m k (mgetD d.prog.vals k {})) [], kOver := [], imageId := im.imageId } }
    red := { d.red with firn := { d.red.firn with kNew := [] } } }

/-- The image of a slot becomes the running one, with the values and records it starts from. -/
def install (n : Nat) (im : Image) (vals : Map TV) (timers : Map TimerRec) (counters : Map CtrRec) (edges : Map EdgeRec)
    (fields : Map TV) (m : Mems) (d0 : Dev) : Dev :=
  let d := modProg (fun p => { p with
    image := some im, activeSlot := decide (n = 1), map := (vget p.slots n).map, vals := vals, timers := timers
    counters := counters, edges := edges, partnerIn := d0.newPartners im, fieldIn := fields, forces := [], stagedRecs := []
    partnerStale := [], cells := p.cells.map (fun (c : Cell) => { failed := c.failed })
    tasks := p.tasks.map (fun (t : Task) => { t with runs := [], committed := none }) }) d0
  let d := modNet (fun x => { x with
    sentCount := [], canCount := []
    subscribers := x.subscribers.filter (fun y => im.pubSets.any (fun z =>
      z.setNo == y.setNo &&
        ((d0.pubSets.find? (fun o => o.setNo == z.setNo)).map (fun (o : SetDecl) => o.signature)).getD 0 == z.signature)) }) d
  shadowWrite (vals.map (·.1)) (panelSwap m d0 (rebindAll im (subscribeAll d)))

/-! ## Loop slots of a new image (R234, R256) -/

/-- The declaration of a loop slot of this device in an image. -/
def Dev.declaredIn (d : Dev) (im : Image) (u n : Nat) : Option LoopDecl :=
  im.loops.find? (fun x => x.position == d.own && x.unit == u && x.slot == n)

/-- A slot that both images declare under one key runs on under the new identity; any other is disabled. -/
def swapSlot (im : Image) (u n : Nat) (d : Dev) : Dev :=
  match d.loopDecl u n with
  | none => d
  | some x =>
    match d.declaredIn im u n with
    | some y =>
      if y.key == x.key then
        modSlot u n (fun s => { s with out := mkTV y.id s.out.value s.out.quality s.out.seq }) d
      else if (d.slot u n).cfg.enable then disableSlot u n { (d.slot u n).cfg with enable := false } d
      else d
    | none =>
      if (d.slot u n).cfg.enable then disableSlot u n { (d.slot u n).cfg with enable := false } d else d

/-- With the first image after a reset, the settings restored stand for the slots that it declares, and for no other
(R234). -/
def restoreSlot (im : Image) (u n : Nat) (d : Dev) : Dev :=
  if (d.declaredIn im u n).isSome then
    modSlot u n (fun s => { s with shadow := shadowInit d s.cfg, spNext := shadowInit d s.cfg }) d
  else modSlot u n (fun _ => {}) d

def eachSlot (f : Nat → Nat → Dev → Dev) (d : Dev) : Dev :=
  (List.range 8).foldl (fun d u => (List.range 32).foldl (fun d n => f u n d) d) d

/-! ## The swap -/

/-- The gap: the new image takes over (R217, R219). -/
def swapNow (us : Nat) (m : Mems) (d : Dev) : Dev :=
  let n := d.inactive
  let old := d.prog.image.getD {}
  let im := parseImage (slotImage m d n)
  let forces := d.prog.forces.length
  let timers := carryRecs spT old im d.prog.timers
    (fun s r => { r with kind := BitVec.ofNat 2 s.mode, base := im.timerBase s.instanceNo }) (newTimer im)
  let counters := carryRecs spC old im d.prog.counters (fun _ r => r) (fun _ => {})
  let edges := carryRecs spE old im d.prog.edges (fun _ r => r) (fun _ => {})
  let first := d.prog.image.isNone
  let d := if first then d else eachSlot (swapSlot im) d
  let d' := install n im (d.carryVals old im) timers counters edges (d.carryFields old im) m d
  let d' := if first then eachSlot (restoreSlot im) d' else d'
  dmaShrink (retainAll im (modProg (fun p => { p with
    swap := {}, report := swapReport us old im forces p.report }) d'))

/-- SWAP_GAP_START (R217, R218): not before the commit at the gap start. Every cycle still in progress is abandoned. -/
def gapStart (d : Dev) : Dev :=
  let commits := d.runningTasks.any (fun t => (d.task t).st == .ready && d.tick == (d.task t).t0 + (d.task t).cfg.offset &&
    d.runningTasks.head? == some t)
  if !d.prog.swap.pending || decide (d.tick < d.prog.swap.gapStart) || commits then d
  else
    let going := (List.range 8).filter (fun t =>
      let st := (d.task t).st
      st == .execute || st == .ready || st == .late)
    let r : SwapReport := { abandoned := Vector.ofFn (fun (t : Fin 8) => b2n (going.contains t.val)) }
    going.foldl (fun d t => abandonCycle t d)
      (modProg (fun p => { p with swap := { pending := false, inGap := true }, report := r }) d)

def execSwapGapStart (s : State) : Host.Outcome State Fault Refusal := nextD s gapStart

/-- SWAP_GAP_END (R217, R218): the new image is active; SWAP_DONE, and the notice to a standby (R411). -/
def gapEnd (us : Nat) (m : Mems) (d : Dev) : Dev :=
  if !d.prog.swap.inGap || decide (2000 < us) then d
  else
    let d := swapNow us m d
    let d := raise .swapDone (us + 65536 * b2n d.prog.activeSlot) d
    if d.red.cfg.paired && d.sys.role == .active then pairSend 0x4B [1] d else d

def execSwapGapEnd (us : Half) (s : State) : Host.Outcome State Fault Refusal := nextR s (gapEnd us.toNat)

/-- A running task drives a local output (R222). -/
def Dev.drivesLocal (d : Dev) (t : Nat) : Bool :=
  let im := d.prog.image.getD {}
  im.qmv.any (fun q => q.space == spQ && q.position == d.own && (q.flags.getLsbD 2 || q.flags.getLsbD 3) &&
    im.writerOf (ekey spQ q.element) == some t)

/-- The statuses of R222, in their order. -/
def swapTests (d : Dev) (p : Bytes) : List (Bool × Half) :=
  let tmo := 50 * d.wdgTicks
  [ progClass d, lenIs p 8, resv p [(5, 3)], (byteAt p 4 / 2 != 0, stBadParam),
    (getLe p 0 4 != 0x5A5A0202, stBadParam),
    ((d.slotRec d.inactive).result != .accepted, stNotPermitted),
    (d.r220, stBusy),
    (!(byteAt p 4).testBit 0 && d.runningTasks.any (fun t =>
      d.drivesLocal t && decide (tmo ≤ 100 * (d.task t).cfg.period + 2000)), stRange) ]

/-- PROGRAM_SWAP (R217, R222): the gap is scheduled; its predicted length, at most 2 ms, is the device's estimate. -/
def execProgramSwap (o : Origin) (s : State) : Host.Outcome State Fault Refusal :=
  runCmd s o 0x0202 always (fun _ d p => swapTests d p) fun _ d _ =>
    let at_ := d.commitAhead
    let (x, d) := freshNat d
    (modProg (fun p => { p with swap := { pending := true, gapStart := at_ } }) d,
     .ok (leBytes 8 at_ ++ leBytes 4 (x % 2001) ++ zeros 4))

/-! ## The end of the checks -/

/-- An accepted image goes to the standby over port P (R216), and each other device of the stack gets its part of the map
(R193). -/
def spread (b : Bytes) (map : PlaceMap) (d : Dev) : Dev :=
  let d := if d.red.cfg.paired && d.sys.role == .active && d.master && !d.red.cfg.network then
      (List.range (chunks 1016 b).length).foldl (fun d i =>
        let part := lget (chunks 1016 b) i
        glSend true 2 0x31 d.own (beBytes 4 (1016 * i) ++
          beBytes 1 (b2n (decide (i + 1 = (chunks 1016 b).length))) ++ zeros 3 ++ part) d) d
    else d
  if !d.inStack || !d.master then d
  else (List.range d.stackS).foldl (fun d p =>
    if p = d.own then d
    else glSendLong false 2 0x30 p (beBytes 4 map.mapId.toNat ++
      (map.blocks.filter (fun x => x.position == p)).flatMap (fun x =>
        beBytes 2 x.block ++ beBytes 1 x.cell ++ beBytes 1 (b2n x.inTile + 2 * b2n x.groupBroken) ++ beBytes 4 x.cost)) d) d

/-- K elements at their retentive overrides (Table 5.1, R575). -/
def restoreK (im : Image) (vals : Map TV) (over_ : Map TV) : Map TV :=
  over_.foldl (fun m e => if e.1 < im.nK then mput m (ekey spK e.1) (tvAccept (im.idOf spK e.1) e.2) else m) vals

/-- The start-up activation (R569, R575): retentive elements and overrides of the same image come back; without them the
image's own values, and FW_FAULT with code 2. -/
def startProgram (n : Nat) (m : Mems) (d : Dev) : Dev :=
  let im := parseImage (slotImage m d n)
  let r := d.pwr.retData
  let same := (d.pwr.snapRestored || d.pwr.storeKept) && r.imageId == im.imageId
  let init := mputAll [] (d.initVals im)
  let keys := (im.retentive spM).map (ekey spM) ++ (im.retentive spV).map (ekey spV)
  let back := keys.foldl (fun m k => match mget r.elems k with
    | some v => mput m k (tvAccept (im.idOf (keySpace k) (keyEl k)) v)
    | none => m) init
  let vals := if same then restoreK im back r.kOver else init
  let timers := carryRecs spT {} im ([] : Map TimerRec) (fun _ x => x) (newTimer im)
  let counters := carryRecs spC {} im ([] : Map CtrRec) (fun _ x => x) (fun _ => {})
  let edges := carryRecs spE {} im ([] : Map EdgeRec) (fun _ x => x) (fun _ => {})
  let d' := eachSlot (restoreSlot im) (install n im vals timers counters edges [] m d)
  let d' := if same then d' else raise .fwFault (2 * 65536) (retainAll im d')
  { d' with pwr := { d'.pwr with autostartDue := d'.pwr.autostartDue || d'.sys.role == .unassigned } }

/-- FW_FAULT with code 4 (R567, R569). -/
def bootFault (d : Dev) : Dev := raise .fwFault (4 * 65536) d

/-- The image of the boot header is loaded into slot A, as FROM_FLASH does (R569). -/
def bootLoad (m : Mems) (d : Dev) : Dev × Mems :=
  let i := d.pwr.bootImage
  if i = 0xFF then (d, m)
  else if 1 < i ∨ loadLenBad (flashImageLen m i) then (bootFault d, m)
  else
    let (d, m) := fromFlash 0 i m d
    ({ d with pwr := { d.pwr with startCheck := some false } }, m)

/-- PLACEMENT_CHECKS_DONE (R215, R228): the checks of a slot end with their result. -/
def checksDone (map : Option PlaceMap) (m : Mems) (d : Dev) : Dev × Mems :=
  match d.prog.checking with
  | none => (d, m)
  | some n =>
    if !d.stackWhole then (d, m)
    else
    let b := slotImage m d n
    let (res, fs) := checkImage b map d
    let ok := res == .accepted
    let d := modSlotRec n (fun s => { s with
      result := res, findings := fs, imageId := w64 (getLe b 16 8), map := if ok then map else none }) d
    let d := modProg (fun p => { p with checking := none }) d
    let d := if d.prog.load.state = .checking then
        modLoad (fun l => { l with state := if ok then .accepted else .rejected }) d
      else d
    match d.pwr.startCheck with
    | none =>
      let d := placementEvent n d
      (match map with
       | some mp => if ok && n == d.inactive then spread b mp d else d
       | none => d, m)
    | some kept =>
      let d := { d with pwr := { d.pwr with startCheck := none } }
      let d := if kept then d else placementEvent n d
      if ok then (startProgram n m d, m)
      else if kept then bootLoad m d
      else (bootFault (modProg (fun p => { p with activeSlot := false }) d), m)

def execPlacementChecksDone (map : Option PlaceMap) (s : State) : Host.Outcome State Fault Refusal :=
  nextM s (checksDone map)

/-! ## PROGRAM_VERIFY -/

def findingBytes (f : Finding) : Bytes :=
  leBytes 1 f.code.toNat ++ zeros 1 ++ leBytes 2 f.block ++ leBytes 2 f.instr ++ zeros 2

/-- The report of Table 5.5. -/
def verifyReport (n first : Nat) (d : Dev) : Bytes :=
  let s := d.slotRec n
  let part := (s.findings.drop first).take 254
  leBytes 1 n ++ leBytes 1 s.result.code ++ leBytes 2 (min 0xFFFF s.findings.length) ++ leBytes 2 part.length ++ zeros 2 ++
    leBytes 8 s.imageId.toNat ++ part.flatMap findingBytes

/-- PROGRAM_VERIFY: RUN repeats the checks on an accepted slot. -/
def execProgramVerify (o : Origin) (s : State) : Host.Outcome State Fault Refusal :=
  runCmd s o 0x0201 always
    (fun _ d p =>
      let run := (byteAt p 1).testBit 0
      [ progClass d, lenIs p 4, (byteAt p 1 / 2 != 0, stBadParam), (decide (1 < byteAt p 0), stBadParam),
        (run && (d.slotRec (byteAt p 0)).result != .accepted, stNotPermitted),
        (decide ((d.slotRec (byteAt p 0)).findings.length < getLe p 2 2), stRange),
        (run && d.prog.checking.isSome, stBusy) ])
    fun _ d p =>
      let d := if (byteAt p 1).testBit 0 then startChecks (byteAt p 0) d else d
      (d, .ok (verifyReport (byteAt p 0) (getLe p 2 2) d))

/-! ## Frames -/

/-- PLACEMENT_PART_FRAME (R193): a device that is not the master checks its own part against its own speed and loads it;
it tells the master its answer. -/
def placementPart (map : PlaceMap) (own : List Budget) (d : Dev) : Dev :=
  if d.master || !d.inStack then d
  else
    let im := d.prog.image.getD {}
    let bs : Vector Budget 8 := Vector.ofFn (fun (t : Fin 8) => lget own t.val)
    let T := d.enabled im
    let fit := T.all (d.budgetOk bs) && (map.cells d.own).all (fun c =>
      d.cellOn c && !(d.cell c).failed && !d.overloaded im map T c)
    let d := if fit then modProg (fun p => { p with map := some { map with budgets := bs } }) d else d
    glSend false 2 0x30 0 [BitVec.ofNat 8 (b2n fit)] d

def execPlacementPartFrame (map : PlaceMap) (own : List Budget) (s : State) : Host.Outcome State Fault Refusal :=
  nextD s (placementPart map own)

/-- IMAGE_FORWARD_FRAME (R216): the standby takes the image into its inactive slot, in order, and checks it at the
end. -/
def imagePart (off : Nat) (data : Bytes) (last : Bool) (m : Mems) (d : Dev) : Dev × Mems :=
  let n := d.inactive
  if !d.follows || d.prog.checking.isSome || decide (3145728 < off + data.length) ||
      (off != 0 && ((d.slotRec n).length != off || (d.slotRec n).result != .incomplete)) then (d, m)
  else
    let d := if off = 0 then modSlotRec n (fun _ => { result := .incomplete }) d else d
    let d := modSlotRec n (fun s => { s with length := off + data.length }) d
    (if last then startChecks n d else d, storeWrite (slotBase n + off) data m)

def execImageForwardFrame (off : Nat) (data : Bytes) (last : Bool) (s : State) : Host.Outcome State Fault Refusal :=
  nextM s (imagePart off data last)

end Sys2Proof.Machine
end

