-- ==== Sys2Proof/Machine/Flash.lean ====
section
/-!
DEFINITION. Machine/Flash.lean: retentive content and boot flash (R486 to R488, R553, R558, R567, R571 to R575): the
retentive configuration area and what is restored from it, the saves to flash, and what a start-up takes from flash.
-/

namespace Sys2Proof.Machine

open Sys2Proof

/-! ## The retentive configuration area -/

def aiSetOf (c : AiCh) : AiSet :=
  { rate := c.rate, loopPower := c.loopPower, classPlain := c.classPlain, evtWire := c.evtWire, evtRange := c.evtRange
    trim := c.trim }

/-- The settings in force, and those accepted that wait to take effect. -/
def confOf (d : Dev) : RetConf :=
  { tasks := d.prog.tasks.map (fun (t : Task) => t.cfg)
    loops := d.loops.map (fun (u : LoopUnit) => u.slots.map (fun (s : LoopSlot) => (s.cfg, s.active)))
    di := d.dig.di.map (fun (c : DiCh) => c.pend.getD c.cfg), groupRef := d.dig.groupRef
    dout := d.dig.dout.map (fun (c : DoCh) => c.pend.getD c.cfg)
    latchOff := d.dig.grp.map (fun (g : DoGroup) => g.latchPend.getD g.latchOff)
    wdg := d.dig.wdg.pend.getD d.dig.wdg.cfg, trip := d.dig.trip.armed
    ai := d.ana.ai.map aiSetOf, ao := d.ana.ao.map (fun (c : AoCh) => (c.pend.getD c.cfg, c.trim))
    net := if d.pwr.netConfigured then some d.net.cfg else none, ptp := d.net.ptp.cfg
    can := d.ser.can.map (fun (c : Can) => c.cfg)
    uart := d.ser.uart.map (fun (u : Uart) => { u with errors := 0, awaiting := none })
    pair := d.red.cfg, arbiters := d.red.arbiters, interval := d.integ.interval, discipline := d.rtc.discipline
    leap := d.rtc.leap, leapPend := d.rtc.leapPend
    hists := d.hist.hists.map (fun e => (e.1, (e.2.bind, e.2.low, e.2.width)))
    extremes := d.hist.extremes.map (fun e => (e.1, e.2.bind)), panel := d.panel.set }

/-- A loop slot as restored: an enabled one waits for the first commit of any task (R264). -/
def slotRestored (x : LoopCfg × Option CoefSet) : LoopSlot :=
  { cfg := x.1, active := x.2, waitCommit := x.1.enable, mode := if x.1.enable then .auto else .disabled }

/-- The stations of an arbiter after its reset: each epoch raised by 65,536, and a quiet period (R399, R400). -/
def arbRestored (x : ArbEntry) : ArbEntry :=
  { enable := x.enable, key := x.key, station := x.station, leaseMs := x.leaseMs, coldWait := x.coldWait
    epoch := x.epoch + 65536, state := if x.enable then .quiet else .disabled }

/-- NET_CONFIG's settings at reset: its own, or NET_DEFAULTS of the active settings slot (R377). -/
def netAtReset (c : Option NetCfg) (defaults : Bytes) : NetCfg :=
  match c with
  | some x => x
  | none => if allZero defaults 0 40 || defaults.length < 40 then {} else netCfgOf defaults

/-- The settings of the area go to their blocks (R234, R263, R299, R377, R463, R472, R483, R570). -/
def applyConf (c : RetConf) (d : Dev) : Dev :=
  let arbs := c.arbiters.map arbRestored
  let served := c.arbiters.toList.any (·.enable)
  { d with
    prog := { d.prog with
      tasks := Vector.ofFn (fun (i : Fin 8) => { vget d.prog.tasks i.val with cfg := vget c.tasks i.val }) }
    loops := Vector.ofFn (fun (u : Fin 8) => { vget d.loops u.val with slots := c.loops[u].map slotRestored })
    dig := { d.dig with
      di := Vector.ofFn (fun (i : Fin 32) => { vget d.dig.di i.val with cfg := vget c.di i.val }), groupRef := c.groupRef
      dout := Vector.ofFn (fun (i : Fin 32) => { vget d.dig.dout i.val with cfg := vget c.dout i.val })
      grp := Vector.ofFn (fun (i : Fin 4) => { vget d.dig.grp i.val with latchOff := vget c.latchOff i.val })
      wdg := { d.dig.wdg with cfg := c.wdg }, trip := { d.dig.trip with armed := c.trip } }
    ana := { d.ana with
      ai := Vector.ofFn (fun (i : Fin 16) =>
        let x := vget c.ai i.val
        { vget d.ana.ai i.val with
          rate := x.rate, loopPower := x.loopPower, classPlain := x.classPlain, evtWire := x.evtWire
          evtRange := x.evtRange, trim := x.trim, lpOn := x.loopPower && d.ana.vfld != .lost })
      ao := Vector.ofFn (fun (i : Fin 8) => { vget d.ana.ao i.val with cfg := c.ao[i].1, trim := c.ao[i].2 }) }
    net := { d.net with
      cfg := netAtReset c.net d.otp.settings.netDefaults, ptp := { d.net.ptp with cfg := c.ptp } }
    ser := {
      can := Vector.ofFn (fun (i : Fin 4) => { vget d.ser.can i.val with cfg := vget c.can i.val }), uart := c.uart }
    red := { d.red with cfg := c.pair, arbiters := arbs, arbQuietSave := served }
    integ := { d.integ with interval := c.interval }
    rtc := { d.rtc with discipline := c.discipline }
    panel := { d.panel with set := c.panel, band := c.panel.defaultBand }
    pwr := { d.pwr with netConfigured := c.net.isSome, confDirty := d.pwr.confDirty || served } }

/-- The area without one of its records: its consumer keeps its reset values (Table 11.3). -/
def confWithout (p : ConfPart) (c : RetConf) : RetConf :=
  match p with
  | .task t => { c with tasks := vmod c.tasks t.val (fun _ => {}) }
  | .slot u k => { c with loops := vmod c.loops u.val (fun x => vmod x k.val (fun _ => ({}, none))) }
  | .di n => { c with di := vmod c.di n.val (fun _ => {}) }
  | .groupRef => { c with groupRef := 0 }
  | .dout n => { c with dout := vmod c.dout n.val (fun _ => {}) }
  | .latchOff g => { c with latchOff := vmod c.latchOff g.val (fun _ => false) }
  | .watchdog => { c with wdg := {} }
  | .trip => { c with trip := none }
  | .ai n => { c with ai := vmod c.ai n.val (fun _ => {}) }
  | .ao n => { c with ao := vmod c.ao n.val (fun _ => ({}, none)) }
  | .net => { c with net := none }
  | .ptp => { c with ptp := {} }
  | .can n => { c with can := vmod c.can n.val (fun _ => {}) }
  | .uart n => { c with uart := vmod c.uart n.val (fun _ => {}) }
  | .pair => { c with pair := {} }
  | .arbiter n => { c with arbiters := vmod c.arbiters n.val (fun _ => {}) }
  | .interval => { c with interval := 7324 }
  | .discipline => { c with discipline := false }
  | .leap => { c with leap := 0, leapPend := none }
  | .histogram n => { c with hists := mdel c.hists n.toNat }
  | .extreme n => { c with extremes := mdel c.extremes n.toNat }
  | .panel => { c with panel := {} }

/-! ## Saves (R572 to R574) -/

def modPwr (f : Pwr → Pwr) (d : Dev) : Dev := { d with pwr := f d.pwr }

/-- The device runs with its firmware ready, and may write to flash outside a power-fail hold. -/
def Dev.serves (d : Dev) : Bool := d.pwr.phase == .running && d.sys.fwReady && !d.sys.recovery

/-- RETENTIVE_CONFIG_SAVE (R573): the whole area, after a change. -/
def confSave (d : Dev) : Dev :=
  if !d.serves || d.pwr.hold || !d.pwr.confDirty || d.pwr.confSave.isSome then d
  else
    let n := ((d.pwr.confFlash.map (fun (r : ConfRec) => r.seq)).getD 0) + 1
    modPwr (fun p => { p with confDirty := false, confSave := some ⟨n, p.bootEpoch, confOf d⟩ }) d

def execRetentiveConfigSave (s : State) : Host.Outcome State Fault Refusal := nextD s confSave

/-- The record of the retentive data area as it stands. -/
def Dev.snapshot (d : Dev) (kind : Nat) : DataRec :=
  { seq := ((d.pwr.snapFlash.map (fun (r : DataRec) => r.seq)).getD 0) + 1, kind := kind, imageId := d.pwr.retData.imageId
    epoch := d.pwr.bootEpoch, data := d.pwr.retData }

/-- RETENTIVE_SNAPSHOT (R574): every 3,600 operating seconds, from a copy taken between two commits. A standby saves no
retentive data (R552). -/
def periodicSnapshot (d : Dev) : Dev :=
  if !d.serves || d.pwr.hold || d.pwr.snapSave.isSome || d.sys.role == .standby || d.prog.image.isNone ||
      decide (d.hist.opSeconds.toNat < d.pwr.lastSnapOp.toNat + 3600) then d
  else modPwr (fun p => { p with snapSave := some (d.snapshot 0), lastSnapOp := d.hist.opSeconds }) d

def execRetentiveSnapshot (s : State) : Host.Outcome State Fault Refusal := nextD s periodicSnapshot

/-- FW_FAULT with code 5: a write to flash failed. -/
def flashFault (d : Dev) : Dev := raise .fwFault (5 * 65536) d

/-- FLASH_OPERATION_DONE (R572, R573): a record is valid once its MAGIC is written; the other copy is then erased in the
background. A save that failed is due again. -/
def flashDone (k : FlashOp) (ok : Bool) (d : Dev) : Dev :=
  match k with
  | .config =>
    match d.pwr.confSave with
    | none => d
    | some r =>
      if d.pwr.hold then d
      else if ok then
        { modPwr (fun p => { p with confSave := none, confFlash := some r, eraseBusy := true }) d with
          red := { d.red with arbQuietSave := false } }
      else flashFault (modPwr (fun p => { p with confSave := none, confDirty := true }) d)
  | .snapshot =>
    match d.pwr.snapSave with
    | none => d
    | some r =>
      if d.pwr.hold then d
      else if ok then modPwr (fun p => { p with snapSave := none, snapFlash := some r, eraseBusy := true }) d
      else flashFault (modPwr (fun p => { p with snapSave := none }) d)
  | .erase =>
    if !d.pwr.eraseBusy || (d.pwr.eraseSuspended && d.hist.flush.any (fun f => f.kind == 3)) then d
    else
      let d := modPwr (fun p => { p with eraseBusy := false, eraseSuspended := false }) d
      if ok then d else flashFault d

def execFlashOperationDone (k : FlashOp) (ok : Bool) (s : State) : Host.Outcome State Fault Refusal :=
  nextD s (flashDone k ok)

/-- POWER_FAIL_SNAPSHOT_DONE (R553, R554): segment 0 and the changed extreme segments stand in flash, then the snapshot; it
replaces a periodic one in progress. A standby saves none. -/
def snapshotDone (ok : Bool) (d : Dev) : Dev :=
  if !d.pwr.hold || d.pwr.step2 then d
  else
    let d := match d.hist.flush with
      | some f =>
        let first := f.segments.filter (fun x => x == 0 || x == 4 || x == 5)
        modHist (fun h => { h with
          flash := flashMerge first f.copy h.flash, valid := (h.valid ++ first).dedup }) d
      | none => d
    let d := modPwr (fun p => { p with step2 := true, snapSave := none }) d
    let d :=
      if d.sys.role == .standby || d.prog.image.isNone then d
      else if ok then modPwr (fun p => { p with snapFlash := some (d.snapshot 1) }) d
      else flashFault d
    leaveHold d

def execPowerFailSnapshotDone (ok : Bool) (s : State) : Host.Outcome State Fault Refusal := nextD s (snapshotDone ok)

/-! ## What a start-up takes from flash -/

/-- A binding follows its histogram: its counts come back where the flash holds that binding's record, else it starts
empty and RELOADED (R488). -/
def histRestored (fl : HistCopy) (valid : List Nat) (i : Nat) (b : HBind) (low width : Word) : Hist :=
  match (if valid.contains (histSegment i) then mget fl.hists i else none) with
  | some h =>
    if h.bind.space == b.space && h.bind.key == b.key && h.low == low && h.width == width then { h with bind := b }
    else { bind := { b with reloaded := true }, low := low, width := width }
  | none => { bind := { b with reloaded := true }, low := low, width := width }

def extRestored (fl : HistCopy) (valid : List Nat) (i : Nat) (b : HBind) : Extreme :=
  match (if valid.contains (extSegment i) then mget fl.extremes i else none) with
  | some e => if e.bind.space == b.space && e.bind.key == b.key then { e with bind := b } else { bind := { b with reloaded := true } }
  | none => { bind := { b with reloaded := true } }

/-- The log of the flash: an entry whose segment has no valid copy is empty and RELOADED. -/
def logRestored (fl : HistCopy) (valid : List Nat) : List LogEntry :=
  if !valid.contains 0 then []
  else (List.range fl.log.length).map (fun i =>
    if valid.contains (logSegment i) then { lget fl.log i with lastTick := none } else { reloaded := true })

/-- The recorder comes back from flash (R479, R488), with the bindings of the retentive configuration area; what has
happened since the reset follows. -/
def restoreHistory (c : RetConf) (por : Bool) (d : Dev) : Dev :=
  let fl := d.hist.flash
  let v := d.hist.valid
  let s0 := v.contains 0
  modHist (fun h => { h with
    opSeconds := (if s0 then fl.opSeconds else 0) + h.opSeconds
    powerCycles := (if s0 then fl.powerCycles else 0) + (if por then 1 else 0)
    dropped := if s0 then fl.dropped else 0
    hists := c.hists.map (fun e => (e.1, histRestored fl v e.1 e.2.1 e.2.2.1 e.2.2.2))
    extremes := c.extremes.map (fun e => (e.1, extRestored fl v e.1 e.2))
    log := (logRestored fl v ++ h.log).take 4096
    noValidFlush := v.isEmpty
    lastFlushOp := if s0 then fl.opSeconds else 0 }) d

/-- The greatest boot epoch in a valid record of flash (R558). -/
def Dev.lastEpoch (d : Dev) : Option Word :=
  let es := (if d.hist.valid.contains 0 then [d.hist.flash.epoch] else []) ++
    (d.pwr.confFlash.map (fun (r : ConfRec) => r.epoch)).toList ++
    (d.pwr.snapFlash.map (fun (r : DataRec) => r.epoch)).toList
  match es with
  | [] => none
  | e :: l => some (l.foldl (fun a x => if a.toNat < x.toNat then x else a) e)

/-- The boot epoch of this start-up, written with segment 0 to flash; without any valid record, FW_FAULT with code 6. -/
def takeEpoch (d : Dev) : Dev :=
  let d := match d.lastEpoch with
    | some e => modPwr (fun p => { p with bootEpoch := e + 1, epochValid := true }) d
    | none => raise .fwFault (6 * 65536) (modPwr (fun p => { p with bootEpoch := 1, epochValid := false }) d)
  modHist (fun h => { h with
    flash := flashMerge [0] (histCopy d) h.flash, valid := (h.valid ++ [0]).dedup, flushSeq := h.flushSeq + 1 }) d

/-- A firmware copy's container, as far as its LENGTH says. -/
def firmwareAt (m : Mems) (i : Nat) : Bytes :=
  let base := 0x100000 * (i + 1)
  flashReadN m base (min 0x100000 (fromLe (flashReadN m (base + 8) 4)))

/-- A valid firmware copy (R564). -/
def firmwareValid (m : Mems) (i : Nat) : Bool :=
  let b := firmwareAt m i
  headerOk 1 0x100000 b && getLe b 8 4 == b.length && sha256 (slice b 64 64) == Memory.readN 0 m.fuse 0xE0 32 && signatureOk b

def firmwareVersion (m : Mems) (i : Nat) : Nat := fromLe (flashReadN m (0x100000 * (i + 1) + 12) 4)

/-- The copy that the boot ROM starts, and whether it is a fallback (R564). -/
def bootFirmware (m : Mems) : Option (Nat × Bool) :=
  let v0 := firmwareVersion m 0
  let v1 := firmwareVersion m 1
  let want := if v0 < v1 then 1 else 0
  if firmwareValid m want then some (want, false)
  else if firmwareValid m (1 - want) then some (1 - want, v0 != v1)
  else none

/-- The boot header of Table 15.8, where it holds (R567): BOOT_IMAGE and AUTOSTART. -/
def bootHeader (m : Mems) : Option (Nat × Byte) :=
  let b := flashReadN m 0 64
  if getLe b 0 4 == 0xD44C0B00 && getLe b 4 2 == 1 && getLe b 60 4 == (crc32c (b.take 60)).toNat then
    some (byteAt b 6, BitVec.ofNat 8 (byteAt b 7))
  else none

/-- The panel boot frame goes to the shown buffer when its CRC holds (R519, Table 15.6). -/
def loadBootFrame (m : Mems) (d : Dev) : Dev × Mems :=
  let f := flashReadN m 0x10000 8192
  if !d.hasPanel || !d.panel.set.bootFrame || fromLe (flashReadN m 0x12000 4) != (crc32c f).toNat then (d, m)
  else
    let m := { m with shown := Memory.writeN 0 [] 0 f }
    (modPanel (fun p => { p with
      fullFrame := true, badRows := [], rowChecks := Vector.ofFn (fun (r : Fin 64) => rowCrc m r.val) }) d, m)

end Sys2Proof.Machine
end

