-- ==== Sys2Proof/Machine/TaskCmd.lean ====
section
/-!
DEFINITION. Machine/TaskCmd.lean: the commands of tasks (R178 to R182) and of values, forces, reports, migrations and
staged records (R212, R214, R223 to R227, Tables 5.6 and 4.11).
-/

namespace Sys2Proof.Machine

open Sys2Proof

/-! ## TASK_CONFIG -/

def taskCfgOf (p : Bytes) : TaskCfg :=
  { enable := (byteAt p 1).testBit 0, specEn := (byteAt p 1).testBit 1, reaction := byteAt p 2, ovrN := byteAt p 3,
    period := getLe p 4 4, phase := getLe p 8 4, window := getLe p 12 4, offset := getLe p 16 4, maxLate := getLe p 20 4 }

/-- A timing field outside Table 4.1. -/
def timingBad (t : Nat) (c : TaskCfg) : Bool :=
  let least := if t = 0 then 5 else 20
  !(decide (least ≤ c.period ∧ c.period ≤ 200000) && decide (c.phase < c.period) &&
    decide (1 ≤ c.window ∧ c.window ≤ 2 * c.period / 5) && decide (c.window < c.offset ∧ c.offset < c.period) &&
    decide (c.maxLate ≤ c.period / 2))

/-- The statuses of R178, in its order. -/
def taskCfgTests (d : Dev) (p : Bytes) : List (Bool × Half) :=
  let c := taskCfgOf p
  [ progClass d, lenIs p 28, resv p [(24, 4)], (byteAt p 1 / 4 != 0, stBadParam),
    (decide (7 < byteAt p 0 ∨ 15 < c.ovrN) || timingBad (byteAt p 0) c, stRange),
    (decide (3 < c.reaction), stBadParam),
    ((d.task (byteAt p 0)).st != .stopped, stNotPermitted) ]

def taskCfgApply (p : Bytes) (d : Dev) : Dev :=
  confChanged (modTask (byteAt p 0) (fun k => { k with cfg := taskCfgOf p }) d)

/-- TASK_CONFIG (R178): kept, and forwarded to the standby (R389). -/
def execTaskConfig (o : Origin) (s : State) : Host.Outcome State Fault Refusal :=
  runCmd s o 0x0300 always (fun _ d p => taskCfgTests d p) fun _ d p => (forward 0x0300 p (taskCfgApply p d), .ok [])

/-! ## CYCLE_START -/

/-- The first instant of a task at least 1 ms ahead (R146, R179). -/
def Dev.firstInstant (d : Dev) (t : Nat) : Nat :=
  let c := (d.task t).cfg
  let base := d.prog.origin + c.phase
  let from_ := d.tick + 20
  if from_ ≤ base ∨ c.period = 0 then base else base + (from_ - base + c.period - 1) / c.period * c.period

/-- The timers of a task are FRESH at CYCLE_START. -/
def freshTimers (t : Nat) (d : Dev) : Dev :=
  let im := d.prog.image.getD {}
  let ns := ((im.taskCode t).filter (fun i => isTimer i.op)).map (·.index)
  modProg (fun p => { p with timers := p.timers.map (fun e =>
    (e.1, if ns.contains e.1 then { e.2 with fresh := true } else e.2)) }) d

/-- A task starts (R179): its partner inputs have had no frame since CYCLE_START (Table 4.8, R156); one that was returning
still needs two takes (R169). -/
def startTask (t : Nat) (d : Dev) : Dev :=
  let d := ((d.prog.image.getD {}).ownedInputs t).foldl (fun d el =>
    modPIn el (fun p => { p with
      taken := none, lastConfirmed := none, received := false, staleRun := 0, lastEffective := none
      takesSince := if 2 ≤ p.takesSince then 2 else 0 }) d) d
  let t0 := d.firstInstant t
  freshTimers t (modTask t (fun k => { k with
    st := .starting, firstT0 := t0, overruns := 0, stopReq := none, stoppedSafe := false, runs := [] }) d)

def maskTasks (m : Nat) : List Nat := (List.range 8).filter (fun t => m.testBit t)

/-- The checker on the running and the selected tasks, with the budgets it finds (R179, R192, R605). -/
def Dev.startFits (d : Dev) (b : List Budget) (sel : List Nat) : Bool :=
  match d.prog.image, d.prog.map with
  | some im, some m =>
    let T := (List.range 8).filter (fun t => sel.contains t || (d.task t).st.running)
    let bs : Vector Budget 8 := Vector.ofFn (fun (t : Fin 8) => lget b t.val)
    (sharers im m).all (fun k => !(T.contains k && T.contains 0) || d.shareOk k) && d.fits im m bs T
  | _, _ => false

/-- The statuses of R179, in their order. -/
def startTests (b : List Budget) (d : Dev) (p : Bytes) : List (Bool × Half) :=
  let sel := maskTasks (byteAt p 0)
  [ progClass d, lenIs p 4, resv p [(1, 3)],
    (byteAt p 0 == 0 || sel.any (fun t => !(d.task t).cfg.enable), stBadParam),
    (d.prog.image.isNone || sel.any (fun t => (d.task t).st != .stopped), stNotPermitted),
    (d.prog.swap.pending || d.prog.swap.inGap || d.prog.mig.state != .none || d.prog.checking.isSome, stBusy),
    (!d.startFits b sel, stRange) ]

/-- The first instants of the tasks started, 0 for the others. -/
def startReply (sel : List Nat) (d : Dev) : Bytes :=
  (List.range 8).flatMap (fun t => leBytes 8 (if sel.contains t then (d.task t).firstT0 else 0))

/-- CYCLE_START (R179). -/
def execCycleStart (o : Origin) (b : List Budget) (s : State) : Host.Outcome State Fault Refusal :=
  runCmd s o 0x0301 always (fun _ d p => startTests b d p) fun _ d p =>
    let sel := maskTasks (byteAt p 0)
    let d := sel.foldl (fun d t => startTask t d) d
    (d, .ok (startReply sel d))

/-! ## CYCLE_STOP -/

/-- A selected task stops: after its cycle in progress, or at once (R180). -/
def stopSelected (safe : Bool) (t : Nat) (d : Dev) : Dev :=
  let st := (d.task t).st
  if st == .execute || st == .ready || st == .publish || st == .late then
    modTask t (fun k => { k with stopReq := some safe }) d
  else
    let d := if st == .stopped then d else stopTask t d
    if safe then settleAll (modTask t (fun k => { k with stoppedSafe := true }) d) else d

/-- CYCLE_STOP (R180): answered once every selected task is STOPPED. -/
def execCycleStop (o : Origin) (s : State) : Host.Outcome State Fault Refusal :=
  runCmd s o 0x0302 always
    (fun _ d p => [ progClass d, lenIs p 4, resv p [(2, 2)], (decide (1 < byteAt p 1), stBadParam) ])
    fun _ d p =>
      let d := (maskTasks (byteAt p 0)).foldl (fun d t => stopSelected (byteAt p 1 == 1) t d) d
      (stopAnswer (modProg (fun x => { x with
        stopWaiters := x.stopWaiters ++ [(o, BitVec.ofNat 8 (byteAt p 0))] }) d), .later)

/-! ## TASK_STATS -/

def TState.code : TState → Nat
  | .stopped => 0
  | .starting => 1
  | .late => 3
  | .fault => 4
  | _ => 2

/-- Table 4.11. -/
def statsBytes (k : Task) : Bytes :=
  let x := k.stats
  leBytes 1 k.st.code ++ leBytes 1 (min 255 k.overruns) ++ zeros 2 ++ leBytes 4 k.counter.toNat ++
    leBytes 8 x.commits.toNat ++ [x.overruns, x.faults, x.confTime, x.confMax, x.slackMin, x.lateMax, x.provisional,
      x.confirmedSpec, x.reexecs, x.stale, x.reexecMax].flatMap (fun w => leBytes 4 w.toNat) ++ zeros 4

/-- TASK_STATS (R181). -/
def execTaskStats (o : Origin) (s : State) : Host.Outcome State Fault Refusal :=
  runCmd s o 0x0303 always
    (fun _ d p => [ progClass d, lenIs p 4, resv p [(2, 2)], (byteAt p 1 / 2 != 0, stBadParam),
      (decide (7 < byteAt p 0), stRange) ])
    fun _ d p =>
      let t := byteAt p 0
      let d' := if (byteAt p 1).testBit 0 then modStats t (fun x => { commits := x.commits }) d else d
      (d', .ok (statsBytes (d.task t)))

/-! ## INPUT_POLICY -/

/-- The entries of INPUT_POLICY (Table 4.12): element and policy. -/
def policyEntries (p : Bytes) : List (Nat × Policy) :=
  (List.range (getLe p 0 2)).map (fun i =>
    let e := slice p (4 + 12 * i) 12
    (getLe e 0 2, { kind := byteAt e 2, holdLimit := getLe e 4 2, value := w32 (getLe e 8 4) }))

/-- An entry that breaks Table 4.12. -/
def policyBad (x : Policy) : Bool :=
  decide (2 < x.kind) || (x.kind != 0 && x.holdLimit != 0) || (x.kind == 0 && x.value != 0)

/-- The statuses of R182, in their order. -/
def policyTests (d : Dev) (p : Bytes) : List (Bool × Half) :=
  let n := getLe p 0 2
  let es := policyEntries p
  let im := d.prog.image.getD {}
  [ progClass d, (decide (p.length < 4) || p.length != 4 + 12 * n, stBadLength),
    resv p ([(2, 2)] ++ (List.range n).flatMap (fun i => [(4 + 12 * i + 3, 1), (4 + 12 * i + 6, 2)])),
    (n == 0 || decide (256 < n) || es.any (fun e => decide (16383 < e.1)), stRange),
    (es.any (fun e => (im.iOf e.1).source != 9 || policyBad e.2), stBadParam) ]

def policyApply (p : Bytes) (d : Dev) : Dev :=
  (policyEntries p).foldl (fun d e => modPIn e.1 (fun x => { x with staged := some e.2 }) d) d

/-- INPUT_POLICY (R182): taken whole at the owning task's next t0, and forwarded to the standby (R389). -/
def execInputPolicy (o : Origin) (s : State) : Host.Outcome State Fault Refusal :=
  runCmd s o 0x0304 always (fun _ d p => policyTests d p) fun _ d p => (forward 0x0304 p (policyApply p d), .ok [])

/-! ## WRITE_VALUES and READ_VALUES -/

/-- The entries of WRITE_VALUES: space, element, quality, value. -/
def writeEntries (p : Bytes) : List (Nat × Nat × Byte × Word) :=
  (List.range (byteAt p 1)).map (fun i =>
    let e := slice p (4 + 8 * i) 8
    (byteAt e 0, getLe e 2 2, BitVec.ofNat 8 (byteAt e 1), w32 (getLe e 4 4)))

/-- The statuses of R223, in their order. -/
def writeTests (d : Dev) (p : Bytes) : List (Bool × Half) :=
  let es := writeEntries p
  let im := d.prog.image.getD {}
  let t := byteAt p 0
  [ progClass d, (decide (p.length < 4) || p.length != 4 + 8 * byteAt p 1, stBadLength), resv p [(2, 2)],
    (decide (7 < t) || byteAt p 1 == 0 || decide (64 < byteAt p 1) ||
      es.any (fun e => (e.1 == spV && decide (im.nV ≤ e.2.1)) || (e.1 == spK && decide (im.nK ≤ e.2.1))), stRange),
    (es.any (fun e => !(e.1 == spV || e.1 == spK) || e.2.2.1.msb || !qListed e.2.2.1 ||
      (e.1 == spV && (im.writerOf (ekey spV e.2.1)).any (fun w => w != t)) ||
      (e.1 == spK && (im.recordOfK e.2.1).isSome)), stBadParam),
    (d.r220, stBusy) ]

/-- WRITE_VALUES (R212): staged until the named task's commit; answered after application. -/
def execWriteValues (o : Origin) (s : State) : Host.Outcome State Fault Refusal :=
  runCmd s o 0x0203 always (fun _ d p => writeTests d p) fun _ d p =>
    (modProg (fun x => { x with
      writePend := some { task := byteAt p 0, entries := writeEntries p, waiter := some o } }) d, .later)

/-- Space and element of the entries of READ_VALUES. -/
def readEntries (p : Bytes) : List (Nat × Nat) :=
  (List.range (getLe p 0 2)).map (fun i => (byteAt p (4 + 4 * i), getLe p (6 + 4 * i) 2))

/-- The value that READ_VALUES returns (R224). An I element of a task that has not committed yet has no committed image:
its value is left open (log entry 37). -/
def readOne (space el : Nat) (d : Dev) : TV × Dev :=
  if space != spI then (mgetD d.prog.vals (ekey space el) {}, d)
  else
    let t := (((d.prog.image.getD {}).partnerOwner el).orElse fun _ => (d.prog.image.getD {}).readerOf (ekey spI el)).getD 0
    match (d.task t).committed.bind (fun c => mget c.inputs el) with
    | some v => (v, d)
    | none =>
      let (x, d) := freshNat d
      (tvOfWord x, d)

/-- READ_VALUES (R224): every value from one instant. -/
def execReadValues (o : Origin) (s : State) : Host.Outcome State Fault Refusal :=
  runCmd s o 0x0204 always
    (fun _ d p =>
      let es := readEntries p
      let n := getLe p 0 2
      let im := d.prog.image.getD {}
      [ (!d.master, stNotPermitted), (decide (p.length < 4) || p.length != 4 + 4 * n, stBadLength),
        resv p ([(2, 2)] ++ (List.range n).map (fun i => (5 + 4 * i, 1))),
        (n == 0 || decide (500 < n), stRange),
        (es.any (fun e => !([spI, spQ, spM, spV, spK].contains e.1)), stBadParam),
        (es.any (fun e => decide (im.sizeOf e.1 ≤ e.2)), stRange) ])
    fun _ d p =>
      let (b, d) := (readEntries p).foldl (fun (a : Bytes × Dev) e =>
        let (v, d) := readOne e.1 e.2 a.2
        (a.1 ++ tvBytes v, d)) ([], d)
      (d, .ok (leBytes 8 d.tick ++ b))

/-! ## FORCE -/

/-- The entries of FORCE: operation and force. -/
def forceEntries (p : Bytes) : List (Nat × Force) :=
  (List.range (byteAt p 0)).map (fun i =>
    let e := slice p (4 + 12 * i) 12
    (byteAt e 1, { space := byteAt e 0, element := getLe e 2 2, mask := w32 (getLe e 4 4), value := w32 (getLe e 8 4) }))

/-- One entry of FORCE: set, release, release all. -/
def forceStep (fs : List Force) (e : Nat × Force) : List Force :=
  let others := fs.filter (fun f => !(f.space == e.2.space && f.element == e.2.element))
  match e.1 with
  | 0 => others ++ [e.2]
  | 1 => others
  | _ => []

def forceTests (d : Dev) (p : Bytes) : List (Bool × Half) :=
  let es := forceEntries p
  let im := d.prog.image.getD {}
  let n := byteAt p 0
  [ progClass d, (decide (p.length < 4) || p.length != 4 + 12 * n, stBadLength), resv p [(1, 3)],
    (n == 0 || decide (32 < n), stRange),
    (es.any (fun e => decide (2 < e.1) || decide (1 < e.2.space) ||
      (e.1 == 0 && im.analogue e.2.space e.2.element && e.2.mask != 0xFFFFFFFF)), stBadParam),
    (es.any (fun e => e.1 != 2 && decide (im.sizeOf e.2.space ≤ e.2.element)), stRange),
    (decide (256 < (es.foldl forceStep d.prog.forces).length), stRange) ]

/-- FORCE (R225). -/
def execForce (o : Origin) (s : State) : Host.Outcome State Fault Refusal :=
  runCmd s o 0x0205 always (fun _ d p => forceTests d p) fun _ d p =>
    let fs := (forceEntries p).foldl forceStep d.prog.forces
    (modProg (fun x => { x with forces := fs }) d, .ok (leBytes 2 fs.length ++ zeros 2))

/-! ## PLACEMENT_REPORT -/

def MigState.code : MigState → Nat
  | .none => 0
  | .prepare => 1
  | .switch => 2

/-- KIND 0 of Table 5.6. -/
def reportSummary (d : Dev) : Bytes :=
  let m := d.prog.map.getD {}
  leBytes 4 m.mapId.toNat ++ leBytes 1 d.stackS ++ leBytes 1 (min 255 (d.sparesLeft m)) ++
    leBytes 1 (min 255 ((d.prog.cells.toList.filter (·.failed)).length)) ++ leBytes 2 d.prog.forces.length ++
    leBytes 1 d.prog.mig.state.code ++ leBytes 1 d.prog.stagedRecs.length ++ zeros 21

/-- KIND 1 of Table 5.6: a task's budget, with the least of its two margins; its fraction is left open, and the margin of
a limit of 0 (log entry 36). -/
def reportBudget (t : Nat) (d : Dev) : Bytes × Dev :=
  let m := d.prog.map.getD {}
  let b := vget m.budgets t
  let l := (d.task t).confirmLimit
  let (x, d) := if l = 0 then freshInt d else openQuotient (10000 * ((l : Int) - max b.ck b.rk)) l d
  (leBytes 1 t ++ leBytes 1 (b2n (d.prog.map.isSome && d.budgetOk m.budgets t)) ++ zeros 2 ++ leBytes 4 b.ck ++ leBytes 4 b.rk ++
    leBytes 4 l ++ leBytes 4 (BitVec.ofInt 32 x).toNat ++ leBytes 4 b.maxT ++ leBytes 4 b.maxTv ++ zeros 4, d)

/-- KIND 2 of Table 5.6: the cost of a block at t_v in 0.1 µs; its fraction is left open (log entry 36). -/
def reportBlock (b : PlacedBlock) (d : Dev) : Bytes × Dev :=
  let t := (b.cost : Rat) * d.slotTime (tileOf b.cell) / 100000
  let (x, d) := openQuotient t.num t.den d
  (leBytes 2 b.block ++ leBytes 1 b.position ++ leBytes 1 b.cell ++ leBytes 1 (b2n b.inTile + 2 * b2n b.groupBroken) ++
    zeros 1 ++ leBytes 2 (min 0xFFFF x.toNat), d)

/-- KIND 3 of Table 5.6. -/
def reportSwap (page : Nat) (d : Dev) : Bytes :=
  let r := d.prog.report
  let part := (r.removedItems.drop (330 * page)).take 330
  leBytes 2 (max 1 ((r.removedItems.length + 329) / 330)) ++ leBytes 2 part.length ++ leBytes 2 r.gapUs ++ zeros 2 ++
    (List.range 6).flatMap (fun i => leBytes 2 (vget r.kept i) ++ leBytes 2 (vget r.fresh i) ++ leBytes 2 (vget r.removed i)) ++
    (List.range 8).flatMap (fun t => leBytes 1 (min 255 (vget r.abandoned t + vget r.skipped t))) ++ leBytes 2 r.forcesReleased ++ zeros 2 ++
    part.flatMap (fun x => leBytes 8 x.1.toNat ++ leBytes 1 x.2 ++ zeros 3)

/-- KIND 4 of Table 5.6: one tile. -/
def reportTile (t : Nat) (d : Dev) : Bytes × Dev :=
  let failed := (List.range 8).any (fun i => (d.cell (8 * t + i)).failed)
  let below := match d.margin t with
    | some m => decide (m < (d.otp.settings.speedGuard : Rat) / 100)
    | none => false
  let (x, d) := marginPercent t d
  (leBytes 2 (d.sNow t) ++ leBytes 1 (BitVec.ofInt 8 x).toNat ++
    leBytes 1 (b2n below + 2 * b2n failed + 4 * b2n (d.sg t == 0)), d)

/-- Several pieces one after the other. -/
def gather {α : Type} (f : α → Dev → Bytes × Dev) (l : List α) (d : Dev) : Bytes × Dev :=
  l.foldl (fun (a : Bytes × Dev) x =>
    let (b, d) := f x a.2
    (a.1 ++ b, d)) ([], d)

/-- The pages of a kind. -/
def reportPages (kind : Nat) (d : Dev) : Nat :=
  match kind with
  | 2 => max 1 (((d.prog.map.getD {}).blocks.length + 499) / 500)
  | 3 => max 1 ((d.prog.report.removedItems.length + 329) / 330)
  | _ => 1

/-- A page of PLACEMENT_REPORT (Table 5.6). -/
def reportPage (kind page : Nat) (d : Dev) : Bytes × Dev :=
  match kind with
  | 0 => (reportSummary d, d)
  | 1 => gather reportBudget (List.range 8) d
  | 2 =>
    let part := ((d.prog.map.getD {}).blocks.drop (500 * page)).take 500
    let (b, d') := gather reportBlock part d
    (leBytes 2 (reportPages 2 d) ++ leBytes 2 part.length ++ zeros 4 ++ b, d')
  | 3 => (reportSwap page d, d)
  | _ => gather reportTile (List.range 32) d

/-- PLACEMENT_REPORT (R194). -/
def execPlacementReport (o : Origin) (s : State) : Host.Outcome State Fault Refusal :=
  runCmd s o 0x0206 always
    (fun _ d p => [ (!d.master, stNotPermitted), lenIs p 4, resv p [(1, 1)], (decide (4 < byteAt p 0), stBadParam),
      (decide (reportPages (byteAt p 0) d ≤ getLe p 2 2), stRange) ])
    fun _ d p =>
      let (b, d) := reportPage (byteAt p 0) (getLe p 2 2) d
      (d, .ok b)

/-! ## MIGRATE -/

/-- The cost of the blocks placed on a cell of a position. -/
def Dev.costOn (d : Dev) (pos c : Nat) : Nat :=
  (((d.prog.map.getD {}).blocks.filter (fun b => b.position == pos && b.cell == c)).map (·.cost)).sum

/-- The cell of a tile whose blocks cost most; the lowest-numbered of several (log entry 38). -/
def Dev.busiest (d : Dev) (pos tile : Nat) : Nat :=
  (List.range 8).foldl (fun a i => if d.costOn pos a < d.costOn pos (8 * tile + i) then 8 * tile + i else a) (8 * tile)

def Dev.migSource (d : Dev) (p : Bytes) : Nat :=
  if byteAt p 0 = 0 then getLe p 2 2 else d.busiest (byteAt p 1) (getLe p 2 2)

def Dev.blocksOn (d : Dev) (pos c : Nat) : List PlacedBlock :=
  (d.prog.map.getD {}).blocks.filter (fun b => b.position == pos && b.cell == c)

/-- The target exists and the checker accepts it (R202, R206): on this device the checker's own test, on another the
answer of that device, which the row carries. -/
def Dev.targetOk (d : Dev) (pos src : Nat) (spare : Option Nat) : Bool :=
  match spare with
  | none => false
  | some c => c != src && (if pos = d.own then d.spareOk c else (d.blocksOn pos c).isEmpty)

/-- The statuses of R226, in their order. -/
def migrateTests (spare : Option Nat) (d : Dev) (p : Bytes) : List (Bool × Half) :=
  let n := getLe p 2 2
  [ progClass d, lenIs p 8, resv p [(4, 4)], (decide (1 < byteAt p 0), stBadParam),
    (decide (d.stackS ≤ byteAt p 1) || (if byteAt p 0 = 0 then decide (255 < n) else decide (31 < n)), stRange),
    ((d.blocksOn (byteAt p 1) (d.migSource p)).isEmpty || !d.targetOk (byteAt p 1) (d.migSource p) spare, stRange),
    (d.r220, stBusy) ]

/-- The completion bound of R205, in µs. -/
def Dev.migBound (d : Dev) (pos src : Nat) : Nat :=
  250 + 50 * ((d.blocksOn pos src).map (fun b => (d.task (d.blockTask b.block)).cfg.period)).foldl max 0

/-- MIGRATE (R226): on this device the migration begins; a migration on another device of the stack is that device's
work, and the master's map follows it (log entry 39). -/
def execMigrate (o : Origin) (spare : Option (Fin 256)) (s : State) : Host.Outcome State Fault Refusal :=
  runCmd s o 0x0207 always (fun _ d p => migrateTests (spare.map (·.val)) d p) fun _ d p =>
    let pos := byteAt p 1
    let src := d.migSource p
    let tgt := (spare.map (·.val)).getD 0
    let r := leBytes 1 src ++ leBytes 1 tgt ++ zeros 2 ++ leBytes 4 (d.migBound pos src)
    if pos = d.own then (startMigration src tgt 0 d, .ok r)
    else
      let move := fun (b : PlacedBlock) => if b.position == pos && b.cell == src then { b with cell := tgt } else b
      (modProg (fun x => { x with map := x.map.map (fun (m : PlaceMap) => { m with blocks := m.blocks.map move }) }) d, .ok r)

/-! ## STAGE_CONFIG -/

def Dev.recDecl (d : Dev) (n : Nat) : Option RecDecl := (d.prog.image.getD {}).records.find? (fun r => r.record == n)

def stageTests (d : Dev) (p : Bytes) : List (Bool × Half) :=
  let op := byteAt p 0
  let n := getLe p 2 2
  [ progClass d, (decide (p.length < 8) || p.length != 8 + (if op = 0 then 4 * getLe p 6 2 else 0), stBadLength),
    resv p [(1, 1)], (decide (2 < op), stBadParam),
    (op == 0 && (match d.recDecl n with
      | some r => decide (r.count < getLe p 4 2 + getLe p 6 2)
      | none => true), stRange),
    (op == 0 && decide (8 ≤ d.prog.stagedRecs.length) && !d.prog.stagedRecs.any (fun r => r.record == n && !r.committed),
      stBusy),
    (op == 1 && d.r220, stBusy) ]

/-- WRITE fills the shadow of a record. -/
def stageRecord (p : Bytes) (l : List StagedRec) : List StagedRec :=
  let n := getLe p 2 2
  let first := getLe p 4 2
  let vs := (List.range (getLe p 6 2)).map (fun i => (first + i, w32 (getLe p (8 + 4 * i) 4)))
  if l.any (fun r => r.record == n && !r.committed) then
    l.map (fun (r : StagedRec) => if r.record == n && !r.committed then { r with values := mputAll r.values vs } else r)
  else l ++ [{ record := n, values := mputAll [] vs, committed := false }]

/-- STAGE_CONFIG (R214, R227): COMMIT answers once the last record is applied. -/
def execStageConfig (o : Origin) (s : State) : Host.Outcome State Fault Refusal :=
  runCmd s o 0x0208 always (fun _ d p => stageTests d p) fun _ d p =>
    let set := fun (l : List StagedRec) => modProg (fun x => { x with stagedRecs := l }) d
    let n := fun (d : Dev) => leBytes 1 d.prog.stagedRecs.length ++ zeros 3
    match byteAt p 0 with
    | 0 =>
      let d := set (stageRecord p d.prog.stagedRecs)
      (d, .ok (n d))
    | 1 =>
      if d.prog.stagedRecs.isEmpty then (d, .ok (n d))
      else (modProg (fun x => { x with
        stagedRecs := x.stagedRecs.map (fun (r : StagedRec) => { r with committed := true })
        recCommitWaiter := some o }) d, .later)
    | _ => (set [], .ok (n (set [])))

end Sys2Proof.Machine
end

