-- ==== Sys2Proof/Machine/PairCmd.lean ====
section
/-!
DEFINITION. Machine/PairCmd.lean: what a standby does on a pair notice (R411, R412) and with the configuration commands
that its active device forwards (R216, R257, R389).
-/

namespace Sys2Proof.Machine

open Sys2Proof

/-! ## Pair notices -/

/-- The standby swaps to the image that was forwarded to it, and its replica is rebuilt by a pass of that image
(Table 10.8). The length of its own gap is open, at most 2 ms (R217). -/
def followSwap (m : Mems) (d : Dev) : Dev :=
  let n := d.inactive
  let d :=
    if (d.slotRec n).result == .accepted then
      let (x, d) := freshNat d
      raise .swapDone (x % 2001 + 65536 * n) (swapNow (x % 2001) m d)
    else d
  if d.red.standby == .unpaired then d
  else
    let d := setStandby .syncing (shadowEnd 5 (dropRequest d))
    sendFirnAck (modFirn (fun f => { f with rxClean := false, rxGot := 0 }) d)

/-- A notice of the active device: a fence makes a READY standby request at once (R412), a swap makes it swap. -/
def pairNotice (n : PairNotice) (m : Mems) (d : Dev) : Dev :=
  if !d.follows then d
  else match n with
    | .fence => requestLease d
    | .swap => if d.takingOver then d else followSwap m d

/-- PAIR_NOTICE_RECEIVED (R411, R412). -/
def execPairNoticeReceived (n : PairNotice) (s : State) : Host.Outcome State Fault Refusal := nextR s (pairNotice n)

/-! ## Forwarded commands (R389) -/

/-- A forwarded command has its effect where the tests that the active device made on it pass here too; the tests of
the role are not among them. -/
def applyIf (tests : List (Bool × Half)) (f : Dev → Dev) (d : Dev) : Dev :=
  if (firstFail tests).isSome then d else f d

/-- The effect of a forwarded command by its code. -/
def forwarded (code : Nat) (p : Bytes) (d : Dev) : Dev :=
  match code with
  | 0x0300 => applyIf ((taskCfgTests d p).drop 1) (taskCfgApply p) d
  | 0x0304 => applyIf ((policyTests d p).drop 1) (policyApply p) d
  | 0x0400 => applyIf (loopCfgTests d p) (loopCfgApply p) d
  | 0x0401 => applyIf (coefTests d p)
      (fun d => modSlot (byteAt p 0) (byteAt p 1) (fun s => { s with staged := some (coefOf p) }) d) d
  | 0x0402 => applyIf (coefCommitTests d p) (coefMark p) d
  | 0x0500 => applyIf (diCfgTests p) (diCfgApply p) d
  | 0x0501 => applyIf (doCfgTests p) (doCfgApply p) d
  | 0x0502 => applyIf (wdgCfgTests p) (wdgCfgApply p) d
  | 0x0505 =>
    let c := tripOf (p.drop 4)
    applyIf [lenIs p 148, (c.token.toNat != getLe p 0 4, stCheckFailed)] (tripApply c) d
  | 0x0600 => applyIf (aiCfgTests p) (aiCfgApply p) d
  | 0x0601 => applyIf (aoCfgTests p) (aoCfgApply p) d
  | 0x0704 => applyIf (canTests p) (canApply p) d
  | 0x0705 => applyIf (uartTests p) (uartApply p) d
  | _ => d

/-- CONFIG_FORWARD_RECEIVED (R389). -/
def execConfigForwardReceived (code : Half) (p : Bytes) (s : State) : Host.Outcome State Fault Refusal :=
  nextD s fun d => if d.follows then forwarded code.toNat p d else d

end Sys2Proof.Machine
end

