-- ==== Sys2Proof/Machine/Power.lean ====
section
/-!
DEFINITION. Machine/Power.lean: rails, power-fail warning, heat and the supervisor watchdogs (R543 to R555, R577 to R579),
the resets and what they keep (R62, R90 to R92, R556, R557, R594), and start-up (R558 to R571).
-/

namespace Sys2Proof.Machine

open Sys2Proof

/-! ## Resets -/

/-- The device is not held in its internal reset. -/
def Dev.awake (d : Dev) : Bool := d.pwr.phase != .inReset

/-- The bit of SYS_RESET_CAUSE of a reset kind; a power-on reset clears the others (R62). -/
def causeOf (k : ResetKind) (c : ResetCause) : ResetCause :=
  match k with
  | .por => {}
  | .brownout => { c with brownout := true }
  | .pin => { c with pin := true }
  | .soft => { c with soft := true }
  | .swdg => { c with swdg := true }
  | .lockstep => { c with lockstep := true }
  | .thermal => { c with thermal := true }

def ResetKind.code : ResetKind → Nat
  | .por => 0
  | .brownout => 1
  | .pin => 2
  | .soft => 3
  | .swdg => 4
  | .lockstep => 5
  | .thermal => 6

/-- Kinds of reset that keep the privileged store (Table 15.3). -/
def ResetKind.keeps : ResetKind → Bool
  | .por => false
  | .brownout => false
  | _ => true

/-- What a reset leaves of the RTC: the fields that Table 12.1 marks as kept (R461, R462). -/
def rtcKept (r : Rtc) : Rtc :=
  { sec := r.sec, frac := r.frac, osf := r.osf, oscRun := r.oscRun, countLost := r.countLost, trim := r.trim
    leap := r.leap, leapPend := r.leapPend, leapNext := r.leapNext }

/-- A slot after a reset that kept the store: the active one is still to be checked again (R569), the other is not
accepted. -/
def slotKept (active : Bool) (s : Slot) : Slot :=
  { result := if active then .accepted else if s.length = 0 then .empty else .incomplete, length := s.length
    imageId := if active then s.imageId else 0 }

/-- The slot that was active is one that R569 checks again. -/
def Dev.slotActive (d : Dev) : Bool :=
  d.prog.image.isSome || d.pwr.startCheck == some true ||
    (d.pwr.phase != .running && (vget d.prog.slots (b2n d.prog.activeSlot)).result == .accepted)

/-- The retentive configuration area at the instant of a reset. -/
def Dev.confHeld (d : Dev) : Option RetConf := if d.serves then some (confOf d) else d.pwr.confArea

/-- What a bistable glass shows: a row that was being driven is undefined (R504, R519). -/
def Panel.glassLeft (p : Panel) : Map (List Nat) :=
  match p.pass with
  | some x => if x.wait || x.done then p.glass else mdel p.glass x.row
  | none => p.glass

/-- Every block at its reset state, but for what R557 keeps. -/
def resetBlocks (k : ResetKind) (kept : Bool) (d : Dev) : Dev :=
  let n := b2n d.prog.activeSlot
  let act := d.slotActive
  { sys := { ident := d.sys.ident, uid := d.sys.uid, cause := d.sys.cause }
    host := if k = .soft then { d.host with spiErr := false, dma := Vector.replicate 4 {}, pba := 0 } else {}
    prog := if kept then
        { activeSlot := d.prog.activeSlot
          slots := Vector.ofFn (fun (i : Fin 2) => slotKept (act && i.val == n) (vget d.prog.slots i.val)) }
      else {}
    rtc := rtcKept d.rtc
    hist := { flash := d.hist.flash, valid := d.hist.valid, flushSeq := d.hist.flushSeq }
    panel := { glass := d.panel.glassLeft }
    otp := { d.otp with write := none }
    pwr := {
      kind := k, storeKept := kept, confArea := if kept then d.confHeld else none
      retData := if kept then d.pwr.retData else {}, confFlash := d.pwr.confFlash, snapFlash := d.pwr.snapFlash
      jtag := d.pwr.jtag }
    free := d.free, out := d.out }

/-- A reset (R556, R557): mailbox buffers are 0 (R602), the privileged store is cleared or kept, and an OTP record and a
history flush that it cuts short are left as R532 and R486 say. -/
def resetWith (k : ResetKind) (m : Mems) (d : Dev) : Dev × Mems :=
  let kept := k.keeps && (d.pwr.phase == .running || d.pwr.storeKept)
  let d := cutFlush d
  let (d, m) := match d.otp.write with
    | some w => spoilWrite w m d
    | none => (d, m)
  (resetBlocks k kept d,
   { m with bufs := [], shown := [], drawing := [], storeA := if kept then m.storeA else [],
            storeB := if kept then m.storeB else [] })

def resetDev (k : ResetKind) (m : Mems) (d : Dev) : Dev × Mems :=
  resetWith k m { d with sys := { d.sys with cause := causeOf k d.sys.cause } }

/-- POWER_ON_RESET: VDD_CORE rising through 0.70 V. -/
def execPowerOnReset (s : State) : Host.Outcome State Fault Refusal := nextM s (resetDev .por)

/-- BROWNOUT_RESET (R546). -/
def execBrownoutReset (s : State) : Host.Outcome State Fault Refusal := nextM s (resetDev .brownout)

/-- PIN_RESET: PORST_N low for 1 µs. -/
def execPinReset (s : State) : Host.Outcome State Fault Refusal := nextM s (resetDev .pin)

/-- LOCKSTEP_RESET. -/
def execLockstepReset (s : State) : Host.Outcome State Fault Refusal := nextM s (resetDev .lockstep)

/-- A supervisor pair whose watchdog has not been restarted for 20 ms (R579). -/
def wdgStage1 (pair : Bool) (d : Dev) : Dev :=
  if !d.awake then d else raise .supervisorWdg (b2n pair) (modPwr (fun p => { p with wdgStage1 := true }) d)

def execSupervisorWdgStage1 (pair : Bool) (s : State) : Host.Outcome State Fault Refusal := nextD s (wdgStage1 pair)

/-- SUPERVISOR_WDG_RESET (R579): the second stage follows the first. -/
def execSupervisorWdgReset (s : State) : Host.Outcome State Fault Refusal :=
  nextM s fun m d => if d.pwr.wdgStage1 then resetDev .swdg m d else (d, m)

/-- SUPERVISOR_MEMORY_WALK (R440): a byte that fails in both copies makes a LOCKSTEP reset. -/
def memoryWalk (faults : List ByteFault) (m : Mems) (d : Dev) : Dev × Mems :=
  if d.pwr.phase != .running then (d, m)
  else
    let (dead, d) := superWalk faults d
    if dead then resetDev .lockstep m d else (d, m)

def execSupervisorMemoryWalk (faults : List ByteFault) (s : State) : Host.Outcome State Fault Refusal :=
  nextM s (memoryWalk faults)

/-! ## SOFT_RESET (R90 to R92) -/

def execSoftReset (o : Origin) (s : State) : Host.Outcome State Fault Refusal :=
  runCmd s o 0x0102 always
    (fun _ d p =>
      [ lenIs p 8, (getLe p 0 4 % 2 ^ 31 != 0 || getLe p 4 4 != 0x5AFE0102, stBadParam),
        (d.cycleRun && !(getLe p 0 4).testBit 31, stNotPermitted) ])
    fun _ d p =>
      let d := if (getLe p 0 4).testBit 31 then fence 5 d else d
      ({ d with sys := { d.sys with softReset := true } }, .ok [])

/-- A SOFT_RESET whose response has not been written yet. -/
def Dev.softAnswering (d : Dev) : Bool :=
  let mine := fun (j : Option Job) => j.any (fun x => hdrCode x.header == 0x0102 && x.started)
  (List.finRange 8).any (fun n => mine (d.job (.ch n))) || mine (d.job .net)

/-- SOFT_RESET_EXECUTE (R92): 1 ms after the response. -/
def execSoftResetExecute (s : State) : Host.Outcome State Fault Refusal :=
  nextM s fun m d => if d.sys.softReset && !d.softAnswering then resetDev .soft m d else (d, m)

/-! ## JTAG (R594) -/

/-- Instructions that hold the rest of the device in reset. -/
def JtagInstr.holds : JtagInstr → Bool
  | .extest => true
  | .clamp => true
  | .highz => true
  | _ => false

/-- A held device stands in its reset state; SYS_RESET_CAUSE records PIN when the TAP leaves the instruction. -/
def jtagUpdate (i : JtagInstr) (m : Mems) (d : Dev) : Dev × Mems :=
  let was := d.pwr.jtag.holds
  let d := modPwr (fun p => { p with jtag := i }) d
  if i.holds && !was then resetWith .pin m d else (d, m)

def execJtagInstructionUpdate (i : JtagInstr) (s : State) : Host.Outcome State Fault Refusal := nextM s (jtagUpdate i)

/-- Test-Logic-Reset or TRST_N: out of a holding instruction the device makes a PIN reset. -/
def tapReset (m : Mems) (d : Dev) : Dev × Mems :=
  let was := d.pwr.jtag.holds
  let d := modPwr (fun p => { p with jtag := .idcode }) d
  if was then resetDev .pin m d else (d, m)

def execJtagTapReset (s : State) : Host.Outcome State Fault Refusal := nextM s tapReset

/-! ## Start-up -/

/-- INTERNAL_RESET_END (R559, R528, R529, R560): straps, fuse block and OTP are read, FENCE_N is released. -/
def resetEnd (pos : BitVec 3) (sel : BitVec 2) (m : Mems) (d : Dev) : Dev :=
  if d.awake || d.pwr.jtag.holds then d
  else
    let d := { d with
      sys := { d.sys with
        stackPos := pos, bootSel := sel
        ident := BitVec.ofNat 64 (fromLe (Memory.readN 0 m.fuse 0 8))
        uid := BitVec.ofNat 128 (fromLe (Memory.readN 0 m.fuse 8 16)) }
      otp := otpAtReset m }
    let d := modPwr (fun p => { p with phase := .booting, fenceN := false }) d
    modGl (fun g => { g with ring := ringOf g.pos d.stackS, positionFault := d.misplaced }) d

def execInternalResetEnd (pos : BitVec 3) (sel : BitVec 2) (s : State) : Host.Outcome State Fault Refusal :=
  nextR s (resetEnd pos sel)

/-- The role at a reset (R386, R426). -/
def Dev.startRole (d : Dev) : Role :=
  if d.variant = 0x6410 then .arbiter
  else if d.red.cfg.paired then .standby
  else if d.red.arbiters.toList.any (·.enable) then .arbiter
  else .unassigned

/-- Channels open: 0 alone in RECOVERY (Table 2.17). -/
def openChannels (d : Dev) : Dev :=
  let n := if d.sys.recovery then 1 else 8
  (List.range n).foldl (fun d i => setChan i (fun c => { c with state := .idle }) d) d

/-- The detail word of POR_DONE (Table 15.12). -/
def porDetail (d : Dev) : Nat :=
  b2n d.pwr.fwCopy + 2 * b2n d.pwr.storeKept + 4 * b2n d.pwr.confRestored + 8 * b2n d.pwr.snapRestored +
    16 * b2n d.pwr.histRestored + 32 * d.pwr.kind.code

/-- FW_READY is set, the channels open and POR_DONE is raised; RTC_OSF where OSF is found set (R470). -/
def fwReady (d : Dev) : Dev :=
  let d := openChannels (modPwr (fun p => { p with phase := .running })
    { d with sys := { d.sys with fwReady := true } })
  raiseIf d.rtc.osf .rtcOsf (b2n (!d.rtc.oscRun) + 2 * b2n d.rtc.countLost) (raise .porDone (porDetail d) d)

/-- The settings of the area, or of the newest valid copy in flash; without any, FW_FAULT with code 3 (R575). -/
def restoreConf (d : Dev) : RetConf × Dev :=
  match d.pwr.confArea.orElse (fun _ => d.pwr.confFlash.map (fun (r : ConfRec) => r.conf)) with
  | some c => (c, modPwr (fun p => { p with confRestored := true, confArea := none }) d)
  | none => ({}, raise .fwFault (3 * 65536) d)

/-- The retentive data area: kept with the store, or from the newest valid snapshot (R575). -/
def restoreData (d : Dev) : Dev :=
  if d.pwr.storeKept then d
  else match d.pwr.snapFlash with
    | some r => modPwr (fun p => { p with retData := r.data, snapRestored := true }) d
    | none => d

/-- An uncorrectable byte at a restore (Table 11.3, R431): PRIV_UNCORRECTABLE with outcome 3, and the functional log. -/
def restoreLost (a : Nat) (d : Dev) : Dev :=
  logFunctional { memory := 1, index := 0, macro_ := a / 131072, bytes := 2, row := a % 131072 / 64 }
    { errors := 2, uncorrectable := 1 } a (privLost a 3 false d)

/-- An element that takes BAD_CHECK under R44, with the identity that the image im gives it. -/
def elemLost (im : Image) (k : Nat) (m : Map TV) : Map TV :=
  match mget m k with
  | some v => mput m k (mkTV (im.idOf (keySpace k) (keyEl k)) v.value qBAD_CHECK v.seq)
  | none => m

/-- One uncorrectable byte of a kept store, met by the restore (Table 11.3): the record is not restored, the element
takes BAD_CHECK, the override is dropped. -/
def loseRecord (im : Image) (x : RestoreLoss) (d : Dev) : Dev :=
  match x with
  | .conf p a => restoreLost (0x600000 + a.toNat)
      (modPwr (fun w => { w with confArea := w.confArea.map (confWithout p) }) d)
  | .elem v n a => restoreLost (0x680000 + a.toNat)
      (modPwr (fun w => { w with retData := { w.retData with
        elems := elemLost im (ekey (if v then spV else spM) n.toNat) w.retData.elems } }) d)
  | .override n a => restoreLost (0x680000 + a.toNat)
      (modPwr (fun w => { w with retData := { w.retData with kOver := mdel w.retData.kOver n.toNat } }) d)

/-- The uncorrectable bytes that the restore of a kept store meets; content from flash has none. -/
def loseRecords (m : Mems) (lost : List RestoreLoss) (d : Dev) : Dev :=
  if d.pwr.storeKept then lost.foldl (fun d x => loseRecord (parseImage (slotImage m d (b2n d.prog.activeSlot))) x d) d
  else d

/-- The start of the firmware outside RECOVERY: content restored, epoch written, boot header read, role taken. -/
def startFirmware (lost : List RestoreLoss) (m : Mems) (copy : Nat) (fallback : Bool) (d : Dev) : Dev × Mems :=
  let d := { d with sys := { d.sys with fwVersion := BitVec.ofNat 32 (firmwareVersion m copy) } }
  let d := modPwr (fun p => { p with fwCopy := decide (copy = 1) }) d
  let d := if fallback then raise .fwFault 65536 d else d
  let (c, d) := restoreConf (loseRecords m lost d)
  let d := restoreData (applyConf c d)
  let d := restoreHistory c (d.pwr.kind == .por) d
  let d := modPwr (fun p => { p with histRestored := !d.hist.noValidFlush, lastSnapOp := d.hist.opSeconds }) d
  let d := takeEpoch d
  let d := match bootHeader m with
    | some (i, a) => modPwr (fun p => { p with bootImage := i, autostart := a }) d
    | none => bootFault d
  let role := d.startRole
  let d := { d with
    sys := { d.sys with role := role }
    red := { d.red with standby := if role == .standby && d.master then .unpaired else .none } }
  let d := modPwr (fun p => { p with loadDue := true }) d
  let (d, m) := loadBootFrame m d
  (panelGo (fwReady d), m)

/-- STARTUP_FW_READY (R564, R568): with no boot (Table 15.5), no valid firmware copy or a failing fuse block, RECOVERY. -/
def startupReady (lost : List RestoreLoss) (m : Mems) (d : Dev) : Dev × Mems :=
  if d.pwr.phase != .booting then (d, m)
  else
    let boot := if 2 ≤ d.sys.bootSel.toNat then none else bootFirmware m
    match boot with
    | none => (fwReady { d with sys := { d.sys with recovery := true } }, m)
    | some (copy, fallback) =>
      if d.otp.fuseOk then startFirmware lost m copy fallback d
      else
        let d := if fallback then raise .fwFault 65536 d else d
        (fwReady { modPwr (fun p => { p with fwCopy := decide (copy = 1) }) d with
          sys := { d.sys with recovery := true, fwVersion := BitVec.ofNat 32 (firmwareVersion m copy) } }, m)

def execStartupFwReady (lost : List RestoreLoss) (s : State) : Host.Outcome State Fault Refusal :=
  nextM s (startupReady lost)

/-- STARTUP_PROGRAM_LOAD (R569): the kept slot is checked again, or BOOT_IMAGE is loaded into slot A. -/
def programLoad (m : Mems) (d : Dev) : Dev × Mems :=
  if !d.pwr.loadDue || !d.serves then (d, m)
  else
    let d := modPwr (fun p => { p with loadDue := false }) d
    let n := b2n d.prog.activeSlot
    if d.pwr.storeKept && (d.slotRec n).result == .accepted then
      (modPwr (fun p => { p with startCheck := some true }) (startChecks n d), m)
    else bootLoad m (modProg (fun p => { p with activeSlot := false }) d)

def execStartupProgramLoad (s : State) : Host.Outcome State Fault Refusal := nextM s programLoad

/-- AUTOSTART_TASKS (R570): in role 0, or in role 1 after a COLD grant (R401), once the program is active and PFW has
ended, as CYCLE_START would; nothing starts where CYCLE_START would refuse. -/
def autostart (b : List Budget) (d : Dev) : Dev :=
  if !d.pwr.autostartDue || d.pfwOn || d.prog.image.isNone || !d.serves || !d.stackWhole then d
  else if !(d.sys.role == .unassigned || d.sys.role == .active) then d
  else
    let sel := (maskTasks d.pwr.autostart.toNat).filter (fun t =>
      (d.task t).cfg.enable && (d.task t).st == .stopped)
    let d := modPwr (fun p => { p with autostartDue := false }) d
    if sel.isEmpty || d.stopped || !d.master || !d.startFits b sel then d
    else sel.foldl (fun d t => startTask t d) d

def execAutostartTasks (b : List Budget) (s : State) : Host.Outcome State Fault Refusal := nextD s (autostart b)

/-! ## Rails and the backup cell (R548, R549) -/

/-- Warning bands of Table 15.1, in mV: VDD_CORE, VDD_SRAM, VDD_SERDES, VDDIO_18, VDDIO_33, VDDA_5. -/
def railBand : Nat → Nat × Nat
  | 0 => (820, 880)
  | 1 => (865, 935)
  | 2 => (865, 935)
  | 3 => (1680, 1920)
  | 4 => (3070, 3530)
  | _ => (4650, 5350)

/-- The warning of a rail: VCORE_WARN for the first two, VIO_WARN for the others. -/
def railWarn (i mv : Nat) (d : Dev) : Dev :=
  if i < 2 then raise .vcoreWarn (i + 65536 * mv) d else raise .vioWarn (i - 2 + 65536 * mv) d

/-- One sample of a rail, 10 µs after the one before: the second sample outside the band raises the warning, and 1 ms
within it ends the condition. -/
def railStep (i mv : Nat) (d : Dev) : Dev :=
  let r := vget d.pwr.rails i
  let out := decide (mv < (railBand i).1) || decide ((railBand i).2 < mv)
  let good := if out then 0 else r.good + 1
  let fire := out && r.outside && !r.warned
  let r' : RailMon := { outside := out, good := min 100 good, warned := (r.warned || fire) && decide (good < 100) }
  let d := modPwr (fun p => { p with rails := vset p.rails i r' }) d
  if fire then railWarn i mv d else d

/-- RAIL_MONITOR_SAMPLE (R548). -/
def railSample (mv : List Half) (d : Dev) : Dev :=
  if !d.awake then d
  else
    let d := modPwr (fun p => { p with vddCore := lget mv 0 }) d
    (List.range (min 6 mv.length)).foldl (fun d i => railStep i (lget mv i).toNat d) d

def execRailMonitorSample (mv : List Half) (s : State) : Host.Outcome State Fault Refusal := nextD s (railSample mv)

/-- VBAT_MEASURE (R549): VBAT in 10 mV, once per second. -/
def vbatMeasure (v : Half) (d : Dev) : Dev :=
  if !d.awake then d
  else
    let under := decide (v.toNat < 210)
    let fire := under && d.pwr.vbatUnder && !d.pwr.vbatLow
    let d := modPwr (fun p => { p with
      vbat := v, vbatUnder := under, vbatLow := (p.vbatLow || fire) && decide (v.toNat < 220) }) d
    if fire then raise .vbatLow (65536 * v.toNat) d else d

def execVbatMeasure (v : Half) (s : State) : Host.Outcome State Fault Refusal := nextD s (vbatMeasure v)

/-! ## Heat (R577, R578) -/

/-- The sum of the last ten hottest values: the 1 ms average times ten, in 1/16 °C. -/
def Pwr.tjSum (p : Pwr) : Option Int := if p.tjHist.length < 10 then none else some p.tjHist.sum

/-- The critical temperature in 1/16 °C. -/
def Dev.tjLimit (d : Dev) : Int := if d.extTemp then 135 * 16 else 120 * 16

/-- TJ_HIGH: at 105 °C, until the average has been below 100 °C for 1 s. -/
def tjHighStep (detail : Nat) (sum : Int) (d : Dev) : Dev :=
  if 105 * 160 ≤ sum then
    let fire := !d.pwr.tjHigh
    let d := modPwr (fun p => { p with tjHigh := true, tjBelowSince := none }) d
    if fire then raise .tjHigh detail d else d
  else if sum < 100 * 160 then
    let since := d.pwr.tjBelowSince.getD d.tick
    modPwr (fun p => { p with
      tjBelowSince := some since, tjHigh := p.tjHigh && decide (d.tick < since + 20000) }) d
  else modPwr (fun p => { p with tjBelowSince := none }) d

/-- TJ_MEASURE (R577, R578): the hottest sensor and its temperature, every 100 µs. -/
def tjMeasure (sensor : Nat) (temp : Half) (d : Dev) : Dev :=
  if !d.awake then d
  else
    let detail := sensor + 65536 * temp.toNat
    let d := modPwr (fun p => { p with tj := temp, tjHist := (temp.toInt :: p.tjHist).take 10 }) d
    match d.pwr.tjSum with
    | none => d
    | some sum =>
      let d := tjHighStep detail sum d
      if 10 * d.tjLimit ≤ sum && !d.pwr.tjCrit then
        ladderL2 (raise .tjCrit detail (modPwr (fun p => { p with tjCrit := true }) d))
      else d

def execTjMeasure (sensor : Fin 12) (temp : Half) (s : State) : Host.Outcome State Fault Refusal :=
  nextD s (tjMeasure sensor.val temp)

/-- THERMAL_RESET (R578): 10 ms after TJ_CRIT. -/
def execThermalReset (s : State) : Host.Outcome State Fault Refusal :=
  nextM s fun m d => if d.pwr.tjCrit then resetDev .thermal m d else (d, m)

/-! ## Power-fail warning (R550 to R554) -/

/-- PFW_N_FALL: PFW is qualified and raised, the panel stops (R520), and the hold begins; in a stack the device reports
it. -/
def pfwFall (m : Mems) (d : Dev) : Dev × Mems :=
  if !d.awake || d.pwr.pfw then (d, m)
  else
    let d := raise .pfw 1 (modPwr (fun p => { p with pfw := true }) d)
    let (d, m) := panelPfw m d
    (sendStatus (enterHold d), m)

def execPfwNFall (s : State) : Host.Outcome State Fault Refusal := nextM s pfwFall

/-- PFW_END: PFW_N has been high for 100 ms. The hold ends once step 2 has ended too; a retained panel drives again
(Table 13.3). -/
def pfwEnd (d : Dev) : Dev :=
  if !d.pwr.pfw then d
  else
    let d := modPwr (fun p => { p with pfw := false }) d
    sendStatus (panelResume (leaveHold d))

def execPfwEnd (s : State) : Host.Outcome State Fault Refusal := nextD s pfwEnd

end Sys2Proof.Machine
end

