-- ==== Sys2Proof/Machine/Publish.lean ====
section
/-!
DEFINITION. Machine/Publish.lean: what follows a commit (state PUBLISH of Table 4.4): value sets (R352, R353),
IEC 61162-450 sentences (R357, R358), CAN FD transmit objects (R360), stack publications (R375) and the delta for the
standby (R407).
-/

namespace Sys2Proof.Machine

open Sys2Proof

/-- A committed value of the task's cycle. -/
def committedTV (k : Task) (space el : Nat) : TV :=
  mgetD ((k.committed.map (fun (c : CommitImage) => c.vals)).getD []) (ekey space el) {}

/-! ## Value sets -/

/-- The subscribers of a set that are not LOST. -/
def Dev.setSubs (d : Dev) (setNo : Nat) : List Subscriber :=
  d.net.subscribers.filter (fun y => y.setNo == setNo && !y.lost)

/-- A set is not sent while its only subscribers are LOST (R353). -/
def Dev.setSent (d : Dev) (setNo : Nat) : Bool :=
  !(d.setSubs setNo).isEmpty || !d.net.subscribers.any (fun y => y.setNo == setNo)

/-- One fragment of a set (Table 9.7). -/
def setFragment (setNo frags frag : Nat) (cycle : Word) (vals : List TV) : Bytes :=
  let part := (vals.drop (176 * frag)).take 176
  beBytes 2 setNo ++ beBytes 1 frag ++ beBytes 1 frags ++ beBytes 4 cycle.toNat ++ beBytes 2 (176 * frag) ++
    beBytes 2 part.length ++ zeros 4 ++ part.flatMap (fun v => beBytes 8 (tvWord v))

/-- A set leaves in fragments of 176 values (R352). -/
def sendSet (k : Task) (cycle : Word) (x : SetDecl) (d : Dev) : Dev :=
  let vals := x.items.map (fun i => committedTV k i.1 i.2)
  let frags := (vals.length + 175) / 176
  (List.range frags).foldl (fun d f => stationTo x.group 0x10 (setFragment x.setNo frags f cycle vals) d) d

/-- The subscriber has acknowledged a cycle or a later one (R352). -/
def Subscriber.acked (y : Subscriber) (cycle : Word) : Bool := y.lastAck.any (fun a => a == cycle || seqGreater a cycle)

/-- The partners that subscribe to the task's sets: whether each acknowledged anything of the previous cycle; after
three publish cycles without, it is LOST (R348 cause 3, R352). -/
def countUnacked (sets : List SetDecl) (prev : Word) (d : Dev) : Dev :=
  (List.range d.net.partners.length).foldl (fun d j =>
    let p := lget d.net.partners j
    let ys := d.net.subscribers.filter (fun y =>
      !y.lost && y.partnerId == p.partnerId && y.sender == p.sender && sets.any (fun x => x.setNo == y.setNo))
    if p.state != .present || ys.isEmpty then d
    else if ys.any (fun y => y.acked prev) then modPartner j (fun p => { p with unacked := 0 }) d
    else if 2 ≤ p.unacked then partnerLost j 3 d
    else modPartner j (fun p => { p with unacked := p.unacked + 1 }) d) d

/-- The task's sets are published (R352): the stack master speaks for its stack (R336). -/
def publishSets (t : Nat) (d : Dev) : Dev :=
  let sets := d.pubSets.filter (fun x => x.task == t)
  if !d.mayExchange then d
  else
    let k := d.task t
    let d := countUnacked sets (k.counter - 2) d
    sets.foldl (fun d x => if d.setSent x.setNo then sendSet k (k.counter - 1) x d else d) d

/-! ## Sentences -/

def asciiBytes (s : List Char) : Bytes := s.map (fun c => BitVec.ofNat 8 c.toNat)

def decimalBytes (n : Nat) : Bytes := asciiBytes (Nat.toDigits 10 n)

def hexBytes (b : Byte) : Bytes :=
  let digit := fun (n : Nat) => BitVec.ofNat 8 (if n < 10 then 48 + n else 55 + n)
  [digit (b.toNat / 16), digit (b.toNat % 16)]

/-- A number with decimals, as IEC 61162-1 writes it (log entry 34). -/
def fixedBytes (decimals : Nat) (x : Int) : Bytes :=
  let n := x.natAbs
  let whole := decimalBytes (n / 10 ^ decimals)
  let frac := decimalBytes (n % 10 ^ decimals)
  let sign : Bytes := if x < 0 then [0x2D] else []
  sign ++ whole ++ (if decimals = 0 then [] else [0x2E] ++ List.replicate (decimals - frac.length) 0x30#8 ++ frac)

/-- The text of a bound field (R357): a status letter, or a number, empty for an unusable quality. Rounding of a Q16.16
value is left open (log entry 34). -/
def bindText (im : Image) (b : SentBind) (v : TV) (d : Dev) : Bytes × Dev :=
  if b.format = 4 then ([if qUsable v.quality then 0x41 else 0x56], d)
  else if !qUsable v.quality then ([], d)
  else if im.analogue b.space b.element then
    let (x, d) := openQuotient (v.value.toInt * 10 ^ b.format) 65536 d
    (fixedBytes b.format x, d)
  else (fixedBytes b.format (v.value.toNat * 10 ^ b.format), d)

/-- The text with a bound field filled: field POSITION follows the POSITION-th comma. -/
def insertField : Bytes → Nat → Bytes → Bytes
  | [], _, _ => []
  | c :: cs, n, x =>
    if c = 0x2C then (if n = 1 then c :: (x ++ cs) else c :: insertField cs (n - 1) x)
    else c :: insertField cs n x

/-- The sentence with its fields, checksum and end (R357). -/
def sentence (im : Image) (k : Task) (x : SentDecl) (d : Dev) : Bytes × Dev :=
  let (body, d) := x.binds.foldl (fun (a : Bytes × Dev) b =>
    let (t, d) := bindText im b (committedTV k b.space b.element) a.2
    (insertField a.1 b.position t, d)) (x.text, d)
  (body ++ [0x2A] ++ hexBytes (sentenceXor (body.drop 1)) ++ [0x0D, 0x0A], d)

/-- The UdPbC header and the tag block: source identifier and line count (R358). -/
def tagBlock (sfi : Bytes) (line : Nat) : Bytes :=
  let body := asciiBytes ['s', ':'] ++ sfi.filter (· != 0) ++ asciiBytes [',', 'n', ':'] ++ decimalBytes line
  asciiBytes ['U', 'd', 'P', 'b', 'C'] ++ [0, 0x5C] ++ body ++ [0x2A] ++ hexBytes (sentenceXor body) ++ [0x5C]

/-- The sentence templates of a task that has committed, each at every REPEAT-th commit (R357, R358). -/
def sendSentences (t : Nat) (d : Dev) : Dev :=
  if !d.master || d.stopped then d
  else
    d.img.sentences.foldl (fun d x =>
      if x.task != t then d
      else
        let n := mgetD d.net.sentCount x.index 0 + 1
        let due := decide (x.repeatEvery ≤ n)
        let d := modNet (fun y => { y with sentCount := mput y.sentCount x.index (if due then 0 else n) }) d
        if !due || d.net.cfg.ip = 0 then d
        else
          let (b, d) := sentence d.img (d.task t) x d
          let line := d.net.sentLine
          emit (.udp x.group x.port (tagBlock d.net.cfg.sfi line ++ b))
            (modNet (fun y => { y with sentLine := if 999 ≤ line then 1 else line + 1 }) d)) d

/-! ## Stack publications -/

/-- The committed elements of a task's blocks on this device that other devices of the stack read as stack inputs. -/
def Dev.publications (d : Dev) (t : Nat) : List (Word × TV) :=
  let k := d.task t
  let im := d.img
  let keys := ((d.ownBlocks t).flatMap (fun b => (lget im.blocks b).writes)).dedup
  keys.filterMap (fun key =>
    let id := im.idOf (keySpace key) (keyEl key)
    if im.iDecl.any (fun i => i.source == 8 && i.id == id) then some (id, committedTV k (keySpace key) (keyEl key)) else none)

/-- Stack publications leave in scheduled frames (R375), in the payload of log entry 28. -/
def sendPublications (t : Nat) (d : Dev) : Dev :=
  if !d.inStack then d
  else
    let items := (d.publications t).map (fun e => beBytes 4 e.1.toNat ++ beBytes 8 (tvWord e.2))
    (chunks 85 items).foldl (fun d part => glSend false 1 0x20 0xFF part.flatten d) d

/-! ## The row -/

/-- The delta carries FINAL after the commit of a planned switchover (R419). -/
def Dev.finalDelta (d : Dev) (t : Nat) : Bool :=
  d.red.switchAt.any (fun at_ => decide (at_ ≤ d.tick)) && d.runningTasks.head? == some t

/-- PUBLISH_SETS: everything that a commit sends, then the task waits for its next t0, or stops (R180). Nothing is sent
where the commit delivers nothing (R415, R417) or the device is fenced or safe (R607). -/
def publish (t : Nat) (d : Dev) : Dev :=
  let k := d.task t
  if k.st != .publish then d
  else
    let final := d.finalDelta t
    let d := if k.toPublish && !d.stopped then
        let d := sendPublications t (sendCan t (sendSentences t (publishSets t d)))
        sendDelta t final (sendShadowInput t d)
      else d
    stopCheck t (modTask t (fun k => { k with st := .wait, toPublish := false }) d)

def execPublishSets (t : Fin 8) (s : State) : Host.Outcome State Fault Refusal := nextD s (publish t)

end Sys2Proof.Machine
end

