-- ==== Sys2Proof/Machine/Dispatch.lean ====
section
/-!
DEFINITION. Machine/Dispatch.lean: one arm per command, each a direct call of the command's meaning.
-/

namespace Sys2Proof.Machine

open Sys2Proof

def exec (i : Instr) (s : State) : Host.Outcome State Fault Refusal :=
  match i with
  | .getIdentity o => Sys2Proof.Machine.execGetIdentity o s
  | .getStatus o => Sys2Proof.Machine.execGetStatus o s
  | .softReset o => Sys2Proof.Machine.execSoftReset o s
  | .softResetExecute => Sys2Proof.Machine.execSoftResetExecute s
  | .eventConfig o => Sys2Proof.Machine.execEventConfig o s
  | .eventRead o => Sys2Proof.Machine.execEventRead o s
  | .dmaSubmit o => Sys2Proof.Machine.execDmaSubmit o s
  | .dmaStatus o => Sys2Proof.Machine.execDmaStatus o s
  | .dmaAbort o => Sys2Proof.Machine.execDmaAbort o s
  | .programLoad o => Sys2Proof.Machine.execProgramLoad o s
  | .programVerify o => Sys2Proof.Machine.execProgramVerify o s
  | .programSwap o => Sys2Proof.Machine.execProgramSwap o s
  | .writeValues o => Sys2Proof.Machine.execWriteValues o s
  | .readValues o => Sys2Proof.Machine.execReadValues o s
  | .force o => Sys2Proof.Machine.execForce o s
  | .placementReport o => Sys2Proof.Machine.execPlacementReport o s
  | .migrate o spare => Sys2Proof.Machine.execMigrate o spare s
  | .stageConfig o => Sys2Proof.Machine.execStageConfig o s
  | .taskConfig o => Sys2Proof.Machine.execTaskConfig o s
  | .cycleStart o b => Sys2Proof.Machine.execCycleStart o b s
  | .cycleStop o => Sys2Proof.Machine.execCycleStop o s
  | .taskStats o => Sys2Proof.Machine.execTaskStats o s
  | .inputPolicy o => Sys2Proof.Machine.execInputPolicy o s
  | .loopConfig o => Sys2Proof.Machine.execLoopConfig o s
  | .loopCoeffStage o => Sys2Proof.Machine.execLoopCoeffStage o s
  | .loopCoeffCommit o => Sys2Proof.Machine.execLoopCoeffCommit o s
  | .loopFlagsReadClear o => Sys2Proof.Machine.execLoopFlagsReadClear o s
  | .traceArm o => Sys2Proof.Machine.execTraceArm o s
  | .traceRead o => Sys2Proof.Machine.execTraceRead o s
  | .diConfig o => Sys2Proof.Machine.execDiConfig o s
  | .doConfig o => Sys2Proof.Machine.execDoConfig o s
  | .fieldWdgConfig o => Sys2Proof.Machine.execFieldWdgConfig o s
  | .diagRead o m => Sys2Proof.Machine.execDiagRead o m s
  | .tripArm o => Sys2Proof.Machine.execTripArm o s
  | .tripConfirm o => Sys2Proof.Machine.execTripConfirm o s
  | .outputReset o cool => Sys2Proof.Machine.execOutputReset o cool s
  | .aiConfig o => Sys2Proof.Machine.execAiConfig o s
  | .aoConfig o => Sys2Proof.Machine.execAoConfig o s
  | .analogDiagRead o m => Sys2Proof.Machine.execAnalogDiagRead o m s
  | .analogCalibrate o => Sys2Proof.Machine.execAnalogCalibrate o s
  | .netConfig o => Sys2Proof.Machine.execNetConfig o s
  | .partnerTableRead o => Sys2Proof.Machine.execPartnerTableRead o s
  | .subscribe o => Sys2Proof.Machine.execSubscribe o s
  | .ptpConfig o => Sys2Proof.Machine.execPtpConfig o s
  | .canConfig o => Sys2Proof.Machine.execCanConfig o s
  | .uartConfig o => Sys2Proof.Machine.execUartConfig o s
  | .stackStatus o => Sys2Proof.Machine.execStackStatus o s
  | .pairConfig o => Sys2Proof.Machine.execPairConfig o s
  | .leaseStatus o => Sys2Proof.Machine.execLeaseStatus o s
  | .switchoverRequest o => Sys2Proof.Machine.execSwitchoverRequest o s
  | .shadowCompareStart o => Sys2Proof.Machine.execShadowCompareStart o s
  | .shadowCompareStop o => Sys2Proof.Machine.execShadowCompareStop o s
  | .arbiterConfig o => Sys2Proof.Machine.execArbiterConfig o s
  | .scrubRange o => Sys2Proof.Machine.execScrubRange o s
  | .scrubSummary o => Sys2Proof.Machine.execScrubSummary o s
  | .weevilConfig o => Sys2Proof.Machine.execWeevilConfig o s
  | .repairCommit o => Sys2Proof.Machine.execRepairCommit o s
  | .timeSetCalendar o => Sys2Proof.Machine.execTimeSetCalendar o s
  | .timeGetCalendar o => Sys2Proof.Machine.execTimeGetCalendar o s
  | .convert o => Sys2Proof.Machine.execConvert o s
  | .historyConfig o => Sys2Proof.Machine.execHistoryConfig o s
  | .historyRead o => Sys2Proof.Machine.execHistoryRead o s
  | .historyClear o => Sys2Proof.Machine.execHistoryClear o s
  | .leapOffsetSet o => Sys2Proof.Machine.execLeapOffsetSet o s
  | .panelConfig o => Sys2Proof.Machine.execPanelConfig o s
  | .panelFrameWrite o => Sys2Proof.Machine.execPanelFrameWrite o s
  | .panelFrameCommit o => Sys2Proof.Machine.execPanelFrameCommit o s
  | .panelRegionUpdate o => Sys2Proof.Machine.execPanelRegionUpdate o s
  | .panelRetainOff o => Sys2Proof.Machine.execPanelRetainOff o s
  | .panelBands o => Sys2Proof.Machine.execPanelBands o s
  | .settingsRead o => Sys2Proof.Machine.execSettingsRead o s
  | .settingsWriteGeneration o => Sys2Proof.Machine.execSettingsWriteGeneration o s
  | .fuseRead o => Sys2Proof.Machine.execFuseRead o s
  | .keyInstall o => Sys2Proof.Machine.execKeyInstall o s
  | .unknownCommand o => Sys2Proof.Machine.execUnknownCommand o s
  | .mbxRing n => Sys2Proof.Machine.execMbxRing n s
  | .mbxRelease n ring => Sys2Proof.Machine.execMbxRelease n ring s
  | .mbxCommandComplete o k => Sys2Proof.Machine.execMbxCommandComplete o k s
  | .registerWrite off d => Sys2Proof.Machine.execRegisterWrite off d s
  | .evtPendingClear k v => Sys2Proof.Machine.execEvtPendingClear k v s
  | .evtMaskWrite k v => Sys2Proof.Machine.execEvtMaskWrite k v s
  | .rtcCommit => Sys2Proof.Machine.execRtcCommit s
  | .rtcCancel commit => Sys2Proof.Machine.execRtcCancel commit s
  | .rtcDisciplineWrite on => Sys2Proof.Machine.execRtcDisciplineWrite on s
  | .rtcTrimWrite v => Sys2Proof.Machine.execRtcTrimWrite v s
  | .rtcSetWrite r v => Sys2Proof.Machine.execRtcSetWrite r v s
  | .spiTransaction mosi extraBits nRead => Sys2Proof.Machine.execSpiTransaction mosi extraBits nRead s
  | .spiPortStatus => Sys2Proof.Machine.execSpiPortStatus s
  | .pcieLinkTransition up speed width => Sys2Proof.Machine.execPcieLinkTransition up speed width s
  | .pciePerst => Sys2Proof.Machine.execPciePerst s
  | .pciePowerStateChange d3hot => Sys2Proof.Machine.execPciePowerStateChange d3hot s
  | .pcieBusMasterEnableChange on => Sys2Proof.Machine.execPcieBusMasterEnableChange on s
  | .dmaDescriptorDone n d => Sys2Proof.Machine.execDmaDescriptorDone n d s
  | .dmaHalt n kind addr => Sys2Proof.Machine.execDmaHalt n kind addr s
  | .cellLd c f => Sys2Proof.Machine.execCellLd c f s
  | .cellA c f => Sys2Proof.Machine.execCellA c f s
  | .cellO c f => Sys2Proof.Machine.execCellO c f s
  | .cellX c f => Sys2Proof.Machine.execCellX c f s
  | .cellBa c f => Sys2Proof.Machine.execCellBa c f s
  | .cellBo c f => Sys2Proof.Machine.execCellBo c f s
  | .cellBx c f => Sys2Proof.Machine.execCellBx c f s
  | .cellBc c f => Sys2Proof.Machine.execCellBc c f s
  | .cellNot c f => Sys2Proof.Machine.execCellNot c f s
  | .cellAsn c f => Sys2Proof.Machine.execCellAsn c f s
  | .cellSet c f => Sys2Proof.Machine.execCellSet c f s
  | .cellRst c f => Sys2Proof.Machine.execCellRst c f s
  | .cellPedge c f => Sys2Proof.Machine.execCellPedge c f s
  | .cellNedge c f => Sys2Proof.Machine.execCellNedge c f s
  | .cellTon c f => Sys2Proof.Machine.execCellTon c f s
  | .cellTof c f => Sys2Proof.Machine.execCellTof c f s
  | .cellTp c f => Sys2Proof.Machine.execCellTp c f s
  | .cellCtu c f => Sys2Proof.Machine.execCellCtu c f s
  | .cellCtd c f => Sys2Proof.Machine.execCellCtd c f s
  | .cellCrst c f => Sys2Proof.Machine.execCellCrst c f s
  | .cellCld c f => Sys2Proof.Machine.execCellCld c f s
  | .cellLdw c f => Sys2Proof.Machine.execCellLdw c f s
  | .cellMovw c f => Sys2Proof.Machine.execCellMovw c f s
  | .cellCmp c f => Sys2Proof.Machine.execCellCmp c f s
  | .cellCmpi c f => Sys2Proof.Machine.execCellCmpi c f s
  | .cellAdd c f => Sys2Proof.Machine.execCellAdd c f s
  | .cellSub c f => Sys2Proof.Machine.execCellSub c f s
  | .cellMul c f => Sys2Proof.Machine.execCellMul c f s
  | .cellQual c f => Sys2Proof.Machine.execCellQual c f s
  | .cellFlg c f => Sys2Proof.Machine.execCellFlg c f s
  | .cellJmp c f => Sys2Proof.Machine.execCellJmp c f s
  | .cellNop c f => Sys2Proof.Machine.execCellNop c f s
  | .cellEnd c f => Sys2Proof.Machine.execCellEnd c f s
  | .illegalInstruction c w spare => Sys2Proof.Machine.execIllegalInstruction c w spare s
  | .blockStart c => Sys2Proof.Machine.execBlockStart c s
  | .baseTick => Sys2Proof.Machine.execBaseTick s
  | .tickMarkerReceived p n => Sys2Proof.Machine.execTickMarkerReceived p n s
  | .tickLost => Sys2Proof.Machine.execTickLost s
  | .taskInstant t level badAi => Sys2Proof.Machine.execTaskInstant t level badAi s
  | .inputDeadline t => Sys2Proof.Machine.execInputDeadline t s
  | .cycleConfirmed t at_ => Sys2Proof.Machine.execCycleConfirmed t at_ s
  | .confirmLimit t => Sys2Proof.Machine.execConfirmLimit t s
  | .latenessLimit t => Sys2Proof.Machine.execLatenessLimit t s
  | .commitPoint t => Sys2Proof.Machine.execCommitPoint t s
  | .publishSets t => Sys2Proof.Machine.execPublishSets t s
  | .writeValuesApply => Sys2Proof.Machine.execWriteValuesApply s
  | .gligilConfirmFrame src t cycle => Sys2Proof.Machine.execGligilConfirmFrame src t cycle s
  | .gligilCommitDecision t cycle commit => Sys2Proof.Machine.execGligilCommitDecision t cycle commit s
  | .gligilScheduledData vals => Sys2Proof.Machine.execGligilScheduledData vals s
  | .gligilRetransmit seq => Sys2Proof.Machine.execGligilRetransmit seq s
  | .gligilPortUp p neighbour variant uid latency => Sys2Proof.Machine.execGligilPortUp p neighbour variant uid latency s
  | .gligilPortDown p => Sys2Proof.Machine.execGligilPortDown p s
  | .ringStatusFrame src st safe pfw => Sys2Proof.Machine.execRingStatusFrame src st safe pfw s
  | .placementPartFrame m own => Sys2Proof.Machine.execPlacementPartFrame m own s
  | .imageForwardFrame off d last => Sys2Proof.Machine.execImageForwardFrame off d last s
  | .fenceNoticeReceived => Sys2Proof.Machine.execFenceNoticeReceived s
  | .placementChecksDone m => Sys2Proof.Machine.execPlacementChecksDone m s
  | .speedMonitorSample r => Sys2Proof.Machine.execSpeedMonitorSample r s
  | .mapRevalidation b move => Sys2Proof.Machine.execMapRevalidation b move s
  | .migrationPrepareDone => Sys2Proof.Machine.execMigrationPrepareDone s
  | .migrationSwitch t spare => Sys2Proof.Machine.execMigrationSwitch t spare s
  | .progressStall c spare => Sys2Proof.Machine.execProgressStall c spare s
  | .l0ReloadDone c => Sys2Proof.Machine.execL0ReloadDone c s
  | .swapGapStart => Sys2Proof.Machine.execSwapGapStart s
  | .swapGapEnd us => Sys2Proof.Machine.execSwapGapEnd us s
  | .loopSample u faults badAi => Sys2Proof.Machine.execLoopSample u faults badAi s
  | .diFilterSample n high => Sys2Proof.Machine.execDiFilterSample n high s
  | .diWireBreakTimer n low => Sys2Proof.Machine.execDiWireBreakTimer n low s
  | .diCountEdge n rising => Sys2Proof.Machine.execDiCountEdge n rising s
  | .doShortSupplyDetect j above => Sys2Proof.Machine.execDoShortSupplyDetect j above s
  | .doOpenLoadDetect j below => Sys2Proof.Machine.execDoOpenLoadDetect j below s
  | .doIlimTimeout j => Sys2Proof.Machine.execDoIlimTimeout j s
  | .doRetryTimer j => Sys2Proof.Machine.execDoRetryTimer j s
  | .doOvertempEntry j => Sys2Proof.Machine.execDoOvertempEntry j s
  | .doOvertempRelease j => Sys2Proof.Machine.execDoOvertempRelease j s
  | .doGroupSupplyLoss g v => Sys2Proof.Machine.execDoGroupSupplyLoss g v s
  | .doGroupSupplyReturn g v => Sys2Proof.Machine.execDoGroupSupplyReturn g v s
  | .doGroupLatchedFall g v => Sys2Proof.Machine.execDoGroupLatchedFall g v s
  | .doReenergiseSlot g => Sys2Proof.Machine.execDoReenergiseSlot g s
  | .doGroupLowSet g v => Sys2Proof.Machine.execDoGroupLowSet g v s
  | .doGroupLowClear g v => Sys2Proof.Machine.execDoGroupLowClear g v s
  | .fieldWdgTimeout t => Sys2Proof.Machine.execFieldWdgTimeout t s
  | .extsafeNAssert => Sys2Proof.Machine.execExtsafeNAssert s
  | .extsafeNRelease => Sys2Proof.Machine.execExtsafeNRelease s
  | .tripEvaluation => Sys2Proof.Machine.execTripEvaluation s
  | .tripStageExpiry => Sys2Proof.Machine.execTripStageExpiry s
  | .aiConversion n code => Sys2Proof.Machine.execAiConversion n code s
  | .aiLooppowerTimeout n => Sys2Proof.Machine.execAiLooppowerTimeout n s
  | .aiLooppowerRetry n limited => Sys2Proof.Machine.execAiLooppowerRetry n limited s
  | .aiCaptureDone => Sys2Proof.Machine.execAiCaptureDone s
  | .vfldALoss v => Sys2Proof.Machine.execVfldALoss v s
  | .vfldAReturn v => Sys2Proof.Machine.execVfldAReturn v s
  | .aoRecoverySlot => Sys2Proof.Machine.execAoRecoverySlot s
  | .aiSupplyGraceEnd => Sys2Proof.Machine.execAiSupplyGraceEnd s
  | .vfldALowSet v => Sys2Proof.Machine.execVfldALowSet v s
  | .vfldALowClear v => Sys2Proof.Machine.execVfldALowClear v s
  | .aoComplianceDetect j present => Sys2Proof.Machine.execAoComplianceDetect j present s
  | .aoComplianceTimeExpiry j reg => Sys2Proof.Machine.execAoComplianceTimeExpiry j reg s
  | .aoOpenDetect j present => Sys2Proof.Machine.execAoOpenDetect j present s
  | .aoMismatchDetect j present => Sys2Proof.Machine.execAoMismatchDetect j present s
  | .aoReadbackConversion j v => Sys2Proof.Machine.execAoReadbackConversion j v s
  | .aoTemperatureChange j temp => Sys2Proof.Machine.execAoTemperatureChange j temp s
  | .aoThermalRecover j temp => Sys2Proof.Machine.execAoThermalRecover j temp s
  | .ethLinkChange p up => Sys2Proof.Machine.execEthLinkChange p up s
  | .hsrSupervisionSend => Sys2Proof.Machine.execHsrSupervisionSend s
  | .hsrPrpFrameReceived p fr => Sys2Proof.Machine.execHsrPrpFrameReceived p fr s
  | .hsrNodeAgeout mac => Sys2Proof.Machine.execHsrNodeAgeout mac s
  | .ptpSyncReceived p offset => Sys2Proof.Machine.execPtpSyncReceived p offset s
  | .ptpSyncTimeout => Sys2Proof.Machine.execPtpSyncTimeout s
  | .ptpSendTimer kind => Sys2Proof.Machine.execPtpSendTimer kind s
  | .datagramRejected d fragmented => Sys2Proof.Machine.execDatagramRejected d fragmented s
  | .announceSend => Sys2Proof.Machine.execAnnounceSend s
  | .announceReceived ip d => Sys2Proof.Machine.execAnnounceReceived ip d s
  | .announceTimeout k => Sys2Proof.Machine.execAnnounceTimeout k s
  | .withdrawReceived ip d => Sys2Proof.Machine.execWithdrawReceived ip d s
  | .setDataReceived ip d => Sys2Proof.Machine.execSetDataReceived ip d s
  | .setAckReceived ip d => Sys2Proof.Machine.execSetAckReceived ip d s
  | .subscribeReqReceived ip d => Sys2Proof.Machine.execSubscribeReqReceived ip d s
  | .subscribeRespReceived ip d => Sys2Proof.Machine.execSubscribeRespReceived ip d s
  | .subscribeRetry k => Sys2Proof.Machine.execSubscribeRetry k s
  | .mailboxCmdReceived ip port d => Sys2Proof.Machine.execMailboxCmdReceived ip port d s
  | .eventFrameSend => Sys2Proof.Machine.execEventFrameSend s
  | .canFrameReceived c id ext fd d => Sys2Proof.Machine.execCanFrameReceived c id ext fd d s
  | .canRxTimeout k => Sys2Proof.Machine.execCanRxTimeout k s
  | .canBusOffEntry c tec => Sys2Proof.Machine.execCanBusOffEntry c tec s
  | .canBusoffRecovery c => Sys2Proof.Machine.execCanBusoffRecovery c s
  | .modbusPoll u k => Sys2Proof.Machine.execModbusPoll u k s
  | .modbusReply u d err => Sys2Proof.Machine.execModbusReply u d err s
  | .modbusReplyTimeout u => Sys2Proof.Machine.execModbusReplyTimeout u s
  | .listenerSentenceReceived u d err => Sys2Proof.Machine.execListenerSentenceReceived u d err s
  | .listenerFieldTimeout k => Sys2Proof.Machine.execListenerFieldTimeout k s
  | .shapeRecordExchange up peer => Sys2Proof.Machine.execShapeRecordExchange up peer s
  | .leaseReqReceived ip d => Sys2Proof.Machine.execLeaseReqReceived ip d s
  | .leaseReqPendingExpiry e cand => Sys2Proof.Machine.execLeaseReqPendingExpiry e cand s
  | .arbiterGrantReady e => Sys2Proof.Machine.execArbiterGrantReady e s
  | .arbiterQuietEnd e => Sys2Proof.Machine.execArbiterQuietEnd e s
  | .coldWaitExpiry e => Sys2Proof.Machine.execColdWaitExpiry e s
  | .coldLeaseRequest => Sys2Proof.Machine.execColdLeaseRequest s
  | .leaseGrantReceived ip d => Sys2Proof.Machine.execLeaseGrantReceived ip d s
  | .leaseDenyReceived ip d => Sys2Proof.Machine.execLeaseDenyReceived ip d s
  | .leaseRenewReceived via d => Sys2Proof.Machine.execLeaseRenewReceived via d s
  | .leaseAckReceived via d => Sys2Proof.Machine.execLeaseAckReceived via d s
  | .leaseReleaseReceived ip d => Sys2Proof.Machine.execLeaseReleaseReceived ip d s
  | .leaseRenewTimer => Sys2Proof.Machine.execLeaseRenewTimer s
  | .leaseLateTimer => Sys2Proof.Machine.execLeaseLateTimer s
  | .leaseEnd => Sys2Proof.Machine.execLeaseEnd s
  | .fenceLeaseRelease => Sys2Proof.Machine.execFenceLeaseRelease s
  | .fallbackQuietEnd => Sys2Proof.Machine.execFallbackQuietEnd s
  | .pairNoticeReceived n => Sys2Proof.Machine.execPairNoticeReceived n s
  | .configForwardReceived code d => Sys2Proof.Machine.execConfigForwardReceived code d s
  | .firnDeltaReceived via d => Sys2Proof.Machine.execFirnDeltaReceived via d s
  | .firnSegmentReceived via d => Sys2Proof.Machine.execFirnSegmentReceived via d s
  | .firnPassStart => Sys2Proof.Machine.execFirnPassStart s
  | .firnAckSend => Sys2Proof.Machine.execFirnAckSend s
  | .firnAckReceived seq st => Sys2Proof.Machine.execFirnAckReceived seq st s
  | .firnGapTimeout => Sys2Proof.Machine.execFirnGapTimeout s
  | .takeoverLoadDone => Sys2Proof.Machine.execTakeoverLoadDone s
  | .switchoverFence => Sys2Proof.Machine.execSwitchoverFence s
  | .shadowInputReceived t tau cycle inputs delta inTime => Sys2Proof.Machine.execShadowInputReceived t tau cycle inputs delta inTime s
  | .shadowCompareTimeout => Sys2Proof.Machine.execShadowCompareTimeout s
  | .weevilStep faults written => Sys2Proof.Machine.execWeevilStep faults written s
  | .scrubPassStep p faults written => Sys2Proof.Machine.execScrubPassStep p faults written s
  | .supervisorMemoryWalk faults => Sys2Proof.Machine.execSupervisorMemoryWalk faults s
  | .retentiveConfigSave => Sys2Proof.Machine.execRetentiveConfigSave s
  | .retentiveSnapshot => Sys2Proof.Machine.execRetentiveSnapshot s
  | .rtcLoad => Sys2Proof.Machine.execRtcLoad s
  | .leapChangeApply => Sys2Proof.Machine.execLeapChangeApply s
  | .rtcDisciplineCompare ptp => Sys2Proof.Machine.execRtcDisciplineCompare ptp s
  | .rtcOscStop => Sys2Proof.Machine.execRtcOscStop s
  | .vbatRestore => Sys2Proof.Machine.execVbatRestore s
  | .historyPeriodicFlush => Sys2Proof.Machine.execHistoryPeriodicFlush s
  | .historyClearFlush => Sys2Proof.Machine.execHistoryClearFlush s
  | .historyFlushComplete ok => Sys2Proof.Machine.execHistoryFlushComplete ok s
  | .panelRailsSettled => Sys2Proof.Machine.execPanelRailsSettled s
  | .panelRailFaultDetect pos neg kind mag => Sys2Proof.Machine.execPanelRailFaultDetect pos neg kind mag s
  | .panelDischargeDone => Sys2Proof.Machine.execPanelDischargeDone s
  | .panelFrameStart => Sys2Proof.Machine.execPanelFrameStart s
  | .bistableRowPhaseEnd fault => Sys2Proof.Machine.execBistableRowPhaseEnd fault s
  | .panelPassEnd => Sys2Proof.Machine.execPanelPassEnd s
  | .ptempMeasure mv => Sys2Proof.Machine.execPtempMeasure mv s
  | .panelRowWalk bad => Sys2Proof.Machine.execPanelRowWalk bad s
  | .otpWriteDone ok => Sys2Proof.Machine.execOtpWriteDone ok s
  | .powerOnReset => Sys2Proof.Machine.execPowerOnReset s
  | .brownoutReset => Sys2Proof.Machine.execBrownoutReset s
  | .pinReset => Sys2Proof.Machine.execPinReset s
  | .lockstepReset => Sys2Proof.Machine.execLockstepReset s
  | .supervisorWdgStage1 pair => Sys2Proof.Machine.execSupervisorWdgStage1 pair s
  | .supervisorWdgReset => Sys2Proof.Machine.execSupervisorWdgReset s
  | .tjMeasure sensor temp => Sys2Proof.Machine.execTjMeasure sensor temp s
  | .thermalReset => Sys2Proof.Machine.execThermalReset s
  | .railMonitorSample mv => Sys2Proof.Machine.execRailMonitorSample mv s
  | .vbatMeasure v => Sys2Proof.Machine.execVbatMeasure v s
  | .pfwNFall => Sys2Proof.Machine.execPfwNFall s
  | .powerFailSnapshotDone ok => Sys2Proof.Machine.execPowerFailSnapshotDone ok s
  | .pfwEnd => Sys2Proof.Machine.execPfwEnd s
  | .startupFwReady lost => Sys2Proof.Machine.execStartupFwReady lost s
  | .startupProgramLoad => Sys2Proof.Machine.execStartupProgramLoad s
  | .autostartTasks b => Sys2Proof.Machine.execAutostartTasks b s
  | .rtcTick => Sys2Proof.Machine.execRtcTick s
  | .rtcOscStart => Sys2Proof.Machine.execRtcOscStart s
  | .internalResetEnd pos sel => Sys2Proof.Machine.execInternalResetEnd pos sel s
  | .jtagInstructionUpdate n => Sys2Proof.Machine.execJtagInstructionUpdate n s
  | .jtagTapReset => Sys2Proof.Machine.execJtagTapReset s
  | .msixMaskWrite v masked => Sys2Proof.Machine.execMsixMaskWrite v masked s
  | .evtCtrlWrite v => Sys2Proof.Machine.execEvtCtrlWrite v s
  | .arpRequestReceived p target sender => Sys2Proof.Machine.execArpRequestReceived p target sender s
  | .icmpEchoRequestReceived p dst src d => Sys2Proof.Machine.execIcmpEchoRequestReceived p dst src d s
  | .igmpQueryReceived p group => Sys2Proof.Machine.execIgmpQueryReceived p group s
  | .ptpAnnounceReceived p m utc valid leap59 leap61 => Sys2Proof.Machine.execPtpAnnounceReceived p m utc valid leap59 leap61 s
  | .ptpAnnounceReceiptTimeout p => Sys2Proof.Machine.execPtpAnnounceReceiptTimeout p s
  | .ptpDelayReqReceived p pdelay d => Sys2Proof.Machine.execPtpDelayReqReceived p pdelay d s
  | .ptpDelayRespReceived p delay => Sys2Proof.Machine.execPtpDelayRespReceived p delay s
  | .gligilAckReceived src seq => Sys2Proof.Machine.execGligilAckReceived src seq s
  | .flashOperationDone k ok => Sys2Proof.Machine.execFlashOperationDone k ok s
  | .doRetryTrialPassed j => Sys2Proof.Machine.execDoRetryTrialPassed j s

end Sys2Proof.Machine
end

