-- ==== Sys2Proof/Certificates/Slice0/Obligations.lean ====
section
/-!
DEFINITION. Certificates/Slice0/Obligations.lean: the statements for the provers. A command's completion is stated as
Goes: exec answers a next state that holds what the rules give.
-/

open Sys2Proof Sys2Proof.Machine

namespace Sys2Proof.Claims

/-- The command's execution answers a next state, and that state has a property. -/
def Goes (c : Instr) (s : State) (P : State → Prop) : Prop := ∃ t, Machine.exec c s = .next t ∧ P t

/-- A mailbox command of a code, with a payload, has been accepted at an origin and has not begun; its FLAGS are 0 and the
device is not in RECOVERY. -/
def Waits (s : State) (o : Origin) (code : Nat) (p : Bytes) : Prop :=
  ∃ j, s.dev.job o = some j ∧ hdrCode j.header = code ∧ hdrFlags j.header = 0 ∧ j.started = false ∧ j.resp = none ∧
    j.payload = p ∧ s.dev.sys.recovery = false

/-- The command at an origin has its response: a status and a payload. -/
def Answers (t : State) (o : Origin) (st : Half) (p : Bytes) : Prop :=
  ∃ j, t.dev.job o = some j ∧ j.resp = some ⟨st, p⟩

/-- The command at an origin has begun and waits for its response. -/
def Working (t : State) (o : Origin) : Prop := ∃ j, t.dev.job o = some j ∧ j.started = true ∧ j.resp = none

/-- An event is pending, and its record holds a detail word. -/
def Raised (t : State) (e : Ev) (detail : Nat) : Prop :=
  t.dev.evt.pending.getLsbD e.num = true ∧ (vget t.dev.evt.recs e.num).detail = BitVec.ofNat 32 detail

/-- The first test of a list that fails gives no status: every test passes. -/
def Pass (l : List (Bool × Half)) : Prop := firstFail l = none

/-- The device's firmware runs and serves its blocks. -/
def Serving (s : State) : Prop := s.dev.pwr.phase = .running ∧ s.dev.sys.fwReady = true ∧ s.dev.sys.recovery = false

/-- What every reset leaves (R547, R556, R557, R602). -/
def AfterReset (k : ResetKind) (s t : State) : Prop :=
  t.dev.pwr.phase = .inReset ∧ t.dev.pwr.kind = k ∧ t.dev.pwr.fenceN = true ∧ t.dev.sys.fwReady = false ∧
    t.dev.mbx = {} ∧ t.dev.evt = {} ∧ t.dev.dig = {} ∧ t.dev.ana = {} ∧ t.dev.loops = Vector.replicate 8 {} ∧
    t.dev.prog.tasks = Vector.replicate 8 {} ∧ t.dev.rtc.sec = s.dev.rtc.sec ∧ t.dev.rtc.frac = s.dev.rtc.frac ∧
    t.mem.bufs = [] ∧ t.mem.flash = s.mem.flash ∧ t.mem.fuse = s.mem.fuse

/-- A cell runs and stands at an instruction of an opcode, whose MOD the opcode assigns, with a branch depth that the
instruction may have (R109, R138). -/
def AtInstr (s : State) (c : Fin 256) (op : Nat) : Prop :=
  (s.dev.cell c).running = true ∧ (s.dev.cellWord c).op = op ∧ (s.dev.cellWord c).modBad = false ∧
    branchBad (s.dev.cell c) op = false

/-- A device with one of its cells replaced, and nothing else of it changed. -/
def withCell (d : Dev) (c : Fin 256) (x : Cell) : Dev := { d with prog := { d.prog with cells := d.prog.cells.set c x } }

/-- The command's execution answers the state in which the device is d, and the memories and the queue are as before. -/
def Becomes (c : Instr) (s : State) (d : Dev) : Prop := Machine.exec c s = .next { s with dev := d }

/-- The cell one instruction further on. -/
def stepped (x : Cell) : Cell := { x with pos := x.pos + 1 }

/-- ARITH for the element that W is marked with, if it is marked, in a speculation record (R136). -/
def arithMark (m : Option Nat) (r : SpecRec) : SpecRec :=
  match m with
  | some e => { r with arith := if r.arith.contains e then r.arith else r.arith ++ [e] }
  | none => r

/-- An event is pending. -/
def Happened (t : State) (e : Ev) : Prop := t.dev.evt.pending.getLsbD e.num = true

/-- What has left the device since. -/
def Sends (s t : State) (l : List Out) : Prop := t.dev.out = s.dev.out ++ l

/-- A datagram of the station protocol, of a type and with a header, stands at a device that has an IPv4 address. -/
def Heard (s : State) (data : Bytes) (x : StHeader) (type : Nat) : Prop :=
  s.dev.net.cfg.ip ≠ 0 ∧ stationParse data = some x ∧ x.type = type

/-- The next datagram of a type that a device sends to an address (R344). -/
def datagram (d : Dev) (dst : Word) (type : Nat) (payload : Bytes) : Out :=
  .udp dst stationPort
    (stationFrame type d.sys.role.code d.net.cfg.partnerId d.sender (mgetD d.net.txSeq type 0) payload)

/-- A bus field or publication stands in its I element with a VALUE and a quality. -/
def Holds (t : State) (el : Nat) (value : Word) (quality : Byte) : Prop :=
  ∃ x, mget t.dev.prog.fieldIn el = some x ∧ x.value = value ∧ x.quality = quality

/-- A lease message of a type that arrives at a device: its MAC holds, and its payload and trailer name these (R392). -/
def LeaseHeard (s : State) (data : Bytes) (type : Nat) (m : LeaseMsg) (key : Nat) (epoch : Word) (h : StHeader) : Prop :=
  Heard s data h type ∧ ∃ p, authParse data h s.dev = some (p, key, epoch) ∧ leaseMsgOf p = some m

/-- A lease message that answers one of the device's outstanding requests, from its arbiter under its key (R393). -/
def Answered (s : State) (ip : Word) (data : Bytes) (type : Nat) (m : LeaseMsg) (o : Outstanding) : Prop :=
  ip = s.dev.red.cfg.arbiterIp ∧
    ∃ epoch h, LeaseHeard s data type m s.dev.red.cfg.keyIndex epoch h ∧ s.dev.answers m epoch = some o

/-- A lease message that an arbiter takes for one of its entries: authentic under the entry's key, and newer than the last
of its candidate and boot epoch (R392, R393). -/
def ToArbiter (s : State) (data : Bytes) (type : Nat) (m : LeaseMsg) (e : Nat) (h : StHeader) : Prop :=
  s.dev.sys.role = .arbiter ∧ s.dev.sys.fwReady = true ∧ s.dev.arbEntry m.station = some e ∧
    ∃ epoch, LeaseHeard s data type m (s.dev.arb e).key epoch h ∧ s.dev.reqFresh m.candidate epoch m.reqNo = true

/-- A new grant of an arbiter's entry (R397, R399). -/
def Granted (s t : State) (e : Nat) (cand : DWord) : Prop :=
  let x := s.dev.arb e
  let y := t.dev.arb e
  y.holder = cand ∧ y.epoch = x.epoch + 1 ∧ y.heldEpoch = x.epoch + 1 ∧ y.g = some s.dev.now ∧ y.state = .held ∧
    y.grants = satInc x.grants ∧ (∀ r ∈ y.pending, r.candidate ≠ cand) ∧ y.cold = [] ∧ t.dev.pwr.confDirty = true ∧
    Happened t .leaseGranted

end Sys2Proof.Claims

open Sys2Proof.Claims

/-- For every command c and state s: the step of s with c at the front of its queue is exec of c on s with the queue's
rest; on an empty queue the step answers the same state. The queue and the idling are the model's own (log entry 5). -/
def Obligations.StepRunsTheFront : Prop :=
  ∀ s : State,
    (∀ (c : Instr) (rest : List Instr), s.pending = c :: rest →
      Machine.step s = Machine.exec c { s with pending := rest }) ∧
    (s.pending = [] → Machine.step s = .next s)

/-- Every command in every state answers a next state: no command faults and none is refused; and the waiting commands are
the same after it. -/
def Obligations.EveryCommandGoesOn : Prop :=
  ∀ (c : Instr) (s : State), Goes c s fun t => t.pending = s.pending

/-- For every state whose eight addressed memories (mailbox buffers, both copies of the privileged store, boot flash, fuse
block, user OTP, the panel's two buffers) stand in canonical form, the next state's do too: addresses strictly rise and no
entry equals what an unlisted address reads as. -/
def Obligations.StepKeepsMemoryForm : Prop :=
  ∀ s t : State, s.mem.wf = true → Machine.step s = .next t → t.mem.wf = true

/-- The reset state has the invariant of StepKeepsMemoryForm. -/
def Obligations.ResetHasMemoryForm : Prop := State.reset.mem.wf = true

/-- For every state in which no reserved event number (78, 79, 90 to 95) is pending, none is pending in the next state,
whatever the command. -/
def Obligations.StepKeepsReservedEventsClear : Prop :=
  ∀ s t : State, (∀ n, evReserved n = true → s.dev.evt.pending.getLsbD n = false) → Machine.step s = .next t →
    ∀ n, evReserved n = true → t.dev.evt.pending.getLsbD n = false

/-- After a power-on reset: SYS_SCRATCH and SYS_FW_VERSION are 0, SYS_STATUS is 0, SYS_RESET_CAUSE is POR alone, every
mailbox channel is CLOSED with TAG, RESULT and LENGTH 0, EVT_PENDING is 0, EVT_MASK0 is 0xFFFFFFFE and the others all
ones, INT_EN is 1, every event has NET 0 and LOG 1, and every DMA channel is IDLE with its registers 0. -/
def Obligations.ResetRegisters : Prop :=
  let d := State.reset.dev
  regValue 0x14 d = 0 ∧ regValue 0x08 d = 0 ∧ regValue 0x0C d = 0 ∧ regValue 0x10 d = 1 ∧
    (∀ n : Fin 8, (vget d.mbx.chans n).state = .closed ∧ mbxStatus (vget d.mbx.chans n) = 3 ∧
      (vget d.mbx.chans n).respLen = 0) ∧
    regValue 0x400 d = 0 ∧ regValue 0x404 d = 0 ∧ regValue 0x408 d = 0 ∧ regValue 0x40C d = 0 ∧
    regValue 0x410 d = 0xFFFFFFFE ∧ regValue 0x414 d = 0xFFFFFFFF ∧ regValue 0x418 d = 0xFFFFFFFF ∧
    regValue 0x41C d = 0xFFFFFFFF ∧ regValue 0x420 d = 1 ∧
    (∀ n : Fin 128, (vget d.evt.recs n).net = false ∧ (vget d.evt.recs n).log = true) ∧
    (∀ n : Fin 4, dmaRegs (vget d.host.dma n) = [0, 0, 0, 0, 0, 0])

/-- One occurrence of an event, whatever EVT_MASK holds, sets its PENDING bit, adds 1 to its occurrence count, saturating at
0xFFFF, and records its detail word and the RTC count; with its PENDING bit already 1 it issues no MSI-X message, and none
waits in the PBA that did not. Raising an event is one occurrence of it, followed by one of HISTORY_LOG_FULL (122) exactly
where it takes the log's last free entry. -/
def Obligations.RaisingAnEvent : Prop :=
  (∀ (n : Fin 128) (x : Word) (d : Dev),
    (raise1 n x d).evt.pending.getLsbD n = true ∧
    (vget (raise1 n x d).evt.recs n).count = satInc (vget d.evt.recs n).count ∧
    (vget (raise1 n x d).evt.recs n).detail = x ∧
    (vget (raise1 n x d).evt.recs n).stamp = d.rtc.timeWord ∧
    (raise1 n x d).evt.mask = d.evt.mask ∧
    (d.evt.pending.getLsbD n = true → (raise1 n x d).out = d.out ∧ (raise1 n x d).host.pba = d.host.pba)) ∧
  ∀ (e : Ev) (x : Nat) (d : Dev),
    let y := raise1 e.num (BitVec.ofNat 32 x) d
    (d.hist.log.length < 4096 → y.hist.log.length = 4096 → raise e x d = raise1 122 0 y) ∧
    (4096 ≤ d.hist.log.length ∨ y.hist.log.length ≠ 4096 → raise e x d = y)
/-- GET_IDENTITY answers the 32 bytes of Table 2.25; GET_STATUS answers Table 2.26 and clears the check-failure counters
where bit 0 asks for it; SOFT_RESET without FORCE, while no task runs, answers OK and schedules the reset; EVENT_CONFIG
sets NET and LOG of its range and of no other event; EVENT_READ answers its records, clears their counts where asked,
and leaves EVT_PENDING alone. -/
def Obligations.SystemCommands : Prop :=
  ∀ (s : State) (o : Origin),
    (Waits s o 0x0100 [] → Goes (.getIdentity o) s fun t =>
      Answers t o stOk (leBytes 8 s.dev.sys.ident.toNat ++ leBytes 16 s.dev.sys.uid.toNat ++
        leBytes 4 s.dev.sys.fwVersion.toNat ++ leBytes 1 s.dev.sys.stackPos.toNat ++ leBytes 1 s.dev.sys.role.code ++
        zeros 2)) ∧
    (∀ p, Waits s o 0x0101 p → p = [] ∨ p = leBytes 4 0 ∨ p = leBytes 4 1 → Goes (.getStatus o) s fun t =>
      Answers t o stOk (statusPayload s.dev) ∧
      t.dev.sys.checks = if p = leBytes 4 1 then {} else s.dev.sys.checks) ∧
    (Waits s o 0x0102 (zeros 4 ++ leBytes 4 0x5AFE0102) → s.dev.cycleRun = false → Goes (.softReset o) s fun t =>
      Answers t o stOk [] ∧ t.dev.sys.softReset = true) ∧
    (∀ (first : Byte) (flags : Bytes),
      Waits s o 0x0103 ([first, BitVec.ofNat 8 flags.length, 0, 0] ++ flags) → flags ≠ [] →
      first.toNat + flags.length ≤ 128 → (∀ f ∈ flags, f.toNat ≤ 3) →
      (∀ i < flags.length, evReserved (first.toNat + i) = true → flags[i]? = some 0) →
      Goes (.eventConfig o) s fun t =>
        Answers t o stOk [] ∧ t.dev.evt.pending = s.dev.evt.pending ∧
        (∀ i < flags.length,
          (vget t.dev.evt.recs (first.toNat + i)).net = (byteAt flags i).testBit 0 ∧
          (vget t.dev.evt.recs (first.toNat + i)).log = (byteAt flags i).testBit 1) ∧
        (∀ n, n < first.toNat ∨ first.toNat + flags.length ≤ n → vget t.dev.evt.recs n = vget s.dev.evt.recs n)) ∧
    (∀ (first count flags : Byte), Waits s o 0x0104 [first, count, flags, 0] → flags.toNat ≤ 1 → 0 < count.toNat →
      first.toNat + count.toNat ≤ 128 → Goes (.eventRead o) s fun t =>
        Answers t o stOk ((List.range count.toNat).flatMap fun i => evRecord s.dev (first.toNat + i)) ∧
        t.dev.evt.pending = s.dev.evt.pending ∧
        (∀ i < count.toNat, (vget t.dev.evt.recs (first.toNat + i)).count =
          if flags = 1 then 0 else (vget s.dev.evt.recs (first.toNat + i)).count))

/-- A command whose code no class lists, accepted and not begun, answers BAD_COMMAND with an empty payload. -/
def Obligations.UnknownCommand : Prop :=
  ∀ (s : State) (o : Origin) (j : Job), s.dev.job o = some j → listedCodes.contains (hdrCode j.header) = false →
    j.started = false → j.resp = none → Goes (.unknownCommand o) s fun t => Answers t o stBadCommand []

/-- DMA_SUBMIT on a channel whose tests pass queues all its descriptors, and an idle channel runs; DMA_STATUS answers the
six registers as they stood and CLEAR_HALT returns a HALTED channel to IDLE with ERR_KIND 0; DMA_ABORT of a running
channel empties its queue and answers how many descriptors it removed; a device-to-host descriptor that completes writes
its data, counts and is named in LAST_ID; a failing descriptor halts its channel, discards the queue and raises DMA_ERROR
with the channel and the cause. -/
def Obligations.DmaChannels : Prop :=
  ∀ s : State,
    (∀ (n : Fin 8) (p : Bytes), Waits s (.ch n) 0x0D00 p → Pass (submitTests s.dev p) →
      ((vget s.dev.host.dma (byteAt p 0)).state = .idle → (vget s.dev.host.dma (byteAt p 0)).queue = []) →
      Goes (.dmaSubmit (.ch n)) s fun t =>
        (vget t.dev.host.dma (byteAt p 0)).queue =
          (vget s.dev.host.dma (byteAt p 0)).queue ++ (descBytes p).map parseDesc ∧
        ((vget s.dev.host.dma (byteAt p 0)).state = .idle → (vget t.dev.host.dma (byteAt p 0)).state = .running)) ∧
    (∀ (n : Fin 8) (ch : Fin 4) (clear : Bool),
      Waits s (.ch n) 0x0D01 [BitVec.ofNat 8 ch.val, if clear then 1 else 0, 0, 0] →
      Goes (.dmaStatus (.ch n)) s fun t =>
        Answers t (.ch n) stOk ((dmaRegs (vget s.dev.host.dma ch)).flatMap (leBytes 4)) ∧
        (clear = true → (vget s.dev.host.dma ch).state = .halted →
          (vget t.dev.host.dma ch).state = .idle ∧ (vget t.dev.host.dma ch).errKind = 0) ∧
        ((vget s.dev.host.dma ch).state ≠ .halted → vget t.dev.host.dma ch = vget s.dev.host.dma ch)) ∧
    (∀ (n : Fin 8) (ch : Fin 4), Waits s (.ch n) 0x0D02 [BitVec.ofNat 8 ch.val, 0, 0, 0] →
      (vget s.dev.host.dma ch).state = .running → Goes (.dmaAbort (.ch n)) s fun t =>
        Answers t (.ch n) stOk (leBytes 2 (vget s.dev.host.dma ch).queue.length ++ zeros 2) ∧
        (vget t.dev.host.dma ch).state = .idle ∧ (vget t.dev.host.dma ch).queue = []) ∧
    (∀ (n : Fin 4) (x : Desc) (data : Bytes), (vget s.dev.host.dma n).queue = [x] →
      (vget s.dev.host.dma n).state = .running → s.dev.pcieMayWrite = true → x.toDevice = false → x.object ≠ 4 →
      x.event = false → Goes (.dmaDescriptorDone n data) s fun t =>
        t.dev.out = s.dev.out ++ [.dmaWrite x.hostAddr.toNat (vget s.dev.host.dma n).image] ∧
        (vget t.dev.host.dma n).state = .idle ∧ (vget t.dev.host.dma n).lastId = x.id ∧
        (vget t.dev.host.dma n).doneCount = (vget s.dev.host.dma n).doneCount + 1) ∧
    (∀ (n : Fin 4) (x : Desc) (rest : List Desc) (kind : BitVec 3) (addr : DWord),
      (vget s.dev.host.dma n).queue = x :: rest → (vget s.dev.host.dma n).state = .running → kind ≠ 0 → kind ≠ 7 →
      Goes (.dmaHalt n kind addr) s fun t =>
        (vget t.dev.host.dma n).state = .halted ∧ (vget t.dev.host.dma n).queue = [] ∧
        (vget t.dev.host.dma n).errKind = kind ∧ (vget t.dev.host.dma n).errId = x.id ∧
        (vget t.dev.host.dma n).errAddr = addr ∧ Raised t .dmaError (n.val + 256 * kind.toNat))

/-- A RING on an IDLE channel whose buffer holds a valid command with a new SEQUENCE copies it, sets TAG and makes the
channel BUSY; a RING on a BUSY channel sets DB_IGNORED and raises MBX_OVERFLOW with the channel's number; a RELEASE of a
DONE channel returns it to IDLE with RESULT and LENGTH 0; a command with its response completes: the response stands in
the response buffer, then RESP_LEN and RESULT, and the channel is DONE; an authentic network command of the current epoch
with a greater SEQUENCE joins the network queue. -/
def Obligations.MailboxHandshake : Prop :=
  ∀ s : State,
    (∀ n : Fin 8,
      let h := Memory.readN 0 s.mem.bufs (cmdBuf n) 16
      let p := Memory.readN 0 s.mem.bufs (cmdBuf n + 16) (hdrLength h)
      (vget s.dev.mbx.chans n).state = .idle → hdrLength h ≤ 4080 → hdrReserved h = 0 →
      hdrCrc h = (mbxCrc h p).toNat → (vget s.dev.mbx.chans n).lastSeq ≠ some (hdrSeq h) →
      Goes (.mbxRing n) s fun t =>
        (vget t.dev.mbx.chans n).state = .busy ∧ (vget t.dev.mbx.chans n).tag = BitVec.ofNat 8 (hdrTag h) ∧
        (vget t.dev.mbx.chans n).lastSeq = some (hdrSeq h) ∧
        (vget t.dev.mbx.chans n).job = some { header := h, payload := p, resp := none, started := false }) ∧
    (∀ n : Fin 8, (vget s.dev.mbx.chans n).state = .busy → Goes (.mbxRing n) s fun t =>
      (vget t.dev.mbx.chans n).dbIgnored = true ∧ (vget t.dev.mbx.chans n).state = .busy ∧
      (vget t.dev.mbx.chans n).job = (vget s.dev.mbx.chans n).job ∧ Raised t .mbxOverflow n) ∧
    (∀ n : Fin 8, (vget s.dev.mbx.chans n).state = .done → Goes (.mbxRelease n false) s fun t =>
      (vget t.dev.mbx.chans n).state = .idle ∧ (vget t.dev.mbx.chans n).result = 0 ∧
      (vget t.dev.mbx.chans n).respLen = 0) ∧
    (∀ (n : Fin 8) (j : Job) (r : Resp), s.dev.job (.ch n) = some j → j.resp = some r → r.payload.length ≤ 4080 →
      Memory.wf 0 s.mem.bufs = true → Goes (.mbxCommandComplete (.ch n) .normal) s fun t =>
        (vget t.dev.mbx.chans n).state = .done ∧ (vget t.dev.mbx.chans n).result = r.status ∧
        (vget t.dev.mbx.chans n).respLen.toNat = 16 + r.payload.length ∧
        Memory.readN 0 t.mem.bufs (respBuf n) (16 + r.payload.length) = respBytes j.header r.status r.payload ∧
        (∀ a, a < respBuf n ∨ respBuf n + (16 + r.payload.length) ≤ a →
          Memory.read 0 t.mem.bufs a = Memory.read 0 s.mem.bufs a)) ∧
    (∀ (ip : Word) (port : Half) (data h p mac k : Bytes) (key : Fin 8) (x : StHeader),
      s.dev.sys.fwReady = true → s.dev.sys.recovery = false → s.dev.net.cfg.ip ≠ 0 → stationParse data = some x →
      x.type = 0x20 → s.dev.ownPartner x = true →
      x.payload = h ++ p ++ (leBytes 1 key ++ zeros 3 ++ leBytes 4 s.dev.pwr.bootEpoch.toNat) ++ mac →
      h.length = 16 → mac.length = 32 → hdrLength h = p.length → p.length ≤ 4080 → hdrReserved h = 0 →
      hdrCrc h = (mbxCrc h p).toNat → s.dev.hmacKey key = some k →
      mac = hmac k (s.dev.uidBytes ++ h ++ p ++
        (leBytes 1 key ++ zeros 3 ++ leBytes 4 s.dev.pwr.bootEpoch.toNat)) →
      s.dev.pwr.epochValid = true → seqGreater (hdrSeq h) (vget s.dev.mbx.netSeq key) = true →
      s.dev.mbx.netQueue.length < 16 → Goes (.mailboxCmdReceived ip port data) s fun t =>
        vget t.dev.mbx.netSeq key = hdrSeq h ∧
        t.dev.mbx.netQueue = s.dev.mbx.netQueue ++ [⟨{ header := h, payload := p }, ip, port.toNat, key, s.dev.pwr.bootEpoch⟩])

/-- A write with both bits set is a RELEASE followed by a RING: on a DONE channel whose buffer holds a command that passes
checks 1 to 3 the channel is BUSY with it after the one write. -/
def Obligations.ReleaseBeforeRing : Prop :=
  ∀ (n : Fin 8) (s : State), (vget s.dev.mbx.chans n).state = .done →
    Goes (.mbxRelease n true) s fun t =>
      t.dev = ring n s.mem (release n s.dev) ∧ (vget t.dev.mbx.chans n).state = .busy

/-- A 32-bit write to SYS_SCRATCH sets it; a byte written to a command buffer stands there and nothing else of memory
changes; EVT_PENDING and EVT_CTRL and the masks take their writes, and INT_N follows; an SPI READ drives the registers'
bytes and an SPI WRITE writes them; an unknown SPI instruction raises SPI_PROTOCOL_ERR with kind 1; PORT_STATUS drives
its byte. A PCIe link that comes up is up with its speed and width and raises PCIE_LINK with them, one that goes down
raises it with those of the lost link; PERST_N returns the host block to its reset state; the power state and Bus Master
Enable are taken. -/
def Obligations.RegisterAccesses : Prop :=
  ∀ s : State,
    (∀ v : Word, Goes (.registerWrite 0x14 (leBytes 4 v.toNat)) s fun t => t.dev.sys.scratch = v) ∧
    (∀ (n : Fin 8) (i : Nat) (b : Byte), i < 4096 → Memory.wf 0 s.mem.bufs = true →
      Goes (.registerWrite (cmdBuf n + i) [b]) s fun t =>
        Memory.read 0 t.mem.bufs (cmdBuf n + i) = b ∧ t.dev = s.dev ∧
        ∀ a, a ≠ cmdBuf n + i → Memory.read 0 t.mem.bufs a = Memory.read 0 s.mem.bufs a) ∧
    (∀ (k : Fin 4) (v : Word), Goes (.evtPendingClear k v) s fun t =>
      t.dev.evt.pending = s.dev.evt.pending &&& ~~~(wordAt k v) ∧
      t.dev.host.pba = s.dev.host.pba &&& ~~~(wordAt k v) ∧
      t.dev.evt.intAsserted = (s.dev.evt.intEn && (t.dev.evt.pending &&& ~~~s.dev.evt.mask) != 0)) ∧
    (∀ (k : Fin 4) (v : Word), Goes (.evtMaskWrite k v) s fun t =>
      wordOf k t.dev.evt.mask = v.toNat ∧ t.dev.evt.pending = s.dev.evt.pending ∧
      (∀ j : Fin 4, j ≠ k → wordOf j t.dev.evt.mask = wordOf j s.dev.evt.mask) ∧
      t.dev.evt.intAsserted = (s.dev.evt.intEn && (s.dev.evt.pending &&& ~~~t.dev.evt.mask) != 0)) ∧
    (∀ v : Word, Goes (.evtCtrlWrite v) s fun t =>
      t.dev.evt.intEn = v.getLsbD 0 ∧
      t.dev.evt.intAsserted = (v.getLsbD 0 && (s.dev.evt.pending &&& ~~~s.dev.evt.mask) != 0)) ∧
    (∀ (n : Fin 128) (b : Bool), Goes (.msixMaskWrite (some n) b) s fun t =>
      (vget t.dev.host.msix n).masked = b ∧ t.dev.host.msixMask = s.dev.host.msixMask ∧
      ∀ k, k ≠ n.val → vget t.dev.host.msix k = vget s.dev.host.msix k) ∧
    (∀ b : Bool, Goes (.msixMaskWrite none b) s fun t => t.dev.host.msixMask = b) ∧
    (∀ (a n : Nat) (dummy : Byte), a % 4 = 0 → n % 4 = 0 → 0 < n → a + n ≤ 4096 →
      Goes (.spiTransaction ([3] ++ beBytes 3 a ++ [dummy]) 0 n) s fun t =>
        t.dev.out = s.dev.out ++ [.spiMiso ((List.range n).map fun i =>
          BitVec.ofNat 8 (regValue ((a + i) / 4 * 4) s.dev / 2 ^ (8 * ((a + i) % 4))))] ∧
        t.dev.host.spiErr = false) ∧
    (∀ v : Word, Goes (.spiTransaction ([2] ++ beBytes 3 0x14 ++ leBytes 4 v.toNat) 0 0) s fun t =>
      t.dev.sys.scratch = v ∧ t.dev.host.spiErr = false) ∧
    (∀ (i : Byte) (rest : Bytes) (extra n : Nat), i ≠ 2 → i ≠ 3 → i ≠ 5 →
      Goes (.spiTransaction (i :: rest) extra n) s fun t =>
        t.dev.host.spiErr = true ∧ Raised t .spiProtocolErr 1) ∧
    (∀ (speed : BitVec 3) (width : BitVec 4), s.dev.host.linkUp = false →
      Goes (.pcieLinkTransition true speed width) s fun t =>
        t.dev.host.linkUp = true ∧ t.dev.host.linkSpeed = speed ∧ t.dev.host.linkWidth = width ∧
        Raised t .pcieLink (1 + 2 * speed.toNat + 16 * width.toNat)) ∧
    (∀ (speed : BitVec 3) (width : BitVec 4), s.dev.host.linkUp = true →
      Goes (.pcieLinkTransition false speed width) s fun t =>
        t.dev.host.linkUp = false ∧
        Raised t .pcieLink (2 * s.dev.host.linkSpeed.toNat + 16 * s.dev.host.linkWidth.toNat)) ∧
    (Goes .pciePerst s fun t => t.dev.host = {}) ∧
    (∀ b : Bool, Goes (.pciePowerStateChange b) s fun t => t.dev.host.d3hot = b) ∧
    (∀ b : Bool, Goes (.pcieBusMasterEnableChange b) s fun t => t.dev.host.busMaster = b) ∧
    Goes .spiPortStatus s fun t =>
      t.dev.host.spiErr = false ∧
      t.dev.out = s.dev.out ++ [.spiMiso [BitVec.ofNat 8 (b2n s.dev.host.spiErr + 2 * b2n s.dev.sys.fwReady +
        4 * b2n ((s.dev.evt.pending &&& ~~~s.dev.evt.mask) != 0))]]

/-- A link transition, PERST_N, a change of power state and every SPI transaction, in whatever way it fails, leave the tasks
and cells, the loop units, the field channels, the current-loop channels, the redundancy state, the tick and every memory
but the mailbox buffers exactly as they were; and the first three leave every block but the host block as it was, its events
and their log apart. (A valid SPI transaction writes the registers it names.) -/
def Obligations.HostLossIsContained : Prop :=
  ∀ (s t : State) (c : Instr),
    ((∃ up speed width, c = .pcieLinkTransition up speed width) ∨ c = .pciePerst ∨ (∃ b, c = .pciePowerStateChange b) ∨
      ∃ (tx : Bytes) (e n : Nat), c = .spiTransaction tx e n) →
    Machine.exec c s = .next t →
    t.dev.prog = s.dev.prog ∧ t.dev.loops = s.dev.loops ∧ t.dev.dig = s.dev.dig ∧ t.dev.ana = s.dev.ana ∧
      t.dev.red = s.dev.red ∧ t.dev.tick = s.dev.tick ∧ { t.mem with bufs := s.mem.bufs } = s.mem ∧
      ((∀ tx e n, c ≠ .spiTransaction tx e n) →
        t.dev.sys = s.dev.sys ∧ t.dev.mbx = s.dev.mbx ∧ t.dev.net = s.dev.net ∧ t.dev.ser = s.dev.ser ∧
        t.dev.gl = s.dev.gl ∧ t.dev.integ = s.dev.integ ∧ t.dev.rtc = s.dev.rtc ∧ t.dev.panel = s.dev.panel ∧
        t.dev.otp = s.dev.otp ∧ t.dev.pwr = s.dev.pwr ∧ t.mem = s.mem)


/-- A bit of T or C is Q, QU or QD of the journal entry of this execution, or else of the committed record, with quality
GOOD; an immediate is INDEX[0] or the sign-extended INDEX with quality GOOD; a frozen I element with a good CHECK and a
listed quality gives its VALUE and quality and changes nothing; a Q, M or V element that this execution has written gives
the written VALUE and quality; a partner input that has not arrived gives its predicted VALUE and quality and is named as
provisional, and the speculation record then holds the quality. -/
def Obligations.CellOperands : Prop :=
  ∀ (c : Fin 256) (i : IWord) (d : Dev),
    (i.imm = true → readBit c i d = (i.index.testBit 0, qGOOD, d) ∧
      readWord c i d = (⟨BitVec.ofInt 32 (toSigned 20 i.index), qGOOD, none⟩, d)) ∧
    (i.imm = false → i.space = spT → i.op ≠ opCMPI →
      (∀ r, mget (d.cell c).exec.timers i.index = some r → readBit c i d = (r.q, qGOOD, d)) ∧
      (mget (d.cell c).exec.timers i.index = none → ∀ r, mget d.prog.timers i.index = some r →
        readBit c i d = (r.q, qGOOD, d) ∧
        readWord c i d = (⟨BitVec.ofNat 32 (min 0xFFFFFFFF (r.et.toNat / baseUs i.mod)), qGOOD, none⟩, d))) ∧
    (i.imm = false → i.space = spC → i.op ≠ opCMPI → ∀ r,
      (mget (d.cell c).exec.counters (i.index / 2) = some r →
        readBit c i d = (if i.index % 2 = 0 then r.qu else r.qd, qGOOD, d)) ∧
      (mget (d.cell c).exec.counters i.index = some r → readWord c i d = (⟨r.cv, qGOOD, none⟩, d))) ∧
    (∀ (el : Nat) (v : TV), mget (d.cellTask c).inputs el = some v →
      tvOk ((d.prog.image.getD {}).idOf spI el) v = true → qListed v.quality = true →
      readElem c spI el d = (⟨v.value, v.quality, none⟩, d)) ∧
    (∀ (el : Nat), mget (d.cellTask c).inputs el = none →
      (readElem c spI el d).1 = ⟨(d.partner el).predicted.1, (d.partner el).predicted.2, some el⟩ ∧
      (∃ x, (readElem c spI el d).2 = withCell d c { d.cell c with exec := { (d.cell c).exec with spec := x } } ∧
        (x.quals.any fun e => e.1 == el) = true)) ∧
    (∀ (sp el : Nat) (w : Write), sp ≠ spI → lastWrite (d.cell c).exec.writes (ekey sp el) = some w →
      readElem c sp el d = (⟨w.value, w.quality, none⟩, d))

/-- LD takes the operand bit, complemented with N, and its quality; A, O and X combine LB with it and merge the qualities;
BA, BO and BX push LB, LBQ and their kind; BC pops an entry and combines; NOT inverts LB; ASN writes LB (NOT LB with N),
SET and RST with LB 1 write 1 and 0, to the bit, with LBQ, and with LB 0 write nothing. Each goes on to the next
instruction, and changes nothing else of the machine than the reading of its operand does. -/
def Obligations.BitInstructions : Prop :=
  ∀ (s : State) (c : Fin 256),
    let x := s.dev.cell c
    let i := s.dev.cellWord c
    let r := readBitN c i s.dev
    (AtInstr s c opLD → Becomes (.cellLd c .none) s
      (withCell r.2.2 c (stepped { r.2.2.cell c with lb := r.1, lbq := r.2.1 }))) ∧
    (AtInstr s c opA → Becomes (.cellA c .none) s
      (withCell r.2.2 c (stepped { r.2.2.cell c with lb := x.lb && r.1, lbq := qMerge x.lbq r.2.1 }))) ∧
    (AtInstr s c opO → Becomes (.cellO c .none) s
      (withCell r.2.2 c (stepped { r.2.2.cell c with lb := x.lb || r.1, lbq := qMerge x.lbq r.2.1 }))) ∧
    (AtInstr s c opX → Becomes (.cellX c .none) s
      (withCell r.2.2 c (stepped { r.2.2.cell c with lb := x.lb ^^ r.1, lbq := qMerge x.lbq r.2.1 }))) ∧
    (AtInstr s c opBA → Becomes (.cellBa c .none) s
      (withCell s.dev c (stepped { x with stack := ⟨x.lb, x.lbq, .and⟩ :: x.stack }))) ∧
    (AtInstr s c opBO → Becomes (.cellBo c .none) s
      (withCell s.dev c (stepped { x with stack := ⟨x.lb, x.lbq, .or⟩ :: x.stack }))) ∧
    (AtInstr s c opBX → Becomes (.cellBx c .none) s
      (withCell s.dev c (stepped { x with stack := ⟨x.lb, x.lbq, .xor⟩ :: x.stack }))) ∧
    (∀ (b : Bool) (q : Byte) (k : BrKind) (l : List BrEntry), AtInstr s c opBC → x.stack = ⟨b, q, k⟩ :: l →
      Becomes (.cellBc c .none) s (withCell s.dev c (stepped { x with
        lb := (match k with | .and => b && x.lb | .or => b || x.lb | .xor => b ^^ x.lb)
        lbq := qMerge q x.lbq, stack := l }))) ∧
    (AtInstr s c opNOT → Becomes (.cellNot c .none) s (withCell s.dev c (stepped { x with lb := !x.lb }))) ∧
    (AtInstr s c opASN → ∀ (o : Opd) (d : Dev), readElem c i.space (i.index / 32) s.dev = (o, d) →
      ∃ v, Becomes (.cellAsn c .none) s (withCell d c (stepped { d.cell c with
        exec := { (d.cell c).exec with writes := x.exec.writes ++ [⟨ekey i.space (i.index / 32), v, x.lbq⟩] } })) ∧
      ∀ n < 32, v.getLsbD n = if n = i.index % 32 then x.lb ^^ i.mod.testBit 0 else o.value.getLsbD n) ∧
    (AtInstr s c opSET → x.lb = true → ∀ (o : Opd) (d : Dev), readElem c i.space (i.index / 32) s.dev = (o, d) →
      ∃ v, Becomes (.cellSet c .none) s (withCell d c (stepped { d.cell c with
        exec := { (d.cell c).exec with writes := x.exec.writes ++ [⟨ekey i.space (i.index / 32), v, x.lbq⟩] } })) ∧
      ∀ n < 32, v.getLsbD n = if n = i.index % 32 then true else o.value.getLsbD n) ∧
    (AtInstr s c opRST → x.lb = true → ∀ (o : Opd) (d : Dev), readElem c i.space (i.index / 32) s.dev = (o, d) →
      ∃ v, Becomes (.cellRst c .none) s (withCell d c (stepped { d.cell c with
        exec := { (d.cell c).exec with writes := x.exec.writes ++ [⟨ekey i.space (i.index / 32), v, x.lbq⟩] } })) ∧
      ∀ n < 32, v.getLsbD n = if n = i.index % 32 then false else o.value.getLsbD n) ∧
    (AtInstr s c opSET → x.lb = false → Becomes (.cellSet c .none) s (withCell s.dev c (stepped x))) ∧
    (AtInstr s c opRST → x.lb = false → Becomes (.cellRst c .none) s (withCell s.dev c (stepped x)))

/-- PEDGE gives LB AND NOT p and NEDGE gives NOT LB AND p, where p is PREV when FRESH is 0, and with FRESH 1 the current LB
in mode TAKE (0), 0 in mode ZERO (1) and 1 in mode ONE (2); the journal takes PREV := LB before the instruction and FRESH
:= 0. LBQ, W and the flags are unchanged, and so is everything else of the machine, the committed edge memory included. -/
def Obligations.EdgeInstructions : Prop :=
  ∀ (s : State) (c : Fin 256) (e0 : EdgeRec) (mode : Nat),
    let x := s.dev.cell c
    let n := (s.dev.cellWord c).index
    let e := (mget x.exec.edges n).getD e0
    let p := if e.fresh then (if mode = 0 then x.lb else decide (mode = 2)) else e.prev
    let journal : Exec := { x.exec with edges := mput x.exec.edges n { prev := x.lb, fresh := false } }
    mget s.dev.prog.edges n = some e0 → mode ≤ 2 →
    ((s.dev.prog.image.getD {}).stateOf spE n).map (fun (y : SDecl) => y.mode) = some mode →
    (AtInstr s c opPEDGE → Becomes (.cellPedge c .none) s
      (withCell s.dev c (stepped { x with lb := x.lb && !p, exec := journal }))) ∧
    (AtInstr s c opNEDGE → Becomes (.cellNedge c .none) s
      (withCell s.dev c (stepped { x with lb := !x.lb && p, exec := journal })))

/-- Each timer instruction computes ET, Q and RUN by the pseudocode of R120 from the committed record, dt = 0 where the
record is fresh and otherwise the time since TAU_LAST, and PT = W unsigned in BASE units; it writes every field to the
journal, with TAU_LAST τ and FRESH 0, and leaves the committed record as it was; LB becomes q and LBQ merge(LBQ, WQ). ARITH
is set for a provisional element that W is marked with (R136), and nothing else changes. -/
def Obligations.TimerInstructions : Prop :=
  ∀ (s : State) (c : Fin 256) (r : TimerRec),
    let x := s.dev.cell c
    let i := s.dev.cellWord c
    let tau := (s.dev.cellTask c).tau
    let dt := if r.fresh then 0 else (tau - r.tauLast).toNat
    let pt := x.w.toNat * (if i.mod = 0 then 1 else if i.mod = 1 then 1000 else 1000000)
    let et := min (r.et.toNat + dt) pt
    let after := fun (kind et : Nat) (q run : Bool) =>
      withCell s.dev c (stepped { x with
        lb := q, lbq := qMerge x.lbq x.wq
        exec := { x.exec with
          timers := mput x.exec.timers i.index
            ⟨BitVec.ofNat 64 et, tau, x.lb, q, run, false, BitVec.ofNat 2 kind, BitVec.ofNat 2 i.mod⟩
          spec := arithMark x.mark x.exec.spec } })
    mget s.dev.prog.timers i.index = some r →
    (AtInstr s c opTON →
      (x.lb = false → Becomes (.cellTon c .none) s (after 0 0 false false)) ∧
      (x.lb = true → r.inPrev = false → Becomes (.cellTon c .none) s (after 0 0 (decide (pt = 0)) false)) ∧
      (x.lb = true → r.inPrev = true → Becomes (.cellTon c .none) s (after 0 et (decide (pt ≤ et)) false))) ∧
    (AtInstr s c opTOF →
      (x.lb = true → Becomes (.cellTof c .none) s (after 1 0 true false)) ∧
      (x.lb = false → r.inPrev = true → Becomes (.cellTof c .none) s (after 1 0 (decide (0 < pt)) (decide (0 < pt)))) ∧
      (x.lb = false → r.inPrev = false → r.run = true →
        Becomes (.cellTof c .none) s (after 1 et (decide (et < pt)) (decide (et < pt)))) ∧
      (x.lb = false → r.inPrev = false → r.run = false →
        Becomes (.cellTof c .none) s (after 1 r.et.toNat false false))) ∧
    (AtInstr s c opTP →
      (r.run = true → Becomes (.cellTp c .none) s (after 2 et (decide (et < pt)) (decide (et < pt)))) ∧
      (r.run = false → x.lb = true → r.inPrev = false →
        Becomes (.cellTp c .none) s (after 2 0 (decide (0 < pt)) (decide (0 < pt)))) ∧
      (r.run = false → x.lb = true → r.inPrev = true → Becomes (.cellTp c .none) s (after 2 r.et.toNat false false)) ∧
      (r.run = false → x.lb = false → Becomes (.cellTp c .none) s (after 2 0 false false)))

/-- On a rising LB CTU adds 1 to CV below 2^31 − 1 and sets OVF at it, CTD subtracts 1 above −2^31 and sets OVF at it; the
previous input is the current LB where the committed record is FRESH, and a CRST or CLD earlier in the same execution takes
effect first; LB becomes QU := (CV ≥ W) or QD := (CV ≤ 0), LBQ merge(LBQ, WQ); CRST
and CLD with LB 1 set CV to 0 and to W. The result stands in the journal with FRESH 0, the committed record is as it was,
ARITH is set for an element that W is marked with where the instruction takes W (R136), and nothing else changes. -/
def Obligations.CounterInstructions : Prop :=
  ∀ (s : State) (c : Fin 256) (r0 : CtrRec),
    let x := s.dev.cell c
    let n := (s.dev.cellWord c).index
    let r : CtrRec := { (mget x.exec.counters n).getD r0 with fresh := r0.fresh }
    let up := x.lb && !r.fresh && !r.cuPrev
    let down := x.lb && !r.fresh && !r.cdPrev
    let cvU := if up && r.cv != 0x7FFFFFFF then r.cv + 1 else r.cv
    let cvD := if down && r.cv != 0x80000000 then r.cv - 1 else r.cv
    let journal := fun (y : CtrRec) (sp : SpecRec) =>
      ({ x.exec with counters := mput x.exec.counters n { y with fresh := false }, spec := sp } : Exec)
    let sp := arithMark x.mark x.exec.spec
    mget s.dev.prog.counters n = some r0 →
    (AtInstr s c opCTU → Becomes (.cellCtu c .none) s (withCell s.dev c (stepped { x with
      lb := decide (x.w.toInt ≤ cvU.toInt), lbq := qMerge x.lbq x.wq, ovf := x.ovf || (up && r.cv == 0x7FFFFFFF)
      exec := journal { r with cv := cvU, cuPrev := x.lb, qu := decide (x.w.toInt ≤ cvU.toInt) } sp }))) ∧
    (AtInstr s c opCTD → Becomes (.cellCtd c .none) s (withCell s.dev c (stepped { x with
      lb := decide (cvD.toInt ≤ 0), lbq := qMerge x.lbq x.wq, ovf := x.ovf || (down && r.cv == 0x80000000)
      exec := journal { r with cv := cvD, cdPrev := x.lb, qd := decide (cvD.toInt ≤ 0) } sp }))) ∧
    (AtInstr s c opCRST → Becomes (.cellCrst c .none) s (withCell s.dev c (stepped { x with
      exec := journal (if x.lb then { r with cv := 0 } else r) x.exec.spec }))) ∧
    (AtInstr s c opCLD → Becomes (.cellCld c .none) s (withCell s.dev c (stepped { x with
      exec := journal (if x.lb then { r with cv := x.w } else r) sp })))

/-- LDW loads W and WQ with the operand's and marks W with a provisional element; MOVW writes W and WQ to the element with
COND 0 or LB 1; CMP and CMPI set LB to the signed comparison and LBQ to the merge of WQ and the operand's quality; ADD, SUB
and MUL give the exact result clipped to 32 bits, with QF the product divided by 2^16 and rounded half away from zero,
merge the qualities, set SAT where they clip, and set ARITH for the elements they use (R136). Each goes on to the next
instruction and changes nothing else but the speculation record. -/
def Obligations.WordInstructions : Prop :=
  ∀ (s : State) (c : Fin 256) (o : Opd) (d : Dev),
    let x := s.dev.cell c
    let y := d.cell c
    let i := s.dev.cellWord c
    let sat := fun (n : Int) => BitVec.ofInt 32 (max (-(2 ^ 31)) (min (2 ^ 31 - 1) n))
    let clip := fun (n : Int) => x.sat || decide (n < -(2 ^ 31) ∨ 2 ^ 31 - 1 < n)
    let result := fun (n : Int) => withCell d c (stepped { y with
      w := sat n, wq := qMerge x.wq o.quality, sat := clip n
      exec := { y.exec with spec := arithMark o.prov (arithMark x.mark y.exec.spec) } })
    let compared := fun (sp : SpecRec) => withCell d c (stepped { y with
      lb := compareKind i.mod x.w o.value, lbq := qMerge x.wq o.quality
      exec := { y.exec with spec := sp } })
    (AtInstr s c opLDW → readWord c i s.dev = (o, d) → Becomes (.cellLdw c .none) s
      (withCell d c (stepped { y with w := o.value, wq := o.quality, mark := o.prov }))) ∧
    (AtInstr s c opMOVW → i.mod = 0 ∨ x.lb = true → Becomes (.cellMovw c .none) s
      (withCell s.dev c (stepped { x with exec := { x.exec with
        writes := x.exec.writes ++ [⟨ekey i.space i.index, x.w, x.wq⟩], spec := arithMark x.mark x.exec.spec } }))) ∧
    (AtInstr s c opMOVW → i.mod = 1 → x.lb = false → ∃ sp, Becomes (.cellMovw c .none) s
      (withCell s.dev c (stepped { x with exec := { x.exec with spec := sp } }))) ∧
    (readWord c i s.dev = (o, d) →
      (AtInstr s c opCMP → ∃ sp, Becomes (.cellCmp c .none) s (compared sp)) ∧
      (AtInstr s c opCMPI → ∃ sp, Becomes (.cellCmpi c .none) s (compared sp)) ∧
      (AtInstr s c opADD → Becomes (.cellAdd c .none) s (result (x.w.toInt + o.value.toInt))) ∧
      (AtInstr s c opSUB → Becomes (.cellSub c .none) s (result (x.w.toInt - o.value.toInt))) ∧
      (AtInstr s c opMUL → i.mod < 2 → Becomes (.cellMul c .none) s (result (x.w.toInt * o.value.toInt))) ∧
      (AtInstr s c opMUL → 2 ≤ i.mod → Becomes (.cellMul c .none) s
        (result ((x.w.toInt * o.value.toInt).sign * (((x.w.toInt * o.value.toInt).natAbs + 2 ^ 15) / 2 ^ 16 : Nat))))) ∧
    (∀ a b : Word, compareKind 0 a b = decide (a = b) ∧ compareKind 1 a b = decide (a ≠ b) ∧
      compareKind 2 a b = a.slt b ∧ compareKind 3 a b = a.sle b ∧ compareKind 4 a b = b.slt a ∧
      compareKind 5 a b = b.sle a)

/-- QUAL in modes 0 and 1 tests bit 7 of WQ and of LBQ, in mode 2 takes WQ into W, in mode 3 merges INDEX[7:0] into WQ (modes
2 and 3 set ARITH, R136); FLG loads SAT or OVF with GOOD and with CLR clears it; JMP goes to INDEX[10:0] where COND is
met (0: LB is 1, 1: LB is 0, 2: always) and to the next instruction otherwise; NOP only goes on. Nothing else changes. A
merge is the numerically greatest code. -/
def Obligations.QualityFlagsAndJumps : Prop :=
  (∀ a b : Byte, qMerge a b = if a.toNat ≤ b.toNat then b else a) ∧
  ∀ (s : State) (c : Fin 256),
    let x := s.dev.cell c
    let i := s.dev.cellWord c
    let arith : Exec := { x.exec with spec := arithMark x.mark x.exec.spec }
    (AtInstr s c opQUAL →
      (i.mod = 0 → Becomes (.cellQual c .none) s
        (withCell s.dev c (stepped { x with lb := !x.wq.getLsbD 7, lbq := 0 }))) ∧
      (i.mod = 1 → Becomes (.cellQual c .none) s
        (withCell s.dev c (stepped { x with lb := !x.lbq.getLsbD 7, lbq := 0 }))) ∧
      (i.mod = 2 → Becomes (.cellQual c .none) s
        (withCell s.dev c (stepped { x with w := x.wq.setWidth 32, wq := 0, exec := arith }))) ∧
      (i.mod = 3 → Becomes (.cellQual c .none) s
        (withCell s.dev c (stepped { x with wq := qMerge x.wq (BitVec.ofNat 8 i.index), exec := arith })))) ∧
    (AtInstr s c opFLG →
      (i.mod = 0 → Becomes (.cellFlg c .none) s (withCell s.dev c (stepped { x with lb := x.sat, lbq := 0 }))) ∧
      (i.mod = 1 → Becomes (.cellFlg c .none) s (withCell s.dev c (stepped { x with lb := x.ovf, lbq := 0 }))) ∧
      (i.mod = 2 → Becomes (.cellFlg c .none) s
        (withCell s.dev c (stepped { x with lb := x.sat, lbq := 0, sat := false }))) ∧
      (i.mod = 3 → Becomes (.cellFlg c .none) s
        (withCell s.dev c (stepped { x with lb := x.ovf, lbq := 0, ovf := false })))) ∧
    (AtInstr s c opJMP → i.index < 2048 →
      Becomes (.cellJmp c .none) s (withCell s.dev c { x with pos :=
        if i.mod = 0 ∧ x.lb = true ∨ i.mod = 1 ∧ x.lb = false ∨ i.mod = 2 then i.index else x.pos + 1 })) ∧
    (AtInstr s c opNOP → Becomes (.cellNop c .none) s (withCell s.dev c (stepped x)))

/-- BLOCK_START on a free cell enters its next ready block with the state of Table 3.1: LB 0, LBQ and WQ GOOD, W 0, the
branch stack and the speculation record empty, SAT and OVF 0. END stops the cell and leaves the execution among those of the
task's cycle, not provisional where it read nothing that another execution or a late input could change; no record and no
value is committed by it. An illegal instruction has no effect of its
own: the block stops, without its result, and DUALRAIL_ERROR is raised with the cell, kind 3 and the block. -/
def Obligations.BlockExecution : Prop :=
  ∀ (s : State) (c : Fin 256),
    let x := s.dev.cell c
    (∀ t b : Nat, x.running = false → x.failed = false → x.level = .ok → s.dev.prog.swap.inGap = false →
      s.dev.nextBlock c = some (t, b) → Goes (.blockStart c) s fun u =>
        let y := u.dev.cell c
        y.running = true ∧ y.task = t ∧ y.block = b ∧ y.pos = 0 ∧ y.lb = false ∧ y.lbq = 0 ∧ y.w = 0 ∧ y.wq = 0 ∧
        y.stack = [] ∧ y.sat = false ∧ y.ovf = false ∧ y.mark = none ∧ y.exec = { block := b } ∧
        ∀ k : Fin 256, k ≠ c → u.dev.cell k = s.dev.cell k) ∧
    (AtInstr s c opEND → x.task < 8 → Goes (.cellEnd c .none) s fun u =>
        (u.dev.cell c).running = false ∧ (u.dev.cell c).stack = [] ∧
        (∃ r, mget (u.dev.task x.task).runs x.block = some r ∧ r.exec = x.exec ∧
          (x.exec.spec.quals = [] → x.exec.wreads = [] → r = { exec := x.exec })) ∧
        u.dev.prog.timers = s.dev.prog.timers ∧ u.dev.prog.counters = s.dev.prog.counters ∧
        u.dev.prog.edges = s.dev.prog.edges ∧ u.dev.prog.vals = s.dev.prog.vals) ∧
    (∀ (w : Word) (sp : Option (Fin 256)), x.running = true → x.block < 65536 → s.dev.inMigDomain c = false →
      opListed (decodeWord w).op = false ∨ (decodeWord w).modBad = true ∨ branchBad x (decodeWord w).op = true →
      Goes (.illegalInstruction c w sp) s fun u =>
        (u.dev.cell c).running = false ∧ (u.dev.cell c).exec = {} ∧
        Raised u .dualrailError (c.val + 512 * 3 + 32768 + 65536 * x.block))

/-- TASK_CONFIG whose tests pass replaces the task's configuration and no other task's; CYCLE_START puts each selected task
in STARTING, with a first t0 at least 1 ms ahead that is an instant of the task (the tick origin plus its phase plus whole
periods), and answers the eight first instants; CYCLE_STOP of stopped tasks answers at once, and of a task in a cycle waits
with its MODE; TASK_STATS answers Table 4.11 and with CLEAR keeps only the commits among the statistics; INPUT_POLICY
stages each entry's policy and leaves the policies in force. -/
def Obligations.TaskCommands : Prop :=
  ∀ (s : State) (o : Origin) (p : Bytes),
    (Waits s o 0x0300 p → Pass (taskCfgTests s.dev p) → Goes (.taskConfig o) s fun u =>
      Answers u o stOk [] ∧ (u.dev.task (byteAt p 0)).cfg = taskCfgOf p ∧ u.dev.pwr.confDirty = true ∧
      ∀ k : Fin 8, k.val ≠ byteAt p 0 → u.dev.task k = s.dev.task k) ∧
    (∀ b : List Budget, Waits s o 0x0301 p → Pass (startTests b s.dev p) → Goes (.cycleStart o b) s fun u =>
      Answers u o stOk ((List.range 8).flatMap fun k =>
        leBytes 8 (if (byteAt p 0).testBit k then (u.dev.task k).firstT0 else 0)) ∧
      ∀ k : Fin 8,
        ((byteAt p 0).testBit k = true → (u.dev.task k).st = .starting ∧
          (0 < (s.dev.task k).cfg.period → s.dev.tick + 20 ≤ (u.dev.task k).firstT0 ∧
          ∃ n, (u.dev.task k).firstT0 = s.dev.prog.origin + (s.dev.task k).cfg.phase + n * (s.dev.task k).cfg.period)) ∧
        ((byteAt p 0).testBit k = false → u.dev.task k = s.dev.task k)) ∧
    (∀ mask : Byte, Waits s o 0x0302 [mask, 0, 0, 0] → s.dev.master = true → s.dev.passive = false →
      s.dev.stopped = false → s.dev.prog.stopWaiters = [] →
      (∀ k < 8, mask.getLsbD k = true → (s.dev.task k).st = .stopped) → Goes (.cycleStop o) s fun u =>
        Answers u o stOk [] ∧ u.dev.prog.tasks = s.dev.prog.tasks) ∧
    (∀ (k : Fin 8) (mode : Bool), Waits s o 0x0302 [BitVec.ofNat 8 (2 ^ k.val), if mode then 1 else 0, 0, 0] →
      s.dev.master = true → s.dev.passive = false → s.dev.stopped = false → s.dev.prog.stopWaiters = [] →
      (s.dev.task k).st = .execute → Goes (.cycleStop o) s fun u =>
        Working u o ∧ (u.dev.task k).stopReq = some mode ∧ (u.dev.task k).st = .execute) ∧
    (∀ (k : Fin 8) (clear : Bool), Waits s o 0x0303 [BitVec.ofNat 8 k.val, if clear then 1 else 0, 0, 0] →
      s.dev.master = true → s.dev.passive = false → s.dev.stopped = false → Goes (.taskStats o) s fun u =>
        Answers u o stOk (statsBytes (s.dev.task k)) ∧ (u.dev.task k).stats.commits = (s.dev.task k).stats.commits ∧
        (clear = true → (u.dev.task k).stats = { commits := (s.dev.task k).stats.commits }) ∧
        (clear = false → u.dev.task k = s.dev.task k)) ∧
    (Waits s o 0x0304 p → Pass (policyTests s.dev p) → ((policyEntries p).map (·.1)).Nodup →
      Goes (.inputPolicy o) s fun u =>
        Answers u o stOk [] ∧ ∀ e ∈ policyEntries p,
          (u.dev.partner e.1).staged = some e.2 ∧ (u.dev.partner e.1).policy = (s.dev.partner e.1).policy)

/-- At a task instant the task enters EXECUTE with t0 the tick, its counter as it was, no execution left over, and the
committed values as its snapshot; every declared I element that is not a partner input then stands in the input image with
the low 8 bits of the counter as SEQ. In a swap gap the cycle is skipped: the task stays as it is but for its first instant,
and the skip is counted. At the input deadline each partner input that has not been taken and is not forced takes
the value and quality of its policy (Table 4.8), and its STALE count goes up. -/
def Obligations.InputsOfACycle : Prop :=
  ∀ (s : State) (n : Fin 8) (level : Word) (bad : Half),
    let k := s.dev.task n
    let im := s.dev.prog.image.getD {}
    (k.instant s.dev.tick s.dev.prog.origin = true → s.dev.prog.swap.inGap = false → s.dev.pwr.hold = false →
      s.dev.stackWhole = true → Goes (.taskInstant n level bad) s fun u =>
        let y := u.dev.task n
        y.st = .execute ∧ y.t0 = s.dev.tick ∧ y.deadlinePassed = false ∧ y.runs = [] ∧ y.counter = k.counter ∧
        y.snap = u.dev.prog.vals ∧ y.confirmedAt = none ∧
        ∀ el < im.nI, (im.iOf el).kind ≠ 0 → el ∉ im.ownedInputs n →
          ∃ v, mget y.inputs el = some v ∧ v.seq = k.counter.setWidth 8) ∧
    (k.instant s.dev.tick s.dev.prog.origin = true → s.dev.prog.swap.inGap = true →
      Goes (.taskInstant n level bad) s fun u =>
        (u.dev.task n).st = k.st ∧ (u.dev.task n).counter = k.counter ∧
        vget u.dev.prog.report.skipped n = min 255 (vget s.dev.prog.report.skipped n + 1)) ∧
    (k.st = .execute → k.deadlinePassed = false → s.dev.tick = k.t0 + k.cfg.window → (im.ownedInputs n).Nodup →
      Goes (.inputDeadline n) s fun u =>
        (u.dev.task n).deadlinePassed = true ∧
        ∀ el ∈ im.ownedInputs n, (s.dev.partner el).taken = none → s.dev.forceOn spI el = none →
          let p := s.dev.partner el
          ∃ v, mget (u.dev.task n).inputs el = some v ∧ v.seq = k.counter.setWidth 8 ∧
            (u.dev.partner el).staleRun = p.staleRun + 1 ∧
            (p.policy.kind = 1 → v.value = p.policy.value ∧ v.quality = 0x20) ∧
            (p.policy.kind = 2 → v.value = p.policy.value ∧ v.quality = 0x30) ∧
            (p.policy.kind = 0 → v.value = p.lastTaken.getD 0 ∧
              v.quality = if p.received = true ∧ (p.policy.holdLimit = 0 ∨ p.staleRun + 1 ≤ p.policy.holdLimit) then 0x10
                else 0x83))

/-- A cycle whose blocks are all confirmed by the confirm limit becomes READY and keeps the time of its confirmation; a LATE
one that confirms before its lateness limit goes to WAIT with its results discarded. A cycle still in EXECUTE at the
confirm limit overruns: the count of consecutive overruns goes up, TASKn_OVERRUN is raised with the counter and the count,
the counter stays; within the tolerance the task is LATE; beyond it, with reaction 0, TASKn_FAULT is raised with its
cause and the task goes to WAIT with its count at 0. A LATE cycle at its lateness limit faults with cause 2. -/
def Obligations.ConfirmationAndOverrun : Prop :=
  ∀ (s : State) (n : Fin 8),
    let k := s.dev.task n
    let quiet := k.stopReq = none ∧ s.dev.prog.migQueue = [] ∧ k.cfg.reaction = 0 ∧ s.dev.prog.reaction = 0
    (∀ at_ : Nat, at_ / 500 + k.t0 = s.dev.tick → s.dev.allConfirmed n = true → k.st = .execute →
      at_ ≤ 500 * k.cfg.offset - 100 → Goes (.cycleConfirmed n at_) s fun u =>
        (u.dev.task n).st = .ready ∧ (u.dev.task n).confirmedAt = some at_ ∧ (u.dev.task n).runs = k.runs ∧
        (u.dev.task n).counter = k.counter) ∧
    (∀ at_ : Nat, at_ / 500 + k.t0 = s.dev.tick → s.dev.allConfirmed n = true → k.st = .late →
      s.dev.tick < min (k.t0 + k.cfg.offset + k.cfg.maxLate) (k.t0 + k.cfg.period) → k.stopReq = none →
      Goes (.cycleConfirmed n at_) s fun u =>
        (u.dev.task n).st = .wait ∧ (u.dev.task n).runs = [] ∧ (u.dev.task n).counter = k.counter) ∧
    (s.dev.tick + 1 = k.t0 + k.cfg.offset → k.st = .execute → s.dev.inStack = false → k.overruns + 1 ≤ k.cfg.ovrN →
      Goes (.confirmLimit n) s fun u =>
        (u.dev.task n).st = .late ∧ (u.dev.task n).overruns = k.overruns + 1 ∧ (u.dev.task n).counter = k.counter ∧
        Raised u (.taskOverrun n) (k.counter.toNat % 2 ^ 24 + 2 ^ 24 * min 15 (k.overruns + 1))) ∧
    (s.dev.tick + 1 = k.t0 + k.cfg.offset → k.st = .execute → s.dev.inStack = false → k.cfg.ovrN < k.overruns + 1 → quiet →
      Goes (.confirmLimit n) s fun u =>
        (u.dev.task n).st = .wait ∧ (u.dev.task n).overruns = 0 ∧ (u.dev.task n).counter = k.counter ∧
        (u.dev.task n).runs = [] ∧ u.dev.evt.pending.getLsbD (16 + n.val) = true ∧
        Raised u (.taskFault n) ((if k.cfg.maxLate = 0 then 3 else 1) + 256 * (k.counter.toNat % 2 ^ 24))) ∧
    (k.st = .late → min (k.t0 + k.cfg.offset + k.cfg.maxLate) (k.t0 + k.cfg.period) ≤ s.dev.tick → quiet →
      Goes (.latenessLimit n) s fun u =>
        (u.dev.task n).st = .wait ∧ (u.dev.task n).stats.lateMax = 0xFFFFFFFF ∧ (u.dev.task n).runs = [] ∧
        Raised u (.taskFault n) (2 + 256 * (k.counter.toNat % 2 ^ 24)))

/-- A READY cycle at its commit point commits: the journals of its executions become the T, C and E records, every element
that it wrote and that no force holds carries the value of the last write in block order, the merge of the qualities of all
its writes in the cycle and the low 8 bits of the counter as SEQ, the cycle counter advances by 1, the overrun count is 0,
and the task goes to PUBLISH. Of the elements that it did not write and no force holds, those that
its blocks produce keep VALUE and quality as a reader passes them on and take the new SEQ, and all others stay as they are.
After publishing, the task
waits for its next instant, or is STOPPED where a CYCLE_STOP waits. -/
def Obligations.CommitAndPublish : Prop :=
  ∀ (s : State) (n : Fin 8),
    let k := s.dev.task n
    (k.st = .ready → s.dev.tick = k.t0 + k.cfg.offset → s.dev.prog.swap.inGap = false → s.dev.inStack = false →
      Goes (.commitPoint n) s fun u =>
        let y := u.dev.task n
        y.st = .publish ∧ y.counter = k.counter + 1 ∧ y.overruns = 0 ∧ y.stats.commits = k.stats.commits + 1 ∧
        u.dev.prog.timers = k.runs.foldl (fun m e => mputAll m e.2.exec.timers) s.dev.prog.timers ∧
        u.dev.prog.counters = k.runs.foldl (fun m e => mputAll m e.2.exec.counters) s.dev.prog.counters ∧
        u.dev.prog.edges = k.runs.foldl (fun m e => mputAll m e.2.exec.edges) s.dev.prog.edges ∧
        ∀ key : Nat, (∀ f ∈ s.dev.prog.forces, f.space = spQ → ekey spQ f.element ≠ key) →
          (∀ w, ((k.runs.flatMap fun e => e.2.exec.writes).filter fun x => x.key == key).getLast? = some w →
            ∃ v, mget u.dev.prog.vals key = some v ∧ v.value = w.value ∧ v.seq = k.counter.setWidth 8 ∧
              v.quality = qMergeAll (((k.runs.flatMap fun e => e.2.exec.writes).filter fun x => x.key == key).map
                (·.quality))) ∧
          ((∀ e ∈ k.runs, ∀ w ∈ e.2.exec.writes, w.key ≠ key) →
            (key ∉ (s.dev.prog.image.getD {}).producedBy n → mget u.dev.prog.vals key = mget s.dev.prog.vals key) ∧
            (key ∈ (s.dev.prog.image.getD {}).producedBy n → ∀ v, mget s.dev.prog.vals key = some v →
              let a := tvAccept ((s.dev.prog.image.getD {}).idOf (keySpace key) (keyEl key)) v
              ∃ x, mget u.dev.prog.vals key = some x ∧ x.value = a.value ∧ x.quality = a.quality ∧
                x.seq = k.counter.setWidth 8))) ∧
    (k.st = .publish → k.stopReq = none → Goes (.publishSets n) s fun u =>
      (u.dev.task n).st = .wait ∧ (u.dev.task n).toPublish = false ∧ (u.dev.task n).counter = k.counter) ∧
    (∀ safe : Bool, k.st = .publish → k.stopReq = some safe → s.dev.prog.stopWaiters = [] →
      Goes (.publishSets n) s fun u =>
        (u.dev.task n).st = .stopped ∧ (u.dev.task n).stoppedSafe = safe ∧ (u.dev.task n).stopReq = none)


/-- WRITE_VALUES stages its entries for its task and, after that task's commit or while it is stopped, each V or K element
that it names once holds the entry's VALUE and quality with the task's counter as SEQ; READ_VALUES answers the tick and the
values of one instant; FORCE sets and releases; PLACEMENT_REPORT kind 0 answers its summary; STAGE_CONFIG with DISCARD drops
every staged record and with WRITE changes no element. -/
def Obligations.ValueCommands : Prop :=
  ∀ (s : State) (o : Origin) (p : Bytes),
    (Waits s o 0x0203 p → Pass (writeTests s.dev p) → Goes (.writeValues o) s fun u =>
      Working u o ∧ u.dev.prog.vals = s.dev.prog.vals ∧
      u.dev.prog.writePend = some ⟨byteAt p 0, writeEntries p, some o, false⟩) ∧
    (∀ w : WritePend, s.dev.prog.writePend = some w → (w.due = true ∨ (s.dev.task w.task).st = .stopped) →
      Goes .writeValuesApply s fun u =>
        u.dev.prog.writePend = none ∧
        ∀ e ∈ w.entries, (w.entries.filter fun x => ekey x.1 x.2.1 == ekey e.1 e.2.1).length = 1 →
          ∃ v, mget u.dev.prog.vals (ekey e.1 e.2.1) = some v ∧ v.value = e.2.2.2 ∧ v.quality = e.2.2.1 ∧
            v.seq = (s.dev.task w.task).counter.setWidth 8) ∧
    (∀ (sp : Byte) (el : Half), Waits s o 0x0204 ([1, 0, 0, 0] ++ [sp, 0] ++ leBytes 2 el.toNat) → s.dev.master = true →
      sp.toNat ∈ [1, 2, 6, 7] → el.toNat < (s.dev.prog.image.getD {}).sizeOf sp.toNat → Goes (.readValues o) s fun u =>
        Answers u o stOk (leBytes 8 s.dev.tick ++ tvBytes (mgetD s.dev.prog.vals (ekey sp.toNat el.toNat) {})) ∧
        u.dev.prog = s.dev.prog) ∧
    (Waits s o 0x0205 p → Pass (forceTests s.dev p) → Goes (.force o) s fun u =>
      u.dev.prog.forces = (forceEntries p).foldl forceStep s.dev.prog.forces ∧ u.dev.prog.forces.length ≤ 256 ∧
      Answers u o stOk (leBytes 2 u.dev.prog.forces.length ++ zeros 2)) ∧
    (Waits s o 0x0206 [0, 0, 0, 0] → s.dev.master = true → Goes (.placementReport o) s fun u =>
      Answers u o stOk (reportSummary s.dev) ∧ u.dev.prog = s.dev.prog) ∧
    (Waits s o 0x0208 [2, 0, 0, 0, 0, 0, 0, 0] → Pass (stageTests s.dev [2, 0, 0, 0, 0, 0, 0, 0]) →
      Goes (.stageConfig o) s fun u => u.dev.prog.stagedRecs = [] ∧ Answers u o stOk (zeros 4)) ∧
    (Waits s o 0x0208 p → Pass (stageTests s.dev p) → byteAt p 0 = 0 → Goes (.stageConfig o) s fun u =>
      u.dev.prog.vals = s.dev.prog.vals ∧ u.dev.prog.stagedRecs = stageRecord p s.dev.prog.stagedRecs ∧
      Answers u o stOk (leBytes 1 u.dev.prog.stagedRecs.length ++ zeros 3))

/-- PROGRAM_LOAD BEGIN invalidates the inactive slot and opens a load of its length; END, once every word is written, starts
the checks; PROGRAM_VERIFY answers the slot's report; the end of the checks gives the slot its result and, outside start-up,
raises PLACEMENT_DONE with slot, result and number of findings; PROGRAM_SWAP schedules a gap at least 1 ms ahead; the gap's
start abandons every cycle in progress without an overrun and leaves the counters; its end, at most 2 ms later, makes the
other slot active, releases every force, keeps every task's counter and raises SWAP_DONE with its length and the slot. -/
def Obligations.LoadAndSwap : Prop :=
  ∀ (s : State) (o : Origin) (p : Bytes),
    let n := s.dev.inactive
    (Waits s o 0x0200 p → Pass (loadTests s.mem s.dev p) → byteAt p 0 = 0 → Goes (.programLoad o) s fun u =>
      (u.dev.slotRec n).result = .incomplete ∧ (u.dev.slotRec n).length = getLe p 4 4 ∧ u.dev.prog.load.open_ = true ∧
      Answers u o stOk (leBytes 1 1 ++ zeros 3 ++ leBytes 4 0) ∧ u.mem = s.mem) ∧
    (Waits s o 0x0200 p → Pass (loadTests s.mem s.dev p) → byteAt p 0 = 2 → Goes (.programLoad o) s fun u =>
      u.dev.prog.checking = some n ∧ (u.dev.slotRec n).result = .checking ∧ u.dev.prog.load.open_ = false ∧
      u.mem = s.mem) ∧
    (∀ b : Bool, Waits s o 0x0201 [if b then 1 else 0, 0, 0, 0] → s.dev.master = true → s.dev.passive = false →
      s.dev.stopped = false → Goes (.programVerify o) s fun u =>
        Answers u o stOk (verifyReport (b2n b) 0 s.dev) ∧ u.dev.prog = s.dev.prog) ∧
    (∀ (k : Fin 2) (map : Option PlaceMap) (r : SlotResult) (fs : List Finding), s.dev.prog.checking = some k.val →
      s.dev.stackWhole = true → s.dev.pwr.startCheck = none → checkImage (slotImage s.mem s.dev k) map s.dev = (r, fs) →
      Goes (.placementChecksDone map) s fun u =>
        (u.dev.slotRec k).result = r ∧ (u.dev.slotRec k).findings = fs ∧ u.dev.prog.checking = none ∧
        Raised u .placementDone (k.val + 2 * r.code + 65536 * min 0xFFFF fs.length) ∧ u.mem = s.mem) ∧
    (Waits s o 0x0202 p → Pass (swapTests s.dev p) → (∀ k ∈ s.dev.runningTasks, 0 < (s.dev.task k).cfg.period) → Goes (.programSwap o) s fun u =>
      u.dev.prog.swap.pending = true ∧ s.dev.tick + 20 ≤ u.dev.prog.swap.gapStart ∧
      u.dev.prog.image = s.dev.prog.image ∧ u.dev.prog.activeSlot = s.dev.prog.activeSlot) ∧
    (s.dev.prog.swap.pending = true → s.dev.prog.swap.gapStart ≤ s.dev.tick → s.dev.runningTasks = [] →
      Goes .swapGapStart s fun u => u.dev.prog.swap.inGap = true ∧ u.dev.prog.image = s.dev.prog.image) ∧
    (∀ k : Fin 8, s.dev.prog.swap.pending = true → s.dev.prog.swap.gapStart ≤ s.dev.tick → (s.dev.task k).st = .execute →
      (∀ j : Fin 8, (s.dev.task j).stopReq = none) → (∀ j : Fin 8, (s.dev.task j).st ≠ .ready) →
      Goes .swapGapStart s fun u =>
        u.dev.prog.swap.inGap = true ∧ (u.dev.task k).st = .wait ∧ (u.dev.task k).runs = [] ∧
        (u.dev.task k).overruns = (s.dev.task k).overruns ∧
        ∀ j : Fin 8, (u.dev.task j).counter = (s.dev.task j).counter) ∧
    (∀ us : Half, s.dev.prog.swap.inGap = true → us.toNat ≤ 2000 → Goes (.swapGapEnd us) s fun u =>
      u.dev.prog.swap.inGap = false ∧ u.dev.prog.activeSlot = decide (n = 1) ∧ u.dev.prog.forces = [] ∧
      (∀ j : Fin 8, (u.dev.task j).counter = (s.dev.task j).counter ∧ (u.dev.task j).st = (s.dev.task j).st) ∧
      Raised u .swapDone (us.toNat + 65536 * b2n (decide (n = 1))))

/-- A speed sample joins the readings of every tile; a revalidation takes the new bounds; MIGRATE of an occupied cell to an
accepted spare answers source, target and bound and begins the prepare phase with MIGRATION_START; the end of the prepare
phase leads to the switch, and a switch at a task's switch point moves that task's blocks, and with the last of them the
migration is done and MIGRATION_DONE raised; a stall raises PROGRESS_STALL with cell, task and block and marks the cell
failed; a reloaded block starts again from the state of block entry while its cycle runs. -/
def Obligations.MigrationAndLadder : Prop :=
  ∀ (s : State) (o : Origin),
    (∀ r : List Half, r.length = 32 → Goes (.speedMonitorSample r) s fun u =>
      ∀ k : Fin 32, (vget u.dev.prog.speed k).readings = (lget r k :: (vget s.dev.prog.speed k).readings).take 10009) ∧
    (∀ (b : List Budget) (im : Image) (m : PlaceMap), s.dev.prog.image = some im → s.dev.prog.map = some m →
      Goes (.mapRevalidation b none) s fun u => ∃ m', u.dev.prog.map = some m' ∧ m'.blocks = m.blocks ∧
        m'.mapId = m.mapId ∧ ∀ k : Fin 8, vget m'.budgets k = lget b k) ∧
    (∀ src spare : Fin 256, Waits s o 0x0207 ([0, BitVec.ofNat 8 s.dev.own] ++ leBytes 2 src ++ zeros 4) →
      Pass (migrateTests (some spare.val) s.dev ([0, BitVec.ofNat 8 s.dev.own] ++ leBytes 2 src ++ zeros 4)) →
      Goes (.migrate o (some spare)) s fun u =>
        u.dev.prog.mig.state = .prepare ∧ u.dev.prog.mig.source = src.val ∧ u.dev.prog.mig.target = spare.val ∧
        u.dev.prog.map = s.dev.prog.map ∧ Raised u .migrationStart (src.val + 256 * spare.val + 65536 * s.dev.own) ∧
        Answers u o stOk (leBytes 1 src ++ leBytes 1 spare ++ zeros 2 ++ leBytes 4 (s.dev.migBound s.dev.own src))) ∧
    (s.dev.prog.mig.state = .prepare → s.dev.placedOn s.dev.prog.mig.source ≠ [] →
      Goes .migrationPrepareDone s fun u => u.dev.prog.mig.state = .switch ∧ u.dev.prog.map = s.dev.prog.map) ∧
    (∀ (k : Fin 8) (m : PlaceMap), s.dev.prog.mig.state = .switch → (s.dev.task k).st = .wait →
      s.dev.prog.map = some m → s.dev.prog.migQueue = [] → s.dev.prog.mig.source ≠ s.dev.prog.mig.target →
      s.dev.tasksOn s.dev.prog.mig.source = [k.val] → (∀ b ∈ m.blocks, s.dev.blockTask b.block < 8) →
      Goes (.migrationSwitch k none) s fun u =>
        u.dev.prog.mig.state = .none ∧ u.dev.placedOn s.dev.prog.mig.source = [] ∧
        Raised u .migrationDone (s.dev.prog.mig.source + 256 * s.dev.prog.mig.target + 65536 * s.dev.own) ∧
        ∃ m', u.dev.prog.map = some m' ∧ m'.blocks.length = m.blocks.length) ∧
    (∀ c spare : Fin 256, (s.dev.cell c).running = true → (s.dev.cell c).failed = false → s.dev.inMigDomain c = false →
      (s.dev.cell c).task < 8 → (s.dev.cell c).block < 65536 → s.dev.opBusy = false → s.dev.prog.mig.state = .none →
      s.dev.placedOn c ≠ [] → s.dev.spareOk spare = true → spare ≠ c → Goes (.progressStall c (some spare)) s fun u =>
        (u.dev.cell c).failed = true ∧ (u.dev.cell c).running = false ∧ u.dev.prog.mig.state = .prepare ∧
        u.dev.prog.mig.source = c.val ∧ u.dev.prog.mig.target = spare.val ∧
        Raised u .progressStall (c.val + 512 * (s.dev.cell c).task + 65536 * (s.dev.cell c).block)) ∧
    (∀ c : Fin 256, (s.dev.cell c).level = .l0 → (s.dev.cell c).task < 8 →
      s.dev.ready (s.dev.cell c).task (s.dev.cell c).block = true → Goes (.l0ReloadDone c) s fun u =>
        let y := u.dev.cell c
        y.running = true ∧ y.level = .l0run ∧ y.pos = 0 ∧ y.lb = false ∧ y.w = 0 ∧ y.stack = [] ∧
        y.task = (s.dev.cell c).task ∧ y.block = (s.dev.cell c).block)

/-- In AUTO mode, with no FREEZE_UP slot downstream holding it back, the integrator section's states stay as they were exactly
where the limiters raised the output and its input is negative, or lowered it and its input is positive, with the input's
sign turned round under INT_NEG; FROZEN shows it. Every other section's states become those of its own input and output. -/
def Obligations.IntegratorFreeze : Prop :=
  ∀ (un : LoopUnit) (n : Nat) (s : LoopSlot) (secs : List Section) (k : Nat) (neg : Bool) (mn mx up dn : Word) (i : LIn),
    secs.length ≤ 8 → k < secs.length → loopMode i none = .auto → freezeDown un n = (false, false) →
    let r := biquadSample un n s secs k neg mn mx up dn i none
    let xy := (phase1 secs s.s1.toList (loopError s.cfg.reverse i).1 {}).1
    let u := (lget xy (secs.length - 1)).2
    let out := limit u s.prev.toInt mn mx up dn s.cfg.period
    let x := if neg then -(lget xy k).1 else (lget xy k).1
    let skip := (u < out ∧ x < 0) ∨ (out < u ∧ 0 < x)
    (r.1.frozen = true ↔ skip) ∧
    (skip → vget r.1.s1 k = vget s.s1 k ∧ vget r.1.s2 k = vget s.s2 k) ∧
    ∀ j < secs.length, j ≠ k ∨ ¬skip →
      vget r.1.s1 j = (sectionState (lget secs j) (lget xy j).1 (lget xy j).2 (vget s.s2 j) {}).1.1 ∧
      vget r.1.s2 j = (sectionState (lget secs j) (lget xy j).1 (lget xy j).2 (vget s.s2 j) {}).1.2

/-- In AUTO and MANUAL the final output is the unlimited one clamped to OUT_MIN and OUT_MAX and then held within the rate steps
of the previous one, and SAT_OUT is set where it differs; a limit rate of 0 does not limit. A hysteretic slot in AUTO turns
ON below SP − BAND_LOW and OFF above SP + BAND_HIGH (the reverse with REVERSE), where its minimum time has passed and the
switch window has room; otherwise it keeps its output, with SAT_OUT for a demand held back; every change from OFF to ON is
counted in the window. -/
def Obligations.LimitersAndHysteresis : Prop :=
  (∀ (u prev : Int) (mn mx up dn : Word) (p : Nat), mn.toInt ≤ mx.toInt → 0 ≤ up.toInt → 0 ≤ dn.toInt →
    let lim := max mn.toInt (min mx.toInt u)
    let out := limit u prev mn mx up dn p
    (up = 0 → dn = 0 → out = lim) ∧
    (up ≠ 0 → out ≤ prev + rateStep up p ∨ dn ≠ 0) ∧ (dn ≠ 0 → prev - rateStep dn p ≤ out) ∧
    (up ≠ 0 → dn ≠ 0 → out = max (prev - rateStep dn p) (min (prev + rateStep up p) lim))) ∧
  (∀ (un : LoopUnit) (n : Nat) (s : LoopSlot) (secs : List Section) (k : Nat) (neg : Bool) (mn mx up dn : Word) (i : LIn),
    loopMode i none = .manual →
    let r := (biquadSample un n s secs k neg mn mx up dn i none).1
    let out := limit i.man.1.toInt s.prev.toInt mn mx up dn s.cfg.period
    r.prev = BitVec.ofInt 32 out ∧ (r.satOut = true ↔ s.satOut = true ∨ out ≠ i.man.1.toInt)) ∧
  ∀ (tick : Nat) (s : LoopSlot) (lo hi : Word) (on off mx : Nat) (i : LIn), loopMode i none = .auto →
    let r := (hystSample tick s lo hi on off mx i none).1
    let below := i.pv.1.toInt < i.sp.1.toInt - lo.toInt
    let above := i.sp.1.toInt + hi.toInt < i.pv.1.toInt ∧ ¬below
    let want := (below ∧ s.cfg.reverse = false) ∨ (above ∧ s.cfg.reverse = true)
    let quit := (below ∧ s.cfg.reverse = true) ∨ (above ∧ s.cfg.reverse = false)
    let past := fun (ms : Nat) => ∀ t, s.since = some t → t + minTicks ms s.cfg.period ≤ tick
    (want → s.onBit = false → past off → (mx = 0 ∨ switchings s.bins tick < mx) →
      r.onBit = true ∧ r.since = some tick ∧ r.bins = countSwitch s.bins tick ∧ r.satOut = s.satOut) ∧
    (want → s.onBit = false → ¬(past off ∧ (mx = 0 ∨ switchings s.bins tick < mx)) →
      r.onBit = false ∧ r.satOut = true ∧ r.bins = s.bins) ∧
    (quit → s.onBit = true → past on → r.onBit = false ∧ r.since = some tick ∧ r.bins = s.bins) ∧
    (quit → s.onBit = true → ¬past on → r.onBit = true ∧ r.satOut = true) ∧
    (¬want → ¬quit → r.onBit = s.onBit ∧ r.since = s.since ∧ r.bins = s.bins ∧ r.satOut = s.satOut)

/-- At a tick at which one slot of a unit is due, with no commit of its set pending and its inputs read without a CHECK failure, a biquad slot's
final output is that of R245, stands in its output value with the quality of Table 6.2 and becomes the previous output; a
slot with a hardware fault keeps its output with HELD and sets HW, and is stopped at the third in a row with BAD_HARDWARE;
no other slot changes. While the loops are quiescent (standby, fence, safe state) the sample changes nothing. -/
def Obligations.LoopSample : Prop :=
  ∀ (s : State) (u : Fin 8) (n : Fin 32) (bad : Half),
    let x := s.dev.slot u n
    let only := slotDue s.dev.tick x = true ∧ x.commitPend = none ∧
      ∀ k : Fin 32, k ≠ n → slotDue s.dev.tick (s.dev.slot u k) = false
    (∀ faults, s.dev.loopsQuiet = true → Goes (.loopSample u faults bad) s fun t => t.dev = s.dev) ∧
    (s.dev.loopsQuiet = false → u.val < s.dev.nUnits → only →
      (∀ (i : LIn) (secs : List Section) (k : Nat) (neg : Bool) (mn mx up dn sp : Word),
        x.active = some (.biquad secs k neg mn mx up dn sp) → loopInputs u n bad s.dev = (i, s.dev) →
        Goes (.loopSample u [] bad) s fun t =>
          let y := t.dev.slot u n
          let f := s.dev.boundForce x.cfg
          y.prev = (biquadSample (vget s.dev.loops u) n x secs k neg mn mx up dn i f).1.prev ∧
          y.mode = loopMode i f ∧ y.out.value = y.prev ∧ y.lastTick = some s.dev.tick ∧
          y.out.quality = (match loopMode i f with
            | .badIn => if x.cfg.badSafe then 0x30 else 0x10
            | .forced => qMergeAll [i.pv.2, i.sp.2, 0x40]
            | .manual => qMergeAll [i.pv.2, i.sp.2, i.man.2]
            | _ => qMergeAll [i.pv.2, i.sp.2]) ∧
          ∀ k : Fin 32, k ≠ n → t.dev.slot u k = s.dev.slot u k) ∧
      (∀ inSet : Bool, Goes (.loopSample u [(n, inSet)] bad) s fun t =>
        let y := t.dev.slot u n
        y.prev = x.prev ∧ y.out.value = x.prev ∧ y.hw = true ∧ y.faults = x.faults + 1 ∧
        (y.stopped = true ↔ 3 ≤ x.faults + 1) ∧
        y.out.quality = (if 3 ≤ x.faults + 1 then 0x85 else 0x10) ∧
        (inSet = true → y.s1 = x.s1 ∧ y.s2 = x.s2) ∧
        ∀ k : Fin 32, k ≠ n → t.dev.slot u k = s.dev.slot u k))

/-- LOOP_CONFIG that enables a slot starts it with every state 0 (tracking aside) from the next tick on, and one that disables
it leaves its output 0 with BAD; LOOP_COEFF_STAGE holds the set beside the active one; LOOP_COEFF_COMMIT of one staged set
makes it active at once on a disabled slot, with its states as they were, and leaves it pending on an enabled one;
LOOP_FLAGS_READ_CLEAR answers the 32 status words and with CLEAR clears the sticky flags of the masked slots only;
TRACE_ARM starts, aborts and triggers; TRACE_READ answers the bytes of a DONE trace. -/
def Obligations.LoopCommands : Prop :=
  ∀ (s : State) (o : Origin) (p : Bytes),
    let u := byteAt p 0
    let x := s.dev.slot u (byteAt p 1)
    let mask : Word := BitVec.ofNat 32 (getLe p 4 4)
    s.dev.passive = false → s.dev.stopped = false → u < s.dev.nUnits →
    (Waits s o 0x0400 p → Pass (loopCfgTests s.dev p) → Goes (.loopConfig o) s fun t =>
      let y := t.dev.slot u (byteAt p 1)
      Answers t o stOk [] ∧ y.cfg = loopCfgOf p ∧ y.active = (if x.cfg.enable && !(loopCfgOf p).enable &&
        x.commitPend.isSome then x.staged else x.active) ∧
      (x.cfg.enable = false → (loopCfgOf p).enable = true → y.notBefore = s.dev.tick + 1 ∧ y.lastTick = none ∧
        y.faults = 0 ∧ ((loopCfgOf p).track = false → y.s1 = Vector.replicate 8 0 ∧ y.s2 = Vector.replicate 8 0)) ∧
      (x.cfg.enable = true → (loopCfgOf p).enable = false → y.out.value = 0 ∧ y.out.quality = 0x80 ∧ y.mode = .disabled)) ∧
    (Waits s o 0x0401 p → Pass (coefTests s.dev p) → Goes (.loopCoeffStage o) s fun t =>
      let y := t.dev.slot u (byteAt p 1)
      Answers t o stOk [] ∧ y = { x with staged := some (coefOf p) }) ∧
    (∀ n : Fin 32, Waits s o 0x0402 p → Pass (coefCommitTests s.dev p) → mask = 1#32 <<< n.val →
      (vget s.dev.loops u).waiters = [] → byteAt p 1 = 0 → Goes (.loopCoeffCommit o) s fun t =>
        let x := s.dev.slot u n
        let y := t.dev.slot u n
        y.s1 = x.s1 ∧ y.s2 = x.s2 ∧ y.prev = x.prev ∧
        (x.cfg.enable = false → y.active = x.staged ∧ y.staged = none ∧ Answers t o stOk (leBytes 8 s.dev.tick)) ∧
        (x.cfg.enable = true → y.active = x.active ∧ y.commitPend = some (false, s.dev.tick + 1) ∧ Working t o)) ∧
    (∀ clear : Bool, Waits s o 0x0403 p → u < 8 → p.length = 8 → byteAt p 1 = b2n clear → allZero p 2 2 = true →
      Goes (.loopFlagsReadClear o) s fun t =>
        Answers t o stOk ((List.range 32).flatMap fun n => leBytes 4 (slotStatus (s.dev.slot u n))) ∧
        ∀ n : Fin 32, t.dev.slot u n = if clear && mask.getLsbD n then
          { s.dev.slot u n with satState := false, satOut := false, ovf := false, hw := false } else s.dev.slot u n) ∧
    (Waits s o 0x0404 p → Pass (traceTests s.dev p) → Goes (.traceArm o) s fun t =>
      let y := (vget t.dev.loops u).trace
      (byteAt p 1 = 0 → y.state = .armed ∧ y.slot = byteAt p 2 ∧ y.records = [] ∧ y.decim = getLe p 24 2 ∧
        y.pre = getLe p 26 2) ∧
      (byteAt p 1 = 1 → y = {}) ∧
      (byteAt p 1 = 2 → y = { (vget s.dev.loops u).trace with forceNext := true }) ∧
      (vget t.dev.loops u).slots = (vget s.dev.loops u).slots) ∧
    (∀ off len : Nat, Waits s o 0x0405 ([BitVec.ofNat 8 u, 0, 0, 0] ++ leBytes 4 off ++ leBytes 4 len) →
      (vget s.dev.loops u).trace.state = .done → u < 8 → off % 4 = 0 → len % 4 = 0 → 0 < len → len ≤ 4080 →
      off + len ≤ (traceObject u s.dev).length → off < 2 ^ 32 → Goes (.traceRead o) s fun t =>
        Answers t o stOk (slice (traceObject u s.dev) off len) ∧ t.dev.loops = s.dev.loops)
/-- At each filter sample, with the settings that are in force at it, N from 1 to 255: the count goes up by 1 but not above N
on a high sample and down by 1 but not below 0 on a low one; the filtered state is 1 at N, 0 at 0 and otherwise as it was.
With N = 0 the filtered state is the sample and the count 0. Nothing else of the device changes. (The settings in force
are those that wait, where some wait; diApply is their first step.) -/
def Obligations.CounterFilter : Prop :=
  ∀ (i : Fin 32) (high : Bool) (s : State), s.dev.fieldIo = true →
    let c := vget s.dev.dig.di i
    let b := diApply c
    (c.pend = none → b = c) ∧
    ∃ (k : Nat) (f : Bool),
      Becomes (.diFilterSample i high) s
        (modDi i (fun _ => { b with raw := high, count := k, filtered := f }) s.dev) ∧
      (b.cfg.n = 0 → f = high ∧ k = 0) ∧
      (b.cfg.n ≠ 0 → k = (if high then min (b.count + 1) b.cfg.n else b.count - 1) ∧
        (k = b.cfg.n → f = true) ∧ (k = 0 → f = false) ∧ (k ≠ b.cfg.n → k ≠ 0 → f = b.filtered))

/-- New settings of an input are in force at its sample with the count clipped, or started from the filtered state on a change
from N = 0. A wire break is taken and left; a counted edge adds 1, and the wrap raises DI_FASTCOUNT_OVF. Each trigger of
Tables 7.5 and 7.6 takes its channel or group to the next state with its event and its count, and a channel that may be
driven then stands as its demand says. -/
def Obligations.DigitalChannels : Prop :=
  ∀ s : State, s.dev.fieldIo = true →
    (∀ (i : Fin 32) (high : Bool) (p : DiCfg), (vget s.dev.dig.di i).pend = some p →
      Goes (.diFilterSample i high) s fun t =>
        let c := vget s.dev.dig.di i
        (vget t.dev.dig.di i).cfg = p ∧ (vget t.dev.dig.di i).pend = none ∧
        (diApply c).count = (if c.cfg.n = 0 ∧ p.n ≠ 0 then (if c.filtered then p.n else 0) else min c.count p.n) ∧
        (p.mode ≠ c.cfg.mode ∨ p.edge ≠ c.cfg.edge → (vget t.dev.dig.di i).fast = 0)) ∧
    (∀ (i : Fin 32) (low : Bool), s.dev.dig.unsup i = false → (low = true → (vget s.dev.dig.di i).cfg.wire = true) →
      Goes (.diWireBreakTimer i low) s fun t =>
        (vget t.dev.dig.di i).broken = low ∧ (low = true → t.dev.dig.diState i = false ∧ t.dev.dig.diQuality i = 0x82)) ∧
    (∀ (i : Fin 4) (rising : Bool), (vget s.dev.dig.di i).cfg.mode = 1 →
      (vget s.dev.dig.di i).cfg.edge = 2 ∨ (vget s.dev.dig.di i).cfg.edge = b2n (!rising) →
      Goes (.diCountEdge i rising) s fun t =>
        (vget t.dev.dig.di i).fast = ((vget s.dev.dig.di i).fast + 1) % 2 ^ 31 ∧
        ((vget s.dev.dig.di i).fast = 2 ^ 31 - 1 → Raised t .diFastcountOvf i)) ∧
    (∀ j : Fin 32,
      let c := vget s.dev.dig.dout j
      let g : Fin 4 := Fin.ofNat 4 (j / 8)
      (c.state = .off → c.cfg.shortEn = true → (vget s.dev.dig.grp g).state = .normal →
        Goes (.doShortSupplyDetect j true) s fun t =>
          let y := vget t.dev.dig.dout j
          y.state = (if y.demand then .on else .shortSupply) ∧ y.fault = min 65535 (c.fault + 1) ∧
          Raised t (.doGroupFault g) (j + 64)) ∧
      (c.state = .shortSupply → Goes (.doShortSupplyDetect j false) s fun t =>
        let y := vget t.dev.dig.dout j
        y.state = if y.demand then .on else .off) ∧
      (c.state = .on → c.cfg.openEn = true → (vget s.dev.dig.grp g).state = .normal →
        Goes (.doOpenLoadDetect j true) s fun t =>
          let y := vget t.dev.dig.dout j
          y.state = (if y.demand then .openLoad else .off) ∧ y.fault = min 65535 (c.fault + 1) ∧
          Raised t (.doGroupFault g) (j + 32)) ∧
      (c.state = .openLoad → Goes (.doOpenLoadDetect j false) s fun t =>
        let y := vget t.dev.dig.dout j
        y.state = if y.demand then .on else .off) ∧
      (c.state = .on ∨ c.state = .openLoad → Goes (.doIlimTimeout j) s fun t =>
        let y := vget t.dev.dig.dout j
        y.state = .overcurrent ∧ y.demand = false ∧ Raised t (.doGroupFault g) (j + 96)) ∧
      (c.state = .overcurrent → c.cfg.retry = true → (s.dev.doWant j).2 = true →
        Goes (.doRetryTimer j) s fun t =>
          let y := vget t.dev.dig.dout j
          y.state = (if y.demand then .on else .off) ∧ y.trial = y.demand) ∧
      (Goes (.doRetryTrialPassed j) s fun t => vget t.dev.dig.dout j = { c with trial := false }) ∧
      (c.state ≠ .undriven → c.state ≠ .overtemp → c.state ≠ .supplyLost → Goes (.doOvertempEntry j) s fun t =>
        let y := vget t.dev.dig.dout j
        y.state = .overtemp ∧ y.demand = false ∧
        (y.otLatched = true ↔ 2 ≤ (c.otTimes.filter fun x => decide (s.dev.tick ≤ x + 200000)).length) ∧
        Raised t .doThermal (j + 256 * b2n y.otLatched)) ∧
      (c.state = .overtemp → c.otLatched = false → Goes (.doOvertempRelease j) s fun t =>
        let y := vget t.dev.dig.dout j
        y.state = if y.demand then .on else .off) ∧
      (c.state = .overtemp → c.otLatched = true → Becomes (.doOvertempRelease j) s s.dev)) ∧
    ∀ (g : Fin 4) (v : Half),
      let x := vget s.dev.dig.grp g
      (x.state = .normal ∨ x.state = .recovering → Goes (.doGroupSupplyLoss g v) s fun t =>
        (vget t.dev.dig.grp g).state = .lost ∧ Raised t (.doGroupLost g) (65536 * v.toNat) ∧
        ∀ p < 8, (vget t.dev.dig.dout (8 * g + p)).state = .supplyLost ∧
          (vget t.dev.dig.dout (8 * g + p)).demand = false) ∧
      (x.state = .lost → Goes (.doGroupSupplyReturn g v) s fun t =>
        (vget t.dev.dig.grp g).state = (if x.latchOff then .latchedOff else .recovering) ∧
        t.dev.dig.dout = s.dev.dig.dout) ∧
      (x.state = .latchedOff → Goes (.doGroupLatchedFall g v) s fun t =>
        (vget t.dev.dig.grp g).state = .lost ∧ t.dev.dig.dout = s.dev.dig.dout) ∧
      (x.state = .recovering → x.nextSlot < 8 → (vget s.dev.dig.dout (8 * g + x.nextSlot)).state = .supplyLost →
        Goes (.doReenergiseSlot g) s fun t =>
          let k := (vget s.dev.dig.dout (8 * g + x.nextSlot)).kept
          let y := vget t.dev.dig.dout (8 * g + x.nextSlot)
          (k = none → y.state = if y.demand then .on else .off) ∧
          (∀ q, k = some q → q.blocked = true → y.state = q ∧ y.demand = false) ∧ y.kept = none ∧
          (vget t.dev.dig.grp g).state = (if x.nextSlot = 7 then .normal else .recovering) ∧
          (x.nextSlot < 7 → (vget t.dev.dig.grp g).nextSlot = x.nextSlot + 1)) ∧
      (x.low = false → Goes (.doGroupLowSet g v) s fun t =>
        (vget t.dev.dig.grp g).low = true ∧ Raised t (.doGroupLow g) (65536 * v.toNat) ∧
        t.dev.dig.dout = s.dev.dig.dout) ∧
      (Goes (.doGroupLowClear g v) s fun t => (vget t.dev.dig.grp g).low = false ∧ t.dev.dig.dout = s.dev.dig.dout)

/-- A timer that reaches TIMEOUT while RUNNING takes the watchdog to SAFE with its event; EXTSAFE_N takes RUNNING and SAFE to
EXT, and its release takes EXT to RUNNING, or to SAFE where an expiry is held. An evaluation trips each DO with a linked DI
at trip level, keeps latched trips, ends the others and raises TRIP_FIRED for a new one; a staged configuration ends at its
limit. The settings of DI_CONFIG and FIELD_WDG_CONFIG wait; those of DO_CONFIG wait where a task runs and else hold at
once; DIAG_READ answers Table 7.10 and with CLEAR zeroes the counts; TRIP_ARM stages and answers its TOKEN, TRIP_CONFIRM
applies what is staged; OUTPUT_RESET acts as R307 and answers STILL. -/
def Obligations.WatchdogTripsAndCommands : Prop :=
  ∀ s : State, s.dev.fieldIo = true →
    let w := s.dev.dig.wdg
    (∀ n : Fin 8, w.state = .running → w.cfg.feed.getLsbD n = true → vget w.expired n = false →
      vget w.fedAt n + s.dev.wdgTicks ≤ s.dev.tick → Goes (.fieldWdgTimeout n) s fun t =>
        let y := t.dev.dig.wdg
        y.state = .safe ∧ y.holdsExpiry = true ∧ y.lastExpired = some n.val ∧ y.runs = Vector.replicate 8 0 ∧
        Raised t .fieldWdgSafe (1 + 16 * n.val)) ∧
    (Goes .extsafeNAssert s fun t =>
      t.dev.dig.wdg.extLow = true ∧ (w.state = .running ∨ w.state = .safe →
        t.dev.dig.wdg.state = .ext ∧ Raised t .fieldWdgSafe 2 ∧ t.dev.dig.wdg.holdsExpiry = w.holdsExpiry)) ∧
    (Goes .extsafeNRelease s fun t =>
      t.dev.dig.wdg.extLow = false ∧ (w.state = .ext → Raised t .fieldWdgRelease 2 ∧
        (w.holdsExpiry = false → t.dev.dig.wdg.state = .running) ∧
        (w.holdsExpiry = true → t.dev.dig.wdg.state = .safe ∧ t.dev.dig.wdg.runs = Vector.replicate 8 0 ∧
          Raised t .fieldWdgSafe (1 + 16 * w.lastExpired.getD 0)))) ∧
    (∀ c : TripCfg, s.dev.dig.trip.acting = true → s.dev.dig.trip.armed = some c → Goes .tripEvaluation s fun t =>
      ∀ j : Fin 32,
        let linked := ∃ i < 32, (vget c.links j).getLsbD i = true ∧ s.dev.dig.atTrip c i = true
        (t.dev.dig.trip.latched.getLsbD j = true ↔
          s.dev.dig.trip.latched.getLsbD j = true ∨ (linked ∧ c.latch.getLsbD j = true)) ∧
        (t.dev.dig.trip.tripped.getLsbD j = true ↔ linked ∨ t.dev.dig.trip.latched.getLsbD j = true) ∧
        (linked → s.dev.dig.trip.tripped.getLsbD j = false → t.dev.evt.pending.getLsbD 72 = true)) ∧
    (Becomes .tripStageExpiry s (modTrip (fun x => { x with staged := none }) s.dev)) ∧
    ∀ (o : Origin) (p : Bytes),
      (∀ (m : DigMeas) (clear : Bool), Waits s o 0x0503 [if clear then 1 else 0, 0, 0, 0] →
        Goes (.diagRead o m) s fun t =>
          Answers t o stOk (diagPayload m s.dev) ∧
          (clear = true → ∀ i : Fin 32, (vget t.dev.dig.di i).breaks = 0 ∧ (vget t.dev.dig.dout i).fault = 0) ∧
          (clear = false → t.dev.dig = s.dev.dig)) ∧
      (s.dev.passive = false →
        (Waits s o 0x0500 p → Pass (diCfgTests p) → Goes (.diConfig o) s fun t =>
          Answers t o stOk [] ∧ ∀ i : Fin 32,
            (vget t.dev.dig.di i).cfg = (vget s.dev.dig.di i).cfg ∧
            (vget t.dev.dig.di i).filtered = (vget s.dev.dig.di i).filtered ∧
            (vget t.dev.dig.di i).pend =
              if byteAt p 0 ≤ i.val ∧ i.val < byteAt p 0 + byteAt p 1 then
                (let k := i.val - byteAt p 0
                 some { n := byteAt p (4 + 4 * k), ts := byteAt p (5 + 4 * k) % 4, wire := nbit (byteAt p (5 + 4 * k)) 2,
                        mode := byteAt p (6 + 4 * k) % 4, edge := byteAt p (6 + 4 * k) / 4 % 4 })
              else (vget s.dev.dig.di i).pend) ∧
        (Waits s o 0x0501 p → Pass (doCfgTests p) → Goes (.doConfig o) s fun t =>
          Answers t o stOk [] ∧ ∀ j : Fin 32, byteAt p 0 ≤ j.val → j.val < byteAt p 0 + byteAt p 1 →
            let k := j.val - byteAt p 0
            let c : DoCfg := {
              safe := safeMode (byteAt p (4 + 4 * k)), openEn := nbit (byteAt p (5 + 4 * k)) 0,
              shortEn := nbit (byteAt p (5 + 4 * k)) 1, retry := nbit (byteAt p (5 + 4 * k)) 2,
              ilim := byteAt p (6 + 4 * k) }
            let y := vget t.dev.dig.dout j
            y.held = (vget s.dev.dig.dout j).held ∧
            (s.dev.cycleRun = true → y.pend = some c ∧ y.cfg = (vget s.dev.dig.dout j).cfg) ∧
            (s.dev.cycleRun = false → y.pend = none ∧ y.cfg = c)) ∧
        (Waits s o 0x0502 p → Pass (wdgCfgTests p) → Goes (.fieldWdgConfig o) s fun t =>
          Answers t o stOk [] ∧ t.dev.dig.wdg = { w with pend := some {
            timeout := getLe p 0 4, feed := BitVec.ofNat 8 (byteAt p 4), reqPartner := BitVec.ofNat 8 (byteAt p 5),
            manual := nbit (byteAt p 6) 0 } }) ∧
        (Waits s o 0x0504 p → p.length = 144 → allZero p 12 4 = true → Goes (.tripArm o) s fun t =>
          Answers t o stOk (leBytes 4 (crc32c p).toNat ++ zeros 4) ∧
          t.dev.dig.trip = { s.dev.dig.trip with staged := some (tripOf p) }) ∧
        (∀ c : TripCfg, Waits s o 0x0505 (leBytes 4 c.token.toNat) → s.dev.stopped = false →
          s.dev.dig.trip.staged = some c → Goes (.tripConfirm o) s fun t =>
            Answers t o stOk [] ∧ t.dev.dig.trip = { s.dev.dig.trip with armed := some c, staged := none } ∧
            Raised t .tripConfigChanged c.token.toNat ∧ t.dev.pwr.confDirty = true) ∧
        (∀ cool : Word, Waits s o 0x0506 p → s.dev.stopped = false → p.length = 12 → byteAt p 0 ≠ 0 →
          byteAt p 0 ≤ 15 → allZero p 1 3 = true → byteAt p 8 ≤ 15 → allZero p 9 3 = true →
          Goes (.outputReset o cool) s fun t =>
            let m : Word := BitVec.ofNat 32 (getLe p 4 4)
            Answers t o stOk (leBytes 4 (stillMask (byteAt p 0) m (byteAt p 8) t.dev).toNat) ∧
            (nbit (byteAt p 0) 0 = true → ∀ j : Fin 32, m.getLsbD j = true →
              (vget s.dev.dig.dout j).state = .overcurrent →
              let y := vget t.dev.dig.dout j
              y.state = if y.demand then .on else .off) ∧
            (nbit (byteAt p 0) 1 = true → ∀ g : Fin 4, nbit (byteAt p 8) g = true →
              (vget s.dev.dig.grp g).state = .latchedOff → (vget t.dev.dig.grp g).state = .recovering) ∧
            (nbit (byteAt p 0) 2 = true → ∀ j : Fin 32,
              t.dev.dig.trip.latched.getLsbD j = true ↔ s.dev.dig.trip.latched.getLsbD j = true ∧
                (m.getLsbD j = false ∨ (t.dev.dig.tripCause (s.dev.dig.trip.armed.getD {}) j).isSome)) ∧
            (nbit (byteAt p 0) 3 = true → w.state = .safe → t.dev.dig.wdg.armed = true)))

/-- At an instant of its rate a conversion becomes the channel's VALUE, rounded, through its trim, with the quality of Table
8.4 (BAD_SUPPLY for a loop-powered channel while its supply is away); a BAD_WIRE result raises AI_WIREBREAK where it is
armed. Loop power in limit is switched off with its event, and a trial that ends without limit switches it on. VFLD_A's
loss drives every output to 0 mA; its return lets the outputs take their slots in order. COMPLIANCE, OPEN, MISMATCH,
fold-back and THERMAL_OFF are taken and left as R323 to R328 say, each with its event. -/
def Obligations.CurrentLoopChannels : Prop :=
  ∀ s : State, s.dev.fieldIo = true →
    (∀ (i : Fin 16) (code : BitVec 24),
      let c := vget s.dev.ana.ai i
      let value := trimmed c.trim (divNearest (clampInt (-262144) 6815744 code.toInt) 4)
      c.converts (s.dev.tick + 1) = true → Goes (.aiConversion i code) s fun t =>
        let y := vget t.dev.ana.ai i
        y.elem.value = BitVec.ofInt 32 value ∧
        (s.dev.ana.grace = true → c.loopPower = true → y.elem.quality = 0x84) ∧
        ((s.dev.ana.grace && c.loopPower) = false → y.elem.quality =
          if c.classPlain then (if value ≤ 1605632 then 0x00 else 0x80)
          else if value < 0x3999A then 0x82 else if value < 0x3CCCD then 0x50 else if value ≤ 0x148000 then 0x00
          else if value ≤ 0x150000 then 0x51 else 0x80) ∧
        (y.elem.quality = 0x82 → c.evtWire = true → c.wireArmed = true →
          Raised t .aiWirebreak (i + 65536 * microAmp value)) ∧
        ∀ k : Fin 16, k ≠ i → vget t.dev.ana.ai k = vget s.dev.ana.ai k) ∧
    (∀ i : Fin 16,
      ((vget s.dev.ana.ai i).lpOn = true → Goes (.aiLooppowerTimeout i) s fun t =>
        (vget t.dev.ana.ai i).lpOn = false ∧ (vget t.dev.ana.ai i).retry = true ∧ Raised t .aiLooppowerLimit i) ∧
      ((vget s.dev.ana.ai i).retry = true → Goes (.aiLooppowerRetry i false) s fun t =>
        (vget t.dev.ana.ai i).lpOn = true ∧ (vget t.dev.ana.ai i).retry = false) ∧
      Becomes (.aiLooppowerRetry i true) s s.dev) ∧
    (∀ v : Half,
      (s.dev.ana.vfld ≠ .lost → Goes (.vfldALoss v) s fun t =>
        t.dev.ana.vfld = .lost ∧ t.dev.ana.grace = true ∧
        Raised t .aoSupplyLow (b2n s.dev.ana.low + 2 + 65536 * v.toNat) ∧
        (∀ j : Fin 8, (vget t.dev.ana.ao j).demand = 0) ∧ ∀ i : Fin 16, (vget t.dev.ana.ai i).lpOn = false) ∧
      (s.dev.ana.vfld = .lost → Goes (.vfldAReturn v) s fun t =>
        t.dev.ana.vfld = .recovering ∧ t.dev.ana.nextSlot = 0 ∧ t.dev.ana.ao = s.dev.ana.ao ∧
        ∀ i : Fin 16, (vget t.dev.ana.ai i).lpOn = (vget s.dev.ana.ai i).loopPower) ∧
      (s.dev.ana.low = false → Goes (.vfldALowSet v) s fun t =>
        t.dev.ana.low = true ∧ t.dev.ana.ao = s.dev.ana.ao ∧
        Raised t .aoSupplyLow (1 + 2 * b2n (s.dev.ana.vfld == .lost) + 65536 * v.toNat)) ∧
      Goes (.vfldALowClear v) s fun t => t.dev.ana.low = false ∧ t.dev.ana.ao = s.dev.ana.ao) ∧
    (s.dev.ana.vfld = .recovering → s.dev.ana.nextSlot < 8 → Goes .aoRecoverySlot s fun t =>
      t.dev.ana.vfld = (if s.dev.ana.nextSlot = 7 then .normal else .recovering) ∧
      (s.dev.ana.nextSlot < 7 → t.dev.ana.nextSlot = s.dev.ana.nextSlot + 1) ∧
      ∀ j : Fin 8, j.val ≠ s.dev.ana.nextSlot → vget t.dev.ana.ao j = vget s.dev.ana.ao j) ∧
    (s.dev.ana.vfld ≠ .lost → Becomes .aiSupplyGraceEnd s { s.dev with ana := { s.dev.ana with grace := false } }) ∧
    ∀ j : Fin 8,
      let c := vget s.dev.ana.ao j
      let out := fun (t : State) => vget t.dev.ana.ao j
      (s.dev.aoSuspended j = false → c.openLoop = false → c.compliance = false → Goes (.aoComplianceDetect j true) s fun t =>
        (out t).compliance = true ∧ (out t).demand = c.demand ∧ (out t).entries = min 65535 (c.entries + 1)) ∧
      (c.openLoop = true → Becomes (.aoComplianceDetect j true) s s.dev) ∧
      (Goes (.aoComplianceDetect j false) s fun t => (out t).compliance = false) ∧
      (∀ reg : Word, c.compliance = true → c.compExpired = false → Goes (.aoComplianceTimeExpiry j reg) s fun t =>
        Raised t .aoCompliance (j + 65536 * microAmp reg.toInt) ∧ (out t).demand = c.demand) ∧
      (s.dev.aoSuspended j = false → c.openLoop = false → Goes (.aoOpenDetect j true) s fun t =>
        (out t).openLoop = true ∧ (out t).compliance = false ∧ (out t).demand = c.demand ∧ Raised t .aoOpen j) ∧
      (Goes (.aoOpenDetect j false) s fun t => (out t).openLoop = false ∧ (out t).compliance = c.compliance) ∧
      (s.dev.aoSuspended j = false → c.mismatch = false → Goes (.aoMismatchDetect j true) s fun t =>
        (out t).mismatch = true ∧ (c.cfg.mismatchOff = true → (out t).demand = 0) ∧
        Raised t .aoReadbackMismatch (j + 65536 * microAmp c.readback.value.toInt)) ∧
      (Goes (.aoMismatchDetect j false) s fun t => (out t).mismatch = false) ∧
      (∀ v : Word, Goes (.aoReadbackConversion j v) s fun t =>
        (out t).readback.value = v ∧ (out t).readback.quality = s.dev.aoQuality j ∧ (out t).demand = c.demand) ∧
      (∀ temp : Half, Goes (.aoTemperatureChange j temp) s fun t =>
        (out t).temp = temp ∧
        ((out t).foldback = true ↔ 2400 ≤ temp.toInt ∨ (c.foldback = true ∧ 2368 ≤ temp.toInt)) ∧
        ((out t).thermalOff = true ↔ c.thermalOff = true ∨ 2640 ≤ temp.toInt) ∧
        ((out t).thermalOff = true → (out t).demand = 0) ∧
        (2400 ≤ temp.toInt → c.foldback = false → Raised t .aoThermalFoldback (j + 65536 * temp.toNat)) ∧
        (2640 ≤ temp.toInt → c.thermalOff = false → Raised t .aoThermalOff (j + 65536 * temp.toNat)) ∧
        ((out t).foldback = true → (out t).demand.toInt ≤ max 0 (1572864 - divNearest (65536 * (temp.toInt - 2400)) 10))) ∧
      (∀ temp : Half, temp.toInt < 2240 → Goes (.aoThermalRecover j temp) s fun t =>
        (out t).thermalOff = false ∧ (out t).foldback = false ∧ (out t).temp = temp)

/-- A channel that no higher rank holds drives its committed current, clamped to 0 to 24 mA, with CLIPPED outside it and the
code of its trimmed target. AI_CONFIG's rate, loop power, class and event bits hold for its channels; AO_CONFIG's settings
wait for a commit where a task runs; ANALOG_DIAG_READ answers Table 8.12 and with CLEAR zeroes the counts. ANALOG_CALIBRATE
READ answers and changes nothing, AI_CAPTURE works until its average is held as the point, AO_DRIVE and AO_RELEASE take and
leave the calibration point, AO_MEASURED holds it, AI_APPLY makes the trim of its two points and discards them,
RESTORE_FACTORY of an input removes its trim. -/
def Obligations.CurrentLoopCommands : Prop :=
  ∀ s : State, s.dev.fieldIo = true →
    (∀ (j : Fin 8) (d : Dev),
      let c := vget d.ana.ao j
      d.fieldSafe = false → d.writerSafe 3 j = false → d.aoZero j = false → c.forced = none → d.boundSlot 1 j = none →
      c.slotHold = none → c.drive = none → c.checkBad = false → c.foldback = false →
        let y := vget (settleAo j d).ana.ao j
        y.demand.toInt = max 0 (min 1572864 c.image.toInt) ∧
        (y.clipped = true ↔ c.image.toInt < 0 ∨ 1572864 < c.image.toInt) ∧
        y.code = BitVec.ofInt 16 (max 0 (min 65535 (divNearest (trimmed c.trim y.demand.toInt) 24)))) ∧
    ∀ (o : Origin) (p : Bytes),
      let cal := fun (op ch pt : Byte) (v : Word) => [op, ch, pt, 0] ++ leBytes 4 v.toNat ++ zeros 4
      (∀ (m : AnaMeas) (clear : Bool), Waits s o 0x0602 [if clear then 1 else 0, 0, 0, 0] →
        Goes (.analogDiagRead o m) s fun t =>
          Answers t o stOk (anaPayload m s.dev) ∧
          (clear = true → (∀ i : Fin 16, (vget t.dev.ana.ai i).wbCount = 0 ∧ (vget t.dev.ana.ai i).rangeCount = 0) ∧
            ∀ j : Fin 8, (vget t.dev.ana.ao j).entries = 0) ∧
          (clear = false → t.dev.ana = s.dev.ana)) ∧
      (s.dev.passive = false →
        (Waits s o 0x0600 p → Pass (aiCfgTests p) → Goes (.aiConfig o) s fun t =>
          Answers t o stOk [] ∧ ∀ i : Fin 16, byteAt p 0 ≤ i.val → i.val < byteAt p 0 + byteAt p 1 →
            let k := i.val - byteAt p 0
            let c := vget s.dev.ana.ai i
            let y := vget t.dev.ana.ai i
            y.rate = byteAt p (4 + 4 * k) ∧ y.loopPower = nbit (byteAt p (5 + 4 * k)) 0 ∧
            y.classPlain = nbit (byteAt p (5 + 4 * k)) 1 ∧ y.evtWire = nbit (byteAt p (6 + 4 * k)) 0 ∧
            y.evtRange = nbit (byteAt p (6 + 4 * k)) 1 ∧ y.elem = c.elem ∧
            (y.rate ≠ c.rate → s.dev.tick < y.rateAt ∧ y.rateAt % convPeriod y.rate = 0 ∧
              y.rateAt ≤ s.dev.tick + convPeriod y.rate ∧ y.oldRate = if s.dev.tick < c.rateAt then c.oldRate else c.rate)) ∧
        (Waits s o 0x0601 p → Pass (aoCfgTests p) → Goes (.aoConfig o) s fun t =>
          Answers t o stOk [] ∧ ∀ j : Fin 8, byteAt p 0 ≤ j.val → j.val < byteAt p 0 + byteAt p 1 →
            let k := j.val - byteAt p 0
            let c : AoCfg := {
              safe := safeMode (byteAt p (4 + 12 * k)), mismatchOff := nbit (byteAt p (5 + 12 * k)) 0,
              compTime := getLe p (6 + 12 * k) 2, safeMa := BitVec.ofNat 32 (getLe p (8 + 12 * k) 4) }
            let y := vget t.dev.ana.ao j
            (s.dev.cycleRun = true → y.pend = some c ∧ y.cfg = (vget s.dev.ana.ao j).cfg) ∧
            (s.dev.cycleRun = false → y.pend = none ∧ y.cfg = c)) ∧
        (∀ i : Fin 16, Waits s o 0x0603 (cal 0 (BitVec.ofNat 8 i) 0 0) → Goes (.analogCalibrate o) s fun t =>
          Answers t o stOk (aiCalPayload i 0 s.dev) ∧ t.dev.ana = s.dev.ana) ∧
        (∀ (i : Fin 16) (high : Bool) (v : Word), Waits s o 0x0603 (cal 1 (BitVec.ofNat 8 i) (if high then 1 else 0) v) →
          bandBad high v.toInt = false → s.dev.ana.capture = none → (∀ j : Fin 8, (vget s.dev.ana.ao j).drive = none) →
          Goes (.analogCalibrate o) s fun t =>
            Working t o ∧ t.dev.ana.capture = some {
              ch := i, high := high, ref := v.toInt, sum := 0, count := 0, waiter := o }) ∧
        (∀ (i : Fin 16) (lo hi : CalPoint), Waits s o 0x0603 (cal 2 (BitVec.ofNat 8 i) 0 0) →
          (vget s.dev.ana.ai i).ptLo = some lo → (vget s.dev.ana.ai i).ptHi = some hi → trimOk ⟨lo, hi⟩ = true →
          Goes (.analogCalibrate o) s fun t =>
            let y := vget t.dev.ana.ai i
            y.trim = some ⟨lo, hi⟩ ∧ y.ptLo = none ∧ y.ptHi = none ∧ t.dev.pwr.confDirty = true) ∧
        (∀ (i : Fin 16), Waits s o 0x0603 (cal 7 (BitVec.ofNat 8 i) 0 0) → Goes (.analogCalibrate o) s fun t =>
          (vget t.dev.ana.ai i).trim = none ∧ t.dev.pwr.confDirty = true) ∧
        (s.dev.stopped = false → ∀ (j : Fin 8) (high : Bool),
          let ch := BitVec.ofNat 8 (128 + j.val)
          let pt : Byte := if high then 1 else 0
          (Waits s o 0x0603 (cal 3 ch pt 0) → s.dev.driveRefused j = false → s.dev.fieldSafe = false →
            s.dev.writerSafe 3 j = false → s.dev.ana.capture = none → (vget s.dev.ana.ao j).foldback = false →
            (∀ k : Fin 8, k ≠ j → (vget s.dev.ana.ao k).drive = none) → (vget s.dev.ana.ao j).slotHold = none →
            Goes (.analogCalibrate o) s fun t =>
              let y := vget t.dev.ana.ao j
              y.drive = some high ∧ y.demand.toInt = (if high then 20 else 4) * 65536) ∧
          (∀ v : Word, Waits s o 0x0603 (cal 4 ch pt v) → bandBad high v.toInt = false →
            (vget s.dev.ana.ao j).drive = some high → Goes (.analogCalibrate o) s fun t =>
              let y := vget t.dev.ana.ao j
              (if high then y.ptHi else y.ptLo) = some ⟨(if high then 20 else 4) * 65536, v.toInt⟩) ∧
          (Waits s o 0x0603 (cal 6 ch 0 0) → Goes (.analogCalibrate o) s fun t =>
            (vget t.dev.ana.ao j).drive = none))) ∧
      ∀ x : Capture, s.dev.ana.capture = some x → 0 < x.count → x.ch < 16 → Goes .aiCaptureDone s fun t =>
        let y := vget t.dev.ana.ai x.ch
        (if x.high then y.ptHi else y.ptLo) = some ⟨x.ref, divNearest x.sum x.count⟩ ∧ t.dev.ana.capture = none


/-- A port's link that changes is taken and raises the port's event; ARP, ICMP and IGMP answer for the device's own address
and groups and for no other. In HSR or PRP mode supervision frames leave and the nodes' marks start anew, a tag of the
wrong kind or LAN is reported, an HSR frame for others goes on to the other port unless a copy of the last 400 ms was seen,
and a node ages out. The PTP clock follows a better master's Announce and takes its leap offset under discipline, locks at
the sixteenth good offset and unlocks at the fourth bad one or at a timeout, and sends and answers messages as its settings
say. NET_CONFIG and PTP_CONFIG that pass take effect. -/
def Obligations.PortsAndClock : Prop :=
  ∀ s : State,
    let n := s.dev.net
    let x := n.ptp
    (∀ (p : Fin 2) (up : Bool), (if p = 0 then n.linkA else n.linkB) = !up → (up = true → s.dev.portUsed p = true) →
      Goes (.ethLinkChange p up) s fun t =>
        t.dev.net.linkA = (if p = 0 then up else n.linkA) ∧ t.dev.net.linkB = (if p = 0 then n.linkB else up) ∧
        Raised t (if p = 0 then .portALink else .portBLink) (b2n up)) ∧
    (∀ (p : Fin 2) (target sender : Word), s.dev.linkUp p = true → n.cfg.ip ≠ 0 →
      Goes (.arpRequestReceived p target sender) s fun t =>
        Sends s t (if target = n.cfg.ip then [.arpReply sender] else []) ∧ t.dev.net = n) ∧
    (∀ (p : Fin 2) (dst src : Word) (data : Bytes), s.dev.linkUp p = true → n.cfg.ip ≠ 0 →
      Goes (.icmpEchoRequestReceived p dst src data) s fun t =>
        Sends s t (if dst = n.cfg.ip then [.icmpReply src data] else []) ∧ t.dev.net = n) ∧
    (∀ (p : Fin 2) (group : Word), s.dev.linkUp p = true → Goes (.igmpQueryReceived p group) s fun t =>
      Sends s t ((s.dev.joined.filter fun g => group = 0 ∨ g = group).map .igmpReport) ∧ t.dev.net = n) ∧
    (n.cfg.mode ≠ 0 → Goes .hsrSupervisionSend s fun t =>
      .eth 0 0 [] ∈ t.dev.out ∧ .eth 1 0 [] ∈ t.dev.out ∧ t.dev.net.nodes.length = n.nodes.length ∧
      (∀ y ∈ t.dev.net.nodes, y.seenA = false ∧ y.seenB = false) ∧
      (∀ y ∈ n.nodes, y.seenA ≠ y.seenB → y.onePort = 2 → Happened t .hsrPrpError)) ∧
    (n.cfg.mode = 0 → Becomes .hsrSupervisionSend s s.dev) ∧
    (∀ (p : Fin 2) (fr : RedFrame), s.dev.linkUp p = true → (n.nodes.any fun y => y.mac == fr.mac) = true →
      fr.mac ≠ macA s.mem → fr.mac ≠ macA s.mem + 1 →
      (n.cfg.mode = 1 → fr.tag = .prp (decide (p = 0)) → Goes (.hsrPrpFrameReceived p fr) s fun t =>
        Raised t .hsrPrpError (1 + 8 * p)) ∧
      (n.cfg.mode = 1 → fr.tag = .hsr → Goes (.hsrPrpFrameReceived p fr) s fun t =>
        Raised t .hsrPrpError (4 + 8 * p)) ∧
      (n.cfg.mode = 2 → fr.tag = .hsr → fr.forMe = false → Goes (.hsrPrpFrameReceived p fr) s fun t =>
        let seen := ∃ y ∈ n.dups, y.1 = 2 * fr.mac + p ∧ y.2.1 = fr.seq ∧ s.dev.tick < y.2.2 + 8000
        (seen → Sends s t []) ∧
        (¬seen → Sends s t [.eth (1 - p) 1 fr.data] ∧ (2 * fr.mac + p.val, fr.seq, s.dev.tick) ∈ t.dev.net.dups))) ∧
    (∀ mac : Nat, Goes (.hsrNodeAgeout mac) s fun t => t.dev.net.nodes = n.nodes.filter fun y => y.mac != mac) ∧
    (∀ (p : Fin 2) (offset : Int), x.cfg.enable = true → x.isMaster = false → s.dev.bestMaster.isSome = true →
      x.port = p.val → Goes (.ptpSyncReceived p offset) s fun t =>
        t.dev.net.ptp.offset = offset ∧
        (x.locked = false → x.good = 15 → offset.natAbs < 1000 →
          t.dev.net.ptp.locked = true ∧ Raised t .ptpLockChange 1) ∧
        (x.locked = true → x.bad = 3 → 10000 < offset.natAbs →
          t.dev.net.ptp.locked = false ∧ Raised t .ptpLockChange 0) ∧
        (x.locked = true → offset.natAbs ≤ 10000 → t.dev.net.ptp.locked = true)) ∧
    (x.locked = true → Goes .ptpSyncTimeout s fun t =>
      t.dev.net.ptp.locked = false ∧ Raised t .ptpLockChange 0 ∧ t.dev.rtc.leapFromPtp = false) ∧
    (x.cfg.enable = true → x.isMaster = true →
      (Goes (.ptpSendTimer 0) s fun t =>
        Sends s t (s.dev.ptpPorts.map (fun p => .ptp p 0 []) ++ s.dev.ptpPorts.map fun p => .ptp p 8 [])) ∧
      (Goes (.ptpSendTimer 1) s fun t => Sends s t (s.dev.ptpPorts.map fun p => .ptp p 0xB []))) ∧
    (x.cfg.enable = true → x.cfg.p2p = true → Goes (.ptpSendTimer 2) s fun t =>
      Sends s t (s.dev.ptpPorts.map fun p => .ptp p 2 [])) ∧
    (∀ k : Fin 3, x.cfg.enable = false → Becomes (.ptpSendTimer k) s s.dev) ∧
    (∀ (m : PtpMaster) (utc : Int) (valid l59 l61 : Bool), x.cfg.enable = true → x.cfg.slaveOnly = true →
      s.dev.linkUp 0 = true → Goes (.ptpAnnounceReceived 0 m utc valid l59 l61) s fun t =>
        let y := t.dev.net.ptp
        y.masterA = some m ∧ y.isMaster = false ∧ y.port = 0 ∧ y.gmId = m.gmId ∧ y.steps = m.steps + 1 ∧
        (s.dev.discActive = true → valid = true → t.dev.rtc.leapFromPtp = true ∧ t.dev.rtc.leap = utc - 32)) ∧
    (∀ p : Fin 2, x.cfg.enable = true → Goes (.ptpAnnounceReceiptTimeout p) s fun t =>
      t.dev.net.ptp.masterA = (if p = 0 then none else x.masterA) ∧
      t.dev.net.ptp.masterB = (if p = 0 then x.masterB else none)) ∧
    (∀ (p : Fin 2) (data : Bytes), x.cfg.enable = true → s.dev.linkUp p = true →
      (x.cfg.p2p = true → Goes (.ptpDelayReqReceived p true data) s fun t =>
        Sends s t [.ptp p 3 data, .ptp p 0xA data]) ∧
      (x.isMaster = true → x.cfg.p2p = false → Goes (.ptpDelayReqReceived p false data) s fun t =>
        Sends s t [.ptp p 9 data])) ∧
    (∀ (p : Fin 2) (delay : Int), x.cfg.enable = true → x.port = p.val →
      Goes (.ptpDelayRespReceived p delay) s fun t => t.dev.net.ptp = { x with delay := delay }) ∧
    (∀ (o : Origin) (p : Bytes), Waits s o 0x0700 p → Pass (netTests s.dev p) → Goes (.netConfig o) s fun t =>
      Answers t o stOk [] ∧ t.dev.net.cfg = netCfgOf p ∧ t.dev.pwr.netConfigured = true ∧ t.dev.pwr.confDirty = true ∧
      ((netCfgOf p).ip = 0 → t.dev.net.partners = [] ∧ t.dev.net.subscribers = []) ∧
      ((netCfgOf p).mode = n.cfg.mode → (netCfgOf p).flags = n.cfg.flags →
        t.dev.net.linkA = n.linkA ∧ t.dev.net.linkB = n.linkB)) ∧
    ∀ (o : Origin) (p : Bytes), Waits s o 0x0703 p → Pass (ptpTests s.dev p) → Goes (.ptpConfig o) s fun t =>
      Answers t o stOk (ptpStatus t.dev) ∧
      ((byteAt p 1).testBit 7 = true → t.dev.net = n) ∧
      ((byteAt p 1).testBit 7 = false → t.dev.net.ptp.cfg = ptpCfgOf p ∧ t.dev.pwr.confDirty = true)

/-- The stack master announces itself and its sets in one datagram while it has at most 64 of them, and sends none while
fenced or safe; an announcement updates its sender's entry, or takes a new one with PARTNER_NEW, or is dropped and counted;
a partner silent past its loss limit, or withdrawing, is LOST with its cause. A datagram that fails its framing, or came
fragmented, is discarded and counted. A set of one fragment from the followed sender, of a cycle newer than the last held,
is held and acknowledged, and one not newer from the same sender is not held; an acknowledgement is recorded for its
subscriber alone. A request for a set or for events is answered and, where granted, recorded; an answer makes a requested
subscription active or refused; a retry requests again; the event queue leaves in event frames. PARTNER_TABLE_READ answers
its entries and SUBSCRIBE does its operation. -/
def Obligations.StationProtocol : Prop :=
  ∀ s : State,
    let n := s.dev.net
    (s.dev.stopped = false → s.dev.master = true → s.dev.sys.fwReady = true → s.dev.sys.recovery = false →
      n.cfg.partnerId ≠ 0 → n.cfg.ip ≠ 0 → s.dev.pubSets.length ≤ 64 → Goes .announceSend s fun t =>
        Sends s t [datagram s.dev announceGroup 0x01 (announcePage s.dev 0 1 s.dev.pubSets)]) ∧
    (s.dev.stopped = true → Becomes .announceSend s s.dev) ∧
    (∀ (ip : Word) (data : Bytes) (x : StHeader), Heard s data x 0x01 → s.dev.master = true → announceOk x = true →
      (∀ k, s.dev.partnerOf x.partner x.sender = some k → Goes (.announceReceived ip data) s fun t =>
        lget t.dev.net.partners k = annUpdate ip x s.dev.tick (lget n.partners k)) ∧
      (s.dev.partnerOf x.partner x.sender = none →
        (∀ k, s.dev.newEntry = some k → Goes (.announceReceived ip data) s fun t =>
          lget t.dev.net.partners k = annUpdate ip x s.dev.tick {} ∧ Raised t .partnerNew k) ∧
        (s.dev.newEntry = none → Goes (.announceReceived ip data) s fun t =>
          t.dev.net = { n with dropped := min 0xFFFFFFFF (n.dropped + 1) }))) ∧
    (∀ k : Fin 512, (lget n.partners k).state = .present →
      (lget n.partners k).lastAnn + n.cfg.lossCount * (lget n.partners k).annPeriod * 20 ≤ s.dev.tick →
      Goes (.announceTimeout k) s fun t =>
        (lget t.dev.net.partners k).state = .lost ∧ (lget t.dev.net.partners k).lossCause = 1 ∧
        Raised t .partnerLost (k + 512)) ∧
    (∀ (ip : Word) (data : Bytes) (x : StHeader) (k : Nat), Heard s data x 0x02 →
      s.dev.partnerOf x.partner x.sender = some k → (lget n.partners k).ip = ip → (lget n.partners k).state = .present →
      Goes (.withdrawReceived ip data) s fun t =>
        (lget t.dev.net.partners k).state = .lost ∧ (lget t.dev.net.partners k).lossCause = 4 ∧
        Raised t .partnerLost (k + 2048)) ∧
    (n.cfg.ip ≠ 0 → ∀ (data : Bytes) (frag : Bool),
      (stationParse data = none ∨ frag = true ∧ getBe data 3 1 ≠ 0x20 ∧ getBe data 3 1 ≠ 0x21 →
        Becomes (.datagramRejected data frag) s { s.dev with net := { n with discarded := n.discarded + 1 } })) ∧
    (∀ (ip : Word) (data : Bytes) (x : StHeader) (i k : Nat),
      let p := x.payload
      let u := s.dev.sub i
      let y := lget s.dev.subSets i
      let cycle : Word := BitVec.ofNat 32 (getBe p 4 4)
      let from_ := (lget n.partners k).sender
      Heard s data x 0x10 → s.dev.master = true → s.dev.subFrom x (getBe p 0 2) = some (i, k) → u.state = .active →
      (lget n.partners k).ip = ip →
      (fragOk y.items.length p = false → Goes (.setDataReceived ip data) s fun t =>
        t.dev.net = { n with discarded := n.discarded + 1 }) ∧
      (fragOk y.items.length p = true → u.lastFrom = from_ → (∃ c, u.lastCycle = some c ∧ seqGreater cycle c = false) →
        Goes (.setDataReceived ip data) s fun t => t.dev.net.subs = n.subs ∧ t.dev.prog = s.dev.prog) ∧
      (fragOk y.items.length p = true → 1 ≤ y.items.length → y.items.length ≤ 176 →
        u.lastFrom ≠ from_ ∨ (∀ c, u.lastCycle = some c → seqGreater cycle c = true) →
        (∀ c, u.asmCycle = some c → seqGreater cycle c = true) →
        Goes (.setDataReceived ip data) s fun t =>
          (t.dev.sub i).lastCycle = some cycle ∧ (t.dev.sub i).lastFrom = from_ ∧
          (t.dev.sub i).held = min 0xFFFFFFFF (u.held + 1) ∧
          (s.dev.mayExchange = true →
            datagram s.dev ip 0x11 (beBytes 2 y.setNo ++ zeros 2 ++ beBytes 4 cycle.toNat) ∈ t.dev.out))) ∧
    (∀ (ip : Word) (data : Bytes) (x : StHeader), Heard s data x 0x11 → x.payload.length = 8 →
      let c : Word := BitVec.ofNat 32 (getBe x.payload 4 4)
      Goes (.setAckReceived ip data) s fun t =>
        t.dev.net.subscribers.length = n.subscribers.length ∧ ∀ (i : Nat) (y : Subscriber), n.subscribers[i]? = some y →
          let own := y.setNo = getBe x.payload 0 2 ∧ y.partnerId = x.partner ∧ y.sender = x.sender ∧ y.ip = ip ∧
            ∀ l, y.lastAck = some l → seqGreater c l = true
          (own → t.dev.net.subscribers[i]? = some { y with lastAck := some c }) ∧
          (¬own → t.dev.net.subscribers[i]? = some y)) ∧
    (∀ (ip : Word) (data : Bytes) (x : StHeader), Heard s data x 0x12 → x.payload.length = 12 →
      allZero x.payload 2 2 = true →
      let m := getBe x.payload 0 2
      let r := s.dev.subscribeResult x
      (m ≠ 0xFFFF → s.dev.stopped = false → s.dev.master = true → Goes (.subscribeReqReceived ip data) s fun t =>
        Sends s t [datagram s.dev ip 0x13 (beBytes 2 m ++ beBytes 1 r ++ zeros 1)] ∧
        (r ≠ 0 → t.dev.net.subscribers = n.subscribers) ∧
        (r = 0 → ∃ y ∈ t.dev.net.subscribers, y.setNo = m ∧ y.partnerId = x.partner ∧ y.sender = x.sender ∧ y.ip = ip ∧
          y.lost = false)) ∧
      (m = 0xFFFF → getBe x.payload 4 4 = 0 → n.evSubs.length < 8 → Goes (.subscribeReqReceived ip data) s fun t =>
        Sends s t [datagram s.dev ip 0x13 (beBytes 2 m ++ beBytes 1 0 ++ zeros 1)] ∧
        ⟨x.partner, x.sender, ip⟩ ∈ t.dev.net.evSubs)) ∧
    (∀ (ip : Word) (data : Bytes) (x : StHeader) (i k : Nat), Heard s data x 0x13 → x.payload.length = 4 →
      s.dev.subFrom x (getBe x.payload 0 2) = some (i, k) → (s.dev.sub i).state = .requested →
      (lget n.partners k).ip = ip →
      let r := byteAt x.payload 2
      Goes (.subscribeRespReceived ip data) s fun t =>
        (t.dev.sub i).reason = r ∧ (t.dev.sub i).state = if r = 0 then .active else .refused) ∧
    (∀ (k : Fin 256) (j : Nat), (s.dev.sub k).state = .requested →
      let y := lget s.dev.subSets k
      s.dev.selectSender y.partner = some j → s.dev.mayExchange = true → n.cfg.ip ≠ 0 →
      Goes (.subscribeRetry k) s fun t =>
        (t.dev.sub k).state = .requested ∧
        Sends s t [datagram s.dev (lget n.partners j).ip 0x12 (beBytes 2 y.setNo ++ zeros 2 ++ beBytes 4 y.signature.toNat ++
          beBytes 4 (s.dev.task y.task).cfg.period)]) ∧
    (Goes .eventFrameSend s fun t =>
      t.dev.evt = { s.dev.evt with netQueue := [] } ∧
      ∀ y, n.evSubs = [y] → n.cfg.ip ≠ 0 → s.dev.evt.netQueue ≠ [] → s.dev.evt.netQueue.length ≤ 32 →
        Sends s t [datagram s.dev y.ip 0x30 (s.dev.evt.netQueue.flatMap eventBe)]) ∧
    (∀ (o : Origin) (first count : Nat), Waits s o 0x0701 (leBytes 2 first ++ leBytes 2 count) → first ≤ 511 →
      1 ≤ count → count ≤ 100 →
      let m := min count (512 - first)
      Goes (.partnerTableRead o) s fun t =>
        t.dev.net = n ∧
        Answers t o stOk (leBytes 2 (n.partners.filter fun p => p.state != .free).length ++ leBytes 2 m ++
          leBytes 4 n.dropped ++ leBytes 4 (min 0xFFFFFFFF n.discarded) ++ zeros 4 ++
          (List.range m).flatMap fun i => partnerBytes s.dev (first + i))) ∧
    ∀ (o : Origin) (op : Byte) (i : Nat), Waits s o 0x0702 ([op, 0] ++ leBytes 2 i ++ leBytes 2 1 ++ zeros 2) →
      op.toNat ≤ 3 → (op ≠ 0 → s.dev.passive = false ∧ s.dev.master = true) → i < s.dev.subSets.length → i < 65536 →
      Goes (.subscribe o) s fun t =>
        Answers t o stOk (leBytes 2 s.dev.subSets.length ++ leBytes 2 1 ++ subBytes t.dev i) ∧
        (op = 0 → t.dev.net = n) ∧ (op = 1 → (t.dev.sub i).state = .suspended) ∧
        (op = 2 → (s.dev.sub i).state = .refused → t.dev.net = n) ∧
        (op = 3 → ∀ j, s.dev.selectSender (lget s.dev.subSets i).partner = some j →
          (t.dev.sub i).state = .requested)

/-- A CAN frame gives every accepting receive object's fields their numbers with GOOD, whatever each element holds else; a
timeout and a bus-off entry lose the fields, which keep their VALUE; a bus-off is counted and raises its event, and recovery
rejoins only where it is set. A Modbus poll entry due sends its request and waits; a good reply gives each register to its
element, an erroneous one and a timeout lose them, count and name the error; a sentence gives its fields or counts its
error, and a listener field times out. CAN_CONFIG and UART_CONFIG take effect and answer. Where two fields share an element,
or a number is too great for Q16.16, nothing is claimed of its VALUE (log entry 23). -/
def Obligations.CanAndUartFields : Prop :=
  ∀ s : State,
    let img := s.dev.img
    (∀ (c : Fin 4) (id : Nat) (ext fd : Bool) (data : Bytes),
      let k := vget s.dev.ser.can c
      let fs := ((s.dev.canRx c).filter fun x => x.accepts id ext data).flatMap (·.fields)
      (k.cfg.enable = true → k.busOff = false → (fd = true → k.cfg.fd = true) → (fs.map (·.element)).Nodup →
        Goes (.canFrameReceived c id ext fd data) s fun t =>
          (∀ f ∈ fs,
            (f.analogue = false → Holds t f.element (BitVec.ofInt 32 (f.number data)) qGOOD) ∧
            (f.analogue = true → -32768 ≤ f.number data → f.number data ≤ 32767 →
              Holds t f.element (BitVec.ofInt 32 (f.number data * 65536)) qGOOD)) ∧
          ∀ el, el ∉ fs.map (·.element) → mget t.dev.prog.fieldIn el = mget s.dev.prog.fieldIn el) ∧
      (k.cfg.enable = false ∨ k.busOff = true ∨ fd = true ∧ k.cfg.fd = false →
        Becomes (.canFrameReceived c id ext fd data) s s.dev)) ∧
    (∀ (i : Nat) (x : CanDecl), img.canObjs[i]? = some x → x.transmit = false → s.dev.here x.position = true →
      Goes (.canRxTimeout i) s fun t =>
        ∀ f ∈ x.fields, Holds t f.element (s.dev.fieldValue f.element).1 qBAD_SOURCE_LOST) ∧
    (∀ (c : Fin 4) (tec : Byte),
      let k := vget s.dev.ser.can c
      k.cfg.enable = true → k.busOff = false → Goes (.canBusOffEntry c tec) s fun t =>
        vget t.dev.ser.can c = { k with busOff := true, tec := tec, busOffs := min 0xFFFF (k.busOffs + 1) } ∧
        Raised t (.canBusoff c) tec.toNat ∧
        ∀ x ∈ s.dev.canRx c, ∀ f ∈ x.fields, Holds t f.element (s.dev.fieldValue f.element).1 qBAD_SOURCE_LOST) ∧
    (∀ c : Fin 4,
      let k := vget s.dev.ser.can c
      (k.cfg.autoRecover = true → k.busOff = true → Goes (.canBusoffRecovery c) s fun t =>
        vget t.dev.ser.can c = { k with busOff := false, tec := 0, rec_ := 0 }) ∧
      (k.cfg.autoRecover = false → Becomes (.canBusoffRecovery c) s s.dev)) ∧
    (∀ (u : Fin 2) (k : Nat) (x : PollDecl),
      let y := vget s.dev.ser.uart u
      img.polls[k]? = some x →
      (y.mode = 1 → x.uart = u.val → s.dev.here x.position = true → y.awaiting = none → s.dev.stopped = false →
        s.dev.passive = false → Goes (.modbusPoll u k) s fun t =>
          vget t.dev.ser.uart u = { y with awaiting := some k } ∧ (∃ b, Sends s t [.uart u b]) ∧
          (x.function ≤ 4 → Sends s t [.uart u (modbusFrame (beBytes 1 x.slave ++ beBytes 1 x.function ++
            beBytes 2 x.start ++ beBytes 2 x.regs.length))])) ∧
      (s.dev.stopped = true ∨ s.dev.passive = true → Becomes (.modbusPoll u k) s s.dev)) ∧
    (∀ (u : Fin 2) (data : Bytes) (err : Fin 4) (k : Nat) (x : PollDecl),
      let y := vget s.dev.ser.uart u
      let crcOk := 4 ≤ data.length ∧
        getLe data (data.length - 2) 2 = (modbusCrc (data.take (data.length - 2))).toNat
      y.awaiting = some k → img.polls[k]? = some x →
      (err = 0 → crcOk → replyOk x data = true → x.function ≤ 4 → (x.regs.map (·.element)).Nodup →
        Goes (.modbusReply u data err) s fun t =>
          vget t.dev.ser.uart u = { y with awaiting := none } ∧
          ∀ i r, x.regs[i]? = some r →
            let m := getBe data (3 + 2 * i) 2
            let v : Int := if r.signed = true then toSigned 16 m else m
            (r.analogue = false → Holds t r.element (BitVec.ofInt 32 v) qGOOD) ∧
            (r.analogue = true → v ≤ 32767 → Holds t r.element (BitVec.ofInt 32 (v * 65536)) qGOOD)) ∧
      (err ≠ 0 ∨ ¬crcOk → Goes (.modbusReply u data err) s fun t =>
        vget t.dev.ser.uart u = { y with awaiting := none, errors := min 0xFFFFFFFF (y.errors + 1) } ∧
        (s.dev.evt.pending.getLsbD 106 = false → Raised t .uartError (u + 2 * if err = 0 then 4 else err.val)) ∧
        (x.function ≤ 4 → ∀ r ∈ x.regs, Holds t r.element (s.dev.fieldValue r.element).1 qBAD_SOURCE_LOST)) ∧
      (Goes (.modbusReplyTimeout u) s fun t =>
        vget t.dev.ser.uart u = { y with awaiting := none, errors := min 0xFFFFFFFF (y.errors + 1) } ∧
        (s.dev.evt.pending.getLsbD 106 = false → Raised t .uartError (u + 12)) ∧
        (x.function ≤ 4 → ∀ r ∈ x.regs, Holds t r.element (s.dev.fieldValue r.element).1 qBAD_SOURCE_LOST))) ∧
    (∀ (u : Fin 2) (data : Bytes) (err : Fin 4), (vget s.dev.ser.uart u).mode = 2 →
      (err ≠ 0 ∨ sentenceBody data = none → Goes (.listenerSentenceReceived u data err) s fun t =>
        (vget t.dev.ser.uart u).errors = min 0xFFFFFFFF ((vget s.dev.ser.uart u).errors + 1) ∧
        (s.dev.evt.pending.getLsbD 106 = false → Raised t .uartError (u + 2 * if err = 0 then 5 else err.val))) ∧
      (∀ body, err = 0 → sentenceBody data = some body →
        let fs := splitFields body
        let xs := img.listens.filter fun x => s.dev.here x.position && x.matches_ u (lget fs 0)
        (xs.map (·.element)).Nodup → Goes (.listenerSentenceReceived u data err) s fun t =>
          ∀ x ∈ xs,
            (x.letter = true → fs[x.field]? = some [0x41] → Holds t x.element 1 qGOOD) ∧
            (x.letter = true → fs[x.field]? = some [0x56] → Holds t x.element 0 qGOOD) ∧
            (∀ f m q, x.letter = false → x.analogue = false → fs[x.field]? = some f → numberOf f = some (m, q) →
              Holds t x.element (BitVec.ofInt 32 (m / q)) qGOOD) ∧
            (fs[x.field]? = none ∨ fs[x.field]? = some [] →
              Holds t x.element (s.dev.fieldValue x.element).1 qBAD_SOURCE_LOST))) ∧
    (∀ (k : Nat) (x : ListenDecl), img.listens[k]? = some x → s.dev.here x.position = true →
      (vget s.dev.ser.uart x.uart).mode = 2 → Goes (.listenerFieldTimeout k) s fun t =>
        Holds t x.element (s.dev.fieldValue x.element).1 qBAD_SOURCE_LOST) ∧
    (∀ (o : Origin) (p : Bytes), Waits s o 0x0704 p → s.dev.passive = false → byteAt p 0 < s.dev.nCan →
      Pass (canTests p) → Goes (.canConfig o) s fun t =>
        let k := vget s.dev.ser.can (byteAt p 0)
        let y := { k with cfg := canCfgOf p, busOff := false, tec := 0, rec_ := 0 }
        vget t.dev.ser.can (byteAt p 0) = y ∧ Answers t o stOk (canStatus y) ∧ t.dev.pwr.confDirty = true) ∧
    ∀ (o : Origin) (p : Bytes), Waits s o 0x0705 p → s.dev.passive = false → Pass (uartTests p) →
      Goes (.uartConfig o) s fun t =>
        let y := vget t.dev.ser.uart (byteAt p 0)
        (∃ rate, Answers t o stOk (leBytes 4 rate ++ leBytes 4 (vget s.dev.ser.uart (byteAt p 0)).errors) ∧
          99 * getLe p 4 4 ≤ 100 * rate ∧ 100 * rate ≤ 101 * getLe p 4 4) ∧
        y.mode = byteAt p 1 ∧ y.baud = getLe p 4 4 ∧ y.respTimeout = getLe p 8 2 ∧ y.errors = 0 ∧ y.awaiting = none ∧
        t.dev.pwr.confDirty = true

/-- The base tick of the stack master advances by one, another device takes the tick of a marker that is ahead, and a lost
tick fences it. A port that comes up or goes down is taken with its event; the own status frame leaves, and one received
stores what it says. The master records a confirmation of the cycle in progress, another device the commit decision of its
own; a publication reaches every element that reads it and a working value its block's run. A class 2 frame is sent again
until its eighth try and kept until its acknowledgement. A placement part that fits is loaded and answered either way; a
part of an image goes to the inactive slot of the standby; a fence notice fences with cause 7. STACK_STATUS answers, and
with CLEAR zeroes the discard counts. -/
def Obligations.GligilLink : Prop :=
  ∀ s : State,
    let g := s.dev.gl
    (s.dev.pwr.phase ≠ .inReset → s.dev.master = true → Goes .baseTick s fun u => u.dev.tick = s.dev.tick + 1) ∧
    (∀ (p : Fin 2) (m : Half), s.dev.pwr.phase ≠ .inReset → s.dev.master = false → s.dev.gligil = true →
      Goes (.tickMarkerReceived p m) s fun u => u.dev.gl.tickLost = false ∧
        ∀ ahead : Nat, 0 < ahead → ahead < 32768 → m.toNat = (s.dev.tick + ahead) % 65536 →
          u.dev.tick = s.dev.tick + ahead) ∧
    (s.dev.master = false → s.dev.inStack = true → s.dev.sys.fenced = false → Goes .tickLost s fun u =>
      u.dev.sys.fenced = true ∧ u.dev.gl.tickLost = true ∧ u.dev.pwr.fenceN = true ∧ Raised u .fenced 6 ∧
      ∀ k : Fin 8, (u.dev.task k).st = .stopped) ∧
    (∀ (m : PlaceMap) (own : List Budget), s.dev.master = true → Becomes (.placementPartFrame m own) s s.dev) ∧
    (∀ (off : Nat) (data : Bytes) (last : Bool), s.dev.follows = true → s.dev.prog.checking = none →
      off + data.length ≤ 3145728 →
      (off = 0 ∨ (s.dev.slotRec s.dev.inactive).length = off ∧ (s.dev.slotRec s.dev.inactive).result = .incomplete) →
      Goes (.imageForwardFrame off data last) s fun t =>
        (t.dev.slotRec s.dev.inactive).length = off + data.length ∧
        t.mem = storeWrite (slotBase s.dev.inactive + off) data s.mem ∧
        (last = true → t.dev.prog.checking.isSome = true)) ∧
    (s.dev.gligil = true →
      (∀ (p : Fin 3) (nb : Fin 8) (variant : Half) (uid : DWord) (latency : Half), (g.port p).up = false →
        Goes (.gligilPortUp p nb variant uid latency) s fun t =>
          (t.dev.gl.port p).up = true ∧ (t.dev.gl.port p).neighbour = nb.val ∧
          (t.dev.gl.port p).latency = latency.toNat ∧ Happened t .stackLinkChange) ∧
      (∀ p : Fin 3, (g.port p).up = true → Goes (.gligilPortDown p) s fun t =>
        (t.dev.gl.port p).up = false ∧ Happened t .stackLinkChange) ∧
      (∀ (src : Fin 8) (st : PosStatus) (safe pfw : Bool),
        (src.val = s.dev.sys.stackPos.toNat → s.dev.inStack = true → Goes (.ringStatusFrame src st safe pfw) s fun t =>
          ∃ b, Sends s t [.gligil glA 0 0x02 0xFF b, .gligil glB 0 0x02 0xFF b]) ∧
        (src.val ≠ s.dev.sys.stackPos.toNat → Goes (.ringStatusFrame src st safe pfw) s fun t =>
          vget t.dev.pwr.pfwAt src = pfw ∧ (safe = true → t.dev.sys.safeState = true) ∧
          (vget t.dev.gl.pos src).variant = st.variant ∧ (vget t.dev.gl.pos src).portA = st.portA ∧
          (vget t.dev.gl.pos src).portB = st.portB)) ∧
      (∀ (src t : Fin 8) (cycle : Word),
        let k := s.dev.task t
        (s.dev.master = true → cycle = k.counter → k.st = .execute ∨ k.st = .ready →
          Goes (.gligilConfirmFrame src t cycle) s fun u =>
            (vget u.dev.gl.confirmed t).getLsbD src = true ∧
            ∀ j : Fin 8, j ≠ t → vget u.dev.gl.confirmed j = vget g.confirmed j) ∧
        (s.dev.master = false ∨ cycle ≠ k.counter → Becomes (.gligilConfirmFrame src t cycle) s s.dev)) ∧
      (∀ (t : Fin 8) (cycle : Word) (commit : Bool),
        (s.dev.master = false → cycle = (s.dev.task t).counter → Goes (.gligilCommitDecision t cycle commit) s fun u =>
          vget u.dev.gl.decision t = some commit) ∧
        (s.dev.master = true ∨ cycle ≠ (s.dev.task t).counter → Becomes (.gligilCommitDecision t cycle commit) s s.dev)) ∧
      (∀ (id : Word) (tv : TV), Goes (.gligilScheduledData [.publication id tv]) s fun t =>
        let im := s.dev.prog.image.getD {}
        ∀ el, el < im.nI → (im.iOf el).source = 8 → (im.iOf el).id = id →
          mget t.dev.prog.fieldIn el = some (tvAccept id tv)) ∧
      (∀ (t : Fin 8) (block key : Nat) (value : Word) (q : Byte) (prov : Bool),
        let k := s.dev.task t
        k.st = .execute ∨ k.st = .ready ∨ k.st = .late →
        Goes (.gligilScheduledData [.working t block key value q prov]) s fun u =>
          ∃ r, mget (u.dev.task t).runs block = some r ∧ ⟨key, value, q⟩ ∈ r.exec.writes ∧ r.provisional = prov ∧
            r.remote = true) ∧
      (∀ (seq : Half) (f : GlPending), g.pendingTx.find? (fun y => y.seq == seq) = some f →
        Goes (.gligilRetransmit seq) s fun t =>
          (∃ port, Sends s t [.gligil port 2 f.kind f.dst f.data]) ∧
          (8 ≤ f.tries + 1 → ∀ y ∈ t.dev.gl.pendingTx, y.seq ≠ seq) ∧
          (f.tries + 1 < 8 → { f with tries := f.tries + 1 } ∈ t.dev.gl.pendingTx)) ∧
      (∀ (src : Fin 8) (seq : Half), Goes (.gligilAckReceived src seq) s fun t =>
        t.dev.gl.pendingTx = g.pendingTx.filter fun f => !(f.seq == seq && f.dst == src.val)) ∧
      (∀ (m : PlaceMap) (own : List Budget), s.dev.master = false → s.dev.inStack = true →
        Goes (.placementPartFrame m own) s fun t =>
          ∃ ok : Bool, (ok = true → ∃ bs, t.dev.prog.map = some { m with budgets := bs }) ∧
            (ok = false → t.dev.prog.map = s.dev.prog.map) ∧
            ∃ b, t.dev.out = s.dev.out ++ [.gligil (s.dev.ringPort 0) 2 0x30 0 b]) ∧
      (s.dev.master = false → s.dev.sys.fenced = false → Goes .fenceNoticeReceived s fun t =>
        t.dev.sys.fenced = true ∧ t.dev.pwr.fenceN = true ∧ Raised t .fenced 7) ∧
      (s.dev.master = true → Becomes .fenceNoticeReceived s s.dev) ∧
      ∀ (o : Origin) (clear : Bool), Waits s o 0x0706 [if clear then 1 else 0, 0, 0, 0] → Goes (.stackStatus o) s fun t =>
        (∃ b, Answers t o stOk b ∧ b.length = 16 + 8 * 32 ∧ byteAt b 0 = s.dev.stackS ∧
          byteAt b 2 = s.dev.sys.stackPos.toNat ∧ byteAt b 4 = g.ring.code) ∧
        t.dev.gl.portA.discarded = (if clear then 0 else g.portA.discarded) ∧
        t.dev.gl.portB.discarded = (if clear then 0 else g.portB.discarded) ∧
        t.dev.gl.portP.discarded = (if clear then 0 else g.portP.discarded))

/-- A COLD request leaves where its conditions hold and nothing happens where they do not. A grant that answers an
outstanding request makes the device active and its lease end at s + L − δ: a READY standby starts its takeover, another
stops standing by. A denial takes its request off, and a READY candidate asks again. A renewal takes the next REQ_NO, three
unanswered ones lose the arbiter, an acknowledgement extends the lease and ends LATE and FALLBACK, two thirds of L without
one is LATE, and the lease's end fences with cause 1. A fence sends its release once. A READY standby acknowledges a
fallback renewal and is quiet after it, until the quiet interval ends. PAIR_CONFIG takes effect, and LEASE_STATUS answers
and clears its counts. -/
def Obligations.LeaseOfADevice : Prop :=
  ∀ s : State,
    let d := s.dev
    let l := d.red.lease
    let until_ := fun (o : Outstanding) => o.sent + leaseLen d.red.cfg.leaseMs - leaseDrift d.red.cfg.leaseMs
    (d.coldOk = true → Goes .coldLeaseRequest s fun t =>
      t.dev.red.lease.state = .requesting ∧ t.dev.red.lease.reqNo = l.reqNo + 1 ∧
      t.dev.red.lease.outstanding = l.outstanding ++ [⟨l.reqNo + 1, d.now, true⟩]) ∧
    (d.coldOk = false → Becomes .coldLeaseRequest s d) ∧
    (∀ (ip : Word) (data : Bytes) (m : LeaseMsg) (o : Outstanding), Answered s ip data 0x41 m o → d.stopped = false →
      l.state = .requesting → l.answered ≤ o.sent → Goes (.leaseGrantReceived ip data) s fun t =>
        let y := t.dev.red.lease
        t.dev.sys.role = .active ∧ y.state = .holding ∧ y.epoch = m.epoch ∧ y.leaseEnd = until_ o ∧
        Raised t .leaseGranted (b2n m.cold + 2 * b2n m.fallback + 256 * (m.epoch.toNat % 2 ^ 24)) ∧
        (d.red.standby = .ready → t.dev.red.standby = .loading ∧ t.dev.red.takeover.grantTick = d.tick ∧
          Raised t .takeoverStart m.epoch.toNat) ∧
        (d.red.standby ≠ .ready → t.dev.red.standby = .none)) ∧
    (∀ (ip : Word) (data : Bytes) (m : LeaseMsg) (o : Outstanding), Answered s ip data 0x42 m o →
      (l.state ≠ .requesting → Goes (.leaseDenyReceived ip data) s fun t =>
        t.dev.red.lease = { l with outstanding := l.outstanding.filter fun y => y.reqNo != o.reqNo }) ∧
      (l.state = .requesting → d.candidate = true → d.red.standby = .ready → Goes (.leaseDenyReceived ip data) s fun t =>
        t.dev.red.lease.state = .requesting ∧ t.dev.red.lease.reqNo = l.reqNo + 1 ∧
        ⟨l.reqNo + 1, d.now, false⟩ ∈ t.dev.red.lease.outstanding) ∧
      (l.state = .requesting → d.red.standby ≠ .ready → o.cold = false → Goes (.leaseDenyReceived ip data) s fun t =>
        t.dev.red.lease.state = .none)) ∧
    (∀ (ip : Word) (data : Bytes) (m : LeaseMsg) (o : Outstanding), Answered s ip data 0x44 m o → l.state.holds = true →
      m.epoch = l.epoch → m.fallback = false → l.answered ≤ o.sent → Goes (.leaseAckReceived (.net ip) data) s fun t =>
        let y := t.dev.red.lease
        y.state = .holding ∧ y.leaseEnd = until_ o ∧ y.renewals = satInc l.renewals ∧ y.arbiterLost = false ∧
        ∀ z ∈ y.outstanding, o.sent < z.sent) ∧
    (l.state.holds = true → Goes .leaseRenewTimer s fun t =>
      t.dev.red.lease.reqNo = l.reqNo + 1 ∧ ⟨l.reqNo + 1, d.now, false⟩ ∈ t.dev.red.lease.outstanding ∧
      (l.state = .late → l.arbiterLost = false → d.unanswered3 = true →
        t.dev.red.lease.arbiterLost = true ∧ Raised t .arbiterLost (b2n d.red.cfg.fallback) ∧
        t.dev.red.lease.state = if d.red.cfg.fallback then .fallback else .late)) ∧
    (l.state.holds = false → Becomes .leaseRenewTimer s d) ∧
    (l.state = .holding → d.reached (l.answered + 2 * d.leaseL / 3) = true → Goes .leaseLateTimer s fun t =>
      Raised t .leaseRenewLate (min 0xFFFF ((l.leaseEnd - d.now) / 10000)) ∧
      t.dev.red.lease.lateRenewals = satInc l.lateRenewals ∧
      (d.unanswered3 = false → t.dev.red.lease.state = .late)) ∧
    (l.state.holds = true → d.sys.fenced = false → d.reached l.leaseEnd = true → Goes .leaseEnd s fun t =>
      t.dev.sys.fenced = true ∧ t.dev.pwr.fenceN = true ∧ t.dev.red.releaseDue = true ∧ Raised t .fenced 1 ∧
      ∀ k : Fin 8, (t.dev.task k).st = .stopped) ∧
    (d.reached l.leaseEnd = false → Becomes .leaseEnd s d) ∧
    (d.red.releaseDue = true → Goes .fenceLeaseRelease s fun t =>
      t.dev.red.releaseDue = false ∧ t.dev.red.lease.reqNo = l.reqNo + 1) ∧
    (d.red.releaseDue = false → Becomes .fenceLeaseRelease s d) ∧
    (l.quietUntil ≠ 0 → l.quietUntil ≤ d.now → Goes .fallbackQuietEnd s fun t => t.dev.red.lease.quietUntil = 0) ∧
    (∀ (data : Bytes) (m : LeaseMsg), leaseMsgOf data = some m → d.gligil = true → d.red.cfg.network = false →
      d.sys.role = .standby → d.red.standby = .ready → m.fallback = true → m.station = d.net.cfg.partnerId →
      m.leaseMs = d.red.cfg.leaseMs → Goes (.leaseRenewReceived .portP data) s fun t =>
        t.dev.red.lease.quietUntil = d.now + leaseLen m.leaseMs + leaseDrift m.leaseMs ∧
        ∃ b, Sends s t [.gligil glP 2 0x44 d.sys.stackPos.toNat b]) ∧
    ∀ o : Origin,
      (∀ p, Waits s o 0x0800 p → Pass (pairTests d p) → Goes (.pairConfig o) s fun t =>
        Answers t o stOk [] ∧ t.dev.red.cfg = pairCfgOf p ∧ t.dev.pwr.confDirty = true ∧ t.dev.sys.role = d.sys.role ∧
        t.dev.red.standby = if d.red.standby = .faulty then .unpaired else d.red.standby) ∧
      ∀ clear : Bool, Waits s o 0x0801 [if clear then 1 else 0, 0, 0, 0] → d.master = true →
        Goes (.leaseStatus o) s fun t =>
          Answers t o stOk (leaseStatus d) ∧
          (clear = false → t.dev.red = d.red) ∧
          (clear = true → t.dev.red.lease = { l with renewals := 0, lateRenewals := 0, arbLostCount := 0 } ∧
            t.dev.red.firn.gaps = 0 ∧ t.dev.red.compareMismatch = 0)

/-- A request of a served station under its entry's key is granted with the next epoch where no grant holds (R397), waits
where one does, collects where it is COLD, and is denied where its lease length differs; a station that no entry serves is
denied at once; a message whose MAC or key fails raises MBX_AUTH_FAIL. A waiting request is denied after L / 3. Once g + L + δ
or the quiet period has passed, the entry is free and the first waiting request granted; the COLD wait ends with the
preferred request or the first. The holder's renewal within its lease starts it anew, one in the quiet period of a device in
the active role takes the entry, and the holder's release frees it. ARBITER_CONFIG sets its entry and answers. -/
def Obligations.ArbiterLeases : Prop :=
  ∀ s : State,
    let d := s.dev
    (∀ (ip : Word) (data : Bytes) (m : LeaseMsg) (e : Nat) (h : StHeader), ToArbiter s data 0x40 m e h →
      let x := d.arb e
      (m.leaseMs = x.leaseMs → m.cold = false → d.arbOpen e = true → Goes (.leaseReqReceived ip data) s fun t =>
        Granted s t e m.candidate) ∧
      (m.leaseMs = x.leaseMs → m.cold = false → d.arbOpen e = false → Goes (.leaseReqReceived ip data) s fun t =>
        t.dev.arb e = { x with pending := (t.dev.arb e).pending } ∧
        ∃ r ∈ (t.dev.arb e).pending, r.candidate = m.candidate ∧ r.reqNo = m.reqNo ∧ r.since = d.now) ∧
      (m.leaseMs = x.leaseMs → m.cold = true → x.state ≠ .quiet → d.arbOpen e = true →
        Goes (.leaseReqReceived ip data) s fun t =>
          (t.dev.arb e).state = .collecting ∧ (t.dev.arb e).epoch = x.epoch ∧
          ∃ r ∈ (t.dev.arb e).cold, r.candidate = m.candidate ∧ r.reqNo = m.reqNo ∧ r.prefer = m.prefer) ∧
      (m.leaseMs ≠ x.leaseMs → Goes (.leaseReqReceived ip data) s fun t =>
        t.dev.arb e = { x with denials := satInc x.denials })) ∧
    (∀ (ip : Word) (data : Bytes) (m : LeaseMsg) (key : Nat) (epoch : Word) (h : StHeader), d.sys.role = .arbiter →
      d.sys.fwReady = true → LeaseHeard s data 0x40 m key epoch h → d.reqFresh m.candidate epoch m.reqNo = true →
      (d.arbEntry m.station = none → Goes (.leaseReqReceived ip data) s fun t =>
        t.dev.red.arbiters = d.red.arbiters ∧ ∀ k, d.hmacKey key = some k →
          ∃ b, Sends s t [.udp ip stationPort b] ∧ getBe b 3 1 = 0x42) ∧
      (∀ e, d.arbEntry m.station = some e → key ≠ (d.arb e).key → Goes (.leaseReqReceived ip data) s fun t =>
        t.dev.red.arbiters = d.red.arbiters ∧ Raised t .mbxAuthFail ip.toNat)) ∧
    (∀ (ip : Word) (data : Bytes) (h : StHeader), d.sys.role = .arbiter → d.sys.fwReady = true →
      authParse data h d = none →
      (Heard s data h 0x40 → Goes (.leaseReqReceived ip data) s fun t =>
        t.dev.red = d.red ∧ Raised t .mbxAuthFail ip.toNat) ∧
      (Heard s data h 0x45 → Goes (.leaseReleaseReceived ip data) s fun t =>
        t.dev.red = d.red ∧ Raised t .mbxAuthFail ip.toNat)) ∧
    (∀ (e : Fin 16) (cand : DWord) (r : ArbReq), (d.arb e).pending.find? (fun y => y.candidate == cand) = some r →
      (d.reached (r.since + leaseLen (d.arb e).leaseMs / 3) = true → Goes (.leaseReqPendingExpiry e cand) s fun t =>
        t.dev.arb e = { d.arb e with
          pending := (d.arb e).pending.filter fun y => y.candidate != cand
          denials := satInc (d.arb e).denials }) ∧
      (d.reached (r.since + leaseLen (d.arb e).leaseMs / 3) = false → Becomes (.leaseReqPendingExpiry e cand) s d)) ∧
    (∀ e : Fin 16,
      let x := d.arb e
      (d.sys.role = .arbiter → x.state = .held ∨ x.state = .grace → x.openAt d.now = true →
        (x.pending = [] → Goes (.arbiterGrantReady e) s fun t => t.dev.arb e = { x with state := .free, holder := 0 }) ∧
        (∀ r rest, x.pending = r :: rest → x.enable = true → d.red.arbQuietSave = false →
          Goes (.arbiterGrantReady e) s fun t => Granted s t e r.candidate)) ∧
      (x.openAt d.now = false → Becomes (.arbiterGrantReady e) s d) ∧
      (d.sys.role = .arbiter → x.state = .quiet → d.red.arbQuietSave = false →
        leaseLen x.leaseMs + leaseDrift x.leaseMs < d.now + tickUnits →
        (x.pending = [] → Goes (.arbiterQuietEnd e) s fun t => t.dev.arb e = { x with state := .free }) ∧
        (∀ r rest, x.pending = r :: rest → x.enable = true → x.g = none → Goes (.arbiterQuietEnd e) s fun t =>
          Granted s t e r.candidate)) ∧
      (d.red.arbQuietSave = true → Becomes (.arbiterQuietEnd e) s d) ∧
      (∀ r rest, x.state = .collecting → d.arbOpen e = true → x.cold = r :: rest →
        (d.reached (r.since + x.coldWait * 10000) = true →
          (∀ y, x.cold.find? (·.prefer) = some y → Goes (.coldWaitExpiry e) s fun t => Granted s t e y.candidate) ∧
          (x.cold.find? (·.prefer) = none → Goes (.coldWaitExpiry e) s fun t => Granted s t e r.candidate)) ∧
        (d.reached (r.since + x.coldWait * 10000) = false → Becomes (.coldWaitExpiry e) s d))) ∧
    (∀ (ip : Word) (data : Bytes) (m : LeaseMsg) (e : Nat) (h : StHeader), ToArbiter s data 0x43 m e h →
      let x := d.arb e
      (∀ g, x.state = .held → x.g = some g → x.holder = m.candidate → x.heldEpoch = m.epoch →
        (d.now < g + leaseLen x.leaseMs → Goes (.leaseRenewReceived (.net ip) data) s fun t =>
          t.dev.arb e = { x with g := some d.now }) ∧
        (g + leaseLen x.leaseMs ≤ d.now → Goes (.leaseRenewReceived (.net ip) data) s fun t => t.dev.arb e = x)) ∧
      (x.state = .quiet → h.role = 1 → Goes (.leaseRenewReceived (.net ip) data) s fun t =>
        let y := t.dev.arb e
        y.state = .held ∧ y.holder = m.candidate ∧ y.heldEpoch = m.epoch ∧ y.g = some d.now ∧
        y.epoch.toNat = max x.epoch.toNat m.epoch.toNat)) ∧
    (∀ (ip : Word) (data : Bytes) (m : LeaseMsg) (e : Nat) (h : StHeader), ToArbiter s data 0x45 m e h →
      let x := d.arb e
      (x.state = .held → x.holder = m.candidate → x.heldEpoch = m.epoch → x.pending = [] →
        Goes (.leaseReleaseReceived ip data) s fun t => t.dev.arb e = { x with state := .free, g := none, holder := 0 }) ∧
      (x.holder ≠ m.candidate → Goes (.leaseReleaseReceived ip data) s fun t => t.dev.arb e = x)) ∧
    ∀ (o : Origin) (p : Bytes), Waits s o 0x0805 p → Pass (arbTests d p) → Goes (.arbiterConfig o) s fun t =>
      Answers t o stOk (arbBytes (byteAt p 1) t.dev) ∧
      (byteAt p 0 = 1 → t.dev.red = d.red) ∧
      (byteAt p 0 = 0 →
        let y := t.dev.arb (byteAt p 1)
        y.enable = (byteAt p 2).testBit 0 ∧ y.key = byteAt p 3 ∧ y.station = BitVec.ofNat 32 (getLe p 4 4) ∧
        y.leaseMs = getLe p 8 4 ∧ y.coldWait = getLe p 12 2 ∧ y.epoch = (d.arb (byteAt p 1)).epoch ∧
        t.dev.pwr.confDirty = true)

/-- The pair path falls, rises with another shape, or rises with the same one, and the standby's state follows. A fence
notice makes a READY standby request, and a forwarded command has its effect on a standby alone. A firn frame next in the
stream is applied to the replica, one ahead is held, one behind is discarded; a gap of 10 ms goes on, counts and takes the
standby from READY to SYNCING; a pass starts under the next number, and an acknowledgement records what the standby has and
reports. The end of a takeover's load starts the peer's tasks from the new origin in WARMUP; a planned switchover answers its
instant and fences at it with cause 4. A shadow input late is skipped, one that agrees is compared; a compare starts, stops
and ends. -/
def Obligations.StreamAndTakeover : Prop :=
  ∀ s : State,
    let d := s.dev
    let f := d.red.firn
    (∀ (up : Bool) (peer : List (Half × DWord)), d.red.cfg.paired = true → d.master = true →
      (up = false → Goes (.shapeRecordExchange up peer) s fun t =>
        t.dev.red.pathUp = false ∧ t.dev.red.firn.synced = false ∧ t.dev.red.firn.staging = [] ∧
        (d.red.standby = .ready ∨ d.red.standby = .syncing ∨ d.red.standby = .joining →
          t.dev.red.standby = .unpaired)) ∧
      (up = true → peer.map (·.1) ≠ d.shape → Goes (.shapeRecordExchange up peer) s fun t =>
        t.dev.red.pathUp = true ∧ t.dev.red.shapeOk = false ∧ Happened t .checkpointGap ∧
        (d.follows = true → t.dev.red.standby = .unpaired)) ∧
      (up = true → peer.map (·.1) = d.shape → Goes (.shapeRecordExchange up peer) s fun t =>
        t.dev.red.pathUp = true ∧ t.dev.red.shapeOk = true ∧
        (d.follows = true → d.red.standby = .unpaired → t.dev.red.standby = .syncing))) ∧
    (d.follows = true → d.candidate = true → d.red.standby = .ready → Goes (.pairNoticeReceived .fence) s fun t =>
      t.dev.red.lease.state = .requesting ∧ t.dev.red.lease.reqNo = d.red.lease.reqNo + 1) ∧
    (∀ n, d.follows = false → Becomes (.pairNoticeReceived n) s d) ∧
    (∀ p : Bytes,
      (d.follows = true → Pass (doCfgTests p) → Becomes (.configForwardReceived 0x0501 p) s (doCfgApply p d)) ∧
      (d.follows = true → Pass (canTests p) → Becomes (.configForwardReceived 0x0704 p) s (canApply p d)) ∧
      (∀ code, d.follows = false → Becomes (.configForwardReceived code p) s d)) ∧
    (∀ (seq : Word) (task fl : Byte) (index : Nat) (cyc : Word) (body : Bytes) (recs : List DeltaRec),
      let data := beBytes 4 seq.toNat ++ [task, fl] ++ beBytes 2 index ++ beBytes 4 cyc.toNat ++ zeros 4 ++ body
      task.toNat ≤ 7 → fl.toNat ≤ 3 → parseRecords data.length body = some recs →
      d.gligil = true → d.red.cfg.network = false → d.follows = true → d.red.shapeOk = true →
      d.red.standby ≠ .faulty → d.red.standby ≠ .unpaired → f.synced = true →
      (seq = f.rxSeq + 1 → f.staging = [] → Goes (.firnDeltaReceived .portP data) s fun t =>
        let im := d.prog.image.getD {}
        t.dev.red.firn.rxSeq = seq ∧ t.dev.red.firn.staging = [] ∧
        t.dev.red.replica = recs.foldl (fun r x => im.ckApply r x) (im.sized d.red.replica) ∧
        (fl.toNat.testBit 0 = true → vget t.dev.red.firn.lastDelta task.toNat = d.tick)) ∧
      (seqGreater seq f.rxSeq = true → seq ≠ f.rxSeq + 1 → f.staging = [] → Goes (.firnDeltaReceived .portP data) s fun t =>
        t.dev.red.firn.rxSeq = f.rxSeq ∧ t.dev.red.replica = d.red.replica ∧
        ∃ x, t.dev.red.firn.staging = [(seq, x)]) ∧
      (seqGreater seq f.rxSeq = false → Becomes (.firnDeltaReceived .portP data) s d)) ∧
    (∀ (seq : Word) (pass off : Nat) (body : Bytes),
      let data := beBytes 4 seq.toNat ++ beBytes 4 pass ++ beBytes 4 off ++ beBytes 2 body.length ++ zeros 2 ++ body
      body.length ≤ 1008 → pass < 2 ^ 32 → off < 2 ^ 32 → d.gligil = true → d.red.cfg.network = false →
      d.follows = true → d.red.shapeOk = true → d.red.standby ≠ .faulty → d.red.standby ≠ .unpaired → f.synced = true →
      seq = f.rxSeq + 1 → f.staging = [] → Goes (.firnSegmentReceived .portP data) s fun t =>
        let im := d.prog.image.getD {}
        t.dev.red.firn.rxSeq = seq ∧ t.dev.red.replica = patch (im.sized d.red.replica) off body ∧
        t.dev.red.firn.rxPass = pass) ∧
    (d.streams = true → d.prog.image.isSome = true → Goes .firnPassStart s fun t =>
      t.dev.red.firn.pass = f.pass + 1 ∧ t.dev.red.firn.passStart = d.tick) ∧
    (d.streams = false → Becomes .firnPassStart s d) ∧
    (d.follows = true → d.red.pathUp = true → d.red.shapeOk = true → Goes .firnAckSend s fun t =>
      t.dev.red.firn.sinceAck = 0 ∧ t.dev.red.firn.rxSeq = f.rxSeq) ∧
    (d.follows = false → Becomes .firnAckSend s d) ∧
    (∀ (seq : Word) (st : StandbyState), d.streams = true → Goes (.firnAckReceived seq st) s fun t =>
      t.dev.red.firn.acked = seq ∧ t.dev.red.peerState = st) ∧
    (f.staging ≠ [] → d.follows = true → Goes .firnGapTimeout s fun t =>
      t.dev.red.firn.gaps = satInc f.gaps ∧ Happened t .checkpointGap ∧
      (d.red.standby = .ready → t.dev.red.standby = .syncing)) ∧
    (f.staging = [] → Becomes .firnGapTimeout s d) ∧
    (∀ im, d.prog.image = some im → d.red.standby = .loading → d.stopped = false → Goes .takeoverLoadDone s fun t =>
      let last := (List.range 8).foldl (fun a k => max a (vget f.lastDelta k)) 0
      let runs := fun (k : Nat) => d.peerRuns last k = true ∧ (d.task k).cfg.enable = true
      t.dev.prog.origin = d.tick ∧
      (∀ k : Fin 8, runs k → (t.dev.task k).st = .starting ∧ (t.dev.task k).firstT0 = d.tick + (d.task k).cfg.phase) ∧
      ((∃ k : Fin 8, runs k) → t.dev.red.standby = .warmup) ∧
      ((∀ k : Fin 8, ¬runs k) → t.dev.red.standby = .none)) ∧
    (∀ at_, d.red.switchAt = some at_ →
      (at_ ≤ d.tick → d.sys.fenced = false → Goes .switchoverFence s fun t =>
        t.dev.sys.fenced = true ∧ Raised t .fenced 4 ∧ t.dev.red.switchAt = none ∧ t.dev.pwr.fenceN = true) ∧
      (d.tick < at_ → Becomes .switchoverFence s d)) ∧
    (∀ (k : Fin 8) (tau : DWord) (cycle : Word) (inputs : Map TV) (delta : List DeltaRec) (im : Image),
      d.prog.image = some im → d.follows = true → d.red.standby = .ready → d.red.cfg.network = false →
      (Goes (.shadowInputReceived k tau cycle inputs delta false) s fun t =>
        t.dev.red.shadow = { d.red.shadow with skipped := d.red.shadow.skipped + 1 } ∧ t.dev.prog = d.prog) ∧
      (firstDiff ((shadowRun im k (d.shadowDev im k tau cycle inputs)).cycleRecords im k) delta = none →
        Goes (.shadowInputReceived k tau cycle inputs delta true) s fun t =>
          t.dev.red.shadow = { d.red.shadow with compared := d.red.shadow.compared + 1 } ∧
          t.dev.red.standby = .ready)) ∧
    (d.red.shadow.state = 1 →
      (d.red.shadow.until_ ≤ d.tick → Goes .shadowCompareTimeout s fun t =>
        t.dev.red.shadow.state = 2 ∧ t.dev.red.shadow.ranS = (d.tick - d.red.shadow.startTick) / 20000) ∧
      (d.tick < d.red.shadow.until_ → Becomes .shadowCompareTimeout s d)) ∧
    ∀ o : Origin, d.master = true →
      (Waits s o 0x0802 (leBytes 4 0x5A5A0802 ++ zeros 4) → d.red.lease.state.holds = true → d.red.peerState = .ready →
        d.moving = false → Goes (.switchoverRequest o) s fun t =>
          Answers t o stOk (leBytes 8 d.commitAhead) ∧ t.dev.red = { d.red with switchAt := some d.commitAhead }) ∧
      (∀ (sec : Nat) (stop : Bool), Waits s o 0x0803 (leBytes 4 sec ++ [if stop then 1 else 0, 0, 0, 0]) → 1 ≤ sec →
        sec ≤ 86400 → d.sys.role = .active → d.red.peerState = .ready → d.red.cfg.network = false →
        d.red.shadow.state ≠ 1 → Goes (.shadowCompareStart o) s fun t =>
          Answers t o stOk (leBytes 8 d.tick) ∧ t.dev.red.shadow.state = 1 ∧
          t.dev.red.shadow.until_ = d.tick + 20000 * sec ∧ t.dev.red.shadow.stopOnMismatch = stop) ∧
      (∀ keep : Bool, Waits s o 0x0804 [if keep then 1 else 0, 0, 0, 0] → Goes (.shadowCompareStop o) s fun t =>
        (∃ b, Answers t o stOk b ∧ b.length = 32) ∧
        (keep = true → t.dev.red = d.red) ∧
        (keep = false → d.red.shadow.state = 1 → t.dev.red.shadow.state = 3))

/-- A background step is put off where its KiB is written, and otherwise goes on one KiB, or completes the pass; a byte wrong
in one copy is counted and corrected with PRIV_CORRECTED. A software pass goes on by one KiB, ends with SCRUB_DONE after its
last, and ends aborted where ABORT waits. A byte of the supervisor's memory wrong in both copies is a LOCKSTEP reset, and a
clean walk changes nothing. SCRUB_RANGE takes a free pass, SCRUB_SUMMARY answers, aborts and releases, WEEVIL_CONFIG sets the
interval or only reads it. -/
def Obligations.MemoryIntegrity : Prop :=
  ∀ s : State,
    let d := s.dev
    let g := d.integ
    (∀ faults, Becomes (.weevilStep faults true) s d) ∧
    (∀ faults : List ByteFault,
      (g.weevilOffset + 1024 < 0x800000 → Goes (.weevilStep faults false) s fun t =>
        t.dev.integ.weevilOffset = g.weevilOffset + 1024 ∧ t.dev.integ.weevilPasses = g.weevilPasses ∧
        t.dev.integ.weevil.checked = (if g.weevilOffset = 0 then 0 else g.weevil.checked) + 1024) ∧
      (0x800000 ≤ g.weevilOffset + 1024 → Goes (.weevilStep faults false) s fun t =>
        t.dev.integ.weevilOffset = 0 ∧ t.dev.integ.weevilPasses = g.weevilPasses + 1 ∧
        t.dev.integ.weevilLast.state = .done ∧ t.dev.integ.weevilLast.endTick = d.tick)) ∧
    (∀ f : ByteFault, f.offset < 1024 → f.badA ≠ f.badB → 0 < g.weevilOffset → g.weevilOffset + 1024 < 0x800000 →
      Goes (.weevilStep [f] false) s fun t =>
        t.dev.integ.weevil.errors = min 0xFFFFFFFF (g.weevil.errors + 1) ∧
        t.dev.integ.weevil.corrected = min 0xFFFFFFFF (g.weevil.corrected + 1) ∧
        t.dev.integ.weevil.uncorrectable = min 0xFFFFFFFF g.weevil.uncorrectable ∧ Happened t .privCorrected) ∧
    (∀ p : Fin 4,
      let x := vget g.passes p
      (x.state ≠ .running → ∀ faults w, Becomes (.scrubPassStep p faults w) s d) ∧
      (x.state = .running →
        (x.abort = false → ∀ faults, Becomes (.scrubPassStep p faults true) s d) ∧
        (x.at_ + 1024 < x.length → x.abort = false → ∀ faults, Goes (.scrubPassStep p faults false) s fun t =>
          let y := vget t.dev.integ.passes p
          y.state = .running ∧ y.at_ = x.at_ + 1024 ∧ y.checked = x.checked + 1024) ∧
        (x.length ≤ x.at_ + 1024 → ∀ faults, Goes (.scrubPassStep p faults false) s fun t =>
          let y := vget t.dev.integ.passes p
          y.state = .done ∧ y.endTick = d.tick ∧ y.checked = x.checked + 1024 ∧
          Raised t .scrubDone (p + 8 * b2n (decide (0 < y.errors)) + 65536 * min 0xFFFF y.errors)) ∧
        (x.abort = true → ∀ faults, Goes (.scrubPassStep p faults true) s fun t =>
          (vget t.dev.integ.passes p).state = .aborted ∧
          Raised t .scrubDone (p + 4 + 8 * b2n (decide (0 < x.errors)) + 65536 * min 0xFFFF x.errors)))) ∧
    (d.pwr.phase = .running →
      (∀ f rest, f.badA = true → f.badB = true → Goes (.supervisorMemoryWalk (f :: rest)) s fun t =>
        AfterReset .lockstep s t) ∧
      (∀ faults : List ByteFault, (∀ f ∈ faults, f.badA = false) → Becomes (.supervisorMemoryWalk faults) s d)) ∧
    ∀ (o : Origin) (p : Bytes),
      (∀ n, Waits s o 0x0900 p → memAbsent (byteAt p 0) (byteAt p 1) d = false → Pass (scrubTests d p) →
        freePass d = some n → Goes (.scrubRange o) s fun t =>
          let iv := if getLe p 12 4 = 0 then g.interval else getLe p 12 4
          Answers t o stOk (leBytes 1 n ++ zeros 3 ++ leBytes 4 ((getLe p 8 4 / 1024 * iv + 999) / 1000)) ∧
          vget t.dev.integ.passes n = {
            state := .running, memory := byteAt p 0, index := byteAt p 1, offset := getLe p 4 4
            length := getLe p 8 4, interval := iv } ∧
          ∀ k : Fin 4, k.val ≠ n → vget t.dev.integ.passes k = vget g.passes k) ∧
      (Waits s o 0x0901 p → Pass (summaryTests d p) → Goes (.scrubSummary o) s fun t =>
        Answers t o stOk (scrubBytes (byteAt p 0) ((d.summary (byteAt p 0)).getD {})) ∧
        (byteAt p 1 = 0 → t.dev.integ = g) ∧
        (byteAt p 1 = 2 → byteAt p 0 < 4 → (vget t.dev.integ.passes (byteAt p 0)).abort = true ∧
          (vget t.dev.integ.passes (byteAt p 0)).state = .running) ∧
        (byteAt p 1 = 1 → byteAt p 0 < 4 → vget t.dev.integ.passes (byteAt p 0) = {}) ∧
        (byteAt p 1 = 1 → byteAt p 0 = 0xFE → t.dev.integ.funcLog.entries = [])) ∧
      (∀ n : Nat, Waits s o 0x0902 ([0, 0, 0, 0] ++ leBytes 4 n) → 10 ≤ n → n ≤ 10000 → Goes (.weevilConfig o) s fun t =>
        Answers t o stOk (weevilBytes t.dev) ∧ t.dev.integ = { g with interval := n } ∧ t.dev.pwr.confDirty = true) ∧
      (Waits s o 0x0902 ([1, 0, 0, 0] ++ zeros 4) → Goes (.weevilConfig o) s fun t =>
        Answers t o stOk (weevilBytes d) ∧ t.dev.integ = g)
/-- A tick without a staged load adds the increment of R459; a tick with one loads it, clears the hidden fraction,
PENDING, OSF and COUNT_LOST and raises TIME_STEP; COMMIT stages the RTC_SET registers and CANCEL discards a staged load,
also where both are written; a write to RTC_SET or RTC_TRIM takes effect, and is refused while a load is pending, or out
of range or while PTP steers; the oscillator stops and starts, and the loss of VBAT restarts the count from 0 with OSF and
COUNT_LOST; a leap change that is due becomes current; the discipline stages a step beyond 1 ms.
TIME_SET_CALENDAR of a valid record, while nothing is staged and PTP does not steer, stages the record's time word and
answers at its load; TIME_GET_CALENDAR answers the count with its calendar record; CONVERT turns a time word within range
into its calendar record, and a calendar record into its time word; LEAP_OFFSET_SET holds a scheduled change. -/
def Obligations.RtcAndCalendar : Prop :=
  ∀ s : State,
    (s.dev.rtc.oscRun = true → s.dev.rtc.pending = none → -500000 ≤ s.dev.rtc.trim → Goes .rtcTick s fun t =>
      t.dev.rtc.full = (s.dev.rtc.full + (rtcIncrement s.dev.rtc.trim).toNat) % 2 ^ 96) ∧
    (∀ (w : DWord) (src : LoadSrc), s.dev.rtc.oscRun = true → s.dev.rtc.pending = some (w, src) →
      Goes .rtcLoad s fun t =>
        t.dev.rtc.timeWord = w ∧ t.dev.rtc.frac.toNat % 2 ^ 32 = 0 ∧ t.dev.rtc.pending = none ∧
        t.dev.rtc.osf = false ∧ t.dev.rtc.countLost = false ∧ t.dev.evt.pending.getLsbD 121 = true) ∧
    (s.dev.rtc.pending = none → s.dev.discActive = false → Goes .rtcCommit s fun t =>
      t.dev.rtc.pending =
        some (BitVec.ofNat 64 (s.dev.rtc.setSec.toNat * 2 ^ 24 + s.dev.rtc.setFrac.toNat), .ctrl)) ∧
    (∀ both : Bool, Goes (.rtcCancel both) s fun t =>
      t.dev.rtc.pending = none ∧ t.dev.rtc.sec = s.dev.rtc.sec ∧ t.dev.rtc.frac = s.dev.rtc.frac) ∧
    (∀ on : Bool, Goes (.rtcDisciplineWrite on) s fun t => t.dev.rtc.discipline = on) ∧
    (∀ v : Word, s.dev.discActive = false → -500000 ≤ v.toInt → v.toInt ≤ 500000 → Goes (.rtcTrimWrite v) s fun t =>
      t.dev.rtc.trim = v.toInt) ∧
    (∀ v : Word, s.dev.discActive = true ∨ v.toInt < -500000 ∨ 500000 < v.toInt → Goes (.rtcTrimWrite v) s fun t =>
      t.dev.rtc.trim = s.dev.rtc.trim ∧ t.dev.rtc.commitRefused = true) ∧
    (∀ (r : Fin 3) (v : Word), s.dev.rtc.pending ≠ none → Goes (.rtcSetWrite r v) s fun t =>
      t.dev.rtc = { s.dev.rtc with commitRefused := true }) ∧
    (∀ v : Word, s.dev.rtc.pending = none →
      (Goes (.rtcSetWrite 0 v) s fun t => t.dev.rtc.setSec.toNat / 2 ^ 32 = v.toNat % 256) ∧
      (Goes (.rtcSetWrite 1 v) s fun t => t.dev.rtc.setSec.toNat % 2 ^ 32 = v.toNat) ∧
      (Goes (.rtcSetWrite 2 v) s fun t => t.dev.rtc.setFrac.toNat = v.toNat % 2 ^ 24)) ∧
    (Goes .rtcOscStop s fun t => t.dev.rtc.oscRun = false ∧ t.dev.rtc.osf = true ∧ t.dev.rtc.sec = s.dev.rtc.sec) ∧
    (Goes .rtcOscStart s fun t => t.dev.rtc.oscRun = true ∧ t.dev.rtc.osf = s.dev.rtc.osf) ∧
    (Goes .vbatRestore s fun t =>
      t.dev.rtc.osf = true ∧ t.dev.rtc.countLost = true ∧ t.dev.rtc.full = 0 ∧ t.dev.rtc.trim = 0 ∧
      t.dev.rtc.leap = 0 ∧ t.dev.rtc.leapPend = none) ∧
    (∀ (n : Int) (at_ : DWord), s.dev.rtc.oscRun = true → s.dev.rtc.leapPend = some (n, at_) →
      at_.toNat ≤ s.dev.rtc.timeWord.toNat → Goes .leapChangeApply s fun t =>
        t.dev.rtc.leap = n ∧ t.dev.rtc.leapPend = none) ∧
    (∀ ptp : DWord, s.dev.discActive = true → s.dev.rtc.pending = none →
      2 ^ 24 < 1000 * ((s.dev.rtc.timeWord.toNat : Int) - ptp.toNat).natAbs → Goes (.rtcDisciplineCompare ptp) s fun t =>
        t.dev.rtc.pending = some (ptp, .ptp)) ∧
    (∀ ptp : DWord, s.dev.discActive = true →
      1000 * ((s.dev.rtc.timeWord.toNat : Int) - ptp.toNat).natAbs ≤ 2 ^ 24 → Goes (.rtcDisciplineCompare ptp) s fun t =>
        -500000 ≤ t.dev.rtc.trim ∧ t.dev.rtc.trim ≤ 500000 ∧ t.dev.rtc.sec = s.dev.rtc.sec) ∧
    ∀ o : Origin,
      (∀ p : Bytes, Waits s o 0x0A00 p → p.length = 12 → Pass (calendarTests p) → s.dev.discActive = false →
        s.dev.rtc.pending = none → Goes (.timeSetCalendar o) s fun t =>
          Working t o ∧
          t.dev.rtc.pending = some (BitVec.ofNat 64 (calendarWord s.dev.rtc p).1, .calendar) ∧
          t.dev.rtc.waiter = some o) ∧
      (Waits s o 0x0A01 [] → utcOk (utcOf s.dev.rtc s.dev.rtc.timeWord.toNat) = true → Goes (.timeGetCalendar o) s fun t =>
        Answers t o stOk (leBytes 8 s.dev.rtc.timeWord.toNat ++
          calendarOf (utcOf s.dev.rtc s.dev.rtc.timeWord.toNat).toNat (s.dev.rtc.timeWord.toNat % 2 ^ 24) ++
          le16 (s.dev.rtc.leapFor s.dev.rtc.timeWord.toNat) ++
          leBytes 1 (b2n s.dev.rtc.osf + 2 * b2n s.dev.discActive + 4 * b2n s.dev.rtc.leapPend.isSome) ++ zeros 1)) ∧
      (∀ w : DWord, Waits s o 0x0A02 (zeros 4 ++ leBytes 8 w.toNat ++ zeros 12) →
        utcOk (utcOf s.dev.rtc w.toNat) = true → Goes (.convert o) s fun t =>
          Answers t o stOk (leBytes 8 w.toNat ++ calendarOf (utcOf s.dev.rtc w.toNat).toNat (w.toNat % 2 ^ 24) ++
            le16 (s.dev.rtc.leapFor w.toNat) ++ zeros 2)) ∧
      (∀ c : Bytes, Waits s o 0x0A02 ([1] ++ zeros 11 ++ c) → c.length = 12 → Pass (calendarTests c) →
        Goes (.convert o) s fun t =>
          Answers t o stOk (leBytes 8 (calendarWord s.dev.rtc c).1 ++ calendarOf (calendarSeconds c) (getLe c 8 3) ++
            le16 (calendarWord s.dev.rtc c).2 ++ zeros 2)) ∧
      (∀ (off : Half) (at_ : DWord), Waits s o 0x0A06 (leBytes 2 off.toNat ++ [1, 0] ++ leBytes 8 at_.toNat ++ zeros 4) →
        s.dev.rtc.leapFromPtp = false → -100 ≤ off.toInt → off.toInt ≤ 100 → at_.toNat % 2 ^ 24 = 0 →
        s.dev.rtc.timeWord.toNat < at_.toNat → Goes (.leapOffsetSet o) s fun t =>
          Answers t o stOk [] ∧ t.dev.rtc.leapPend = some (off.toInt, at_) ∧ t.dev.pwr.confDirty = true)

/-- A usable sample below LOW counts in bin 0, any other in bin min(⌊(v − LOW) / WIDTH⌋ + 1, 31); that bin gains 1,
saturating, SATURATED is set where it stood at its limit, and every other bin and BADQ stay; a sample with bit 7 of its
quality set counts in BADQ and in no bin. A usable sample becomes an extreme's minimum, with the stamps of its commit,
exactly where none has been seen or it is strictly less than the minimum held, and the maximum likewise where it is strictly
greater; a sample that is not usable changes nothing there. -/
def Obligations.HistogramsAndExtremes : Prop :=
  (∀ (v : TV) (h : Hist), 0 < h.width.toInt →
    (qUsable v.quality = false → histAdd v h = { h with badq := satInc h.badq }) ∧
    (qUsable v.quality = true → ∀ k : Nat,
      (k = if v.value.toInt < h.low.toInt then 0
        else min 31 (((v.value.toInt - h.low.toInt) / h.width.toInt).toNat + 1)) →
      vget (histAdd v h).bins k = satInc (vget h.bins k) ∧ (histAdd v h).badq = h.badq ∧
      (vget h.bins k = 0xFFFFFFFF → (histAdd v h).saturated = true) ∧
      (vget h.bins k ≠ 0xFFFFFFFF → (histAdd v h).saturated = h.saturated) ∧
      ∀ i, i ≠ k → vget (histAdd v h).bins i = vget h.bins i)) ∧
  ∀ (v : TV) (st : Stamp) (e : Extreme),
    (qUsable v.quality = false → extAdd v st e = e) ∧
    (qUsable v.quality = true →
      (extAdd v st e).seen = true ∧
      ((e.seen = false ∨ v.value.toInt < e.min.value.toInt) → (extAdd v st e).min = st) ∧
      (e.seen = true → e.min.value.toInt ≤ v.value.toInt → (extAdd v st e).min = e.min) ∧
      ((e.seen = false ∨ e.max.value.toInt < v.value.toInt) → (extAdd v st e).max = st) ∧
      (e.seen = true → v.value.toInt ≤ e.max.value.toInt → (extAdd v st e).max = e.max))

/-- HISTORY_CONFIG with ENABLE binds a cleared record with its stamps, and without ENABLE keeps the counts; HISTORY_READ
answers the head and the records of its range; HISTORY_CLEAR of the log empties it with DROPPED, and a flush is due; a
flush stages the changed segments, and its end makes them the flash's content and raises HISTORY_FLUSHED. -/
def Obligations.HistoryRecorder : Prop :=
  ∀ (s : State) (o : Origin),
    (∀ p : Bytes, Waits s o 0x0A03 p → Pass (histCfgTests s.dev p) → byteAt p 0 = 0 → byteAt p 2 = 1 →
      Goes (.historyConfig o) s fun t =>
        Answers t o stOk [] ∧ t.dev.pwr.confDirty = true ∧
        ∃ h, mget t.dev.hist.hists (byteAt p 1) = some h ∧ h.bind.enabled = true ∧ h.bind.space = byteAt p 3 ∧
          h.bind.element = getLe p 4 2 ∧ h.bind.decim = getLe p 6 2 ∧ h.low = BitVec.ofNat 32 (getLe p 8 4) ∧
          h.width = BitVec.ofNat 32 (getLe p 12 4) ∧ h.badq = 0 ∧ h.bins = Vector.replicate 32 0 ∧
          h.opSec = s.dev.hist.opSeconds ∧ h.cycles = s.dev.hist.powerCycles) ∧
    (∀ (p : Bytes) (h : Hist), Waits s o 0x0A03 p → Pass (histCfgTests s.dev p) → byteAt p 0 = 0 → byteAt p 2 = 0 →
      mget s.dev.hist.hists (byteAt p 1) = some h → Goes (.historyConfig o) s fun t =>
        Answers t o stOk [] ∧ ∃ h', mget t.dev.hist.hists (byteAt p 1) = some h' ∧ h'.bind.enabled = false ∧
          h'.bins = h.bins ∧ h'.badq = h.badq) ∧
    (∀ (kind : Fin 3) (first count : Half),
      Waits s o 0x0A04 ([BitVec.ofNat 8 kind.val, 0] ++ leBytes 2 first.toNat ++ leBytes 2 count.toNat ++ zeros 2) →
      0 < count.toNat → (kind = 0 → count.toNat ≤ 24) → (kind = 1 → count.toNat ≤ 63) →
      (kind = 2 → count.toNat ≤ 127) → first.toNat + count.toNat ≤ histTotal kind s.dev →
      Goes (.historyRead o) s fun t =>
        Answers t o stOk (histObject kind first.toNat count.toNat s.dev) ∧ t.dev.hist = s.dev.hist) ∧
    (Waits s o 0x0A05 ([2, 0] ++ leBytes 4 0x5A5A0A05 ++ zeros 2) → s.dev.pfwFlush = false →
      Goes (.historyClear o) s fun t =>
        Answers t o stOk [] ∧ t.dev.hist.log = [] ∧ t.dev.hist.dropped = 0 ∧ t.dev.hist.clearFlush = true ∧
        t.dev.hist.hists = s.dev.hist.hists ∧ t.dev.hist.extremes = s.dev.hist.extremes) ∧
    (s.dev.hist.flush = none → Goes .historyPeriodicFlush s fun t =>
      ∃ f, t.dev.hist.flush = some f ∧ f.kind = 1 ∧ f.copy = histCopy s.dev ∧ 0 ∈ f.segments ∧
        (∀ g ∈ s.dev.hist.dirty, g ∈ f.segments) ∧ t.dev.hist.dirty = []) ∧
    (s.dev.hist.flush = none → s.dev.hist.clearFlush = true → Goes .historyClearFlush s fun t =>
      ∃ f, t.dev.hist.flush = some f ∧ f.kind = 2 ∧ t.dev.hist.clearFlush = false) ∧
    (∀ f : Flush, s.dev.hist.flush = some f → Goes (.historyFlushComplete true) s fun t =>
      t.dev.hist.flush = none ∧ t.dev.hist.flushSeq = s.dev.hist.flushSeq + 1 ∧
      t.dev.hist.flash = flashMerge f.segments f.copy s.dev.hist.flash ∧
      (∀ g ∈ f.segments, g ∈ t.dev.hist.valid) ∧ t.dev.evt.pending.getLsbD 123 = true)


/-- Rails that settle take an RMS panel from RAILS_UP to SHOWING with PANEL_UPDATE_DONE and a bistable one to its first pass; a
rail fault while driving is FAULT with its event; a discharge ends OFF or RETAINED as its cause says. At a frame's start the
polarity changes, a waiting exchange takes the drawing buffer, and a stop after a frame pair discharges. A row is checked at
the end of RESET, written through SELECT and EVOLVE, and stands on the glass at its end; a failing row is bad, once, with
PANEL_CRC_MISMATCH; a pass that is done raises PANEL_UPDATE_DONE and the panel idles or starts the next region. A PTEMP
reading joins the last 8, and a walk finds the bad rows. The commands of class 0x0Bxx act as R521 to R526 say. A device
without a panel ignores the panel's events. -/
def Obligations.AnnunciatorPanel : Prop :=
  ∀ s : State,
    let d := s.dev
    let x := d.panel
    (d.hasPanel = false → ∀ mv, Becomes (.ptempMeasure mv) s d) ∧
    (d.hasPanel = true →
      (x.state = .railsUp → x.driveMode = 1 → Goes .panelRailsSettled s fun t =>
        t.dev.panel.state = .showing ∧ t.dev.panel.settled = true ∧ t.dev.panel.polarity = false ∧
        Raised t .panelUpdateDone (16 + 256 * x.pendingMask.toNat)) ∧
      (x.state = .railsUp → x.driveMode = 2 → x.stopReq = none → x.keepPending = false → x.set.regionStart = [] →
        Goes .panelRailsSettled s fun t =>
          t.dev.panel.state = .updating ∧ t.dev.panel.pendingMask = 0 ∧
          ∃ p, t.dev.panel.pass = some p ∧ p.region = 0 ∧ p.start = d.tick ∧ p.wait = false) ∧
      (∀ (pos neg : Bool) (kind : Fin 4) (mag : Half), kind = 2 ∧ (x.state = .idle ∨ x.state = .updating) ∨
          kind = 3 ∧ (x.state = .idle ∨ x.state = .updating ∨ x.state = .railsUp) ∨
          kind = 1 ∧ x.state = .railsUp ∧ x.settled = false →
        Goes (.panelRailFaultDetect pos neg kind mag) s fun t =>
          t.dev.panel.state = .fault ∧ t.dev.panel.pass = none ∧
          Raised t .panelRailFault (b2n pos + 2 * b2n neg + 4 * kind + 65536 * mag.toNat)) ∧
      (x.state = .discharge →
        (x.disCause = .retain → Goes .panelDischargeDone s fun t =>
          t.dev.panel.state = .retained ∧ Raised t .panelUpdateDone (8 + 256 * x.pendingMask.toNat)) ∧
        (x.disCause = .modeOff → x.set.mode = 0 → Goes .panelDischargeDone s fun t => t.dev.panel.state = .off)) ∧
      (x.state = .showing →
        (x.stopReq = none → x.exchange = none → Goes .panelFrameStart s fun t =>
          t.dev.panel.polarity = !x.polarity ∧ t.mem = s.mem ∧ t.dev.panel.state = .showing) ∧
        (∀ o, x.exchange = some o → x.locked = false → Goes .panelFrameStart s fun t =>
          t.mem = { s.mem with shown := s.mem.drawing } ∧ t.dev.panel.locked = true ∧ t.dev.panel.badRows = []) ∧
        (∀ c, x.stopReq = some c → x.polarity = true → Goes .panelFrameStart s fun t =>
          t.dev.panel.state = .discharge ∧ t.dev.panel.disCause = c)) ∧
      (∀ (p : Machine.Pass) (fault : Bool), x.state = .updating → x.pass = some p → p.wait = false → p.done = false →
        (p.phase = .reset → fault = false → vget x.rowChecks p.row = rowCrc s.mem p.row →
          Goes (.bistableRowPhaseEnd fault) s fun t =>
            t.dev.panel.pass = some {
              p with phase := .select, phaseTick := d.tick, pixels := d.composedRow s.mem p.row }) ∧
        (p.phase = .reset → fault = true → x.badRows.contains p.row = false → Goes (.bistableRowPhaseEnd fault) s fun t =>
          t.dev.panel.badRows = x.badRows ++ [p.row] ∧
          Raised t .panelCrcMismatch (p.row + 128 + 256 * (x.badRows.length + 1))) ∧
        (p.phase = .select → p.timing.te ≠ 0 → Goes (.bistableRowPhaseEnd fault) s fun t =>
          t.dev.panel.pass = some { p with phase := .evolve, phaseTick := d.tick }) ∧
        (p.phase = .evolve ∨ p.phase = .select ∧ p.timing.te = 0 → Goes (.bistableRowPhaseEnd fault) s fun t =>
          mget t.dev.panel.glass p.row = some p.pixels ∧
          (p.stop = false → x.rowsFrom p.region (p.row + 1) = [] →
            t.dev.panel.pass = some { p with done := true }))) ∧
      (∀ p : Machine.Pass, x.state = .updating → x.pass = some p → p.done = true →
        Goes .panelPassEnd s fun t =>
          Raised t .panelUpdateDone (p.region + 256 * x.pendingMask.toNat + 65536 * min 0xFFFF ((d.tick - p.start) / 20)) ∧
          t.dev.panel.lastRegion = p.region ∧
          (x.stopReq = none → x.pendingMask = 0 → t.dev.panel.state = .idle ∧ t.dev.panel.pass = none)) ∧
      (∀ mv : Half, Goes (.ptempMeasure mv) s fun t => t.dev.panel.temps = (mv.toNat :: x.temps).take 8) ∧
      (∀ bad : List (Fin 64),
        (x.fullFrame = true → Goes (.panelRowWalk bad) s fun t =>
          ∀ r : Fin 64, t.dev.panel.badRows.contains r.val = true ↔
            x.badRows.contains r.val = true ∨ r ∈ bad ∨ vget x.rowChecks r ≠ rowCrc s.mem r) ∧
        (x.fullFrame = false → Becomes (.panelRowWalk bad) s d)) ∧
      ∀ (o : Origin) (p : Bytes),
        (Waits s o 0x0B00 p → Pass (panelCfgTests d p) → Goes (.panelConfig o) s fun t =>
          Answers t o stOk [] ∧ t.dev.panel.set = panelSetOf p x.set.bands ∧ t.dev.pwr.confDirty = true) ∧
        (∀ (off : Nat) (data : Bytes), Waits s o 0x0B05 (leBytes 2 off ++ leBytes 2 data.length ++ data) →
          1 ≤ data.length → data.length ≤ 4076 → off + data.length ≤ 8192 → x.locked = false →
          Memory.wf 0 s.mem.drawing = true → Goes (.panelFrameWrite o) s fun t =>
            Answers t o stOk [] ∧ { t.mem with drawing := s.mem.drawing } = s.mem ∧
            (∀ i b, data[i]? = some b → Memory.read 0 t.mem.drawing (off + i) = b) ∧
            ∀ a, a < off ∨ off + data.length ≤ a →
              Memory.read 0 t.mem.drawing a = Memory.read 0 s.mem.drawing a) ∧
        (Waits s o 0x0B01 (leBytes 4 (crc32c (Memory.readN 0 s.mem.drawing 0 8192)).toNat ++ zeros 4) →
          x.unwritten = [] → d.panelDma = false → x.exchange = none →
          (x.state = .showing → Goes (.panelFrameCommit o) s fun t =>
            Working t o ∧ t.dev.panel.exchange = some o ∧ t.dev.panel.frameSeq = x.frameSeq + 1 ∧ t.mem = s.mem) ∧
          (x.state ≠ .showing → x.locked = false → Goes (.panelFrameCommit o) s fun t =>
            t.mem = { s.mem with shown := s.mem.drawing } ∧ t.dev.panel.fullFrame = true ∧
            t.dev.panel.locked = true ∧ t.dev.panel.frameSeq = x.frameSeq + 1 ∧
            ∃ mask : Byte, Answers t o stOk (leBytes 4 (x.frameSeq + 1).toNat ++ leBytes 1 mask.toNat ++ zeros 3))) ∧
        (∀ m : Byte, Waits s o 0x0B02 [m, 0, 0, 0] → m.toNat < 2 ^ x.set.regions →
          (m = 0 ∨ x.set.mode = 2 → Goes (.panelRegionUpdate o) s fun t =>
            Answers t o stOk (panelStatus t.dev) ∧
            (x.state ≠ .off → x.state ≠ .idle → t.dev.panel.pendingMask = x.pendingMask ||| m)) ∧
          (m ≠ 0 → x.set.mode = 1 → Goes (.panelRegionUpdate o) s fun t =>
            Answers t o stNotPermitted [] ∧ t.dev.panel = x)) ∧
        (Waits s o 0x0B03 [0, 0, 0, 0] →
          (x.state = .showing ∨ x.state = .updating → Goes (.panelRetainOff o) s fun t =>
            Answers t o stOk [] ∧ t.dev.panel.stopReq = some (x.stopReq.getD .retain)) ∧
          (x.state = .railsUp → Goes (.panelRetainOff o) s fun t =>
            Working t o ∧ t.dev.panel.retainWait = some o ∧
            t.dev.panel.stopReq = some (x.stopReq.getD .retain))) ∧
        (Waits s o 0x0B03 [1, 0, 0, 0] → x.state = .retained → Goes (.panelRetainOff o) s fun t =>
          Answers t o stOk [] ∧ t.dev.panel.state = .railsUp ∧ t.dev.panel.keepPending = true) ∧
        (Waits s o 0x0B04 [0, 0, 0, 0] → Goes (.panelBands o) s fun t =>
          Answers t o stOk (panelStatus d) ∧ t.dev.panel = x) ∧
        (Waits s o 0x0B04 p → 1 ≤ byteAt p 0 → byteAt p 0 ≤ 8 → p.length = 4 + 32 * byteAt p 0 → allZero p 1 3 = true →
          (∀ i < byteAt p 0, allZero p (28 + 32 * i) 8 = true ∧ (bandAt p (4 + 32 * i)).bad = false) →
          let bs := (List.range (byteAt p 0)).map fun i => bandAt p (4 + 32 * i)
          rising (bs.map (·.upper)) = true → (lget bs (byteAt p 0 - 1)).upper = 0xFFFF → Goes (.panelBands o) s fun t =>
            Answers t o stOk (panelStatus t.dev) ∧ t.dev.panel.set = { x.set with bands := bs } ∧
            t.dev.pwr.confDirty = true))

/-- SETTINGS_READ and FUSE_READ answer the stored bytes. A write of settings or keys that passes its tests starts programming
the lowest blank record above every used one, and waits; a repair commits a candidate or a named line to the lowest blank
entry, lists, or drops a candidate. A write that reads back leaves a valid record, raises SETTINGS_CHANGED and answers its
number, and changes nothing else of any memory; one that does not leaves a used record that is not valid, and INTERNAL. -/
def Obligations.OneTimeMemory : Prop :=
  ∀ (s : State) (o : Origin),
    let d := s.dev
    (Waits s o 0x0C00 [0xFF, 0, 0, 0] → Goes (.settingsRead o) s fun t =>
      Answers t o stOk (otpHead s.mem d) ∧ t.mem = s.mem) ∧
    (∀ k : Fin 4, Waits s o 0x0C00 [BitVec.ofNat 8 k, 0, 0, 0] → Goes (.settingsRead o) s fun t =>
      Answers t o stOk (otpHead s.mem d ++ otpRecord s.mem (settingsBase k)) ∧ t.mem = s.mem) ∧
    (∀ off n : Nat, Waits s o 0x0C02 (leBytes 2 off ++ leBytes 2 n) → off % 4 = 0 → n % 4 = 0 → 4 ≤ n → off + n ≤ 512 →
      Goes (.fuseRead o) s fun t =>
        Answers t o stOk (Memory.readN 0 s.mem.fuse off n ++ leBytes 1 (b2n (!d.otp.fuseOk))) ∧ t.mem = s.mem) ∧
    (o ≠ .net → d.otp.write = none → d.pwr.pfw = false → d.pwr.hold = false →
      (∀ (c : Bytes) (n : Nat), Waits s o 0x0C01 (leBytes 4 0x5A5A0C01 ++ zeros 4 ++ c) → c.length = 1012 →
        getLe c 0 2 = 1 → settingsResv c = false → settingsRange c = false →
        nextRecord s.mem settingsBase 4 = some n → Goes (.settingsWriteGeneration o) s fun t =>
          Working t o ∧ t.dev.otp.write = some (.settings n c (some o)) ∧ t.mem = s.mem) ∧
      (∀ (c : Bytes) (n : Nat), Waits s o 0x0C03 (leBytes 4 0x5A5A0C03 ++ zeros 4 ++ c) → c.length = 1012 →
        allZero c 1 7 = true → allZero c 137 15 = true → allZero c 408 604 = true → keysBad c = false →
        nextRecord s.mem keysBase 2 = some n → Goes (.keyInstall o) s fun t =>
          Working t o ∧ t.dev.otp.write = some (.keys n c (some o)) ∧ t.mem = s.mem)) ∧
    (∀ c : Bytes, Waits s o 0x0C01 (leBytes 4 0x5A5A0C01 ++ zeros 4 ++ c) → o ≠ .net → c.length = 1012 →
      getLe c 0 2 = 1 → settingsResv c = false → settingsRange c = false → nextRecord s.mem settingsBase 4 = none →
      Goes (.settingsWriteGeneration o) s fun t => Answers t o stOtpExhausted [] ∧ t.mem = s.mem ∧ t.dev.otp = d.otp) ∧
    (∀ p : Bytes, Waits s o 0x0903 p → Pass (repairTests o s.mem d p) →
      (byteAt p 0 = 0 → Goes (.repairCommit o) s fun t =>
        Answers t o stOk (repairList s.mem d) ∧ t.mem = s.mem ∧ t.dev.otp = d.otp) ∧
      (byteAt p 0 = 1 ∨ byteAt p 0 = 2 ∧ memAbsent (byteAt p 8) (byteAt p 9) d = false →
        Goes (.repairCommit o) s fun t =>
          ∃ k e, repairTarget d p = some k ∧ (blankRepairs s.mem).head? = some e ∧ Working t o ∧ t.mem = s.mem ∧
            t.dev.otp.write = some (.repair e (repairBytes k) (if byteAt p 0 = 1 then some k else none) (some o))) ∧
      (byteAt p 0 = 3 → Goes (.repairCommit o) s fun t =>
        ∃ k, d.integ.candidates[byteAt p 1]? = some k ∧ k ∉ t.dev.integ.candidates ∧ t.mem = s.mem)) ∧
    ∀ w : OtpWrite, d.otp.write = some w → Memory.wf 0 s.mem.otp = true →
      (Goes (.otpWriteDone true) s fun t =>
        t.dev.otp.write = none ∧ Raised t .settingsChanged w.detail ∧ { t.mem with otp := s.mem.otp } = s.mem ∧
        (∀ a, a < w.target.1 ∨ w.target.1 + w.target.2.length ≤ a →
          Memory.read 0 t.mem.otp a = Memory.read 0 s.mem.otp a) ∧
        (w.waiter = some o → Working s o → Answers t o stOk (leBytes 1 w.number ++ zeros 3)) ∧
        (∀ n c wt, w = .settings n c wt → n < 4 → c.length = 1012 →
          recordValid n (otpRecord t.mem (settingsBase n)) = true ∧ slice (otpRecord t.mem (settingsBase n)) 8 1012 = c) ∧
        (∀ n c wt, w = .keys n c wt → n < 2 → c.length = 1012 →
          recordValid n (otpRecord t.mem (keysBase n)) = true ∧ slice (otpRecord t.mem (keysBase n)) 8 1012 = c)) ∧
      (Goes (.otpWriteDone false) s fun t =>
        t.dev.otp.write = none ∧ Raised t .fwFault w.code ∧ { t.mem with otp := s.mem.otp } = s.mem ∧
        (w.waiter = some o → Working s o → Answers t o stInternal []) ∧
        (∀ n c wt, w = .settings n c wt → n < 4 → c.length = 1012 →
          recordValid n (otpRecord t.mem (settingsBase n)) = false ∧ recordUsed (otpRecord t.mem (settingsBase n)) = true))
/-- Each of the seven resets answers a state in which the internal reset holds, FENCE_N is asserted, the mailboxes, events,
tasks, loop units, field and current-loop channels stand at their reset values, the mailbox buffers are 0 and the boot
flash and the RTC count are as they were. POR and BROWNOUT clear the privileged store; the others keep it on a running
device; SOFT keeps the PCIe link and the MSI-X table, every other kind resets the host block. -/
def Obligations.ResetsRestartTheDevice : Prop :=
  ∀ s : State,
    (Goes .powerOnReset s fun t =>
      AfterReset .por s t ∧ t.mem.storeA = [] ∧ t.mem.storeB = [] ∧ t.dev.host = {}) ∧
    (Goes .brownoutReset s fun t =>
      AfterReset .brownout s t ∧ t.mem.storeA = [] ∧ t.mem.storeB = [] ∧ t.dev.host = {}) ∧
    (s.dev.pwr.phase = .running → Goes .pinReset s fun t =>
      AfterReset .pin s t ∧ t.mem.storeA = s.mem.storeA ∧ t.mem.storeB = s.mem.storeB ∧ t.dev.host = {}) ∧
    (s.dev.pwr.phase = .running → Goes .lockstepReset s fun t =>
      AfterReset .lockstep s t ∧ t.mem.storeA = s.mem.storeA ∧ t.mem.storeB = s.mem.storeB ∧ t.dev.host = {}) ∧
    (s.dev.pwr.phase = .running → s.dev.pwr.wdgStage1 = true → Goes .supervisorWdgReset s fun t =>
      AfterReset .swdg s t ∧ t.mem.storeA = s.mem.storeA ∧ t.mem.storeB = s.mem.storeB ∧ t.dev.host = {}) ∧
    (s.dev.pwr.phase = .running → s.dev.pwr.tjCrit = true → Goes .thermalReset s fun t =>
      AfterReset .thermal s t ∧ t.mem.storeA = s.mem.storeA ∧ t.mem.storeB = s.mem.storeB ∧ t.dev.host = {}) ∧
    (s.dev.pwr.phase = .running → s.dev.sys.softReset = true → s.dev.softAnswering = false →
      Goes .softResetExecute s fun t =>
        AfterReset .soft s t ∧ t.mem.storeA = s.mem.storeA ∧ t.mem.storeB = s.mem.storeB ∧
        t.dev.host.linkUp = s.dev.host.linkUp ∧ t.dev.host.busMaster = s.dev.host.busMaster ∧
        t.dev.host.msix = s.dev.host.msix ∧ t.dev.host.pba = 0)

/-- After a power-on reset SYS_RESET_CAUSE is POR alone; every other reset sets its own bit and leaves the others as they
are. -/
def Obligations.ResetCauses : Prop :=
  ∀ s : State,
    (Goes .powerOnReset s fun t => t.dev.sys.cause.word = 1) ∧
    (Goes .brownoutReset s fun t => t.dev.sys.cause = { s.dev.sys.cause with brownout := true }) ∧
    (Goes .pinReset s fun t => t.dev.sys.cause = { s.dev.sys.cause with pin := true }) ∧
    (Goes .lockstepReset s fun t => t.dev.sys.cause = { s.dev.sys.cause with lockstep := true }) ∧
    (s.dev.pwr.wdgStage1 = true → Goes .supervisorWdgReset s fun t =>
      t.dev.sys.cause = { s.dev.sys.cause with swdg := true }) ∧
    (s.dev.pwr.tjCrit = true → Goes .thermalReset s fun t =>
      t.dev.sys.cause = { s.dev.sys.cause with thermal := true }) ∧
    (s.dev.sys.softReset = true → s.dev.softAnswering = false → Goes .softResetExecute s fun t =>
      t.dev.sys.cause = { s.dev.sys.cause with soft := true })

/-- The end of the internal reset loads the identity record from the fuse block; no other command, in any state, changes
it. -/
def Obligations.IdentityIsFixed : Prop :=
  (∀ (pos : BitVec 3) (sel : BitVec 2) (s : State), s.dev.pwr.phase = .inReset → s.dev.pwr.jtag.holds = false →
    Goes (.internalResetEnd pos sel) s fun t =>
      t.dev.sys.ident = BitVec.ofNat 64 (fromLe (Memory.readN 0 s.mem.fuse 0 8))) ∧
  (∀ (c : Instr) (s t : State), (∀ pos sel, c ≠ .internalResetEnd pos sel) → Machine.exec c s = .next t →
    t.dev.sys.ident = s.dev.sys.ident)

/-- The end of the internal reset samples the straps and releases FENCE_N; the firmware's start sets FW_READY, opens
channel 0 and, outside RECOVERY, the others, and raises POR_DONE, in RECOVERY exactly where BOOT_SEL forbids a boot, no
firmware copy is valid or the fuse block fails; the program load takes the kept slot, the image of the boot header or
none; AUTOSTART starts its enabled stopped tasks where CYCLE_START would. -/
def Obligations.StartUp : Prop :=
  ∀ s : State,
    (∀ (pos : BitVec 3) (sel : BitVec 2), s.dev.pwr.phase = .inReset → s.dev.pwr.jtag.holds = false →
      Goes (.internalResetEnd pos sel) s fun t =>
        t.dev.pwr.phase = .booting ∧ t.dev.pwr.fenceN = false ∧ t.dev.sys.stackPos = pos ∧ t.dev.sys.bootSel = sel) ∧
    (s.dev.pwr.phase = .booting → ∀ lost : List RestoreLoss, Goes (.startupFwReady lost) s fun t =>
      t.dev.pwr.phase = .running ∧ t.dev.sys.fwReady = true ∧ (vget t.dev.mbx.chans 0).state = .idle ∧
      t.dev.evt.pending.getLsbD 0 = true ∧
      (t.dev.sys.recovery = true ↔ s.dev.sys.recovery = true ∨ 2 ≤ s.dev.sys.bootSel.toNat ∨
        bootFirmware s.mem = none ∨ s.dev.otp.fuseOk = false) ∧
      (t.dev.sys.recovery = false → ∀ n : Fin 8, (vget t.dev.mbx.chans n).state = .idle)) ∧
    (s.dev.pwr.loadDue = true → s.dev.serves = true → s.dev.pwr.storeKept = false → s.dev.pwr.bootImage = 0xFF →
      Goes .startupProgramLoad s fun t =>
        t.dev.pwr.loadDue = false ∧ t.dev.prog.activeSlot = false ∧ t.dev.prog.image = s.dev.prog.image ∧
        t.mem = s.mem) ∧
    (s.dev.pwr.loadDue = true → s.dev.serves = true → s.dev.pwr.storeKept = true →
      (s.dev.slotRec (b2n s.dev.prog.activeSlot)).result = .accepted → Goes .startupProgramLoad s fun t =>
        t.dev.pwr.loadDue = false ∧ t.dev.pwr.startCheck = some true ∧
        t.dev.prog.checking = some (b2n s.dev.prog.activeSlot)) ∧
    (∀ b : List Budget, s.dev.pwr.autostartDue = true → s.dev.pfwOn = false → s.dev.prog.image ≠ none →
      s.dev.serves = true → s.dev.stackWhole = true → s.dev.sys.role = .unassigned → s.dev.stopped = false →
      s.dev.master = true →
      s.dev.startFits b ((maskTasks s.dev.pwr.autostart.toNat).filter fun t =>
        (s.dev.task t).cfg.enable && (s.dev.task t).st == .stopped) = true →
      Goes (.autostartTasks b) s fun t =>
        t.dev.pwr.autostartDue = false ∧
        ∀ n : Fin 8, s.dev.pwr.autostart.getLsbD n = true → (s.dev.task n).cfg.enable = true →
          (s.dev.task n).st = .stopped → (t.dev.task n).st = .starting)

/-- A rail sample is taken as VDD_CORE, and a second VDD_CORE sample outside its band raises VCORE_WARN; a VBAT measurement
is kept, and the second in a row below 2.1 V raises VBAT_LOW with it; the hottest temperature is what GET_STATUS reports,
and a 1 ms average from 105 °C raises TJ_HIGH; a watchdog not restarted for 20 ms raises SUPERVISOR_WDG with its pair; the
TAP takes its instruction, and EXTEST, CLAMP and HIGHZ hold the device in reset until Test-Logic-Reset makes a PIN reset. -/
def Obligations.SupervisionAndJtag : Prop :=
  ∀ s : State,
    (∀ mv : List Half, s.dev.awake = true → mv.length = 6 → Goes (.railMonitorSample mv) s fun t =>
      t.dev.pwr.vddCore = lget mv 0 ∧
      ((lget mv 0).toNat < 820 → (vget s.dev.pwr.rails 0).outside = true → (vget s.dev.pwr.rails 0).warned = false →
        t.dev.evt.pending.getLsbD 2 = true)) ∧
    (∀ v : Half, s.dev.awake = true → Goes (.vbatMeasure v) s fun t =>
      t.dev.pwr.vbat = v ∧
      (v.toNat < 210 → s.dev.pwr.vbatUnder = true → s.dev.pwr.vbatLow = false →
        Raised t .vbatLow (65536 * v.toNat)) ∧
      (220 ≤ v.toNat → t.dev.pwr.vbatLow = false)) ∧
    (∀ (k : Fin 12) (temp : Half), s.dev.awake = true → Goes (.tjMeasure k temp) s fun t =>
      t.dev.pwr.tj = temp ∧
      (9 ≤ s.dev.pwr.tjHist.length → s.dev.pwr.tjHigh = false →
        105 * 160 ≤ temp.toInt + (s.dev.pwr.tjHist.take 9).sum → Raised t .tjHigh (k.val + 65536 * temp.toNat))) ∧
    (∀ pair : Bool, s.dev.awake = true → Goes (.supervisorWdgStage1 pair) s fun t =>
      t.dev.pwr.wdgStage1 = true ∧ Raised t .supervisorWdg (b2n pair)) ∧
    (∀ i : JtagInstr, Goes (.jtagInstructionUpdate i) s fun t =>
      t.dev.pwr.jtag = i ∧ (i.holds = true → s.dev.pwr.jtag.holds = false → t.dev.pwr.phase = .inReset)) ∧
    (Goes .jtagTapReset s fun t =>
      t.dev.pwr.jtag = .idcode ∧
      (s.dev.pwr.jtag.holds = true → t.dev.pwr.phase = .inReset ∧ t.dev.sys.cause.pin = true))

/-- A qualified PFW_N raises PFW and begins the hold; the power-fail snapshot stands in flash and step 2 ends; PFW ends,
and with step 2 over the hold ends with it; a changed configuration is saved whole under the next SEQUENCE; the periodic
snapshot copies the retentive data after 3,600 operating seconds; a save that ends well is the newest valid copy. -/
def Obligations.PowerFailAndSaves : Prop :=
  ∀ s : State,
    (s.dev.awake = true → s.dev.pwr.pfw = false → Goes .pfwNFall s fun t =>
      t.dev.pwr.pfw = true ∧ t.dev.pwr.hold = true ∧ Raised t .pfw 1) ∧
    (s.dev.pwr.hold = true → s.dev.pwr.step2 = false → s.dev.sys.role ≠ .standby → s.dev.prog.image ≠ none →
      Goes (.powerFailSnapshotDone true) s fun t =>
        t.dev.pwr.step2 = true ∧ t.dev.pwr.snapFlash = some (s.dev.snapshot 1)) ∧
    (s.dev.pwr.pfw = true → s.dev.pwr.hold = true → s.dev.pwr.step2 = true → s.dev.inStack = false →
      (∀ i : Fin 8, vget s.dev.pwr.pfwAt i = false) → Goes .pfwEnd s fun t =>
        t.dev.pwr.pfw = false ∧ t.dev.pwr.hold = false) ∧
    (s.dev.serves = true → s.dev.pwr.hold = false → s.dev.pwr.confDirty = true → s.dev.pwr.confSave = none →
      Goes .retentiveConfigSave s fun t =>
        t.dev.pwr.confDirty = false ∧ ∃ r, t.dev.pwr.confSave = some r ∧ r.conf = confOf s.dev ∧
          r.epoch = s.dev.pwr.bootEpoch ∧ ∀ r0, s.dev.pwr.confFlash = some r0 → r.seq = r0.seq + 1) ∧
    (s.dev.serves = true → s.dev.pwr.hold = false → s.dev.pwr.snapSave = none → s.dev.sys.role ≠ .standby →
      s.dev.prog.image ≠ none → s.dev.pwr.lastSnapOp.toNat + 3600 ≤ s.dev.hist.opSeconds.toNat →
      Goes .retentiveSnapshot s fun t =>
        t.dev.pwr.snapSave = some (s.dev.snapshot 0) ∧ t.dev.pwr.lastSnapOp = s.dev.hist.opSeconds) ∧
    (∀ r : ConfRec, s.dev.pwr.confSave = some r → s.dev.pwr.hold = false →
      Goes (.flashOperationDone .config true) s fun t =>
        t.dev.pwr.confFlash = some r ∧ t.dev.pwr.confSave = none)


namespace Sys2Proof.Claims

/-- The parts that a frame tells apart: the blocks of the device, those of the program, what has been sent, and the addressed
memories (the model's own count of free values is none of them). -/
inductive Part where
  | sys | mailbox | events | host | history | sent | tasks | cells | values | journals | inputs | forces | program |
    restOfProgram | loops | digital | analog | network | serial | gligil | pair | integrity | rtc | panel | otp |
    power | tick | buffers | store | frames | otpBytes | flash | fuses
  deriving DecidableEq, Repr

/-- A part is the same in two states. -/
def Part.same (p : Part) (s t : State) : Prop :=
  let a := s.dev.prog
  let b := t.dev.prog
  match p with
  | .sys => t.dev.sys = s.dev.sys
  | .mailbox => t.dev.mbx = s.dev.mbx
  | .events => t.dev.evt = s.dev.evt
  | .host => t.dev.host = s.dev.host
  | .history => t.dev.hist = s.dev.hist
  | .sent => t.dev.out = s.dev.out
  | .tasks => b.tasks = a.tasks
  | .cells => b.cells = a.cells
  | .values => b.vals = a.vals
  | .journals => b.timers = a.timers ∧ b.counters = a.counters ∧ b.edges = a.edges
  | .inputs => b.partnerIn = a.partnerIn ∧ b.fieldIn = a.fieldIn
  | .forces => b.forces = a.forces
  | .program => b.image = a.image ∧ b.activeSlot = a.activeSlot ∧ b.slots = a.slots ∧ b.map = a.map ∧ b.load = a.load ∧
      b.checking = a.checking
  | .restOfProgram => b = { b with
      origin := a.origin, writePend := a.writePend, stagedRecs := a.stagedRecs, recCommitWaiter := a.recCommitWaiter
      mig := a.mig, migQueue := a.migQueue, swap := a.swap, report := a.report, speed := a.speed
      stopWaiters := a.stopWaiters, partnerStale := a.partnerStale, reaction := a.reaction }
  | .loops => t.dev.loops = s.dev.loops
  | .digital => t.dev.dig = s.dev.dig
  | .analog => t.dev.ana = s.dev.ana
  | .network => t.dev.net = s.dev.net
  | .serial => t.dev.ser = s.dev.ser
  | .gligil => t.dev.gl = s.dev.gl
  | .pair => t.dev.red = s.dev.red
  | .integrity => t.dev.integ = s.dev.integ
  | .rtc => t.dev.rtc = s.dev.rtc
  | .panel => t.dev.panel = s.dev.panel
  | .otp => t.dev.otp = s.dev.otp
  | .power => t.dev.pwr = s.dev.pwr
  | .tick => t.dev.tick = s.dev.tick
  | .buffers => t.mem.bufs = s.mem.bufs
  | .store => t.mem.storeA = s.mem.storeA ∧ t.mem.storeB = s.mem.storeB
  | .frames => t.mem.shown = s.mem.shown ∧ t.mem.drawing = s.mem.drawing
  | .otpBytes => t.mem.otp = s.mem.otp
  | .flash => t.mem.flash = s.mem.flash
  | .fuses => t.mem.fuse = s.mem.fuse

/-- What raising an event may write. -/
def raised : List Part := [.events, .host, .history, .sent]

/-- The parts that a command of the host, memory, time, panel or settings rows may write; none for the other rows. -/
def hostMayWrite : Instr → Option (List Part)
  | .getIdentity _ | .timeGetCalendar _ | .convert _ | .historyRead _ | .settingsRead _ | .fuseRead _ |
    .unknownCommand _ => some [.mailbox]
  | .getStatus _ => some [.sys, .mailbox]
  | .softReset _ => some (raised ++ [.sys, .mailbox, .tasks, .cells, .restOfProgram, .digital, .analog, .network,
    .gligil, .pair, .power])
  | .softResetExecute => some [.sys, .mailbox, .events, .host, .history, .tasks, .cells, .values, .journals, .inputs,
    .forces, .program, .restOfProgram, .loops, .digital, .analog, .network, .serial, .gligil, .pair, .integrity, .rtc,
    .panel, .otp, .power, .tick, .buffers, .store, .frames, .otpBytes]
  | .eventConfig _ | .eventRead _ => some [.mailbox, .events]
  | .dmaSubmit _ | .mbxRing _ | .mbxRelease _ _ => some (raised ++ [.mailbox])
  | .dmaStatus _ => some [.mailbox, .host]
  | .dmaAbort _ => some [.mailbox, .host, .sent, .program, .panel]
  | .scrubRange _ | .scrubSummary _ => some [.mailbox, .integrity]
  | .weevilConfig _ => some [.mailbox, .integrity, .power]
  | .repairCommit _ => some [.mailbox, .integrity, .otp]
  | .timeSetCalendar _ => some [.mailbox, .rtc]
  | .historyConfig _ => some [.mailbox, .history, .power]
  | .historyClear _ => some [.mailbox, .history]
  | .leapOffsetSet _ => some [.mailbox, .rtc, .power]
  | .panelConfig _ => some [.mailbox, .panel, .power]
  | .panelFrameWrite _ | .panelFrameCommit _ | .panelFrameStart => some [.mailbox, .panel, .frames]
  | .panelRegionUpdate _ | .panelRetainOff _ => some [.mailbox, .panel]
  | .panelBands _ => some (raised ++ [.mailbox, .panel, .power])
  | .settingsWriteGeneration _ | .keyInstall _ => some [.mailbox, .otp]
  | .mbxCommandComplete _ _ => some (raised ++ [.mailbox, .restOfProgram, .loops, .analog, .network, .rtc, .panel,
    .otp, .buffers])
  | .registerWrite _ _ | .spiTransaction _ _ _ => some (raised ++ [.sys, .mailbox, .rtc, .power, .buffers])
  | .evtPendingClear _ _ => some [.events, .host]
  | .evtMaskWrite _ _ => some [.events, .host, .sent]
  | .rtcCommit | .rtcTrimWrite _ | .rtcSetWrite _ _ | .rtcDisciplineCompare _ | .rtcOscStart => some [.rtc]
  | .rtcCancel _ | .rtcDisciplineWrite _ | .leapChangeApply => some [.rtc, .power]
  | .spiPortStatus | .pciePowerStateChange _ | .pcieBusMasterEnableChange _ | .msixMaskWrite _ _ => some [.host,
    .sent]
  | .pcieLinkTransition _ _ _ | .pciePerst | .historyFlushComplete _ => some raised
  | .dmaDescriptorDone _ _ | .dmaHalt _ _ _ => some (raised ++ [.program, .panel, .store, .frames])
  | .mailboxCmdReceived _ _ _ => some (raised ++ [.mailbox, .network])
  | .weevilStep _ _ | .scrubPassStep _ _ _ => some (raised ++ [.sys, .mailbox, .tasks, .cells, .program,
    .restOfProgram, .digital, .analog, .network, .gligil, .pair, .integrity, .power])
  | .supervisorMemoryWalk _ => some (raised ++ [.sys, .mailbox, .tasks, .cells, .values, .journals, .inputs, .forces,
    .program, .restOfProgram, .loops, .digital, .analog, .network, .serial, .gligil, .pair, .integrity, .rtc, .panel,
    .otp, .power, .tick, .buffers, .store, .frames, .otpBytes])
  | .rtcLoad | .rtcTick => some (raised ++ [.mailbox, .rtc, .power])
  | .rtcOscStop | .vbatRestore => some (raised ++ [.rtc])
  | .historyPeriodicFlush | .historyClearFlush => some [.history]
  | .panelRailsSettled => some (raised ++ [.mailbox, .panel])
  | .panelRailFaultDetect _ _ _ _ => some (raised ++ [.mailbox, .panel, .frames])
  | .panelDischargeDone | .bistableRowPhaseEnd _ | .panelPassEnd | .ptempMeasure _ | .panelRowWalk _ => some (raised
    ++ [.panel])
  | .otpWriteDone _ => some (raised ++ [.mailbox, .integrity, .otp, .otpBytes])
  | .evtCtrlWrite _ => some [.events]
  | _ => none

/-- The parts that a command of the loop, field, network or bus rows may write; none for the other rows. -/
def fieldMayWrite : Instr → Option (List Part)
  | .loopConfig _ => some (raised ++ [.mailbox, .loops, .digital, .analog, .network, .gligil, .power])
  | .loopCoeffStage _ | .loopFlagsReadClear _ | .traceArm _ => some [.mailbox, .loops]
  | .loopCoeffCommit _ => some [.mailbox, .sent, .loops, .network, .gligil, .power]
  | .traceRead _ | .partnerTableRead _ => some [.mailbox]
  | .diConfig _ | .tripConfirm _ => some (raised ++ [.mailbox, .digital, .network, .gligil, .power])
  | .doConfig _ | .fieldWdgConfig _ => some [.mailbox, .sent, .digital, .network, .gligil, .power]
  | .diagRead _ _ | .tripArm _ => some [.mailbox, .digital]
  | .outputReset _ _ => some (raised ++ [.mailbox, .digital, .analog])
  | .aiConfig _ => some [.mailbox, .sent, .analog, .network, .gligil, .power]
  | .aoConfig _ => some [.mailbox, .sent, .digital, .analog, .network, .gligil, .power]
  | .analogDiagRead _ _ | .aiCaptureDone => some [.mailbox, .analog]
  | .analogCalibrate _ => some [.mailbox, .analog, .power]
  | .netConfig _ => some (raised ++ [.mailbox, .network, .pair, .power])
  | .subscribe _ => some [.mailbox, .sent, .network]
  | .ptpConfig _ => some (raised ++ [.mailbox, .network, .rtc, .power])
  | .canConfig _ | .uartConfig _ => some [.mailbox, .sent, .network, .serial, .gligil, .power]
  | .stackStatus _ => some [.mailbox, .gligil]
  | .baseTick => some [.history, .sent, .loops, .digital, .analog, .tick]
  | .tickMarkerReceived _ _ => some [.history, .sent, .loops, .digital, .analog, .gligil, .tick]
  | .tickLost | .gligilPortUp _ _ _ _ _ | .gligilPortDown _ | .ringStatusFrame _ _ _ _ => some (raised ++ [.sys,
    .mailbox, .tasks, .cells, .restOfProgram, .digital, .analog, .network, .gligil, .pair, .power])
  | .publishSets _ => some (raised ++ [.mailbox, .tasks, .cells, .restOfProgram, .digital, .analog, .network, .gligil,
    .pair])
  | .gligilCommitDecision _ _ _ | .gligilAckReceived _ _ => some [.gligil]
  | .gligilScheduledData _ => some [.sys, .sent, .tasks, .inputs, .gligil]
  | .gligilRetransmit _ => some [.sent, .gligil]
  | .loopSample _ _ _ => some (raised ++ [.sys, .mailbox, .loops, .digital, .analog, .power])
  | .diFilterSample _ _ | .diWireBreakTimer _ _ | .doRetryTimer _ | .doOvertempRelease _ | .doGroupLowClear _ _ |
    .tripStageExpiry | .doRetryTrialPassed _ => some [.digital]
  | .diCountEdge _ _ | .doShortSupplyDetect _ _ | .doOpenLoadDetect _ _ | .doIlimTimeout _ | .doOvertempEntry _ |
    .doGroupSupplyReturn _ _ | .doGroupLatchedFall _ _ | .doReenergiseSlot _ | .doGroupLowSet _ _ => some (raised ++
    [.digital])
  | .doGroupSupplyLoss _ _ | .fieldWdgTimeout _ | .extsafeNAssert | .extsafeNRelease | .tripEvaluation | .vfldALoss _
    => some (raised ++ [.digital, .analog])
  | .aiConversion _ _ | .aiLooppowerTimeout _ | .vfldALowSet _ | .aoComplianceTimeExpiry _ _ | .aoOpenDetect _ _ |
    .aoMismatchDetect _ _ | .aoTemperatureChange _ _ => some (raised ++ [.analog])
  | .aiLooppowerRetry _ _ | .vfldAReturn _ | .aoRecoverySlot | .aiSupplyGraceEnd | .vfldALowClear _ |
    .aoComplianceDetect _ _ | .aoReadbackConversion _ _ | .aoThermalRecover _ _ => some [.analog]
  | .ethLinkChange _ _ => some (raised ++ [.network, .pair])
  | .hsrSupervisionSend | .hsrPrpFrameReceived _ _ | .announceReceived _ _ | .announceTimeout _ | .withdrawReceived _
    _ => some (raised ++ [.network])
  | .hsrNodeAgeout _ | .datagramRejected _ _ | .setAckReceived _ _ | .ptpDelayRespReceived _ _ => some [.network]
  | .ptpSyncReceived _ _ | .ptpSyncTimeout | .ptpAnnounceReceiptTimeout _ => some (raised ++ [.network, .rtc])
  | .ptpSendTimer _ | .arpRequestReceived _ _ _ | .icmpEchoRequestReceived _ _ _ _ | .igmpQueryReceived _ _ |
    .ptpDelayReqReceived _ _ _ => some [.sent]
  | .announceSend | .subscribeReqReceived _ _ | .subscribeRespReceived _ _ | .subscribeRetry _ => some [.sent,
    .network]
  | .setDataReceived _ _ => some [.sys, .sent, .tasks, .inputs, .network]
  | .eventFrameSend => some [.events, .sent, .network]
  | .canFrameReceived _ _ _ _ _ | .canRxTimeout _ | .listenerFieldTimeout _ => some [.inputs]
  | .canBusOffEntry _ _ | .modbusReply _ _ _ | .modbusReplyTimeout _ | .listenerSentenceReceived _ _ _ => some (raised
    ++ [.inputs, .serial])
  | .canBusoffRecovery _ => some [.serial]
  | .modbusPoll _ _ => some [.sent, .serial]
  | .ptpAnnounceReceived _ _ _ _ _ _ => some (raised ++ [.network, .rtc, .power])
  | _ => none

/-- The parts that a command of the cell, task, program, pair or power rows may write; none for the other rows. -/
def programMayWrite : Instr → Option (List Part)
  | .programLoad _ => some [.mailbox, .program, .store]
  | .programVerify _ => some [.mailbox, .program]
  | .programSwap _ | .writeValues _ | .stageConfig _ => some [.mailbox, .restOfProgram]
  | .readValues _ | .placementReport _ => some [.mailbox]
  | .force _ => some [.mailbox, .forces]
  | .migrate _ _ => some (raised ++ [.mailbox, .program, .restOfProgram])
  | .taskConfig _ => some [.mailbox, .sent, .tasks, .network, .gligil, .power]
  | .cycleStart _ _ => some [.mailbox, .tasks, .journals, .inputs]
  | .cycleStop _ | .swapGapStart => some [.mailbox, .tasks, .cells, .restOfProgram, .digital, .analog]
  | .taskStats _ => some [.mailbox, .tasks]
  | .inputPolicy _ => some [.mailbox, .sent, .inputs, .network, .gligil]
  | .pairConfig _ | .arbiterConfig _ => some [.mailbox, .pair, .power]
  | .leaseStatus _ | .switchoverRequest _ | .shadowCompareStart _ | .shadowCompareStop _ => some [.mailbox, .pair]
  | .cellLd _ _ | .cellA _ _ | .cellO _ _ | .cellX _ _ | .cellBa _ _ | .cellBo _ _ | .cellBx _ _ | .cellBc _ _ |
    .cellNot _ _ | .cellAsn _ _ | .cellSet _ _ | .cellRst _ _ | .cellPedge _ _ | .cellNedge _ _ | .cellTon _ _ |
    .cellTof _ _ | .cellTp _ _ | .cellCtu _ _ | .cellCtd _ _ | .cellCrst _ _ | .cellCld _ _ | .cellLdw _ _ | .cellMovw
    _ _ | .cellCmp _ _ | .cellCmpi _ _ | .cellAdd _ _ | .cellSub _ _ | .cellMul _ _ | .cellQual _ _ | .cellFlg _ _ |
    .cellJmp _ _ | .cellNop _ _ | .cellEnd _ _ => some (raised ++ [.sys, .mailbox, .tasks, .cells, .journals,
    .program, .restOfProgram, .digital, .analog, .network, .gligil, .pair, .integrity, .power])
  | .illegalInstruction _ _ _ | .confirmLimit _ | .latenessLimit _ | .fenceNoticeReceived | .migrationPrepareDone |
    .progressStall _ _ | .leaseEnd | .switchoverFence | .tjMeasure _ _ => some (raised ++ [.sys, .mailbox, .tasks,
    .cells, .restOfProgram, .digital, .analog, .network, .gligil, .pair, .power])
  | .blockStart _ | .l0ReloadDone _ => some [.tasks, .cells]
  | .taskInstant _ _ _ => some (raised ++ [.sys, .mailbox, .tasks, .cells, .values, .inputs, .restOfProgram, .loops,
    .digital, .gligil, .pair, .power])
  | .inputDeadline _ => some (raised ++ [.tasks, .inputs, .restOfProgram, .network, .gligil])
  | .cycleConfirmed _ _ => some [.mailbox, .sent, .tasks, .cells, .restOfProgram, .digital, .analog, .gligil]
  | .commitPoint _ => some (raised ++ [.sys, .mailbox, .tasks, .cells, .values, .journals, .inputs, .restOfProgram,
    .loops, .digital, .analog, .network, .gligil, .pair, .panel, .power])
  | .writeValuesApply => some [.mailbox, .values, .restOfProgram, .loops, .pair, .power]
  | .gligilConfirmFrame _ _ _ => some [.gligil]
  | .placementPartFrame _ _ => some [.sent, .program, .gligil]
  | .imageForwardFrame _ _ _ => some [.program, .store]
  | .placementChecksDone _ => some (raised ++ [.tasks, .cells, .values, .journals, .inputs, .forces, .program,
    .restOfProgram, .loops, .network, .gligil, .pair, .panel, .power, .store])
  | .speedMonitorSample _ => some (raised ++ [.restOfProgram])
  | .mapRevalidation _ _ | .migrationSwitch _ _ => some (raised ++ [.sys, .mailbox, .tasks, .cells, .program,
    .restOfProgram, .digital, .analog, .network, .gligil, .pair, .power])
  | .swapGapEnd _ | .pairNoticeReceived _ => some (raised ++ [.mailbox, .tasks, .cells, .values, .journals, .inputs,
    .forces, .program, .restOfProgram, .loops, .digital, .analog, .network, .gligil, .pair, .panel, .power])
  | .shapeRecordExchange _ _ | .leaseRenewTimer | .firnGapTimeout => some (raised ++ [.network, .gligil, .pair])
  | .leaseReqReceived _ _ | .arbiterGrantReady _ | .arbiterQuietEnd _ | .coldWaitExpiry _ | .leaseReleaseReceived _ _
    => some (raised ++ [.network, .pair, .power])
  | .leaseReqPendingExpiry _ _ | .coldLeaseRequest | .leaseDenyReceived _ _ | .fallbackQuietEnd => some [.sent,
    .network, .pair]
  | .leaseGrantReceived _ _ => some (raised ++ [.sys, .network, .pair, .power])
  | .leaseRenewReceived _ _ => some (raised ++ [.network, .gligil, .pair, .power])
  | .leaseAckReceived _ _ => some [.network, .pair]
  | .leaseLateTimer => some (raised ++ [.pair])
  | .fenceLeaseRelease | .firnDeltaReceived _ _ | .firnSegmentReceived _ _ | .firnPassStart | .firnAckSend |
    .firnAckReceived _ _ => some [.sent, .network, .gligil, .pair]
  | .configForwardReceived _ _ => some (raised ++ [.mailbox, .tasks, .inputs, .loops, .digital, .analog, .network,
    .serial, .gligil, .power])
  | .takeoverLoadDone => some [.sent, .tasks, .values, .journals, .forces, .restOfProgram, .loops, .network, .pair,
    .power]
  | .shadowInputReceived _ _ _ _ _ _ => some (raised ++ [.sys, .tasks, .cells, .values, .journals, .forces, .network,
    .pair])
  | .shadowCompareTimeout => some [.pair]
  | .retentiveConfigSave | .retentiveSnapshot => some [.power]
  | .powerOnReset | .brownoutReset | .pinReset | .lockstepReset | .supervisorWdgReset | .thermalReset |
    .jtagInstructionUpdate _ | .jtagTapReset => some [.sys, .mailbox, .events, .host, .history, .tasks, .cells,
    .values, .journals, .inputs, .forces, .program, .restOfProgram, .loops, .digital, .analog, .network, .serial,
    .gligil, .pair, .integrity, .rtc, .panel, .otp, .power, .tick, .buffers, .store, .frames, .otpBytes]
  | .supervisorWdgStage1 _ | .railMonitorSample _ | .vbatMeasure _ | .powerFailSnapshotDone _ => some (raised ++
    [.power])
  | .pfwNFall => some (raised ++ [.mailbox, .tasks, .cells, .restOfProgram, .digital, .analog, .gligil, .panel,
    .power, .frames])
  | .pfwEnd => some [.sent, .gligil, .panel, .power]
  | .startupFwReady _ => some (raised ++ [.sys, .mailbox, .tasks, .loops, .digital, .analog, .network, .serial, .pair,
    .integrity, .rtc, .panel, .power, .frames])
  | .startupProgramLoad => some (raised ++ [.program, .power, .store])
  | .autostartTasks _ => some [.tasks, .journals, .inputs, .power]
  | .internalResetEnd _ _ => some [.sys, .gligil, .otp, .power]
  | .flashOperationDone _ _ => some (raised ++ [.pair, .power])
  | _ => none

end Sys2Proof.Claims

/-- Whatever the state: when a command of these rows goes on, every part of the machine that its row does not list is exactly
as it was, the boot flash and the fuses among them. A part listed may change, and the statements of the commands say how. -/
def Obligations.FrameOfHostCommands : Prop :=
  ∀ (c : Instr) (ps : List Part) (s t : State), hostMayWrite c = some ps → Machine.exec c s = .next t →
    ∀ p : Part, p ∉ ps → p.same s t

/-- Whatever the state: when a command of these rows goes on, every part of the machine that its row does not list is exactly
as it was, the boot flash and the fuses among them. A part listed may change, and the statements of the commands say how. -/
def Obligations.FrameOfFieldCommands : Prop :=
  ∀ (c : Instr) (ps : List Part) (s t : State), fieldMayWrite c = some ps → Machine.exec c s = .next t →
    ∀ p : Part, p ∉ ps → p.same s t

/-- Whatever the state: when a command of these rows goes on, every part of the machine that its row does not list is exactly
as it was, the boot flash and the fuses among them. A part listed may change, and the statements of the commands say how. -/
def Obligations.FrameOfProgramCommands : Prop :=
  ∀ (c : Instr) (ps : List Part) (s t : State), programMayWrite c = some ps → Machine.exec c s = .next t →
    ∀ p : Part, p ∉ ps → p.same s t
end

