-- ==== Sys2Proof/Laws/State.lean ====
section
/-!
SUPPORT. Laws/State.lean: one lemma per part of the device and shared update, true by rfl: what an update of one part
leaves alone. No later proof unfolds a record update.
-/

namespace Sys2Proof.Machine

open Sys2Proof

@[simp] theorem modProg_sys (f : Prog → Prog) (d : Dev) : (modProg f d).sys = d.sys := rfl
@[simp] theorem modProg_mbx (f : Prog → Prog) (d : Dev) : (modProg f d).mbx = d.mbx := rfl
@[simp] theorem modProg_evt (f : Prog → Prog) (d : Dev) : (modProg f d).evt = d.evt := rfl
@[simp] theorem modProg_host (f : Prog → Prog) (d : Dev) : (modProg f d).host = d.host := rfl
@[simp] theorem modProg_prog (f : Prog → Prog) (d : Dev) : (modProg f d).prog = f d.prog := rfl
@[simp] theorem modProg_loops (f : Prog → Prog) (d : Dev) : (modProg f d).loops = d.loops := rfl
@[simp] theorem modProg_dig (f : Prog → Prog) (d : Dev) : (modProg f d).dig = d.dig := rfl
@[simp] theorem modProg_ana (f : Prog → Prog) (d : Dev) : (modProg f d).ana = d.ana := rfl
@[simp] theorem modProg_net (f : Prog → Prog) (d : Dev) : (modProg f d).net = d.net := rfl
@[simp] theorem modProg_ser (f : Prog → Prog) (d : Dev) : (modProg f d).ser = d.ser := rfl
@[simp] theorem modProg_gl (f : Prog → Prog) (d : Dev) : (modProg f d).gl = d.gl := rfl
@[simp] theorem modProg_red (f : Prog → Prog) (d : Dev) : (modProg f d).red = d.red := rfl
@[simp] theorem modProg_integ (f : Prog → Prog) (d : Dev) : (modProg f d).integ = d.integ := rfl
@[simp] theorem modProg_rtc (f : Prog → Prog) (d : Dev) : (modProg f d).rtc = d.rtc := rfl
@[simp] theorem modProg_hist (f : Prog → Prog) (d : Dev) : (modProg f d).hist = d.hist := rfl
@[simp] theorem modProg_panel (f : Prog → Prog) (d : Dev) : (modProg f d).panel = d.panel := rfl
@[simp] theorem modProg_otp (f : Prog → Prog) (d : Dev) : (modProg f d).otp = d.otp := rfl
@[simp] theorem modProg_pwr (f : Prog → Prog) (d : Dev) : (modProg f d).pwr = d.pwr := rfl
@[simp] theorem modProg_tick (f : Prog → Prog) (d : Dev) : (modProg f d).tick = d.tick := rfl
@[simp] theorem modProg_free (f : Prog → Prog) (d : Dev) : (modProg f d).free = d.free := rfl
@[simp] theorem modProg_out (f : Prog → Prog) (d : Dev) : (modProg f d).out = d.out := rfl

@[simp] theorem modTask_sys (t : Nat) (f : Task → Task) (d : Dev) : (modTask t f d).sys = d.sys := rfl
@[simp] theorem modTask_mbx (t : Nat) (f : Task → Task) (d : Dev) : (modTask t f d).mbx = d.mbx := rfl
@[simp] theorem modTask_evt (t : Nat) (f : Task → Task) (d : Dev) : (modTask t f d).evt = d.evt := rfl
@[simp] theorem modTask_host (t : Nat) (f : Task → Task) (d : Dev) : (modTask t f d).host = d.host := rfl
@[simp] theorem modTask_loops (t : Nat) (f : Task → Task) (d : Dev) : (modTask t f d).loops = d.loops := rfl
@[simp] theorem modTask_dig (t : Nat) (f : Task → Task) (d : Dev) : (modTask t f d).dig = d.dig := rfl
@[simp] theorem modTask_ana (t : Nat) (f : Task → Task) (d : Dev) : (modTask t f d).ana = d.ana := rfl
@[simp] theorem modTask_net (t : Nat) (f : Task → Task) (d : Dev) : (modTask t f d).net = d.net := rfl
@[simp] theorem modTask_ser (t : Nat) (f : Task → Task) (d : Dev) : (modTask t f d).ser = d.ser := rfl
@[simp] theorem modTask_gl (t : Nat) (f : Task → Task) (d : Dev) : (modTask t f d).gl = d.gl := rfl
@[simp] theorem modTask_red (t : Nat) (f : Task → Task) (d : Dev) : (modTask t f d).red = d.red := rfl
@[simp] theorem modTask_integ (t : Nat) (f : Task → Task) (d : Dev) : (modTask t f d).integ = d.integ := rfl
@[simp] theorem modTask_rtc (t : Nat) (f : Task → Task) (d : Dev) : (modTask t f d).rtc = d.rtc := rfl
@[simp] theorem modTask_hist (t : Nat) (f : Task → Task) (d : Dev) : (modTask t f d).hist = d.hist := rfl
@[simp] theorem modTask_panel (t : Nat) (f : Task → Task) (d : Dev) : (modTask t f d).panel = d.panel := rfl
@[simp] theorem modTask_otp (t : Nat) (f : Task → Task) (d : Dev) : (modTask t f d).otp = d.otp := rfl
@[simp] theorem modTask_pwr (t : Nat) (f : Task → Task) (d : Dev) : (modTask t f d).pwr = d.pwr := rfl
@[simp] theorem modTask_tick (t : Nat) (f : Task → Task) (d : Dev) : (modTask t f d).tick = d.tick := rfl
@[simp] theorem modTask_free (t : Nat) (f : Task → Task) (d : Dev) : (modTask t f d).free = d.free := rfl
@[simp] theorem modTask_out (t : Nat) (f : Task → Task) (d : Dev) : (modTask t f d).out = d.out := rfl

@[simp] theorem modCell_sys (c : Nat) (f : Cell → Cell) (d : Dev) : (modCell c f d).sys = d.sys := rfl
@[simp] theorem modCell_mbx (c : Nat) (f : Cell → Cell) (d : Dev) : (modCell c f d).mbx = d.mbx := rfl
@[simp] theorem modCell_evt (c : Nat) (f : Cell → Cell) (d : Dev) : (modCell c f d).evt = d.evt := rfl
@[simp] theorem modCell_host (c : Nat) (f : Cell → Cell) (d : Dev) : (modCell c f d).host = d.host := rfl
@[simp] theorem modCell_loops (c : Nat) (f : Cell → Cell) (d : Dev) : (modCell c f d).loops = d.loops := rfl
@[simp] theorem modCell_dig (c : Nat) (f : Cell → Cell) (d : Dev) : (modCell c f d).dig = d.dig := rfl
@[simp] theorem modCell_ana (c : Nat) (f : Cell → Cell) (d : Dev) : (modCell c f d).ana = d.ana := rfl
@[simp] theorem modCell_net (c : Nat) (f : Cell → Cell) (d : Dev) : (modCell c f d).net = d.net := rfl
@[simp] theorem modCell_ser (c : Nat) (f : Cell → Cell) (d : Dev) : (modCell c f d).ser = d.ser := rfl
@[simp] theorem modCell_gl (c : Nat) (f : Cell → Cell) (d : Dev) : (modCell c f d).gl = d.gl := rfl
@[simp] theorem modCell_red (c : Nat) (f : Cell → Cell) (d : Dev) : (modCell c f d).red = d.red := rfl
@[simp] theorem modCell_integ (c : Nat) (f : Cell → Cell) (d : Dev) : (modCell c f d).integ = d.integ := rfl
@[simp] theorem modCell_rtc (c : Nat) (f : Cell → Cell) (d : Dev) : (modCell c f d).rtc = d.rtc := rfl
@[simp] theorem modCell_hist (c : Nat) (f : Cell → Cell) (d : Dev) : (modCell c f d).hist = d.hist := rfl
@[simp] theorem modCell_panel (c : Nat) (f : Cell → Cell) (d : Dev) : (modCell c f d).panel = d.panel := rfl
@[simp] theorem modCell_otp (c : Nat) (f : Cell → Cell) (d : Dev) : (modCell c f d).otp = d.otp := rfl
@[simp] theorem modCell_pwr (c : Nat) (f : Cell → Cell) (d : Dev) : (modCell c f d).pwr = d.pwr := rfl
@[simp] theorem modCell_tick (c : Nat) (f : Cell → Cell) (d : Dev) : (modCell c f d).tick = d.tick := rfl
@[simp] theorem modCell_free (c : Nat) (f : Cell → Cell) (d : Dev) : (modCell c f d).free = d.free := rfl
@[simp] theorem modCell_out (c : Nat) (f : Cell → Cell) (d : Dev) : (modCell c f d).out = d.out := rfl

@[simp] theorem modNet_sys (f : Net → Net) (d : Dev) : (modNet f d).sys = d.sys := rfl
@[simp] theorem modNet_mbx (f : Net → Net) (d : Dev) : (modNet f d).mbx = d.mbx := rfl
@[simp] theorem modNet_evt (f : Net → Net) (d : Dev) : (modNet f d).evt = d.evt := rfl
@[simp] theorem modNet_host (f : Net → Net) (d : Dev) : (modNet f d).host = d.host := rfl
@[simp] theorem modNet_prog (f : Net → Net) (d : Dev) : (modNet f d).prog = d.prog := rfl
@[simp] theorem modNet_loops (f : Net → Net) (d : Dev) : (modNet f d).loops = d.loops := rfl
@[simp] theorem modNet_dig (f : Net → Net) (d : Dev) : (modNet f d).dig = d.dig := rfl
@[simp] theorem modNet_ana (f : Net → Net) (d : Dev) : (modNet f d).ana = d.ana := rfl
@[simp] theorem modNet_net (f : Net → Net) (d : Dev) : (modNet f d).net = f d.net := rfl
@[simp] theorem modNet_ser (f : Net → Net) (d : Dev) : (modNet f d).ser = d.ser := rfl
@[simp] theorem modNet_gl (f : Net → Net) (d : Dev) : (modNet f d).gl = d.gl := rfl
@[simp] theorem modNet_red (f : Net → Net) (d : Dev) : (modNet f d).red = d.red := rfl
@[simp] theorem modNet_integ (f : Net → Net) (d : Dev) : (modNet f d).integ = d.integ := rfl
@[simp] theorem modNet_rtc (f : Net → Net) (d : Dev) : (modNet f d).rtc = d.rtc := rfl
@[simp] theorem modNet_hist (f : Net → Net) (d : Dev) : (modNet f d).hist = d.hist := rfl
@[simp] theorem modNet_panel (f : Net → Net) (d : Dev) : (modNet f d).panel = d.panel := rfl
@[simp] theorem modNet_otp (f : Net → Net) (d : Dev) : (modNet f d).otp = d.otp := rfl
@[simp] theorem modNet_pwr (f : Net → Net) (d : Dev) : (modNet f d).pwr = d.pwr := rfl
@[simp] theorem modNet_tick (f : Net → Net) (d : Dev) : (modNet f d).tick = d.tick := rfl
@[simp] theorem modNet_free (f : Net → Net) (d : Dev) : (modNet f d).free = d.free := rfl
@[simp] theorem modNet_out (f : Net → Net) (d : Dev) : (modNet f d).out = d.out := rfl

@[simp] theorem modSer_sys (f : Ser → Ser) (d : Dev) : (modSer f d).sys = d.sys := rfl
@[simp] theorem modSer_mbx (f : Ser → Ser) (d : Dev) : (modSer f d).mbx = d.mbx := rfl
@[simp] theorem modSer_evt (f : Ser → Ser) (d : Dev) : (modSer f d).evt = d.evt := rfl
@[simp] theorem modSer_host (f : Ser → Ser) (d : Dev) : (modSer f d).host = d.host := rfl
@[simp] theorem modSer_prog (f : Ser → Ser) (d : Dev) : (modSer f d).prog = d.prog := rfl
@[simp] theorem modSer_loops (f : Ser → Ser) (d : Dev) : (modSer f d).loops = d.loops := rfl
@[simp] theorem modSer_dig (f : Ser → Ser) (d : Dev) : (modSer f d).dig = d.dig := rfl
@[simp] theorem modSer_ana (f : Ser → Ser) (d : Dev) : (modSer f d).ana = d.ana := rfl
@[simp] theorem modSer_net (f : Ser → Ser) (d : Dev) : (modSer f d).net = d.net := rfl
@[simp] theorem modSer_ser (f : Ser → Ser) (d : Dev) : (modSer f d).ser = f d.ser := rfl
@[simp] theorem modSer_gl (f : Ser → Ser) (d : Dev) : (modSer f d).gl = d.gl := rfl
@[simp] theorem modSer_red (f : Ser → Ser) (d : Dev) : (modSer f d).red = d.red := rfl
@[simp] theorem modSer_integ (f : Ser → Ser) (d : Dev) : (modSer f d).integ = d.integ := rfl
@[simp] theorem modSer_rtc (f : Ser → Ser) (d : Dev) : (modSer f d).rtc = d.rtc := rfl
@[simp] theorem modSer_hist (f : Ser → Ser) (d : Dev) : (modSer f d).hist = d.hist := rfl
@[simp] theorem modSer_panel (f : Ser → Ser) (d : Dev) : (modSer f d).panel = d.panel := rfl
@[simp] theorem modSer_otp (f : Ser → Ser) (d : Dev) : (modSer f d).otp = d.otp := rfl
@[simp] theorem modSer_pwr (f : Ser → Ser) (d : Dev) : (modSer f d).pwr = d.pwr := rfl
@[simp] theorem modSer_tick (f : Ser → Ser) (d : Dev) : (modSer f d).tick = d.tick := rfl
@[simp] theorem modSer_free (f : Ser → Ser) (d : Dev) : (modSer f d).free = d.free := rfl
@[simp] theorem modSer_out (f : Ser → Ser) (d : Dev) : (modSer f d).out = d.out := rfl

@[simp] theorem modGl_sys (f : Gl → Gl) (d : Dev) : (modGl f d).sys = d.sys := rfl
@[simp] theorem modGl_mbx (f : Gl → Gl) (d : Dev) : (modGl f d).mbx = d.mbx := rfl
@[simp] theorem modGl_evt (f : Gl → Gl) (d : Dev) : (modGl f d).evt = d.evt := rfl
@[simp] theorem modGl_host (f : Gl → Gl) (d : Dev) : (modGl f d).host = d.host := rfl
@[simp] theorem modGl_prog (f : Gl → Gl) (d : Dev) : (modGl f d).prog = d.prog := rfl
@[simp] theorem modGl_loops (f : Gl → Gl) (d : Dev) : (modGl f d).loops = d.loops := rfl
@[simp] theorem modGl_dig (f : Gl → Gl) (d : Dev) : (modGl f d).dig = d.dig := rfl
@[simp] theorem modGl_ana (f : Gl → Gl) (d : Dev) : (modGl f d).ana = d.ana := rfl
@[simp] theorem modGl_net (f : Gl → Gl) (d : Dev) : (modGl f d).net = d.net := rfl
@[simp] theorem modGl_ser (f : Gl → Gl) (d : Dev) : (modGl f d).ser = d.ser := rfl
@[simp] theorem modGl_gl (f : Gl → Gl) (d : Dev) : (modGl f d).gl = f d.gl := rfl
@[simp] theorem modGl_red (f : Gl → Gl) (d : Dev) : (modGl f d).red = d.red := rfl
@[simp] theorem modGl_integ (f : Gl → Gl) (d : Dev) : (modGl f d).integ = d.integ := rfl
@[simp] theorem modGl_rtc (f : Gl → Gl) (d : Dev) : (modGl f d).rtc = d.rtc := rfl
@[simp] theorem modGl_hist (f : Gl → Gl) (d : Dev) : (modGl f d).hist = d.hist := rfl
@[simp] theorem modGl_panel (f : Gl → Gl) (d : Dev) : (modGl f d).panel = d.panel := rfl
@[simp] theorem modGl_otp (f : Gl → Gl) (d : Dev) : (modGl f d).otp = d.otp := rfl
@[simp] theorem modGl_pwr (f : Gl → Gl) (d : Dev) : (modGl f d).pwr = d.pwr := rfl
@[simp] theorem modGl_tick (f : Gl → Gl) (d : Dev) : (modGl f d).tick = d.tick := rfl
@[simp] theorem modGl_free (f : Gl → Gl) (d : Dev) : (modGl f d).free = d.free := rfl
@[simp] theorem modGl_out (f : Gl → Gl) (d : Dev) : (modGl f d).out = d.out := rfl

@[simp] theorem modInteg_sys (f : Integ → Integ) (d : Dev) : (modInteg f d).sys = d.sys := rfl
@[simp] theorem modInteg_mbx (f : Integ → Integ) (d : Dev) : (modInteg f d).mbx = d.mbx := rfl
@[simp] theorem modInteg_evt (f : Integ → Integ) (d : Dev) : (modInteg f d).evt = d.evt := rfl
@[simp] theorem modInteg_host (f : Integ → Integ) (d : Dev) : (modInteg f d).host = d.host := rfl
@[simp] theorem modInteg_prog (f : Integ → Integ) (d : Dev) : (modInteg f d).prog = d.prog := rfl
@[simp] theorem modInteg_loops (f : Integ → Integ) (d : Dev) : (modInteg f d).loops = d.loops := rfl
@[simp] theorem modInteg_dig (f : Integ → Integ) (d : Dev) : (modInteg f d).dig = d.dig := rfl
@[simp] theorem modInteg_ana (f : Integ → Integ) (d : Dev) : (modInteg f d).ana = d.ana := rfl
@[simp] theorem modInteg_net (f : Integ → Integ) (d : Dev) : (modInteg f d).net = d.net := rfl
@[simp] theorem modInteg_ser (f : Integ → Integ) (d : Dev) : (modInteg f d).ser = d.ser := rfl
@[simp] theorem modInteg_gl (f : Integ → Integ) (d : Dev) : (modInteg f d).gl = d.gl := rfl
@[simp] theorem modInteg_red (f : Integ → Integ) (d : Dev) : (modInteg f d).red = d.red := rfl
@[simp] theorem modInteg_integ (f : Integ → Integ) (d : Dev) : (modInteg f d).integ = f d.integ := rfl
@[simp] theorem modInteg_rtc (f : Integ → Integ) (d : Dev) : (modInteg f d).rtc = d.rtc := rfl
@[simp] theorem modInteg_hist (f : Integ → Integ) (d : Dev) : (modInteg f d).hist = d.hist := rfl
@[simp] theorem modInteg_panel (f : Integ → Integ) (d : Dev) : (modInteg f d).panel = d.panel := rfl
@[simp] theorem modInteg_otp (f : Integ → Integ) (d : Dev) : (modInteg f d).otp = d.otp := rfl
@[simp] theorem modInteg_pwr (f : Integ → Integ) (d : Dev) : (modInteg f d).pwr = d.pwr := rfl
@[simp] theorem modInteg_tick (f : Integ → Integ) (d : Dev) : (modInteg f d).tick = d.tick := rfl
@[simp] theorem modInteg_free (f : Integ → Integ) (d : Dev) : (modInteg f d).free = d.free := rfl
@[simp] theorem modInteg_out (f : Integ → Integ) (d : Dev) : (modInteg f d).out = d.out := rfl

@[simp] theorem modHist_sys (f : HistRec → HistRec) (d : Dev) : (modHist f d).sys = d.sys := rfl
@[simp] theorem modHist_mbx (f : HistRec → HistRec) (d : Dev) : (modHist f d).mbx = d.mbx := rfl
@[simp] theorem modHist_evt (f : HistRec → HistRec) (d : Dev) : (modHist f d).evt = d.evt := rfl
@[simp] theorem modHist_host (f : HistRec → HistRec) (d : Dev) : (modHist f d).host = d.host := rfl
@[simp] theorem modHist_prog (f : HistRec → HistRec) (d : Dev) : (modHist f d).prog = d.prog := rfl
@[simp] theorem modHist_loops (f : HistRec → HistRec) (d : Dev) : (modHist f d).loops = d.loops := rfl
@[simp] theorem modHist_dig (f : HistRec → HistRec) (d : Dev) : (modHist f d).dig = d.dig := rfl
@[simp] theorem modHist_ana (f : HistRec → HistRec) (d : Dev) : (modHist f d).ana = d.ana := rfl
@[simp] theorem modHist_net (f : HistRec → HistRec) (d : Dev) : (modHist f d).net = d.net := rfl
@[simp] theorem modHist_ser (f : HistRec → HistRec) (d : Dev) : (modHist f d).ser = d.ser := rfl
@[simp] theorem modHist_gl (f : HistRec → HistRec) (d : Dev) : (modHist f d).gl = d.gl := rfl
@[simp] theorem modHist_red (f : HistRec → HistRec) (d : Dev) : (modHist f d).red = d.red := rfl
@[simp] theorem modHist_integ (f : HistRec → HistRec) (d : Dev) : (modHist f d).integ = d.integ := rfl
@[simp] theorem modHist_rtc (f : HistRec → HistRec) (d : Dev) : (modHist f d).rtc = d.rtc := rfl
@[simp] theorem modHist_hist (f : HistRec → HistRec) (d : Dev) : (modHist f d).hist = f d.hist := rfl
@[simp] theorem modHist_panel (f : HistRec → HistRec) (d : Dev) : (modHist f d).panel = d.panel := rfl
@[simp] theorem modHist_otp (f : HistRec → HistRec) (d : Dev) : (modHist f d).otp = d.otp := rfl
@[simp] theorem modHist_pwr (f : HistRec → HistRec) (d : Dev) : (modHist f d).pwr = d.pwr := rfl
@[simp] theorem modHist_tick (f : HistRec → HistRec) (d : Dev) : (modHist f d).tick = d.tick := rfl
@[simp] theorem modHist_free (f : HistRec → HistRec) (d : Dev) : (modHist f d).free = d.free := rfl
@[simp] theorem modHist_out (f : HistRec → HistRec) (d : Dev) : (modHist f d).out = d.out := rfl

@[simp] theorem modPanel_sys (f : Panel → Panel) (d : Dev) : (modPanel f d).sys = d.sys := rfl
@[simp] theorem modPanel_mbx (f : Panel → Panel) (d : Dev) : (modPanel f d).mbx = d.mbx := rfl
@[simp] theorem modPanel_evt (f : Panel → Panel) (d : Dev) : (modPanel f d).evt = d.evt := rfl
@[simp] theorem modPanel_host (f : Panel → Panel) (d : Dev) : (modPanel f d).host = d.host := rfl
@[simp] theorem modPanel_prog (f : Panel → Panel) (d : Dev) : (modPanel f d).prog = d.prog := rfl
@[simp] theorem modPanel_loops (f : Panel → Panel) (d : Dev) : (modPanel f d).loops = d.loops := rfl
@[simp] theorem modPanel_dig (f : Panel → Panel) (d : Dev) : (modPanel f d).dig = d.dig := rfl
@[simp] theorem modPanel_ana (f : Panel → Panel) (d : Dev) : (modPanel f d).ana = d.ana := rfl
@[simp] theorem modPanel_net (f : Panel → Panel) (d : Dev) : (modPanel f d).net = d.net := rfl
@[simp] theorem modPanel_ser (f : Panel → Panel) (d : Dev) : (modPanel f d).ser = d.ser := rfl
@[simp] theorem modPanel_gl (f : Panel → Panel) (d : Dev) : (modPanel f d).gl = d.gl := rfl
@[simp] theorem modPanel_red (f : Panel → Panel) (d : Dev) : (modPanel f d).red = d.red := rfl
@[simp] theorem modPanel_integ (f : Panel → Panel) (d : Dev) : (modPanel f d).integ = d.integ := rfl
@[simp] theorem modPanel_rtc (f : Panel → Panel) (d : Dev) : (modPanel f d).rtc = d.rtc := rfl
@[simp] theorem modPanel_hist (f : Panel → Panel) (d : Dev) : (modPanel f d).hist = d.hist := rfl
@[simp] theorem modPanel_panel (f : Panel → Panel) (d : Dev) : (modPanel f d).panel = f d.panel := rfl
@[simp] theorem modPanel_otp (f : Panel → Panel) (d : Dev) : (modPanel f d).otp = d.otp := rfl
@[simp] theorem modPanel_pwr (f : Panel → Panel) (d : Dev) : (modPanel f d).pwr = d.pwr := rfl
@[simp] theorem modPanel_tick (f : Panel → Panel) (d : Dev) : (modPanel f d).tick = d.tick := rfl
@[simp] theorem modPanel_free (f : Panel → Panel) (d : Dev) : (modPanel f d).free = d.free := rfl
@[simp] theorem modPanel_out (f : Panel → Panel) (d : Dev) : (modPanel f d).out = d.out := rfl

@[simp] theorem modPwr_sys (f : Pwr → Pwr) (d : Dev) : (modPwr f d).sys = d.sys := rfl
@[simp] theorem modPwr_mbx (f : Pwr → Pwr) (d : Dev) : (modPwr f d).mbx = d.mbx := rfl
@[simp] theorem modPwr_evt (f : Pwr → Pwr) (d : Dev) : (modPwr f d).evt = d.evt := rfl
@[simp] theorem modPwr_host (f : Pwr → Pwr) (d : Dev) : (modPwr f d).host = d.host := rfl
@[simp] theorem modPwr_prog (f : Pwr → Pwr) (d : Dev) : (modPwr f d).prog = d.prog := rfl
@[simp] theorem modPwr_loops (f : Pwr → Pwr) (d : Dev) : (modPwr f d).loops = d.loops := rfl
@[simp] theorem modPwr_dig (f : Pwr → Pwr) (d : Dev) : (modPwr f d).dig = d.dig := rfl
@[simp] theorem modPwr_ana (f : Pwr → Pwr) (d : Dev) : (modPwr f d).ana = d.ana := rfl
@[simp] theorem modPwr_net (f : Pwr → Pwr) (d : Dev) : (modPwr f d).net = d.net := rfl
@[simp] theorem modPwr_ser (f : Pwr → Pwr) (d : Dev) : (modPwr f d).ser = d.ser := rfl
@[simp] theorem modPwr_gl (f : Pwr → Pwr) (d : Dev) : (modPwr f d).gl = d.gl := rfl
@[simp] theorem modPwr_red (f : Pwr → Pwr) (d : Dev) : (modPwr f d).red = d.red := rfl
@[simp] theorem modPwr_integ (f : Pwr → Pwr) (d : Dev) : (modPwr f d).integ = d.integ := rfl
@[simp] theorem modPwr_rtc (f : Pwr → Pwr) (d : Dev) : (modPwr f d).rtc = d.rtc := rfl
@[simp] theorem modPwr_hist (f : Pwr → Pwr) (d : Dev) : (modPwr f d).hist = d.hist := rfl
@[simp] theorem modPwr_panel (f : Pwr → Pwr) (d : Dev) : (modPwr f d).panel = d.panel := rfl
@[simp] theorem modPwr_otp (f : Pwr → Pwr) (d : Dev) : (modPwr f d).otp = d.otp := rfl
@[simp] theorem modPwr_pwr (f : Pwr → Pwr) (d : Dev) : (modPwr f d).pwr = f d.pwr := rfl
@[simp] theorem modPwr_tick (f : Pwr → Pwr) (d : Dev) : (modPwr f d).tick = d.tick := rfl
@[simp] theorem modPwr_free (f : Pwr → Pwr) (d : Dev) : (modPwr f d).free = d.free := rfl
@[simp] theorem modPwr_out (f : Pwr → Pwr) (d : Dev) : (modPwr f d).out = d.out := rfl

@[simp] theorem modLease_sys (f : Lease → Lease) (d : Dev) : (modLease f d).sys = d.sys := rfl
@[simp] theorem modLease_mbx (f : Lease → Lease) (d : Dev) : (modLease f d).mbx = d.mbx := rfl
@[simp] theorem modLease_evt (f : Lease → Lease) (d : Dev) : (modLease f d).evt = d.evt := rfl
@[simp] theorem modLease_host (f : Lease → Lease) (d : Dev) : (modLease f d).host = d.host := rfl
@[simp] theorem modLease_prog (f : Lease → Lease) (d : Dev) : (modLease f d).prog = d.prog := rfl
@[simp] theorem modLease_loops (f : Lease → Lease) (d : Dev) : (modLease f d).loops = d.loops := rfl
@[simp] theorem modLease_dig (f : Lease → Lease) (d : Dev) : (modLease f d).dig = d.dig := rfl
@[simp] theorem modLease_ana (f : Lease → Lease) (d : Dev) : (modLease f d).ana = d.ana := rfl
@[simp] theorem modLease_net (f : Lease → Lease) (d : Dev) : (modLease f d).net = d.net := rfl
@[simp] theorem modLease_ser (f : Lease → Lease) (d : Dev) : (modLease f d).ser = d.ser := rfl
@[simp] theorem modLease_gl (f : Lease → Lease) (d : Dev) : (modLease f d).gl = d.gl := rfl
@[simp] theorem modLease_integ (f : Lease → Lease) (d : Dev) : (modLease f d).integ = d.integ := rfl
@[simp] theorem modLease_rtc (f : Lease → Lease) (d : Dev) : (modLease f d).rtc = d.rtc := rfl
@[simp] theorem modLease_hist (f : Lease → Lease) (d : Dev) : (modLease f d).hist = d.hist := rfl
@[simp] theorem modLease_panel (f : Lease → Lease) (d : Dev) : (modLease f d).panel = d.panel := rfl
@[simp] theorem modLease_otp (f : Lease → Lease) (d : Dev) : (modLease f d).otp = d.otp := rfl
@[simp] theorem modLease_pwr (f : Lease → Lease) (d : Dev) : (modLease f d).pwr = d.pwr := rfl
@[simp] theorem modLease_tick (f : Lease → Lease) (d : Dev) : (modLease f d).tick = d.tick := rfl
@[simp] theorem modLease_free (f : Lease → Lease) (d : Dev) : (modLease f d).free = d.free := rfl
@[simp] theorem modLease_out (f : Lease → Lease) (d : Dev) : (modLease f d).out = d.out := rfl

@[simp] theorem modFirn_sys (f : Firn → Firn) (d : Dev) : (modFirn f d).sys = d.sys := rfl
@[simp] theorem modFirn_mbx (f : Firn → Firn) (d : Dev) : (modFirn f d).mbx = d.mbx := rfl
@[simp] theorem modFirn_evt (f : Firn → Firn) (d : Dev) : (modFirn f d).evt = d.evt := rfl
@[simp] theorem modFirn_host (f : Firn → Firn) (d : Dev) : (modFirn f d).host = d.host := rfl
@[simp] theorem modFirn_prog (f : Firn → Firn) (d : Dev) : (modFirn f d).prog = d.prog := rfl
@[simp] theorem modFirn_loops (f : Firn → Firn) (d : Dev) : (modFirn f d).loops = d.loops := rfl
@[simp] theorem modFirn_dig (f : Firn → Firn) (d : Dev) : (modFirn f d).dig = d.dig := rfl
@[simp] theorem modFirn_ana (f : Firn → Firn) (d : Dev) : (modFirn f d).ana = d.ana := rfl
@[simp] theorem modFirn_net (f : Firn → Firn) (d : Dev) : (modFirn f d).net = d.net := rfl
@[simp] theorem modFirn_ser (f : Firn → Firn) (d : Dev) : (modFirn f d).ser = d.ser := rfl
@[simp] theorem modFirn_gl (f : Firn → Firn) (d : Dev) : (modFirn f d).gl = d.gl := rfl
@[simp] theorem modFirn_integ (f : Firn → Firn) (d : Dev) : (modFirn f d).integ = d.integ := rfl
@[simp] theorem modFirn_rtc (f : Firn → Firn) (d : Dev) : (modFirn f d).rtc = d.rtc := rfl
@[simp] theorem modFirn_hist (f : Firn → Firn) (d : Dev) : (modFirn f d).hist = d.hist := rfl
@[simp] theorem modFirn_panel (f : Firn → Firn) (d : Dev) : (modFirn f d).panel = d.panel := rfl
@[simp] theorem modFirn_otp (f : Firn → Firn) (d : Dev) : (modFirn f d).otp = d.otp := rfl
@[simp] theorem modFirn_pwr (f : Firn → Firn) (d : Dev) : (modFirn f d).pwr = d.pwr := rfl
@[simp] theorem modFirn_tick (f : Firn → Firn) (d : Dev) : (modFirn f d).tick = d.tick := rfl
@[simp] theorem modFirn_free (f : Firn → Firn) (d : Dev) : (modFirn f d).free = d.free := rfl
@[simp] theorem modFirn_out (f : Firn → Firn) (d : Dev) : (modFirn f d).out = d.out := rfl

@[simp] theorem modArb_sys (e : Nat) (f : ArbEntry → ArbEntry) (d : Dev) : (modArb e f d).sys = d.sys := rfl
@[simp] theorem modArb_mbx (e : Nat) (f : ArbEntry → ArbEntry) (d : Dev) : (modArb e f d).mbx = d.mbx := rfl
@[simp] theorem modArb_evt (e : Nat) (f : ArbEntry → ArbEntry) (d : Dev) : (modArb e f d).evt = d.evt := rfl
@[simp] theorem modArb_host (e : Nat) (f : ArbEntry → ArbEntry) (d : Dev) : (modArb e f d).host = d.host := rfl
@[simp] theorem modArb_prog (e : Nat) (f : ArbEntry → ArbEntry) (d : Dev) : (modArb e f d).prog = d.prog := rfl
@[simp] theorem modArb_loops (e : Nat) (f : ArbEntry → ArbEntry) (d : Dev) : (modArb e f d).loops = d.loops := rfl
@[simp] theorem modArb_dig (e : Nat) (f : ArbEntry → ArbEntry) (d : Dev) : (modArb e f d).dig = d.dig := rfl
@[simp] theorem modArb_ana (e : Nat) (f : ArbEntry → ArbEntry) (d : Dev) : (modArb e f d).ana = d.ana := rfl
@[simp] theorem modArb_net (e : Nat) (f : ArbEntry → ArbEntry) (d : Dev) : (modArb e f d).net = d.net := rfl
@[simp] theorem modArb_ser (e : Nat) (f : ArbEntry → ArbEntry) (d : Dev) : (modArb e f d).ser = d.ser := rfl
@[simp] theorem modArb_gl (e : Nat) (f : ArbEntry → ArbEntry) (d : Dev) : (modArb e f d).gl = d.gl := rfl
@[simp] theorem modArb_integ (e : Nat) (f : ArbEntry → ArbEntry) (d : Dev) : (modArb e f d).integ = d.integ := rfl
@[simp] theorem modArb_rtc (e : Nat) (f : ArbEntry → ArbEntry) (d : Dev) : (modArb e f d).rtc = d.rtc := rfl
@[simp] theorem modArb_hist (e : Nat) (f : ArbEntry → ArbEntry) (d : Dev) : (modArb e f d).hist = d.hist := rfl
@[simp] theorem modArb_panel (e : Nat) (f : ArbEntry → ArbEntry) (d : Dev) : (modArb e f d).panel = d.panel := rfl
@[simp] theorem modArb_otp (e : Nat) (f : ArbEntry → ArbEntry) (d : Dev) : (modArb e f d).otp = d.otp := rfl
@[simp] theorem modArb_pwr (e : Nat) (f : ArbEntry → ArbEntry) (d : Dev) : (modArb e f d).pwr = d.pwr := rfl
@[simp] theorem modArb_tick (e : Nat) (f : ArbEntry → ArbEntry) (d : Dev) : (modArb e f d).tick = d.tick := rfl
@[simp] theorem modArb_free (e : Nat) (f : ArbEntry → ArbEntry) (d : Dev) : (modArb e f d).free = d.free := rfl
@[simp] theorem modArb_out (e : Nat) (f : ArbEntry → ArbEntry) (d : Dev) : (modArb e f d).out = d.out := rfl

@[simp] theorem modDi_sys (i : Nat) (f : DiCh → DiCh) (d : Dev) : (modDi i f d).sys = d.sys := rfl
@[simp] theorem modDi_mbx (i : Nat) (f : DiCh → DiCh) (d : Dev) : (modDi i f d).mbx = d.mbx := rfl
@[simp] theorem modDi_evt (i : Nat) (f : DiCh → DiCh) (d : Dev) : (modDi i f d).evt = d.evt := rfl
@[simp] theorem modDi_host (i : Nat) (f : DiCh → DiCh) (d : Dev) : (modDi i f d).host = d.host := rfl
@[simp] theorem modDi_prog (i : Nat) (f : DiCh → DiCh) (d : Dev) : (modDi i f d).prog = d.prog := rfl
@[simp] theorem modDi_loops (i : Nat) (f : DiCh → DiCh) (d : Dev) : (modDi i f d).loops = d.loops := rfl
@[simp] theorem modDi_ana (i : Nat) (f : DiCh → DiCh) (d : Dev) : (modDi i f d).ana = d.ana := rfl
@[simp] theorem modDi_net (i : Nat) (f : DiCh → DiCh) (d : Dev) : (modDi i f d).net = d.net := rfl
@[simp] theorem modDi_ser (i : Nat) (f : DiCh → DiCh) (d : Dev) : (modDi i f d).ser = d.ser := rfl
@[simp] theorem modDi_gl (i : Nat) (f : DiCh → DiCh) (d : Dev) : (modDi i f d).gl = d.gl := rfl
@[simp] theorem modDi_red (i : Nat) (f : DiCh → DiCh) (d : Dev) : (modDi i f d).red = d.red := rfl
@[simp] theorem modDi_integ (i : Nat) (f : DiCh → DiCh) (d : Dev) : (modDi i f d).integ = d.integ := rfl
@[simp] theorem modDi_rtc (i : Nat) (f : DiCh → DiCh) (d : Dev) : (modDi i f d).rtc = d.rtc := rfl
@[simp] theorem modDi_hist (i : Nat) (f : DiCh → DiCh) (d : Dev) : (modDi i f d).hist = d.hist := rfl
@[simp] theorem modDi_panel (i : Nat) (f : DiCh → DiCh) (d : Dev) : (modDi i f d).panel = d.panel := rfl
@[simp] theorem modDi_otp (i : Nat) (f : DiCh → DiCh) (d : Dev) : (modDi i f d).otp = d.otp := rfl
@[simp] theorem modDi_pwr (i : Nat) (f : DiCh → DiCh) (d : Dev) : (modDi i f d).pwr = d.pwr := rfl
@[simp] theorem modDi_tick (i : Nat) (f : DiCh → DiCh) (d : Dev) : (modDi i f d).tick = d.tick := rfl
@[simp] theorem modDi_free (i : Nat) (f : DiCh → DiCh) (d : Dev) : (modDi i f d).free = d.free := rfl
@[simp] theorem modDi_out (i : Nat) (f : DiCh → DiCh) (d : Dev) : (modDi i f d).out = d.out := rfl

@[simp] theorem modDo_sys (j : Nat) (f : DoCh → DoCh) (d : Dev) : (modDo j f d).sys = d.sys := rfl
@[simp] theorem modDo_mbx (j : Nat) (f : DoCh → DoCh) (d : Dev) : (modDo j f d).mbx = d.mbx := rfl
@[simp] theorem modDo_evt (j : Nat) (f : DoCh → DoCh) (d : Dev) : (modDo j f d).evt = d.evt := rfl
@[simp] theorem modDo_host (j : Nat) (f : DoCh → DoCh) (d : Dev) : (modDo j f d).host = d.host := rfl
@[simp] theorem modDo_prog (j : Nat) (f : DoCh → DoCh) (d : Dev) : (modDo j f d).prog = d.prog := rfl
@[simp] theorem modDo_loops (j : Nat) (f : DoCh → DoCh) (d : Dev) : (modDo j f d).loops = d.loops := rfl
@[simp] theorem modDo_ana (j : Nat) (f : DoCh → DoCh) (d : Dev) : (modDo j f d).ana = d.ana := rfl
@[simp] theorem modDo_net (j : Nat) (f : DoCh → DoCh) (d : Dev) : (modDo j f d).net = d.net := rfl
@[simp] theorem modDo_ser (j : Nat) (f : DoCh → DoCh) (d : Dev) : (modDo j f d).ser = d.ser := rfl
@[simp] theorem modDo_gl (j : Nat) (f : DoCh → DoCh) (d : Dev) : (modDo j f d).gl = d.gl := rfl
@[simp] theorem modDo_red (j : Nat) (f : DoCh → DoCh) (d : Dev) : (modDo j f d).red = d.red := rfl
@[simp] theorem modDo_integ (j : Nat) (f : DoCh → DoCh) (d : Dev) : (modDo j f d).integ = d.integ := rfl
@[simp] theorem modDo_rtc (j : Nat) (f : DoCh → DoCh) (d : Dev) : (modDo j f d).rtc = d.rtc := rfl
@[simp] theorem modDo_hist (j : Nat) (f : DoCh → DoCh) (d : Dev) : (modDo j f d).hist = d.hist := rfl
@[simp] theorem modDo_panel (j : Nat) (f : DoCh → DoCh) (d : Dev) : (modDo j f d).panel = d.panel := rfl
@[simp] theorem modDo_otp (j : Nat) (f : DoCh → DoCh) (d : Dev) : (modDo j f d).otp = d.otp := rfl
@[simp] theorem modDo_pwr (j : Nat) (f : DoCh → DoCh) (d : Dev) : (modDo j f d).pwr = d.pwr := rfl
@[simp] theorem modDo_tick (j : Nat) (f : DoCh → DoCh) (d : Dev) : (modDo j f d).tick = d.tick := rfl
@[simp] theorem modDo_free (j : Nat) (f : DoCh → DoCh) (d : Dev) : (modDo j f d).free = d.free := rfl
@[simp] theorem modDo_out (j : Nat) (f : DoCh → DoCh) (d : Dev) : (modDo j f d).out = d.out := rfl

@[simp] theorem modGrp_sys (g : Nat) (f : DoGroup → DoGroup) (d : Dev) : (modGrp g f d).sys = d.sys := rfl
@[simp] theorem modGrp_mbx (g : Nat) (f : DoGroup → DoGroup) (d : Dev) : (modGrp g f d).mbx = d.mbx := rfl
@[simp] theorem modGrp_evt (g : Nat) (f : DoGroup → DoGroup) (d : Dev) : (modGrp g f d).evt = d.evt := rfl
@[simp] theorem modGrp_host (g : Nat) (f : DoGroup → DoGroup) (d : Dev) : (modGrp g f d).host = d.host := rfl
@[simp] theorem modGrp_prog (g : Nat) (f : DoGroup → DoGroup) (d : Dev) : (modGrp g f d).prog = d.prog := rfl
@[simp] theorem modGrp_loops (g : Nat) (f : DoGroup → DoGroup) (d : Dev) : (modGrp g f d).loops = d.loops := rfl
@[simp] theorem modGrp_ana (g : Nat) (f : DoGroup → DoGroup) (d : Dev) : (modGrp g f d).ana = d.ana := rfl
@[simp] theorem modGrp_net (g : Nat) (f : DoGroup → DoGroup) (d : Dev) : (modGrp g f d).net = d.net := rfl
@[simp] theorem modGrp_ser (g : Nat) (f : DoGroup → DoGroup) (d : Dev) : (modGrp g f d).ser = d.ser := rfl
@[simp] theorem modGrp_gl (g : Nat) (f : DoGroup → DoGroup) (d : Dev) : (modGrp g f d).gl = d.gl := rfl
@[simp] theorem modGrp_red (g : Nat) (f : DoGroup → DoGroup) (d : Dev) : (modGrp g f d).red = d.red := rfl
@[simp] theorem modGrp_integ (g : Nat) (f : DoGroup → DoGroup) (d : Dev) : (modGrp g f d).integ = d.integ := rfl
@[simp] theorem modGrp_rtc (g : Nat) (f : DoGroup → DoGroup) (d : Dev) : (modGrp g f d).rtc = d.rtc := rfl
@[simp] theorem modGrp_hist (g : Nat) (f : DoGroup → DoGroup) (d : Dev) : (modGrp g f d).hist = d.hist := rfl
@[simp] theorem modGrp_panel (g : Nat) (f : DoGroup → DoGroup) (d : Dev) : (modGrp g f d).panel = d.panel := rfl
@[simp] theorem modGrp_otp (g : Nat) (f : DoGroup → DoGroup) (d : Dev) : (modGrp g f d).otp = d.otp := rfl
@[simp] theorem modGrp_pwr (g : Nat) (f : DoGroup → DoGroup) (d : Dev) : (modGrp g f d).pwr = d.pwr := rfl
@[simp] theorem modGrp_tick (g : Nat) (f : DoGroup → DoGroup) (d : Dev) : (modGrp g f d).tick = d.tick := rfl
@[simp] theorem modGrp_free (g : Nat) (f : DoGroup → DoGroup) (d : Dev) : (modGrp g f d).free = d.free := rfl
@[simp] theorem modGrp_out (g : Nat) (f : DoGroup → DoGroup) (d : Dev) : (modGrp g f d).out = d.out := rfl

@[simp] theorem modWdg_sys (f : Wdg → Wdg) (d : Dev) : (modWdg f d).sys = d.sys := rfl
@[simp] theorem modWdg_mbx (f : Wdg → Wdg) (d : Dev) : (modWdg f d).mbx = d.mbx := rfl
@[simp] theorem modWdg_evt (f : Wdg → Wdg) (d : Dev) : (modWdg f d).evt = d.evt := rfl
@[simp] theorem modWdg_host (f : Wdg → Wdg) (d : Dev) : (modWdg f d).host = d.host := rfl
@[simp] theorem modWdg_prog (f : Wdg → Wdg) (d : Dev) : (modWdg f d).prog = d.prog := rfl
@[simp] theorem modWdg_loops (f : Wdg → Wdg) (d : Dev) : (modWdg f d).loops = d.loops := rfl
@[simp] theorem modWdg_ana (f : Wdg → Wdg) (d : Dev) : (modWdg f d).ana = d.ana := rfl
@[simp] theorem modWdg_net (f : Wdg → Wdg) (d : Dev) : (modWdg f d).net = d.net := rfl
@[simp] theorem modWdg_ser (f : Wdg → Wdg) (d : Dev) : (modWdg f d).ser = d.ser := rfl
@[simp] theorem modWdg_gl (f : Wdg → Wdg) (d : Dev) : (modWdg f d).gl = d.gl := rfl
@[simp] theorem modWdg_red (f : Wdg → Wdg) (d : Dev) : (modWdg f d).red = d.red := rfl
@[simp] theorem modWdg_integ (f : Wdg → Wdg) (d : Dev) : (modWdg f d).integ = d.integ := rfl
@[simp] theorem modWdg_rtc (f : Wdg → Wdg) (d : Dev) : (modWdg f d).rtc = d.rtc := rfl
@[simp] theorem modWdg_hist (f : Wdg → Wdg) (d : Dev) : (modWdg f d).hist = d.hist := rfl
@[simp] theorem modWdg_panel (f : Wdg → Wdg) (d : Dev) : (modWdg f d).panel = d.panel := rfl
@[simp] theorem modWdg_otp (f : Wdg → Wdg) (d : Dev) : (modWdg f d).otp = d.otp := rfl
@[simp] theorem modWdg_pwr (f : Wdg → Wdg) (d : Dev) : (modWdg f d).pwr = d.pwr := rfl
@[simp] theorem modWdg_tick (f : Wdg → Wdg) (d : Dev) : (modWdg f d).tick = d.tick := rfl
@[simp] theorem modWdg_free (f : Wdg → Wdg) (d : Dev) : (modWdg f d).free = d.free := rfl
@[simp] theorem modWdg_out (f : Wdg → Wdg) (d : Dev) : (modWdg f d).out = d.out := rfl

@[simp] theorem modTrip_sys (f : Trip → Trip) (d : Dev) : (modTrip f d).sys = d.sys := rfl
@[simp] theorem modTrip_mbx (f : Trip → Trip) (d : Dev) : (modTrip f d).mbx = d.mbx := rfl
@[simp] theorem modTrip_evt (f : Trip → Trip) (d : Dev) : (modTrip f d).evt = d.evt := rfl
@[simp] theorem modTrip_host (f : Trip → Trip) (d : Dev) : (modTrip f d).host = d.host := rfl
@[simp] theorem modTrip_prog (f : Trip → Trip) (d : Dev) : (modTrip f d).prog = d.prog := rfl
@[simp] theorem modTrip_loops (f : Trip → Trip) (d : Dev) : (modTrip f d).loops = d.loops := rfl
@[simp] theorem modTrip_ana (f : Trip → Trip) (d : Dev) : (modTrip f d).ana = d.ana := rfl
@[simp] theorem modTrip_net (f : Trip → Trip) (d : Dev) : (modTrip f d).net = d.net := rfl
@[simp] theorem modTrip_ser (f : Trip → Trip) (d : Dev) : (modTrip f d).ser = d.ser := rfl
@[simp] theorem modTrip_gl (f : Trip → Trip) (d : Dev) : (modTrip f d).gl = d.gl := rfl
@[simp] theorem modTrip_red (f : Trip → Trip) (d : Dev) : (modTrip f d).red = d.red := rfl
@[simp] theorem modTrip_integ (f : Trip → Trip) (d : Dev) : (modTrip f d).integ = d.integ := rfl
@[simp] theorem modTrip_rtc (f : Trip → Trip) (d : Dev) : (modTrip f d).rtc = d.rtc := rfl
@[simp] theorem modTrip_hist (f : Trip → Trip) (d : Dev) : (modTrip f d).hist = d.hist := rfl
@[simp] theorem modTrip_panel (f : Trip → Trip) (d : Dev) : (modTrip f d).panel = d.panel := rfl
@[simp] theorem modTrip_otp (f : Trip → Trip) (d : Dev) : (modTrip f d).otp = d.otp := rfl
@[simp] theorem modTrip_pwr (f : Trip → Trip) (d : Dev) : (modTrip f d).pwr = d.pwr := rfl
@[simp] theorem modTrip_tick (f : Trip → Trip) (d : Dev) : (modTrip f d).tick = d.tick := rfl
@[simp] theorem modTrip_free (f : Trip → Trip) (d : Dev) : (modTrip f d).free = d.free := rfl
@[simp] theorem modTrip_out (f : Trip → Trip) (d : Dev) : (modTrip f d).out = d.out := rfl

@[simp] theorem modAi_sys (i : Nat) (f : AiCh → AiCh) (d : Dev) : (modAi i f d).sys = d.sys := rfl
@[simp] theorem modAi_mbx (i : Nat) (f : AiCh → AiCh) (d : Dev) : (modAi i f d).mbx = d.mbx := rfl
@[simp] theorem modAi_evt (i : Nat) (f : AiCh → AiCh) (d : Dev) : (modAi i f d).evt = d.evt := rfl
@[simp] theorem modAi_host (i : Nat) (f : AiCh → AiCh) (d : Dev) : (modAi i f d).host = d.host := rfl
@[simp] theorem modAi_prog (i : Nat) (f : AiCh → AiCh) (d : Dev) : (modAi i f d).prog = d.prog := rfl
@[simp] theorem modAi_loops (i : Nat) (f : AiCh → AiCh) (d : Dev) : (modAi i f d).loops = d.loops := rfl
@[simp] theorem modAi_dig (i : Nat) (f : AiCh → AiCh) (d : Dev) : (modAi i f d).dig = d.dig := rfl
@[simp] theorem modAi_net (i : Nat) (f : AiCh → AiCh) (d : Dev) : (modAi i f d).net = d.net := rfl
@[simp] theorem modAi_ser (i : Nat) (f : AiCh → AiCh) (d : Dev) : (modAi i f d).ser = d.ser := rfl
@[simp] theorem modAi_gl (i : Nat) (f : AiCh → AiCh) (d : Dev) : (modAi i f d).gl = d.gl := rfl
@[simp] theorem modAi_red (i : Nat) (f : AiCh → AiCh) (d : Dev) : (modAi i f d).red = d.red := rfl
@[simp] theorem modAi_integ (i : Nat) (f : AiCh → AiCh) (d : Dev) : (modAi i f d).integ = d.integ := rfl
@[simp] theorem modAi_rtc (i : Nat) (f : AiCh → AiCh) (d : Dev) : (modAi i f d).rtc = d.rtc := rfl
@[simp] theorem modAi_hist (i : Nat) (f : AiCh → AiCh) (d : Dev) : (modAi i f d).hist = d.hist := rfl
@[simp] theorem modAi_panel (i : Nat) (f : AiCh → AiCh) (d : Dev) : (modAi i f d).panel = d.panel := rfl
@[simp] theorem modAi_otp (i : Nat) (f : AiCh → AiCh) (d : Dev) : (modAi i f d).otp = d.otp := rfl
@[simp] theorem modAi_pwr (i : Nat) (f : AiCh → AiCh) (d : Dev) : (modAi i f d).pwr = d.pwr := rfl
@[simp] theorem modAi_tick (i : Nat) (f : AiCh → AiCh) (d : Dev) : (modAi i f d).tick = d.tick := rfl
@[simp] theorem modAi_free (i : Nat) (f : AiCh → AiCh) (d : Dev) : (modAi i f d).free = d.free := rfl
@[simp] theorem modAi_out (i : Nat) (f : AiCh → AiCh) (d : Dev) : (modAi i f d).out = d.out := rfl

@[simp] theorem modAo_sys (j : Nat) (f : AoCh → AoCh) (d : Dev) : (modAo j f d).sys = d.sys := rfl
@[simp] theorem modAo_mbx (j : Nat) (f : AoCh → AoCh) (d : Dev) : (modAo j f d).mbx = d.mbx := rfl
@[simp] theorem modAo_evt (j : Nat) (f : AoCh → AoCh) (d : Dev) : (modAo j f d).evt = d.evt := rfl
@[simp] theorem modAo_host (j : Nat) (f : AoCh → AoCh) (d : Dev) : (modAo j f d).host = d.host := rfl
@[simp] theorem modAo_prog (j : Nat) (f : AoCh → AoCh) (d : Dev) : (modAo j f d).prog = d.prog := rfl
@[simp] theorem modAo_loops (j : Nat) (f : AoCh → AoCh) (d : Dev) : (modAo j f d).loops = d.loops := rfl
@[simp] theorem modAo_dig (j : Nat) (f : AoCh → AoCh) (d : Dev) : (modAo j f d).dig = d.dig := rfl
@[simp] theorem modAo_net (j : Nat) (f : AoCh → AoCh) (d : Dev) : (modAo j f d).net = d.net := rfl
@[simp] theorem modAo_ser (j : Nat) (f : AoCh → AoCh) (d : Dev) : (modAo j f d).ser = d.ser := rfl
@[simp] theorem modAo_gl (j : Nat) (f : AoCh → AoCh) (d : Dev) : (modAo j f d).gl = d.gl := rfl
@[simp] theorem modAo_red (j : Nat) (f : AoCh → AoCh) (d : Dev) : (modAo j f d).red = d.red := rfl
@[simp] theorem modAo_integ (j : Nat) (f : AoCh → AoCh) (d : Dev) : (modAo j f d).integ = d.integ := rfl
@[simp] theorem modAo_rtc (j : Nat) (f : AoCh → AoCh) (d : Dev) : (modAo j f d).rtc = d.rtc := rfl
@[simp] theorem modAo_hist (j : Nat) (f : AoCh → AoCh) (d : Dev) : (modAo j f d).hist = d.hist := rfl
@[simp] theorem modAo_panel (j : Nat) (f : AoCh → AoCh) (d : Dev) : (modAo j f d).panel = d.panel := rfl
@[simp] theorem modAo_otp (j : Nat) (f : AoCh → AoCh) (d : Dev) : (modAo j f d).otp = d.otp := rfl
@[simp] theorem modAo_pwr (j : Nat) (f : AoCh → AoCh) (d : Dev) : (modAo j f d).pwr = d.pwr := rfl
@[simp] theorem modAo_tick (j : Nat) (f : AoCh → AoCh) (d : Dev) : (modAo j f d).tick = d.tick := rfl
@[simp] theorem modAo_free (j : Nat) (f : AoCh → AoCh) (d : Dev) : (modAo j f d).free = d.free := rfl
@[simp] theorem modAo_out (j : Nat) (f : AoCh → AoCh) (d : Dev) : (modAo j f d).out = d.out := rfl

@[simp] theorem modSlot_sys (u n : Nat) (f : LoopSlot → LoopSlot) (d : Dev) : (modSlot u n f d).sys = d.sys := rfl
@[simp] theorem modSlot_mbx (u n : Nat) (f : LoopSlot → LoopSlot) (d : Dev) : (modSlot u n f d).mbx = d.mbx := rfl
@[simp] theorem modSlot_evt (u n : Nat) (f : LoopSlot → LoopSlot) (d : Dev) : (modSlot u n f d).evt = d.evt := rfl
@[simp] theorem modSlot_host (u n : Nat) (f : LoopSlot → LoopSlot) (d : Dev) : (modSlot u n f d).host = d.host := rfl
@[simp] theorem modSlot_prog (u n : Nat) (f : LoopSlot → LoopSlot) (d : Dev) : (modSlot u n f d).prog = d.prog := rfl
@[simp] theorem modSlot_dig (u n : Nat) (f : LoopSlot → LoopSlot) (d : Dev) : (modSlot u n f d).dig = d.dig := rfl
@[simp] theorem modSlot_ana (u n : Nat) (f : LoopSlot → LoopSlot) (d : Dev) : (modSlot u n f d).ana = d.ana := rfl
@[simp] theorem modSlot_net (u n : Nat) (f : LoopSlot → LoopSlot) (d : Dev) : (modSlot u n f d).net = d.net := rfl
@[simp] theorem modSlot_ser (u n : Nat) (f : LoopSlot → LoopSlot) (d : Dev) : (modSlot u n f d).ser = d.ser := rfl
@[simp] theorem modSlot_gl (u n : Nat) (f : LoopSlot → LoopSlot) (d : Dev) : (modSlot u n f d).gl = d.gl := rfl
@[simp] theorem modSlot_red (u n : Nat) (f : LoopSlot → LoopSlot) (d : Dev) : (modSlot u n f d).red = d.red := rfl
@[simp] theorem modSlot_integ (u n : Nat) (f : LoopSlot → LoopSlot) (d : Dev) : (modSlot u n f d).integ = d.integ := rfl
@[simp] theorem modSlot_rtc (u n : Nat) (f : LoopSlot → LoopSlot) (d : Dev) : (modSlot u n f d).rtc = d.rtc := rfl
@[simp] theorem modSlot_hist (u n : Nat) (f : LoopSlot → LoopSlot) (d : Dev) : (modSlot u n f d).hist = d.hist := rfl
@[simp] theorem modSlot_panel (u n : Nat) (f : LoopSlot → LoopSlot) (d : Dev) : (modSlot u n f d).panel = d.panel := rfl
@[simp] theorem modSlot_otp (u n : Nat) (f : LoopSlot → LoopSlot) (d : Dev) : (modSlot u n f d).otp = d.otp := rfl
@[simp] theorem modSlot_pwr (u n : Nat) (f : LoopSlot → LoopSlot) (d : Dev) : (modSlot u n f d).pwr = d.pwr := rfl
@[simp] theorem modSlot_tick (u n : Nat) (f : LoopSlot → LoopSlot) (d : Dev) : (modSlot u n f d).tick = d.tick := rfl
@[simp] theorem modSlot_free (u n : Nat) (f : LoopSlot → LoopSlot) (d : Dev) : (modSlot u n f d).free = d.free := rfl
@[simp] theorem modSlot_out (u n : Nat) (f : LoopSlot → LoopSlot) (d : Dev) : (modSlot u n f d).out = d.out := rfl

@[simp] theorem modTrace_sys (u : Nat) (f : Trace → Trace) (d : Dev) : (modTrace u f d).sys = d.sys := rfl
@[simp] theorem modTrace_mbx (u : Nat) (f : Trace → Trace) (d : Dev) : (modTrace u f d).mbx = d.mbx := rfl
@[simp] theorem modTrace_evt (u : Nat) (f : Trace → Trace) (d : Dev) : (modTrace u f d).evt = d.evt := rfl
@[simp] theorem modTrace_host (u : Nat) (f : Trace → Trace) (d : Dev) : (modTrace u f d).host = d.host := rfl
@[simp] theorem modTrace_prog (u : Nat) (f : Trace → Trace) (d : Dev) : (modTrace u f d).prog = d.prog := rfl
@[simp] theorem modTrace_dig (u : Nat) (f : Trace → Trace) (d : Dev) : (modTrace u f d).dig = d.dig := rfl
@[simp] theorem modTrace_ana (u : Nat) (f : Trace → Trace) (d : Dev) : (modTrace u f d).ana = d.ana := rfl
@[simp] theorem modTrace_net (u : Nat) (f : Trace → Trace) (d : Dev) : (modTrace u f d).net = d.net := rfl
@[simp] theorem modTrace_ser (u : Nat) (f : Trace → Trace) (d : Dev) : (modTrace u f d).ser = d.ser := rfl
@[simp] theorem modTrace_gl (u : Nat) (f : Trace → Trace) (d : Dev) : (modTrace u f d).gl = d.gl := rfl
@[simp] theorem modTrace_red (u : Nat) (f : Trace → Trace) (d : Dev) : (modTrace u f d).red = d.red := rfl
@[simp] theorem modTrace_integ (u : Nat) (f : Trace → Trace) (d : Dev) : (modTrace u f d).integ = d.integ := rfl
@[simp] theorem modTrace_rtc (u : Nat) (f : Trace → Trace) (d : Dev) : (modTrace u f d).rtc = d.rtc := rfl
@[simp] theorem modTrace_hist (u : Nat) (f : Trace → Trace) (d : Dev) : (modTrace u f d).hist = d.hist := rfl
@[simp] theorem modTrace_panel (u : Nat) (f : Trace → Trace) (d : Dev) : (modTrace u f d).panel = d.panel := rfl
@[simp] theorem modTrace_otp (u : Nat) (f : Trace → Trace) (d : Dev) : (modTrace u f d).otp = d.otp := rfl
@[simp] theorem modTrace_pwr (u : Nat) (f : Trace → Trace) (d : Dev) : (modTrace u f d).pwr = d.pwr := rfl
@[simp] theorem modTrace_tick (u : Nat) (f : Trace → Trace) (d : Dev) : (modTrace u f d).tick = d.tick := rfl
@[simp] theorem modTrace_free (u : Nat) (f : Trace → Trace) (d : Dev) : (modTrace u f d).free = d.free := rfl
@[simp] theorem modTrace_out (u : Nat) (f : Trace → Trace) (d : Dev) : (modTrace u f d).out = d.out := rfl

@[simp] theorem setChan_sys (n : Nat) (f : Chan → Chan) (d : Dev) : (setChan n f d).sys = d.sys := rfl
@[simp] theorem setChan_evt (n : Nat) (f : Chan → Chan) (d : Dev) : (setChan n f d).evt = d.evt := rfl
@[simp] theorem setChan_host (n : Nat) (f : Chan → Chan) (d : Dev) : (setChan n f d).host = d.host := rfl
@[simp] theorem setChan_prog (n : Nat) (f : Chan → Chan) (d : Dev) : (setChan n f d).prog = d.prog := rfl
@[simp] theorem setChan_loops (n : Nat) (f : Chan → Chan) (d : Dev) : (setChan n f d).loops = d.loops := rfl
@[simp] theorem setChan_dig (n : Nat) (f : Chan → Chan) (d : Dev) : (setChan n f d).dig = d.dig := rfl
@[simp] theorem setChan_ana (n : Nat) (f : Chan → Chan) (d : Dev) : (setChan n f d).ana = d.ana := rfl
@[simp] theorem setChan_net (n : Nat) (f : Chan → Chan) (d : Dev) : (setChan n f d).net = d.net := rfl
@[simp] theorem setChan_ser (n : Nat) (f : Chan → Chan) (d : Dev) : (setChan n f d).ser = d.ser := rfl
@[simp] theorem setChan_gl (n : Nat) (f : Chan → Chan) (d : Dev) : (setChan n f d).gl = d.gl := rfl
@[simp] theorem setChan_red (n : Nat) (f : Chan → Chan) (d : Dev) : (setChan n f d).red = d.red := rfl
@[simp] theorem setChan_integ (n : Nat) (f : Chan → Chan) (d : Dev) : (setChan n f d).integ = d.integ := rfl
@[simp] theorem setChan_rtc (n : Nat) (f : Chan → Chan) (d : Dev) : (setChan n f d).rtc = d.rtc := rfl
@[simp] theorem setChan_hist (n : Nat) (f : Chan → Chan) (d : Dev) : (setChan n f d).hist = d.hist := rfl
@[simp] theorem setChan_panel (n : Nat) (f : Chan → Chan) (d : Dev) : (setChan n f d).panel = d.panel := rfl
@[simp] theorem setChan_otp (n : Nat) (f : Chan → Chan) (d : Dev) : (setChan n f d).otp = d.otp := rfl
@[simp] theorem setChan_pwr (n : Nat) (f : Chan → Chan) (d : Dev) : (setChan n f d).pwr = d.pwr := rfl
@[simp] theorem setChan_tick (n : Nat) (f : Chan → Chan) (d : Dev) : (setChan n f d).tick = d.tick := rfl
@[simp] theorem setChan_free (n : Nat) (f : Chan → Chan) (d : Dev) : (setChan n f d).free = d.free := rfl
@[simp] theorem setChan_out (n : Nat) (f : Chan → Chan) (d : Dev) : (setChan n f d).out = d.out := rfl

@[simp] theorem modDma_sys (n : Nat) (f : DmaChan → DmaChan) (d : Dev) : (modDma n f d).sys = d.sys := rfl
@[simp] theorem modDma_mbx (n : Nat) (f : DmaChan → DmaChan) (d : Dev) : (modDma n f d).mbx = d.mbx := rfl
@[simp] theorem modDma_evt (n : Nat) (f : DmaChan → DmaChan) (d : Dev) : (modDma n f d).evt = d.evt := rfl
@[simp] theorem modDma_prog (n : Nat) (f : DmaChan → DmaChan) (d : Dev) : (modDma n f d).prog = d.prog := rfl
@[simp] theorem modDma_loops (n : Nat) (f : DmaChan → DmaChan) (d : Dev) : (modDma n f d).loops = d.loops := rfl
@[simp] theorem modDma_dig (n : Nat) (f : DmaChan → DmaChan) (d : Dev) : (modDma n f d).dig = d.dig := rfl
@[simp] theorem modDma_ana (n : Nat) (f : DmaChan → DmaChan) (d : Dev) : (modDma n f d).ana = d.ana := rfl
@[simp] theorem modDma_net (n : Nat) (f : DmaChan → DmaChan) (d : Dev) : (modDma n f d).net = d.net := rfl
@[simp] theorem modDma_ser (n : Nat) (f : DmaChan → DmaChan) (d : Dev) : (modDma n f d).ser = d.ser := rfl
@[simp] theorem modDma_gl (n : Nat) (f : DmaChan → DmaChan) (d : Dev) : (modDma n f d).gl = d.gl := rfl
@[simp] theorem modDma_red (n : Nat) (f : DmaChan → DmaChan) (d : Dev) : (modDma n f d).red = d.red := rfl
@[simp] theorem modDma_integ (n : Nat) (f : DmaChan → DmaChan) (d : Dev) : (modDma n f d).integ = d.integ := rfl
@[simp] theorem modDma_rtc (n : Nat) (f : DmaChan → DmaChan) (d : Dev) : (modDma n f d).rtc = d.rtc := rfl
@[simp] theorem modDma_hist (n : Nat) (f : DmaChan → DmaChan) (d : Dev) : (modDma n f d).hist = d.hist := rfl
@[simp] theorem modDma_panel (n : Nat) (f : DmaChan → DmaChan) (d : Dev) : (modDma n f d).panel = d.panel := rfl
@[simp] theorem modDma_otp (n : Nat) (f : DmaChan → DmaChan) (d : Dev) : (modDma n f d).otp = d.otp := rfl
@[simp] theorem modDma_pwr (n : Nat) (f : DmaChan → DmaChan) (d : Dev) : (modDma n f d).pwr = d.pwr := rfl
@[simp] theorem modDma_tick (n : Nat) (f : DmaChan → DmaChan) (d : Dev) : (modDma n f d).tick = d.tick := rfl
@[simp] theorem modDma_free (n : Nat) (f : DmaChan → DmaChan) (d : Dev) : (modDma n f d).free = d.free := rfl
@[simp] theorem modDma_out (n : Nat) (f : DmaChan → DmaChan) (d : Dev) : (modDma n f d).out = d.out := rfl

@[simp] theorem confChanged_sys (d : Dev) : (confChanged d).sys = d.sys := rfl
@[simp] theorem confChanged_mbx (d : Dev) : (confChanged d).mbx = d.mbx := rfl
@[simp] theorem confChanged_evt (d : Dev) : (confChanged d).evt = d.evt := rfl
@[simp] theorem confChanged_host (d : Dev) : (confChanged d).host = d.host := rfl
@[simp] theorem confChanged_prog (d : Dev) : (confChanged d).prog = d.prog := rfl
@[simp] theorem confChanged_loops (d : Dev) : (confChanged d).loops = d.loops := rfl
@[simp] theorem confChanged_dig (d : Dev) : (confChanged d).dig = d.dig := rfl
@[simp] theorem confChanged_ana (d : Dev) : (confChanged d).ana = d.ana := rfl
@[simp] theorem confChanged_net (d : Dev) : (confChanged d).net = d.net := rfl
@[simp] theorem confChanged_ser (d : Dev) : (confChanged d).ser = d.ser := rfl
@[simp] theorem confChanged_gl (d : Dev) : (confChanged d).gl = d.gl := rfl
@[simp] theorem confChanged_red (d : Dev) : (confChanged d).red = d.red := rfl
@[simp] theorem confChanged_integ (d : Dev) : (confChanged d).integ = d.integ := rfl
@[simp] theorem confChanged_rtc (d : Dev) : (confChanged d).rtc = d.rtc := rfl
@[simp] theorem confChanged_hist (d : Dev) : (confChanged d).hist = d.hist := rfl
@[simp] theorem confChanged_panel (d : Dev) : (confChanged d).panel = d.panel := rfl
@[simp] theorem confChanged_otp (d : Dev) : (confChanged d).otp = d.otp := rfl
@[simp] theorem confChanged_tick (d : Dev) : (confChanged d).tick = d.tick := rfl
@[simp] theorem confChanged_free (d : Dev) : (confChanged d).free = d.free := rfl
@[simp] theorem confChanged_out (d : Dev) : (confChanged d).out = d.out := rfl

@[simp] theorem emit_sys (o : Out) (d : Dev) : (emit o d).sys = d.sys := rfl
@[simp] theorem emit_mbx (o : Out) (d : Dev) : (emit o d).mbx = d.mbx := rfl
@[simp] theorem emit_evt (o : Out) (d : Dev) : (emit o d).evt = d.evt := rfl
@[simp] theorem emit_host (o : Out) (d : Dev) : (emit o d).host = d.host := rfl
@[simp] theorem emit_prog (o : Out) (d : Dev) : (emit o d).prog = d.prog := rfl
@[simp] theorem emit_loops (o : Out) (d : Dev) : (emit o d).loops = d.loops := rfl
@[simp] theorem emit_dig (o : Out) (d : Dev) : (emit o d).dig = d.dig := rfl
@[simp] theorem emit_ana (o : Out) (d : Dev) : (emit o d).ana = d.ana := rfl
@[simp] theorem emit_net (o : Out) (d : Dev) : (emit o d).net = d.net := rfl
@[simp] theorem emit_ser (o : Out) (d : Dev) : (emit o d).ser = d.ser := rfl
@[simp] theorem emit_gl (o : Out) (d : Dev) : (emit o d).gl = d.gl := rfl
@[simp] theorem emit_red (o : Out) (d : Dev) : (emit o d).red = d.red := rfl
@[simp] theorem emit_integ (o : Out) (d : Dev) : (emit o d).integ = d.integ := rfl
@[simp] theorem emit_rtc (o : Out) (d : Dev) : (emit o d).rtc = d.rtc := rfl
@[simp] theorem emit_hist (o : Out) (d : Dev) : (emit o d).hist = d.hist := rfl
@[simp] theorem emit_panel (o : Out) (d : Dev) : (emit o d).panel = d.panel := rfl
@[simp] theorem emit_otp (o : Out) (d : Dev) : (emit o d).otp = d.otp := rfl
@[simp] theorem emit_pwr (o : Out) (d : Dev) : (emit o d).pwr = d.pwr := rfl
@[simp] theorem emit_tick (o : Out) (d : Dev) : (emit o d).tick = d.tick := rfl
@[simp] theorem emit_free (o : Out) (d : Dev) : (emit o d).free = d.free := rfl

@[simp] theorem countDiscard_sys (d : Dev) : (countDiscard d).sys = d.sys := rfl
@[simp] theorem countDiscard_mbx (d : Dev) : (countDiscard d).mbx = d.mbx := rfl
@[simp] theorem countDiscard_evt (d : Dev) : (countDiscard d).evt = d.evt := rfl
@[simp] theorem countDiscard_host (d : Dev) : (countDiscard d).host = d.host := rfl
@[simp] theorem countDiscard_prog (d : Dev) : (countDiscard d).prog = d.prog := rfl
@[simp] theorem countDiscard_loops (d : Dev) : (countDiscard d).loops = d.loops := rfl
@[simp] theorem countDiscard_dig (d : Dev) : (countDiscard d).dig = d.dig := rfl
@[simp] theorem countDiscard_ana (d : Dev) : (countDiscard d).ana = d.ana := rfl
@[simp] theorem countDiscard_ser (d : Dev) : (countDiscard d).ser = d.ser := rfl
@[simp] theorem countDiscard_gl (d : Dev) : (countDiscard d).gl = d.gl := rfl
@[simp] theorem countDiscard_red (d : Dev) : (countDiscard d).red = d.red := rfl
@[simp] theorem countDiscard_integ (d : Dev) : (countDiscard d).integ = d.integ := rfl
@[simp] theorem countDiscard_rtc (d : Dev) : (countDiscard d).rtc = d.rtc := rfl
@[simp] theorem countDiscard_hist (d : Dev) : (countDiscard d).hist = d.hist := rfl
@[simp] theorem countDiscard_panel (d : Dev) : (countDiscard d).panel = d.panel := rfl
@[simp] theorem countDiscard_otp (d : Dev) : (countDiscard d).otp = d.otp := rfl
@[simp] theorem countDiscard_pwr (d : Dev) : (countDiscard d).pwr = d.pwr := rfl
@[simp] theorem countDiscard_tick (d : Dev) : (countDiscard d).tick = d.tick := rfl
@[simp] theorem countDiscard_free (d : Dev) : (countDiscard d).free = d.free := rfl
@[simp] theorem countDiscard_out (d : Dev) : (countDiscard d).out = d.out := rfl

/-! ## Outcomes -/

theorem nextD_next (s : State) (f : Dev → Dev) : nextD s f = .next { s with dev := f s.dev } := rfl

theorem nextR_next (s : State) (f : Mems → Dev → Dev) : nextR s f = .next { s with dev := f s.mem s.dev } := rfl

theorem nextM_next (s : State) (f : Mems → Dev → Dev × Mems) :
    nextM s f = .next { s with dev := (f s.mem s.dev).1, mem := (f s.mem s.dev).2 } := rfl

end Sys2Proof.Machine
end

