-- ==== Sys2Proof/Laws/Events.lean ====
section
/-!
SUPPORT. Laws/Events.lean: what raising an event can do (R82 to R87, R484): it writes the event registers and records,
the PBA, the log and the record of what is sent, and nothing else.
-/

namespace Sys2Proof.Machine

open Sys2Proof

@[simp] theorem updInt_sys (d : Dev) : (updInt d).sys = d.sys := rfl
@[simp] theorem updInt_mbx (d : Dev) : (updInt d).mbx = d.mbx := rfl
@[simp] theorem updInt_prog (d : Dev) : (updInt d).prog = d.prog := rfl
@[simp] theorem updInt_loops (d : Dev) : (updInt d).loops = d.loops := rfl
@[simp] theorem updInt_dig (d : Dev) : (updInt d).dig = d.dig := rfl
@[simp] theorem updInt_ana (d : Dev) : (updInt d).ana = d.ana := rfl
@[simp] theorem updInt_net (d : Dev) : (updInt d).net = d.net := rfl
@[simp] theorem updInt_ser (d : Dev) : (updInt d).ser = d.ser := rfl
@[simp] theorem updInt_gl (d : Dev) : (updInt d).gl = d.gl := rfl
@[simp] theorem updInt_red (d : Dev) : (updInt d).red = d.red := rfl
@[simp] theorem updInt_integ (d : Dev) : (updInt d).integ = d.integ := rfl
@[simp] theorem updInt_rtc (d : Dev) : (updInt d).rtc = d.rtc := rfl
@[simp] theorem updInt_panel (d : Dev) : (updInt d).panel = d.panel := rfl
@[simp] theorem updInt_otp (d : Dev) : (updInt d).otp = d.otp := rfl
@[simp] theorem updInt_pwr (d : Dev) : (updInt d).pwr = d.pwr := rfl
@[simp] theorem updInt_tick (d : Dev) : (updInt d).tick = d.tick := rfl
@[simp] theorem updInt_free (d : Dev) : (updInt d).free = d.free := rfl
@[simp] theorem updInt_host (d : Dev) : (updInt d).host = d.host := rfl
@[simp] theorem updInt_hist (d : Dev) : (updInt d).hist = d.hist := rfl
@[simp] theorem updInt_out (d : Dev) : (updInt d).out = d.out := rfl

@[simp] theorem msixSend_sys (n : Nat) (d : Dev) : (msixSend n d).sys = d.sys := by
  unfold msixSend; split <;> rfl
@[simp] theorem msixSend_mbx (n : Nat) (d : Dev) : (msixSend n d).mbx = d.mbx := by
  unfold msixSend; split <;> rfl
@[simp] theorem msixSend_prog (n : Nat) (d : Dev) : (msixSend n d).prog = d.prog := by
  unfold msixSend; split <;> rfl
@[simp] theorem msixSend_loops (n : Nat) (d : Dev) : (msixSend n d).loops = d.loops := by
  unfold msixSend; split <;> rfl
@[simp] theorem msixSend_dig (n : Nat) (d : Dev) : (msixSend n d).dig = d.dig := by
  unfold msixSend; split <;> rfl
@[simp] theorem msixSend_ana (n : Nat) (d : Dev) : (msixSend n d).ana = d.ana := by
  unfold msixSend; split <;> rfl
@[simp] theorem msixSend_net (n : Nat) (d : Dev) : (msixSend n d).net = d.net := by
  unfold msixSend; split <;> rfl
@[simp] theorem msixSend_ser (n : Nat) (d : Dev) : (msixSend n d).ser = d.ser := by
  unfold msixSend; split <;> rfl
@[simp] theorem msixSend_gl (n : Nat) (d : Dev) : (msixSend n d).gl = d.gl := by
  unfold msixSend; split <;> rfl
@[simp] theorem msixSend_red (n : Nat) (d : Dev) : (msixSend n d).red = d.red := by
  unfold msixSend; split <;> rfl
@[simp] theorem msixSend_integ (n : Nat) (d : Dev) : (msixSend n d).integ = d.integ := by
  unfold msixSend; split <;> rfl
@[simp] theorem msixSend_rtc (n : Nat) (d : Dev) : (msixSend n d).rtc = d.rtc := by
  unfold msixSend; split <;> rfl
@[simp] theorem msixSend_panel (n : Nat) (d : Dev) : (msixSend n d).panel = d.panel := by
  unfold msixSend; split <;> rfl
@[simp] theorem msixSend_otp (n : Nat) (d : Dev) : (msixSend n d).otp = d.otp := by
  unfold msixSend; split <;> rfl
@[simp] theorem msixSend_pwr (n : Nat) (d : Dev) : (msixSend n d).pwr = d.pwr := by
  unfold msixSend; split <;> rfl
@[simp] theorem msixSend_tick (n : Nat) (d : Dev) : (msixSend n d).tick = d.tick := by
  unfold msixSend; split <;> rfl
@[simp] theorem msixSend_free (n : Nat) (d : Dev) : (msixSend n d).free = d.free := by
  unfold msixSend; split <;> rfl
@[simp] theorem msixSend_evt (n : Nat) (d : Dev) : (msixSend n d).evt = d.evt := by
  unfold msixSend; split <;> rfl
@[simp] theorem msixSend_hist (n : Nat) (d : Dev) : (msixSend n d).hist = d.hist := by
  unfold msixSend; split <;> rfl

@[simp] theorem markDirty_sys (g : Nat) (d : Dev) : (markDirty g d).sys = d.sys := by
  unfold markDirty; split <;> rfl
@[simp] theorem markDirty_mbx (g : Nat) (d : Dev) : (markDirty g d).mbx = d.mbx := by
  unfold markDirty; split <;> rfl
@[simp] theorem markDirty_prog (g : Nat) (d : Dev) : (markDirty g d).prog = d.prog := by
  unfold markDirty; split <;> rfl
@[simp] theorem markDirty_loops (g : Nat) (d : Dev) : (markDirty g d).loops = d.loops := by
  unfold markDirty; split <;> rfl
@[simp] theorem markDirty_dig (g : Nat) (d : Dev) : (markDirty g d).dig = d.dig := by
  unfold markDirty; split <;> rfl
@[simp] theorem markDirty_ana (g : Nat) (d : Dev) : (markDirty g d).ana = d.ana := by
  unfold markDirty; split <;> rfl
@[simp] theorem markDirty_net (g : Nat) (d : Dev) : (markDirty g d).net = d.net := by
  unfold markDirty; split <;> rfl
@[simp] theorem markDirty_ser (g : Nat) (d : Dev) : (markDirty g d).ser = d.ser := by
  unfold markDirty; split <;> rfl
@[simp] theorem markDirty_gl (g : Nat) (d : Dev) : (markDirty g d).gl = d.gl := by
  unfold markDirty; split <;> rfl
@[simp] theorem markDirty_red (g : Nat) (d : Dev) : (markDirty g d).red = d.red := by
  unfold markDirty; split <;> rfl
@[simp] theorem markDirty_integ (g : Nat) (d : Dev) : (markDirty g d).integ = d.integ := by
  unfold markDirty; split <;> rfl
@[simp] theorem markDirty_rtc (g : Nat) (d : Dev) : (markDirty g d).rtc = d.rtc := by
  unfold markDirty; split <;> rfl
@[simp] theorem markDirty_panel (g : Nat) (d : Dev) : (markDirty g d).panel = d.panel := by
  unfold markDirty; split <;> rfl
@[simp] theorem markDirty_otp (g : Nat) (d : Dev) : (markDirty g d).otp = d.otp := by
  unfold markDirty; split <;> rfl
@[simp] theorem markDirty_pwr (g : Nat) (d : Dev) : (markDirty g d).pwr = d.pwr := by
  unfold markDirty; split <;> rfl
@[simp] theorem markDirty_tick (g : Nat) (d : Dev) : (markDirty g d).tick = d.tick := by
  unfold markDirty; split <;> rfl
@[simp] theorem markDirty_free (g : Nat) (d : Dev) : (markDirty g d).free = d.free := by
  unfold markDirty; split <;> rfl
@[simp] theorem markDirty_evt (g : Nat) (d : Dev) : (markDirty g d).evt = d.evt := by
  unfold markDirty; split <;> rfl
@[simp] theorem markDirty_host (g : Nat) (d : Dev) : (markDirty g d).host = d.host := by
  unfold markDirty; split <;> rfl
@[simp] theorem markDirty_out (g : Nat) (d : Dev) : (markDirty g d).out = d.out := by
  unfold markDirty; split <;> rfl

@[simp] theorem logOccurrence_sys (n : Nat) (x : Word) (d : Dev) : (logOccurrence n x d).sys = d.sys := by
  unfold logOccurrence; dsimp only; split <;> split <;> (try split) <;> simp
@[simp] theorem logOccurrence_mbx (n : Nat) (x : Word) (d : Dev) : (logOccurrence n x d).mbx = d.mbx := by
  unfold logOccurrence; dsimp only; split <;> split <;> (try split) <;> simp
@[simp] theorem logOccurrence_prog (n : Nat) (x : Word) (d : Dev) : (logOccurrence n x d).prog = d.prog := by
  unfold logOccurrence; dsimp only; split <;> split <;> (try split) <;> simp
@[simp] theorem logOccurrence_loops (n : Nat) (x : Word) (d : Dev) : (logOccurrence n x d).loops = d.loops := by
  unfold logOccurrence; dsimp only; split <;> split <;> (try split) <;> simp
@[simp] theorem logOccurrence_dig (n : Nat) (x : Word) (d : Dev) : (logOccurrence n x d).dig = d.dig := by
  unfold logOccurrence; dsimp only; split <;> split <;> (try split) <;> simp
@[simp] theorem logOccurrence_ana (n : Nat) (x : Word) (d : Dev) : (logOccurrence n x d).ana = d.ana := by
  unfold logOccurrence; dsimp only; split <;> split <;> (try split) <;> simp
@[simp] theorem logOccurrence_net (n : Nat) (x : Word) (d : Dev) : (logOccurrence n x d).net = d.net := by
  unfold logOccurrence; dsimp only; split <;> split <;> (try split) <;> simp
@[simp] theorem logOccurrence_ser (n : Nat) (x : Word) (d : Dev) : (logOccurrence n x d).ser = d.ser := by
  unfold logOccurrence; dsimp only; split <;> split <;> (try split) <;> simp
@[simp] theorem logOccurrence_gl (n : Nat) (x : Word) (d : Dev) : (logOccurrence n x d).gl = d.gl := by
  unfold logOccurrence; dsimp only; split <;> split <;> (try split) <;> simp
@[simp] theorem logOccurrence_red (n : Nat) (x : Word) (d : Dev) : (logOccurrence n x d).red = d.red := by
  unfold logOccurrence; dsimp only; split <;> split <;> (try split) <;> simp
@[simp] theorem logOccurrence_integ (n : Nat) (x : Word) (d : Dev) : (logOccurrence n x d).integ = d.integ := by
  unfold logOccurrence; dsimp only; split <;> split <;> (try split) <;> simp
@[simp] theorem logOccurrence_rtc (n : Nat) (x : Word) (d : Dev) : (logOccurrence n x d).rtc = d.rtc := by
  unfold logOccurrence; dsimp only; split <;> split <;> (try split) <;> simp
@[simp] theorem logOccurrence_panel (n : Nat) (x : Word) (d : Dev) : (logOccurrence n x d).panel = d.panel := by
  unfold logOccurrence; dsimp only; split <;> split <;> (try split) <;> simp
@[simp] theorem logOccurrence_otp (n : Nat) (x : Word) (d : Dev) : (logOccurrence n x d).otp = d.otp := by
  unfold logOccurrence; dsimp only; split <;> split <;> (try split) <;> simp
@[simp] theorem logOccurrence_pwr (n : Nat) (x : Word) (d : Dev) : (logOccurrence n x d).pwr = d.pwr := by
  unfold logOccurrence; dsimp only; split <;> split <;> (try split) <;> simp
@[simp] theorem logOccurrence_tick (n : Nat) (x : Word) (d : Dev) : (logOccurrence n x d).tick = d.tick := by
  unfold logOccurrence; dsimp only; split <;> split <;> (try split) <;> simp
@[simp] theorem logOccurrence_free (n : Nat) (x : Word) (d : Dev) : (logOccurrence n x d).free = d.free := by
  unfold logOccurrence; dsimp only; split <;> split <;> (try split) <;> simp
@[simp] theorem logOccurrence_evt (n : Nat) (x : Word) (d : Dev) : (logOccurrence n x d).evt = d.evt := by
  unfold logOccurrence; dsimp only; split <;> split <;> (try split) <;> simp
@[simp] theorem logOccurrence_host (n : Nat) (x : Word) (d : Dev) : (logOccurrence n x d).host = d.host := by
  unfold logOccurrence; dsimp only; split <;> split <;> (try split) <;> simp
@[simp] theorem logOccurrence_out (n : Nat) (x : Word) (d : Dev) : (logOccurrence n x d).out = d.out := by
  unfold logOccurrence; dsimp only; split <;> split <;> (try split) <;> simp

@[simp] theorem raise1_sys (n : Nat) (x : Word) (d : Dev) : (raise1 n x d).sys = d.sys := by
  unfold raise1; dsimp only; split <;> split <;> split <;> simp
@[simp] theorem raise1_mbx (n : Nat) (x : Word) (d : Dev) : (raise1 n x d).mbx = d.mbx := by
  unfold raise1; dsimp only; split <;> split <;> split <;> simp
@[simp] theorem raise1_prog (n : Nat) (x : Word) (d : Dev) : (raise1 n x d).prog = d.prog := by
  unfold raise1; dsimp only; split <;> split <;> split <;> simp
@[simp] theorem raise1_loops (n : Nat) (x : Word) (d : Dev) : (raise1 n x d).loops = d.loops := by
  unfold raise1; dsimp only; split <;> split <;> split <;> simp
@[simp] theorem raise1_dig (n : Nat) (x : Word) (d : Dev) : (raise1 n x d).dig = d.dig := by
  unfold raise1; dsimp only; split <;> split <;> split <;> simp
@[simp] theorem raise1_ana (n : Nat) (x : Word) (d : Dev) : (raise1 n x d).ana = d.ana := by
  unfold raise1; dsimp only; split <;> split <;> split <;> simp
@[simp] theorem raise1_net (n : Nat) (x : Word) (d : Dev) : (raise1 n x d).net = d.net := by
  unfold raise1; dsimp only; split <;> split <;> split <;> simp
@[simp] theorem raise1_ser (n : Nat) (x : Word) (d : Dev) : (raise1 n x d).ser = d.ser := by
  unfold raise1; dsimp only; split <;> split <;> split <;> simp
@[simp] theorem raise1_gl (n : Nat) (x : Word) (d : Dev) : (raise1 n x d).gl = d.gl := by
  unfold raise1; dsimp only; split <;> split <;> split <;> simp
@[simp] theorem raise1_red (n : Nat) (x : Word) (d : Dev) : (raise1 n x d).red = d.red := by
  unfold raise1; dsimp only; split <;> split <;> split <;> simp
@[simp] theorem raise1_integ (n : Nat) (x : Word) (d : Dev) : (raise1 n x d).integ = d.integ := by
  unfold raise1; dsimp only; split <;> split <;> split <;> simp
@[simp] theorem raise1_rtc (n : Nat) (x : Word) (d : Dev) : (raise1 n x d).rtc = d.rtc := by
  unfold raise1; dsimp only; split <;> split <;> split <;> simp
@[simp] theorem raise1_panel (n : Nat) (x : Word) (d : Dev) : (raise1 n x d).panel = d.panel := by
  unfold raise1; dsimp only; split <;> split <;> split <;> simp
@[simp] theorem raise1_otp (n : Nat) (x : Word) (d : Dev) : (raise1 n x d).otp = d.otp := by
  unfold raise1; dsimp only; split <;> split <;> split <;> simp
@[simp] theorem raise1_pwr (n : Nat) (x : Word) (d : Dev) : (raise1 n x d).pwr = d.pwr := by
  unfold raise1; dsimp only; split <;> split <;> split <;> simp
@[simp] theorem raise1_tick (n : Nat) (x : Word) (d : Dev) : (raise1 n x d).tick = d.tick := by
  unfold raise1; dsimp only; split <;> split <;> split <;> simp
@[simp] theorem raise1_free (n : Nat) (x : Word) (d : Dev) : (raise1 n x d).free = d.free := by
  unfold raise1; dsimp only; split <;> split <;> split <;> simp

@[simp] theorem raise_sys (e : Ev) (x : Nat) (d : Dev) : (raise e x d).sys = d.sys := by
  unfold raise; dsimp only; split <;> simp
@[simp] theorem raise_mbx (e : Ev) (x : Nat) (d : Dev) : (raise e x d).mbx = d.mbx := by
  unfold raise; dsimp only; split <;> simp
@[simp] theorem raise_prog (e : Ev) (x : Nat) (d : Dev) : (raise e x d).prog = d.prog := by
  unfold raise; dsimp only; split <;> simp
@[simp] theorem raise_loops (e : Ev) (x : Nat) (d : Dev) : (raise e x d).loops = d.loops := by
  unfold raise; dsimp only; split <;> simp
@[simp] theorem raise_dig (e : Ev) (x : Nat) (d : Dev) : (raise e x d).dig = d.dig := by
  unfold raise; dsimp only; split <;> simp
@[simp] theorem raise_ana (e : Ev) (x : Nat) (d : Dev) : (raise e x d).ana = d.ana := by
  unfold raise; dsimp only; split <;> simp
@[simp] theorem raise_net (e : Ev) (x : Nat) (d : Dev) : (raise e x d).net = d.net := by
  unfold raise; dsimp only; split <;> simp
@[simp] theorem raise_ser (e : Ev) (x : Nat) (d : Dev) : (raise e x d).ser = d.ser := by
  unfold raise; dsimp only; split <;> simp
@[simp] theorem raise_gl (e : Ev) (x : Nat) (d : Dev) : (raise e x d).gl = d.gl := by
  unfold raise; dsimp only; split <;> simp
@[simp] theorem raise_red (e : Ev) (x : Nat) (d : Dev) : (raise e x d).red = d.red := by
  unfold raise; dsimp only; split <;> simp
@[simp] theorem raise_integ (e : Ev) (x : Nat) (d : Dev) : (raise e x d).integ = d.integ := by
  unfold raise; dsimp only; split <;> simp
@[simp] theorem raise_rtc (e : Ev) (x : Nat) (d : Dev) : (raise e x d).rtc = d.rtc := by
  unfold raise; dsimp only; split <;> simp
@[simp] theorem raise_panel (e : Ev) (x : Nat) (d : Dev) : (raise e x d).panel = d.panel := by
  unfold raise; dsimp only; split <;> simp
@[simp] theorem raise_otp (e : Ev) (x : Nat) (d : Dev) : (raise e x d).otp = d.otp := by
  unfold raise; dsimp only; split <;> simp
@[simp] theorem raise_pwr (e : Ev) (x : Nat) (d : Dev) : (raise e x d).pwr = d.pwr := by
  unfold raise; dsimp only; split <;> simp
@[simp] theorem raise_tick (e : Ev) (x : Nat) (d : Dev) : (raise e x d).tick = d.tick := by
  unfold raise; dsimp only; split <;> simp
@[simp] theorem raise_free (e : Ev) (x : Nat) (d : Dev) : (raise e x d).free = d.free := by
  unfold raise; dsimp only; split <;> simp

@[simp] theorem raiseIf_sys (c : Bool) (e : Ev) (x : Nat) (d : Dev) : (raiseIf c e x d).sys = d.sys := by
  unfold raiseIf; split <;> simp
@[simp] theorem raiseIf_mbx (c : Bool) (e : Ev) (x : Nat) (d : Dev) : (raiseIf c e x d).mbx = d.mbx := by
  unfold raiseIf; split <;> simp
@[simp] theorem raiseIf_prog (c : Bool) (e : Ev) (x : Nat) (d : Dev) : (raiseIf c e x d).prog = d.prog := by
  unfold raiseIf; split <;> simp
@[simp] theorem raiseIf_loops (c : Bool) (e : Ev) (x : Nat) (d : Dev) : (raiseIf c e x d).loops = d.loops := by
  unfold raiseIf; split <;> simp
@[simp] theorem raiseIf_dig (c : Bool) (e : Ev) (x : Nat) (d : Dev) : (raiseIf c e x d).dig = d.dig := by
  unfold raiseIf; split <;> simp
@[simp] theorem raiseIf_ana (c : Bool) (e : Ev) (x : Nat) (d : Dev) : (raiseIf c e x d).ana = d.ana := by
  unfold raiseIf; split <;> simp
@[simp] theorem raiseIf_net (c : Bool) (e : Ev) (x : Nat) (d : Dev) : (raiseIf c e x d).net = d.net := by
  unfold raiseIf; split <;> simp
@[simp] theorem raiseIf_ser (c : Bool) (e : Ev) (x : Nat) (d : Dev) : (raiseIf c e x d).ser = d.ser := by
  unfold raiseIf; split <;> simp
@[simp] theorem raiseIf_gl (c : Bool) (e : Ev) (x : Nat) (d : Dev) : (raiseIf c e x d).gl = d.gl := by
  unfold raiseIf; split <;> simp
@[simp] theorem raiseIf_red (c : Bool) (e : Ev) (x : Nat) (d : Dev) : (raiseIf c e x d).red = d.red := by
  unfold raiseIf; split <;> simp
@[simp] theorem raiseIf_integ (c : Bool) (e : Ev) (x : Nat) (d : Dev) : (raiseIf c e x d).integ = d.integ := by
  unfold raiseIf; split <;> simp
@[simp] theorem raiseIf_rtc (c : Bool) (e : Ev) (x : Nat) (d : Dev) : (raiseIf c e x d).rtc = d.rtc := by
  unfold raiseIf; split <;> simp
@[simp] theorem raiseIf_panel (c : Bool) (e : Ev) (x : Nat) (d : Dev) : (raiseIf c e x d).panel = d.panel := by
  unfold raiseIf; split <;> simp
@[simp] theorem raiseIf_otp (c : Bool) (e : Ev) (x : Nat) (d : Dev) : (raiseIf c e x d).otp = d.otp := by
  unfold raiseIf; split <;> simp
@[simp] theorem raiseIf_pwr (c : Bool) (e : Ev) (x : Nat) (d : Dev) : (raiseIf c e x d).pwr = d.pwr := by
  unfold raiseIf; split <;> simp
@[simp] theorem raiseIf_tick (c : Bool) (e : Ev) (x : Nat) (d : Dev) : (raiseIf c e x d).tick = d.tick := by
  unfold raiseIf; split <;> simp
@[simp] theorem raiseIf_free (c : Bool) (e : Ev) (x : Nat) (d : Dev) : (raiseIf c e x d).free = d.free := by
  unfold raiseIf; split <;> simp

end Sys2Proof.Machine
end

