-- ==== Sys2Proof/Laws/Mailbox.lean ====
section
/-!
SUPPORT. Laws/Mailbox.lean: what the shared operations of a mailbox command do: reading and writing the command at an
origin, the response, and the run of a command whose checks pass or whose first failing check gives a status.
-/

namespace Sys2Proof.Machine

open Sys2Proof

theorem vget_vset_same {α : Type} {n : Nat} [Inhabited α] (v : Vector α n) (i : Nat) (x : α) (h : i < n) :
    vget (vset v i x) i = x := by
  simp [vget, vset, h]

theorem vget_vset_other {α : Type} {n : Nat} [Inhabited α] (v : Vector α n) (i j : Nat) (x : α) (h : i ≠ j) :
    vget (vset v i x) j = vget v j := by
  simp [vget, vset, h]

theorem vget_vmod_same {α : Type} {n : Nat} [Inhabited α] (v : Vector α n) (i : Nat) (f : α → α) (h : i < n) :
    vget (vmod v i f) i = f (vget v i) := vget_vset_same v i _ h

theorem vget_vmod_other {α : Type} {n : Nat} [Inhabited α] (v : Vector α n) (i j : Nat) (f : α → α) (h : i ≠ j) :
    vget (vmod v i f) j = vget v j := vget_vset_other v i j _ h

/-- A command at an origin, once one stands there, is the one written. -/
theorem job_setJob (o : Origin) (j j' : Job) (d : Dev) (h : d.job o = some j) : (setJob o j' d).job o = some j' := by
  cases o with
  | ch n => simp [Dev.job, setJob, setChan, vget_vmod_same]
  | net =>
    unfold Dev.job setJob at *
    cases hq : d.mbx.netQueue with
    | nil => simp [hq] at h
    | cons q qs => simp

theorem job_congr (o : Origin) (d e : Dev) (h : d.mbx = e.mbx) : d.job o = e.job o := by
  cases o <;> simp [Dev.job, h]

/-- A response to the command that has begun. -/
theorem job_respond (o : Origin) (j : Job) (st : Half) (p : Bytes) (d : Dev) (h : d.job o = some j)
    (hs : j.started = true) (hr : j.resp = none) :
    (respond o st p d).job o = some { j with resp := some ⟨st, p⟩ } := by
  have : respond o st p d = setJob o { j with resp := some ⟨st, p⟩ } d := by simp [respond, h, hs, hr]
  rw [this]
  exact job_setJob o j _ d h

/-- A command that is due. -/
theorem due_of_job (o : Origin) (code : Nat) (j : Job) (d : Dev) (h : d.job o = some j) (hc : hdrCode j.header = code)
    (hs : j.started = false) (hr : j.resp = none) : d.due o code = some j := by
  simp [Dev.due, h, hc, hs, hr]

/-- A due command whose checks pass: its effect on the device with the command begun, then its reply. -/
theorem runCmd_pass (s : State) (o : Origin) (code : Nat) (absent : Dev → Bytes → Bool)
    (tests : Mems → Dev → Bytes → List (Bool × Half)) (act : Mems → Dev → Bytes → Dev × Reply) (j : Job)
    (hj : s.dev.due o code = some j)
    (ht : firstFail (commonTests o code (absent (startJob o j s.dev) j.payload) j.header (startJob o j s.dev) ++
      tests s.mem (startJob o j s.dev) j.payload) = none) :
    runCmd s o code absent tests act =
      .next { s with
        dev := reply o (act s.mem (startJob o j s.dev) j.payload).2 (act s.mem (startJob o j s.dev) j.payload).1 } := by
  simp [runCmd, nextR, hj, ht]

/-- A due command with a failing check: the status of the first that fails, and no other effect (R66, R68). -/
theorem runCmd_fail (s : State) (o : Origin) (code : Nat) (absent : Dev → Bytes → Bool)
    (tests : Mems → Dev → Bytes → List (Bool × Half)) (act : Mems → Dev → Bytes → Dev × Reply) (j : Job) (st : Half)
    (hj : s.dev.due o code = some j)
    (ht : firstFail (commonTests o code (absent (startJob o j s.dev) j.payload) j.header (startJob o j s.dev) ++
      tests s.mem (startJob o j s.dev) j.payload) = some st) :
    runCmd s o code absent tests act = .next { s with dev := respond o st [] (startJob o j s.dev) } := by
  simp [runCmd, nextR, hj, ht]

/-- A due command that writes addressed memory and whose checks pass. -/
theorem runCmdM_pass (s : State) (o : Origin) (code : Nat) (absent : Dev → Bytes → Bool)
    (tests : Mems → Dev → Bytes → List (Bool × Half)) (act : Mems → Dev → Bytes → (Dev × Mems) × Reply) (j : Job)
    (hj : s.dev.due o code = some j)
    (ht : firstFail (commonTests o code (absent (startJob o j s.dev) j.payload) j.header (startJob o j s.dev) ++
      tests s.mem (startJob o j s.dev) j.payload) = none) :
    runCmdM s o code absent tests act =
      .next { s with
        dev := reply o (act s.mem (startJob o j s.dev) j.payload).2 (act s.mem (startJob o j s.dev) j.payload).1.1
        mem := (act s.mem (startJob o j s.dev) j.payload).1.2 } := by
  simp [runCmdM, nextM, hj, ht]

/-- Beginning a command changes the mailboxes alone. -/
theorem startJob_eq (o : Origin) (j : Job) (d : Dev) : startJob o j d = { d with mbx := (startJob o j d).mbx } := by
  cases o with
  | ch n => rfl
  | net =>
    simp only [startJob, setJob]
    split <;> rfl

/-- A response changes the mailboxes alone. -/
theorem respond_eq (o : Origin) (st : Half) (p : Bytes) (d : Dev) :
    respond o st p d = { d with mbx := (respond o st p d).mbx } := by
  unfold respond
  split
  · split
    · cases o with
      | ch n => rfl
      | net =>
        simp only [setJob]
        split <;> rfl
    · rfl
  · rfl

end Sys2Proof.Machine
end

