-- ==== Sys2Proof/Laws/Memory.lean ====
section
/-!
SUPPORT. Laws/Memory.lean: the addressed memories keep their canonical form, a read after a write gives the byte
written, and a write leaves every other address alone.
-/

namespace Sys2Proof.Machine

open Sys2Proof

/-- Whether an address lies above a bound. -/
def above : Option Nat → Nat → Prop
  | none, _ => True
  | some l, a => l < a

theorem wfFrom_cons (fill : Byte) (lo : Option Nat) (a : Nat) (b : Byte) (m : Memory) :
    Memory.wfFrom fill lo ((a, b) :: m) = true ↔ above lo a ∧ b ≠ fill ∧ Memory.wfFrom fill (some a) m = true := by
  cases lo <;> simp [Memory.wfFrom, above, and_assoc]

theorem wfFrom_lower (fill : Byte) (lo : Option Nat) (a : Nat) (m : Memory) (h : above lo a)
    (hm : Memory.wfFrom fill (some a) m = true) : Memory.wfFrom fill lo m = true := by
  cases m with
  | nil => rfl
  | cons c m =>
    obtain ⟨j, b⟩ := c
    rw [wfFrom_cons] at hm ⊢
    refine ⟨?_, hm.2⟩
    cases lo with
    | none => trivial
    | some l => exact Nat.lt_trans h hm.1

theorem write_wfFrom (fill : Byte) (a : Nat) (b : Byte) :
    ∀ (m : Memory) (lo : Option Nat), above lo a → Memory.wfFrom fill lo m = true →
      Memory.wfFrom fill lo (Memory.write fill m a b) = true
  | [], lo, hl, _ => by
    unfold Memory.write
    split
    · rfl
    · rename_i hb
      rw [wfFrom_cons]
      exact ⟨hl, hb, rfl⟩
  | (j, c) :: m, lo, hl, hm => by
    rw [wfFrom_cons] at hm
    unfold Memory.write
    split
    · rename_i hj
      split
      · rw [wfFrom_cons]; exact hm
      · rename_i hb
        rw [wfFrom_cons, wfFrom_cons]
        exact ⟨hl, hb, hj, hm.2⟩
    · split
      · rename_i ha
        split
        · exact wfFrom_lower fill lo j m hm.1 hm.2.2
        · rename_i hb
          rw [wfFrom_cons]
          exact ⟨hl, hb, by rw [ha]; exact hm.2.2⟩
      · rw [wfFrom_cons]
        exact ⟨hm.1, hm.2.1, write_wfFrom fill a b m (some j) (by simp only [above]; omega) hm.2.2⟩

/-- A write keeps the canonical form. -/
theorem write_wf (fill : Byte) (m : Memory) (a : Nat) (b : Byte) (h : Memory.wf fill m = true) :
    Memory.wf fill (Memory.write fill m a b) = true := write_wfFrom fill a b m none trivial h

/-- A write of several bytes keeps the canonical form. -/
theorem writeN_wf (fill : Byte) (d : Bytes) :
    ∀ (m : Memory) (a : Nat), Memory.wf fill m = true → Memory.wf fill (Memory.writeN fill m a d) = true := by
  induction d with
  | nil => intro m a h; exact h
  | cons b d ih => intro m a h; exact ih _ _ (write_wf fill m a b h)

theorem filter_wfFrom (fill : Byte) (p : Host.Cell → Bool) :
    ∀ (m : Memory) (lo : Option Nat), Memory.wfFrom fill lo m = true → Memory.wfFrom fill lo (m.filter p) = true
  | [], _, _ => rfl
  | (j, c) :: m, lo, h => by
    rw [wfFrom_cons] at h
    rw [List.filter_cons]
    split
    · rw [wfFrom_cons]
      exact ⟨h.1, h.2.1, filter_wfFrom fill p m (some j) h.2.2⟩
    · exact wfFrom_lower fill lo j _ h.1 (filter_wfFrom fill p m (some j) h.2.2)

/-- An erase keeps the canonical form. -/
theorem erase_wf (fill : Byte) (m : Memory) (a n : Nat) (h : Memory.wf fill m = true) :
    Memory.wf fill (Memory.erase m a n) = true := filter_wfFrom fill _ m none h

theorem read_of_above (fill : Byte) (a : Nat) :
    ∀ (m : Memory) (l : Nat), a ≤ l → Memory.wfFrom fill (some l) m = true → Memory.read fill m a = fill
  | [], _, _, _ => rfl
  | (j, c) :: m, l, hl, h => by
    rw [wfFrom_cons] at h
    have hj : l < j := h.1
    unfold Memory.read
    rw [if_neg (by omega)]
    exact read_of_above fill a m j (by omega) h.2.2

theorem read_write_from (fill : Byte) (a : Nat) (b : Byte) :
    ∀ (m : Memory) (lo : Option Nat), Memory.wfFrom fill lo m = true → Memory.read fill (Memory.write fill m a b) a = b
  | [], _, _ => by
    unfold Memory.write
    split
    · rename_i hb; simp [Memory.read, hb]
    · simp [Memory.read]
  | (j, c) :: m, lo, h => by
    rw [wfFrom_cons] at h
    unfold Memory.write
    split
    · rename_i hj
      split
      · rename_i hb
        unfold Memory.read
        rw [if_neg (by omega), hb]
        exact read_of_above fill a m j (by omega) h.2.2
      · simp [Memory.read]
    · split
      · rename_i ha
        split
        · rename_i hb
          rw [hb]
          exact read_of_above fill a m j (by omega) h.2.2
        · simp [Memory.read]
      · unfold Memory.read
        rw [if_neg (by omega)]
        exact read_write_from fill a b m (some j) h.2.2

/-- The byte written is the byte read. -/
theorem read_write_same (fill : Byte) (m : Memory) (a : Nat) (b : Byte) (h : Memory.wf fill m = true) :
    Memory.read fill (Memory.write fill m a b) a = b := read_write_from fill a b m none h

/-- A write leaves every other address alone. -/
theorem read_write_other (fill : Byte) (a : Nat) (b : Byte) (x : Nat) (hx : x ≠ a) :
    ∀ m : Memory, Memory.read fill (Memory.write fill m a b) x = Memory.read fill m x
  | [] => by
    unfold Memory.write
    split
    · rfl
    · simp [Memory.read, Ne.symm hx]
  | (j, c) :: m => by
    unfold Memory.write
    split
    · split
      · rfl
      · simp [Memory.read, Ne.symm hx]
    · split
      · rename_i ha
        split
        · simp [Memory.read, ← ha, Ne.symm hx]
        · simp [Memory.read, ← ha, Ne.symm hx]
      · simp only [Memory.read]
        rw [read_write_other fill a b x hx m]

/-- A write of several bytes leaves every address outside them alone. -/
theorem read_writeN_other (fill : Byte) (x : Nat) (d : Bytes) :
    ∀ (m : Memory) (a : Nat), x < a ∨ a + d.length ≤ x →
      Memory.read fill (Memory.writeN fill m a d) x = Memory.read fill m x := by
  induction d with
  | nil => intro m a _; rfl
  | cons b d ih =>
    intro m a h
    simp only [List.length_cons] at h
    show Memory.read fill (Memory.writeN fill (Memory.write fill m a b) (a + 1) d) x = _
    rw [ih _ _ (by omega), read_write_other fill a b x (by omega)]

end Sys2Proof.Machine
end

