-- ==== Sys2Proof/Laws/Wire.lean ====
section
/-!
SUPPORT. Laws/Wire.lean: a number written as bytes reads back, and a datagram that a device builds parses as what it
carries. A message with a trailer and its MAC is accepted as what it carries.
-/

namespace Sys2Proof.Machine

open Sys2Proof

theorem leBytes_length (n v : Nat) : (leBytes n v).length = n := by
  induction n generalizing v with
  | zero => rfl
  | succ n ih => simp [leBytes, ih]

theorem beBytes_length (n v : Nat) : (beBytes n v).length = n := by simp [beBytes, leBytes_length]

theorem fromLe_leBytes (n v : Nat) : fromLe (leBytes n v) = v % 256 ^ n := by
  induction n generalizing v with
  | zero => simp [leBytes, fromLe, Nat.mod_one]
  | succ n ih =>
    rw [leBytes, fromLe, ih, Nat.pow_succ', Nat.mod_mul]
    simp

theorem fromBe_beBytes (n v : Nat) : fromBe (beBytes n v) = v % 256 ^ n := by
  simp [fromBe, beBytes, fromLe_leBytes]

/-- The bytes of a part that stands between two others. -/
theorem slice_mid (a b c : Bytes) (off n : Nat) (ha : a.length = off) (hb : b.length = n) :
    slice (a ++ b ++ c) off n = b := by
  simp [slice, ← ha, ← hb]

theorem getBe_mid (a c : Bytes) (n v off : Nat) (ha : a.length = off) (hv : v < 256 ^ n) :
    getBe (a ++ beBytes n v ++ c) off n = v := by
  rw [getBe, slice_mid a (beBytes n v) c off n ha (beBytes_length n v), fromBe_beBytes, Nat.mod_eq_of_lt hv]

/-- What a device sends as a datagram of a listed type, another takes apart into the same parts (R344, R345). -/
theorem stationParse_stationFrame (type role : Nat) (partner : Word) (sender : DWord) (seq : Word) (p : Bytes)
    (ht : stTypeListed type = true) (hb : type < 256) (hr : role < 4) (hp : p.length ≤ 4000) :
    stationParse (stationFrame type role partner sender seq p) = some ⟨type, role, partner, sender, seq, p⟩ := by
  generalize hx : stationFrame type role partner sender seq p = x
  have e := hx
  simp only [stationFrame] at e
  generalize hc : crc32c (beBytes 2 0xD44C ++ beBytes 1 1 ++ beBytes 1 type ++ beBytes 2 p.length ++ beBytes 2 role ++
    beBytes 4 partner.toNat ++ beBytes 8 sender.toNat ++ beBytes 4 seq.toNat ++ p) = fcrc at e
  have hlen : x.length = 28 + p.length := by
    rw [← e]; simp [beBytes_length]; omega
  have h0 : getBe x 0 2 = 0xD44C := by
    rw [← e]; simp only [List.append_assoc]; exact getBe_mid [] _ 2 _ 0 rfl (by decide)
  have h2 : getBe x 2 1 = 1 := by
    rw [← e]; simp only [List.append_assoc]
    simpa only [List.append_assoc] using getBe_mid (beBytes 2 0xD44C) (beBytes 1 type ++ _) 1 1 2 rfl (by decide)
  have h3 : getBe x 3 1 = type := by
    rw [← e]
    simpa only [List.append_assoc] using
      getBe_mid (beBytes 2 0xD44C ++ beBytes 1 1) (beBytes 2 p.length ++ _) 1 type 3 rfl (by simpa using hb)
  have h4 : getBe x 4 2 = p.length := by
    rw [← e]
    simpa only [List.append_assoc] using
      getBe_mid (beBytes 2 0xD44C ++ beBytes 1 1 ++ beBytes 1 type) (beBytes 2 role ++ _) 2 p.length 4
        (by simp [beBytes_length]) (by omega)
  have h6 : getBe x 6 2 = role := by
    rw [← e]
    simpa only [List.append_assoc] using
      getBe_mid (beBytes 2 0xD44C ++ beBytes 1 1 ++ beBytes 1 type ++ beBytes 2 p.length) (beBytes 4 partner.toNat ++ _)
        2 role 6 (by simp [beBytes_length]) (by omega)
  have h8 : getBe x 8 4 = partner.toNat := by
    rw [← e]
    simpa only [List.append_assoc] using
      getBe_mid (beBytes 2 0xD44C ++ beBytes 1 1 ++ beBytes 1 type ++ beBytes 2 p.length ++ beBytes 2 role)
        (beBytes 8 sender.toNat ++ _) 4 partner.toNat 8 (by simp [beBytes_length]) (by simpa using partner.isLt)
  have h12 : getBe x 12 8 = sender.toNat := by
    rw [← e]
    simpa only [List.append_assoc] using
      getBe_mid (beBytes 2 0xD44C ++ beBytes 1 1 ++ beBytes 1 type ++ beBytes 2 p.length ++ beBytes 2 role ++
          beBytes 4 partner.toNat)
        (beBytes 4 seq.toNat ++ _) 8 sender.toNat 12 (by simp [beBytes_length]) (by simpa using sender.isLt)
  have h20 : getBe x 20 4 = seq.toNat := by
    rw [← e]
    simpa only [List.append_assoc] using
      getBe_mid (beBytes 2 0xD44C ++ beBytes 1 1 ++ beBytes 1 type ++ beBytes 2 p.length ++ beBytes 2 role ++
          beBytes 4 partner.toNat ++ beBytes 8 sender.toNat)
        (p ++ _) 4 seq.toNat 20 (by simp [beBytes_length]) (by simpa using seq.isLt)
  have hpay : slice x 24 p.length = p := by
    rw [← e]
    exact slice_mid _ p _ 24 p.length (by simp [beBytes_length]) rfl
  have hbody : x.take (x.length - 4) = beBytes 2 0xD44C ++ beBytes 1 1 ++ beBytes 1 type ++ beBytes 2 p.length ++
      beBytes 2 role ++ beBytes 4 partner.toNat ++ beBytes 8 sender.toNat ++ beBytes 4 seq.toNat ++ p := by
    rw [← e]
    exact List.take_left' (by simp only [List.length_append, beBytes_length]; omega)
  have hcrc : getBe x (x.length - 4) 4 = fcrc.toNat := by
    have := getBe_mid (x.take (x.length - 4)) [] 4 fcrc.toNat (x.length - 4) (by simp) (by simpa using fcrc.isLt)
    rw [hbody] at this
    simpa only [List.append_assoc, List.append_nil, ← e] using this
  have hnat : (crc32c (x.take (x.length - 4))).toNat = fcrc.toNat := by rw [hbody, hc]
  simp only [stationParse]
  rw [h0, h2, h3, h4, h6, h8, h12, h20, hpay, hcrc, hnat, ht, hlen]
  have hrole : role / 4 = 0 := by omega
  have hmod : role % 4 = role := by omega
  have hsmall : ¬ 4200 < 28 + p.length := by omega
  have hsum : p.length + 28 = 28 + p.length := by omega
  simp [hrole, hmod, hsmall, hsum]

/-- A MAC has 32 bytes. -/
theorem hmac_length (k m : Bytes) : (hmac k m).length = 32 := by
  simp only [hmac, sha256, List.length_flatMap, beBytes_length]; rfl

/-- The header of a datagram depends on its payload by length alone (R344). -/
theorem stationFrame_take (type role : Nat) (partner : Word) (sender : DWord) (seq : Word) (p q : Bytes)
    (h : p.length = q.length) :
    (stationFrame type role partner sender seq p).take 24 = (stationFrame type role partner sender seq q).take 24 := by
  have hl : ∀ x : Bytes, (beBytes 2 0xD44C ++ beBytes 1 1 ++ beBytes 1 type ++ beBytes 2 q.length ++ beBytes 2 role ++
    beBytes 4 partner.toNat ++ beBytes 8 sender.toNat ++ beBytes 4 seq.toNat ++ x).take 24 =
      beBytes 2 0xD44C ++ beBytes 1 1 ++ beBytes 1 type ++ beBytes 2 q.length ++ beBytes 2 role ++
    beBytes 4 partner.toNat ++ beBytes 8 sender.toNat ++ beBytes 4 seq.toNat := fun x =>
      List.take_left' (by simp only [List.length_append, beBytes_length])
  simp only [stationFrame, h, List.append_assoc] at *
  rw [hl, hl]

/-- A payload with its trailer and the MAC over header, payload and trailer is what the receiver takes (R392). -/
theorem authParse_sealed (data : Bytes) (h : StHeader) (d : Dev) (key : Nat) (epoch : Word) (k p : Bytes)
    (hk : d.hmacKey key = some k) (hb : key < 256)
    (hp : h.payload = p ++ ([BitVec.ofNat 8 key, 0, 0, 0] ++ leBytes 4 epoch.toNat) ++
      hmac k (data.take 24 ++ p ++ ([BitVec.ofNat 8 key, 0, 0, 0] ++ leBytes 4 epoch.toNat))) :
    authParse data h d = some (p, key, epoch) := by
  generalize hm : hmac k _ = m at hp
  have ml : m.length = 32 := by rw [← hm, hmac_length]
  generalize ht : ([BitVec.ofNat 8 key, 0, 0, 0] ++ leBytes 4 epoch.toNat : Bytes) = tr at *
  have tl : tr.length = 8 := by rw [← ht]; simp [leBytes_length]
  have hlen : h.payload.length = p.length + 40 := by rw [hp]; simp [tl, ml]
  have e1 : h.payload.take (h.payload.length - 40) = p := by
    rw [hlen, hp, List.append_assoc]; simp
  have e2 : slice h.payload (h.payload.length - 40) 8 = tr := by
    rw [hp]; exact slice_mid p tr m _ 8 (by simp [tl, ml]) tl
  have e3 : h.payload.drop (h.payload.length - 32) = m := by
    rw [hp]; exact List.drop_left' (by simp [tl, ml])
  have b0 : byteAt tr 0 = key := by rw [← ht]; simp [byteAt, Nat.mod_eq_of_lt hb]
  have z : allZero tr 1 3 = true := by rw [← ht]; simp [allZero, slice]
  have g : getLe tr 4 4 = epoch.toNat := by
    rw [← ht, getLe, slice]
    have : ([BitVec.ofNat 8 key, 0, 0, 0] ++ leBytes 4 epoch.toNat : Bytes).drop 4 = leBytes 4 epoch.toNat := rfl
    rw [this, List.take_of_length_le (by simp [leBytes_length]), fromLe_leBytes, Nat.mod_eq_of_lt (by omega)]
  rw [hlen] at e1 e2 e3
  simp only [authParse, hlen, e1, e2, e3, b0, hk, z, g, hm]
  simp

end Sys2Proof.Machine
end

