-- ==== Sys2Proof/Safety.lean ====
section
/-!
DEFINITION. Safety.lean: what counts as a safe run, in the terms that claims use.
-/

namespace Sys2Proof

open Sys2Proof.Machine

/-- A step that goes on: a next state, no fault and no refusal. -/
def Machine.runsOn (s : State) : Prop := ∃ t, Machine.step s = .next t

end Sys2Proof
end

