-- ==== Sys2Proof/WellFormed.lean ====
section
/-!
DEFINITION. WellFormed.lean: what makes a command well formed: lists and byte strings no longer than the table, frame
or transaction that they stand for, and addresses inside the window that they address.
-/

namespace Sys2Proof

/-- A UDP payload fits in one IPv4 datagram. -/
def datagramOk (d : Bytes) : Bool := decide (d.length ≤ 65507)

/-- Whether every operand of a command lies within what its row can carry. -/
def Instr.wellFormed : Instr → Bool
  | .registerWrite off d => decide (0 < d.length) && decide (off + d.length ≤ 0x20000)
  | .spiTransaction _ extra _ => decide (extra < 8)
  | .dmaDescriptorDone _ d => decide (d.length ≤ 0x100000)
  | .speedMonitorSample r => decide (r.length = 32)
  | .railMonitorSample mv => decide (mv.length = 6)
  | .canFrameReceived _ id ext fd d =>
      decide (id < if ext then 2 ^ 29 else 2 ^ 11) && decide (d.length ≤ if fd then 64 else 8)
  | .datagramRejected d _ => datagramOk d
  | .mailboxCmdReceived _ _ d => datagramOk d
  | .announceReceived _ d => datagramOk d
  | .withdrawReceived _ d => datagramOk d
  | .setDataReceived _ d => datagramOk d
  | .setAckReceived _ d => datagramOk d
  | .subscribeReqReceived _ d => datagramOk d
  | .subscribeRespReceived _ d => datagramOk d
  | .leaseReqReceived _ d => datagramOk d
  | .leaseGrantReceived _ d => datagramOk d
  | .leaseDenyReceived _ d => datagramOk d
  | .leaseReleaseReceived _ d => datagramOk d
  | .leaseRenewReceived _ d => datagramOk d
  | .leaseAckReceived _ d => datagramOk d
  | .firnDeltaReceived _ d => datagramOk d
  | .firnSegmentReceived _ d => datagramOk d
  | .modbusReply _ d _ => decide (d.length ≤ 256)
  | .panelRowWalk bad => decide (bad.length ≤ 64)
  | .loopSample _ faults _ => decide (faults.length ≤ 32)
  | .cycleStart _ b => decide (b.length ≤ 8)
  | .autostartTasks b => decide (b.length ≤ 8)
  | .mapRevalidation b _ => decide (b.length ≤ 8)
  | .shapeRecordExchange _ peer => decide (peer.length ≤ 8)
  | .imageForwardFrame off d _ => decide (off + d.length ≤ 0x300000)
  | _ => true

end Sys2Proof
end

