-- ==== Sys2Proof/Tests/Slice0.lean ====
section
/-!
SUPPORT. Tests/Slice0.lean: the tests. A witness_ theorem shows, on a small state, that the hypotheses of a statement can
be met together, and what the command then does there; the statement and its clause stand in its name. A test_ theorem
takes its expected result from the manual. Every theorem is about one command.
-/

open Sys2Proof Sys2Proof.Machine Sys2Proof.Claims

namespace Sys2Proof.Tests

set_option Elab.async false

/-! ## States and observations -/

/-- The reset state with a device of its own. -/
def on (f : Dev → Dev) : State := { State.reset with dev := f State.reset.dev }

/-- A state with its device changed. -/
def withDev (s : State) (f : Dev → Dev) : State := { s with dev := f s.dev }

/-- A device of the full variant (240 cells, 8 loop units, 4 CAN controllers, field channels, panel, Gligil ports) whose
firmware serves. -/
def base : State :=
  on fun d => { d with
    sys := { d.sys with ident := 0x0003C8F007B06451, fwReady := true }
    pwr := { d.pwr with phase := .running } }

/-- A state with a mailbox command, accepted and not begun, on channel 0. -/
def job (code : Nat) (p : Bytes) (s : State) : State :=
  withDev s (setChan 0 fun c => { c with
    state := .busy
    job := some { header := leBytes 2 code ++ zeros 2 ++ leBytes 2 p.length ++ zeros 10, payload := p } })

/-- The command answers a next state that passes a check. -/
def after (c : Instr) (s : State) (P : State → Bool) : Bool :=
  match Machine.exec c s with
  | .next t => P t
  | _ => false

theorem after_goes (c : Instr) (s : State) (P : State → Bool) (h : after c s P = true) :
    Goes c s fun t => P t = true := by
  unfold after at h
  split at h
  · exact ⟨_, ‹_›, h⟩
  · cases h

/-- The command on channel 0 has its response. -/
def answers (t : State) (st : Half) (p : Bytes) : Bool :=
  (t.dev.job (.ch 0)).any fun j => j.resp == some ⟨st, p⟩

/-- The command on channel 0 has a response of a status. -/
def gives (t : State) (st : Half) : Bool :=
  (t.dev.job (.ch 0)).any fun j => j.resp.any fun r => r.status == st

/-- The command on channel 0 has begun and waits for its response. -/
def working (t : State) : Bool := (t.dev.job (.ch 0)).any fun j => j.started && j.resp.isNone

/-- Claims.Waits on channel 0, as a check. -/
def waits (s : State) (code : Nat) (p : Bytes) : Bool :=
  match s.dev.job (.ch 0) with
  | some j => hdrCode j.header == code && hdrFlags j.header == 0 && !j.started && j.resp == none && j.payload == p &&
      !s.dev.sys.recovery
  | none => false

theorem waits_sound (s : State) (code : Nat) (p : Bytes) (h : waits s code p = true) : Waits s (.ch 0) code p := by
  unfold waits at h
  split at h
  · rename_i j hj
    simp only [Bool.and_eq_true, beq_iff_eq, Bool.not_eq_true'] at h
    exact ⟨j, hj, h.1.1.1.1.1, h.1.1.1.1.2, h.1.1.1.2, h.1.1.2, h.1.2, h.2⟩
  · cases h

/-- A mailbox command of a code and a payload waits on channel 0 of a state, which is what its statement asks of it; and
what its row then does passes a check. -/
def runs (c : Origin → Instr) (code : Nat) (p : Bytes) (s : State) (P : State → State → Bool) : Bool :=
  let w := job code p s
  waits w code p && after (c (.ch 0)) w (P w)

/-- An event is pending with a detail word. -/
def raised (t : State) (e : Ev) (detail : Nat) : Bool :=
  t.dev.evt.pending.getLsbD e.num && (vget t.dev.evt.recs e.num).detail == BitVec.ofNat 32 detail

/-- An event is pending. -/
def happened (t : State) (e : Ev) : Bool := t.dev.evt.pending.getLsbD e.num

/-! ## Ill-formed commands: one for each check of WellFormed -/

theorem test_illFormed_registerWrite_empty : (Instr.registerWrite 0 []).wellFormed = false := by decide
theorem test_illFormed_registerWrite_end : (Instr.registerWrite 0x1FFFE (zeros 4)).wellFormed = false := by decide
theorem test_illFormed_spiTransaction : (Instr.spiTransaction [5] 8 0).wellFormed = false := by decide
theorem test_illFormed_dmaDescriptorDone : (Instr.dmaDescriptorDone 0 (List.replicate 0x100001 0)).wellFormed = false := by
  simp only [Instr.wellFormed, List.length_replicate]; decide
theorem test_illFormed_speedMonitorSample : (Instr.speedMonitorSample []).wellFormed = false := by decide
theorem test_illFormed_railMonitorSample : (Instr.railMonitorSample (List.replicate 7 0)).wellFormed = false := by decide
theorem test_illFormed_canId_base : (Instr.canFrameReceived 0 0x800 false false []).wellFormed = false := by decide
theorem test_illFormed_canId_extended : (Instr.canFrameReceived 0 0x20000000 true false []).wellFormed = false := by decide
theorem test_illFormed_canLength : (Instr.canFrameReceived 0 1 false false (zeros 9)).wellFormed = false := by decide
theorem test_illFormed_canFdLength : (Instr.canFrameReceived 0 1 false true (zeros 65)).wellFormed = false := by decide
/-- One check for the sixteen datagram rows. -/
theorem test_illFormed_datagram (ip : Word) : let d := List.replicate 65508 (0 : Byte)
    [Instr.datagramRejected d false, .mailboxCmdReceived ip 0 d, .announceReceived ip d, .withdrawReceived ip d,
     .setDataReceived ip d, .setAckReceived ip d, .subscribeReqReceived ip d, .subscribeRespReceived ip d,
     .leaseReqReceived ip d, .leaseGrantReceived ip d, .leaseDenyReceived ip d, .leaseReleaseReceived ip d,
     .leaseRenewReceived .portP d, .leaseAckReceived .portP d, .firnDeltaReceived .portP d, .firnSegmentReceived .portP d].all
      (fun c => !c.wellFormed) = true := by
  simp only [Instr.wellFormed, datagramOk, List.length_replicate, List.all_cons, List.all_nil]; decide
theorem test_illFormed_modbusReply : (Instr.modbusReply 0 (zeros 257) 0).wellFormed = false := by decide +kernel
theorem test_illFormed_panelRowWalk : (Instr.panelRowWalk (List.replicate 65 0)).wellFormed = false := by decide +kernel
theorem test_illFormed_imageForwardFrame : (Instr.imageForwardFrame 0x2FFFFF (zeros 2) false).wellFormed = false := by decide
theorem test_illFormed_loopSample : (Instr.loopSample 0 (List.replicate 33 (0, true)) 0).wellFormed = false := by decide
theorem test_illFormed_cycleStart : (Instr.cycleStart .net (List.replicate 9 default)).wellFormed = false := by decide
theorem test_illFormed_autostartTasks : (Instr.autostartTasks (List.replicate 9 default)).wellFormed = false := by decide
theorem test_illFormed_mapRevalidation : (Instr.mapRevalidation (List.replicate 9 default) none).wellFormed = false := by
  decide
theorem test_illFormed_shapeRecordExchange : (Instr.shapeRecordExchange true (List.replicate 9 (0, 0))).wellFormed = false :=
  by decide
theorem test_wellFormed_boundary :
    [Instr.registerWrite 0x1FFFF [0], .spiTransaction [] 7 0, .canFrameReceived 3 0x7FF false true (zeros 64),
     .modbusReply 1 (zeros 256) 0, .imageForwardFrame 0x2FFFFE (zeros 2) true].all (·.wellFormed) = true := by
  decide +kernel

/-! ## The machine as a whole (chapters 00 to 02) -/

theorem test_base_serves : Serving base := by unfold Serving; decide +kernel

/-- The check value that chapter 2 gives for CRC-32C (R65). -/
theorem test_crc32c : (crc32c (asciiBytes "123456789".toList)).toNat = 0xE3069283 := by decide +kernel

theorem witness_StepRunsTheFront_front :
    Machine.step { base with pending := [.rtcTick, .baseTick] } =
      Machine.exec .rtcTick { base with pending := [.baseTick] } := rfl
theorem witness_StepRunsTheFront_empty : base.pending = [] := rfl

theorem witness_StepKeepsMemoryForm : State.reset.mem.wf = true := by decide +kernel
theorem witness_StepKeepsReservedEventsClear :
    (List.range 128).all (fun n => !evReserved n || !base.dev.evt.pending.getLsbD n) = true := by decide +kernel

/-- An event whose PENDING bit is 1 already (R85), and one whose bit is 0. -/
theorem witness_RaisingAnEvent_again :
    let d := raise1 14 7 base.dev
    (d.evt.pending.getLsbD 14 && (raise1 14 9 d).out == d.out && (vget (raise1 14 9 d).evt.recs 14).count == 2 &&
      (vget (raise1 14 9 d).evt.recs 14).detail == 9) = true := by decide +kernel

theorem witness_SystemCommands_GET_IDENTITY : runs .getIdentity 0x0100 [] base (fun s t =>
    answers t stOk (leBytes 8 0x0003C8F007B06451 ++ zeros 16 ++ leBytes 4 s.dev.sys.fwVersion.toNat ++
      leBytes 1 s.dev.sys.stackPos.toNat ++ leBytes 1 s.dev.sys.role.code ++ zeros 2)) = true := by decide +kernel
theorem witness_SystemCommands_GET_STATUS :
    let b := withDev base fun d => { d with sys := { d.sys with checks := { d.sys.checks with sram := 3 } } }
    ([leBytes 4 1].all fun p => runs .getStatus 0x0101 p b fun s t =>
      answers t stOk (statusPayload s.dev) && t.dev.sys.checks == {}) &&
    ([[], leBytes 4 0].all fun p => runs .getStatus 0x0101 p b fun s t =>
      answers t stOk (statusPayload s.dev) && t.dev.sys.checks == s.dev.sys.checks) = true := by decide +kernel
theorem witness_SystemCommands_SOFT_RESET :
    base.dev.cycleRun = false ∧ runs .softReset 0x0102 (zeros 4 ++ leBytes 4 0x5AFE0102) base (fun _ t =>
      answers t stOk [] && t.dev.sys.softReset) = true := by decide +kernel
/-- FIRST 127 and COUNT 1: the end of the range. -/
theorem witness_SystemCommands_EVENT_CONFIG : runs .eventConfig 0x0103 [127, 1, 0, 0, 1] base (fun s t =>
    answers t stOk [] && (vget t.dev.evt.recs 127).net && !(vget t.dev.evt.recs 127).log &&
      vget t.dev.evt.recs 126 == vget s.dev.evt.recs 126) = true := by decide +kernel
theorem witness_SystemCommands_EVENT_READ :
    let b := withDev base (raise1 127 5)
    runs .eventRead 0x0104 [127, 1, 1, 0] b (fun s t => answers t stOk (evRecord s.dev 127) &&
      (vget t.dev.evt.recs 127).count == 0 && t.dev.evt.pending.getLsbD 127) = true := by decide +kernel
theorem witness_UnknownCommand :
    listedCodes.contains 0x0105 = false ∧ runs .unknownCommand 0x0105 [] base (fun _ t => answers t stBadCommand []) = true :=
  by decide +kernel

/-- A PCIe link that is up in D0 with Bus Master Enable. -/
def linked : State := withDev base fun d => { d with host := { d.host with linkUp := true, busMaster := true } }

/-- A descriptor of four bytes to the end of the panel frame object, with ID 7; and one from a histogram. -/
def descWord : Bytes := leBytes 8 0x1000 ++ leBytes 4 4 ++ leBytes 4 8188 ++ leBytes 2 4 ++ leBytes 2 0 ++ leBytes 4 1 ++
  leBytes 4 7 ++ zeros 4
def descOne : Desc := { hostAddr := 0x1000, length := 4, object := 3, objIndex := 0, id := 7 }

/-- DMA channel 3 with its descriptor running. -/
def dmaRun : State := withDev linked fun d => modDma 3 (fun c => { c with state := .running, queue := [descOne], image := [1, 2, 3, 4] }) d

theorem witness_DmaChannels_submit : Claims.Pass (submitTests linked.dev ([3, 1, 0, 0] ++ descWord)) ∧
    runs .dmaSubmit 0x0D00 ([3, 1, 0, 0] ++ descWord) linked (fun _ t => gives t stOk &&
      (vget t.dev.host.dma 3).queue == [parseDesc descWord] && (vget t.dev.host.dma 3).state == .running) = true := by
  unfold Claims.Pass; decide +kernel
theorem witness_DmaChannels_status :
    let b := withDev linked (modDma 3 fun c => { c with state := .halted, errKind := 2 })
    runs .dmaStatus 0x0D01 [3, 1, 0, 0] b (fun s t =>
      answers t stOk ((dmaRegs (vget s.dev.host.dma 3)).flatMap (leBytes 4)) &&
      (vget t.dev.host.dma 3).state == .idle && (vget t.dev.host.dma 3).errKind == 0) = true := by decide +kernel
theorem witness_DmaChannels_abort :
    (waits (job 0x0D02 [3, 0, 0, 0] dmaRun) 0x0D02 [3, 0, 0, 0] && (vget dmaRun.dev.host.dma 3).state == .running) = true :=
  by decide +kernel
theorem witness_DmaChannels_done : dmaRun.dev.pcieMayWrite = true ∧
    after (.dmaDescriptorDone 3 []) dmaRun (fun t => t.dev.out == [.dmaWrite 0x1000 [1, 2, 3, 4]] &&
      (vget t.dev.host.dma 3).state == .idle && (vget t.dev.host.dma 3).lastId == 7 &&
      (vget t.dev.host.dma 3).doneCount == 1) = true := by decide +kernel
theorem witness_DmaChannels_halt :
    after (.dmaHalt 3 1 0x1000) dmaRun (fun t => (vget t.dev.host.dma 3).state == .halted &&
      (vget t.dev.host.dma 3).queue == [] && (vget t.dev.host.dma 3).errId == 7 &&
      raised t .dmaError (3 + 256)) = true := by decide +kernel

/-- A mailbox command header with its CRC: GET_STATUS with SEQUENCE 1 and TAG 9. -/
def header (seq : Nat) : Bytes :=
  let h := leBytes 2 0x0101 ++ [0, 9] ++ zeros 4 ++ leBytes 4 seq
  h ++ leBytes 4 (mbxCrc h []).toNat

theorem witness_MailboxHandshake_ring :
    let b := withDev { base with mem := { base.mem with bufs := Memory.writeN 0 [] (cmdBuf 7) (header 1) } }
      (setChan 7 fun c => { c with state := .idle })
    let h := Memory.readN 0 b.mem.bufs (cmdBuf 7) 16
    (hdrLength h = 0 ∧ hdrReserved h = 0 ∧ hdrCrc h = (mbxCrc h []).toNat ∧
      (vget b.dev.mbx.chans 7).lastSeq ≠ some (hdrSeq h)) ∧
    after (.mbxRing 7) b (fun t => (vget t.dev.mbx.chans 7).state == .busy && (vget t.dev.mbx.chans 7).tag == 9 &&
      (vget t.dev.mbx.chans 7).lastSeq == some 1 && after (.getStatus (.ch 7)) t fun u =>
        (u.dev.job (.ch 7)).any fun j => j.resp == some ⟨stOk, statusPayload t.dev⟩) = true := by decide +kernel
theorem witness_MailboxHandshake_busy : after (.mbxRing 7) (withDev base (setChan 7 fun c => { c with state := .busy }))
    (fun t => (vget t.dev.mbx.chans 7).dbIgnored && raised t .mbxOverflow 7) = true := by decide +kernel
theorem witness_MailboxHandshake_release :
    after (.mbxRelease 7 false) (withDev base (setChan 7 fun c => { c with state := .done, result := 3, respLen := 16 }))
      (fun t => (vget t.dev.mbx.chans 7).state == .idle && (vget t.dev.mbx.chans 7).result == 0 &&
        (vget t.dev.mbx.chans 7).respLen == 0) = true := by decide +kernel
theorem witness_MailboxHandshake_complete :
    let b := withDev base (setChan 7 fun c => { c with
      state := .busy, job := some { header := header 1, resp := some ⟨stOk, [5]⟩, started := true } })
    Memory.wf 0 b.mem.bufs = true ∧ after (.mbxCommandComplete (.ch 7) .normal) b (fun t =>
      (vget t.dev.mbx.chans 7).state == .done && (vget t.dev.mbx.chans 7).respLen == 17 &&
      Memory.readN 0 t.mem.bufs (respBuf 7) 17 == respBytes (header 1) stOk [5]) = true := by decide +kernel

/-- A device at 10.0.0.1 with a partner identity and an HMAC key at index 7. -/
def netted : State := withDev base fun d => { d with
  net := { d.net with cfg := { d.net.cfg with ip := 0x0A000001, partnerId := 0x11223344 } }
  otp := { d.otp with keys := some { hmacPresent := 0x81, hmac := List.replicate 8 (zeros 32) } }
  pwr := { d.pwr with epochValid := true, bootEpoch := 5 } }

/-- A station datagram of a type and payload, from a sender with this device's PARTNER_ID. -/
def station (type role seq : Nat) (p : Bytes) : Bytes := stationFrame type role 0x11223344 0x99 (BitVec.ofNat 32 seq) p

/-- A payload with its trailer under key 7 and boot epoch 5, and the MAC of both. -/
def signed (p : Bytes) : Bytes :=
  let tr : Bytes := [7, 0, 0, 0] ++ leBytes 4 5
  p ++ tr ++ hmac (zeros 32) (netted.dev.uidBytes ++ p ++ tr)

/-- GET_STATUS with SEQUENCE 1 over the network, under key 7. -/
def signedBlock : Bytes := signed (header 1)
def cmdFrame : Bytes := station 0x20 0 1 signedBlock

/-- The header that a datagram of `station` parses as. -/
def stHeader (type role seq : Nat) (p : Bytes) : StHeader := ⟨type, role, 0x11223344, 0x99, BitVec.ofNat 32 seq, p⟩
/-- Claims.Heard holds of the datagrams that `station` builds, at a device with an IPv4 address. -/
theorem heard (s : State) (type role seq : Nat) (p : Bytes) (hip : s.dev.net.cfg.ip ≠ 0) (ht : stTypeListed type = true)
    (hb : type < 256) (hr : role < 4) (hp : p.length ≤ 4000) :
    Heard s (station type role seq p) (stHeader type role seq p) type :=
  ⟨hip, stationParse_stationFrame type role _ _ _ p ht hb hr hp, rfl⟩
theorem witness_MailboxHandshake_mac : netted.dev.hmacKey 7 = some (zeros 32) ∧ signedBlock.length = 16 + 8 + 32 := by
  decide +kernel
theorem witness_MailboxHandshake_network : Heard netted cmdFrame (stHeader 0x20 0 1 signedBlock) 0x20 ∧
    netted.dev.ownPartner (stHeader 0x20 0 1 signedBlock) = true ∧ netted.dev.pwr.epochValid = true ∧
    seqGreater (hdrSeq (header 1)) (vget netted.dev.mbx.netSeq 7) = true :=
  ⟨heard netted 0x20 0 1 signedBlock (by decide +kernel) rfl (by decide) (by decide)
    (by rw [witness_MailboxHandshake_mac.2]; decide), by decide +kernel, by decide +kernel, by decide +kernel⟩
theorem witness_ReleaseBeforeRing :
    let b := withDev { base with mem := { base.mem with bufs := Memory.writeN 0 [] (cmdBuf 0) (header 1) } }
      (setChan 0 fun c => { c with state := .done })
    after (.mbxRelease 0 true) b (fun t => (vget t.dev.mbx.chans 0).state == .busy) = true := by decide +kernel

theorem witness_RegisterAccesses_scratch :
    after (.registerWrite 0x14 (leBytes 4 0xDEADBEEF)) base (fun t => t.dev.sys.scratch == 0xDEADBEEF) = true := by
  decide +kernel
theorem witness_RegisterAccesses_buffer : Memory.wf 0 base.mem.bufs = true ∧
    after (.registerWrite (cmdBuf 7 + 4095) [0xA5]) base (fun t => t.mem.bufs == [(cmdBuf 7 + 4095, 0xA5)]) = true := by
  decide +kernel
/-- Event 127 is pending. -/
def pending127 : State := withDev base (raise1 127 5)
theorem witness_RegisterAccesses_clear : (after (.evtPendingClear 3 0x80000000) pending127 fun t =>
    t.dev.evt.pending == 0 && !t.dev.evt.intAsserted) = true := by decide +kernel
theorem witness_RegisterAccesses_mask : (after (.evtMaskWrite 3 0) pending127 fun t =>
    t.dev.evt.intAsserted && wordOf 3 t.dev.evt.mask == 0) = true := by decide +kernel
theorem witness_RegisterAccesses_ctrl : (after (.evtCtrlWrite 0) pending127 fun t => !t.dev.evt.intEn) = true := by
  decide +kernel
theorem witness_RegisterAccesses_msix : (after (.msixMaskWrite (some 127) false) base fun t =>
    !(vget t.dev.host.msix 127).masked) = true := by decide +kernel
theorem witness_RegisterAccesses_msixAll : (after (.msixMaskWrite none true) base fun t => t.dev.host.msixMask) = true := by
  decide +kernel
/-- A READ of SYS_ID_LO, a WRITE of SYS_SCRATCH, an unknown instruction, and PORT_STATUS. -/
theorem witness_RegisterAccesses_spi :
    (after (.spiTransaction [3, 0, 0, 0, 0] 0 4) base fun t => t.dev.out == [.spiMiso [0x51, 0x64, 0xB0, 0x07]]) &&
    (after (.spiTransaction [3, 0, 0x0F, 0xFC, 0] 0 4) base fun t => t.dev.out == [.spiMiso [0, 0, 0, 0]] && !t.dev.host.spiErr) &&
    (after (.spiTransaction [2, 0, 0, 0x14, 0xEF, 0xBE, 0xAD, 0xDE] 0 0) base fun t => t.dev.sys.scratch == 0xDEADBEEF) &&
    (after (.spiTransaction [4] 0 0) base fun t => t.dev.host.spiErr && raised t .spiProtocolErr 1) &&
    (after .spiPortStatus base fun t => t.dev.out == [.spiMiso [2]]) = true := by decide +kernel
theorem witness_RegisterAccesses_pcie :
    (base.dev.host.linkUp = false ∧ linked.dev.host.linkUp = true) ∧
    ((after (.pcieLinkTransition true 3 4) base fun t => t.dev.host.linkUp && raised t .pcieLink (1 + 6 + 64)) &&
     (after (.pcieLinkTransition false 0 0) linked fun t => !t.dev.host.linkUp && happened t .pcieLink) &&
     (after .pciePerst linked fun t => t.dev.host == {}) &&
     (after (.pciePowerStateChange true) linked fun t => t.dev.host.d3hot) &&
     (after (.pcieBusMasterEnableChange false) linked fun t => !t.dev.host.busMaster)) = true := by decide +kernel
theorem witness_HostLossIsContained : ∃ t, Machine.exec .pciePerst linked = .next t := ⟨_, rfl⟩

/-! ## The cell machine (chapter 03) -/

/-- The instruction words of chapter 03: A.N I 12.5 and CMPI GT #-500. -/
theorem test_instructionWord_A : decodeWord 0x08100185 = ⟨opA, spI, 1, 12 * 32 + 5⟩ := by decide +kernel
theorem test_instructionWord_CMPI : decodeWord 0x6FCFFE0C = ⟨opCMPI, spK, 4, 2 ^ 20 - 500⟩ ∧
    immediate (decodeWord 0x6FCFFE0C) = BitVec.ofInt 32 (-500) := by decide +kernel

/-- One block of one instruction in task 0; two I elements, and a T, a C and two E instances. -/
def cellImage (w : Word) : Image :=
  { imageId := 1, tasks := 1, nI := 2, nQ := 1, nM := 1, nT := 1, nC := 1, nE := 2, blocks := [{ code := [w] }]
    iDecl := [{ kind := 2, id := 1 }, { kind := 2, source := 9, id := 2 }]
    stateDecl := [{ space := spT }, { space := spC }, { space := spE, mode := 0, instanceNo := 0 },
                  { space := spE, mode := 2, instanceNo := 1 }] }

/-- Cell 255 executes the block of cellImage at τ = 10 s: I element 0 has the value 5, I element 1 has not arrived and its
last confirmed value is 7, T record 0 ran for 2,000 µs up to 9 s, C record 0 stands at 2^31 − 1, and E record 0 is 0. -/
def cellAt (op space mod index : Nat) (f : Cell → Cell) : State :=
  withDev base fun d => { d with prog := { d.prog with
    image := some (cellImage (encodeWord ⟨op, space, mod, index⟩))
    tasks := vmod d.prog.tasks 0 fun k => { k with st := .execute, t0 := 200000, inputs := [(0, mkTV 1 5 qGOOD 0)] }
    partnerIn := [(1, { lastConfirmed := some (mkTV 2 7 qHELD 0) })]
    timers := [(0, { et := 2000, tauLast := 9000000, inPrev := true, run := true, fresh := false })]
    counters := [(0, { cv := 0x7FFFFFFF, fresh := false })]
    edges := [(0, { fresh := false }), (1, {})]
    cells := vmod d.prog.cells 255 fun x => f { x with running := true } } }

/-- Claims.AtInstr of cell 255, as a check. -/
def atInstr (s : State) (op : Nat) : Bool :=
  (s.dev.cell 255).running && (s.dev.cellWord 255).op == op && !(s.dev.cellWord 255).modBad &&
    !branchBad (s.dev.cell 255) op

theorem atInstr_sound (s : State) (op : Nat) (h : atInstr s op = true) : AtInstr s 255 op := by
  simp only [atInstr, Bool.and_eq_true, beq_iff_eq, Bool.not_eq_true'] at h
  exact ⟨h.1.1.1, h.1.1.2, h.1.2, h.2⟩

/-- The cell stands at an instruction, executes it, and then passes a check. -/
def cell (c : Fin 256 → HwFault → Instr) (op space mod index : Nat) (f : Cell → Cell) (P : Cell → Bool) : Bool :=
  let s := cellAt op space mod index f
  atInstr s op && after (c 255 .none) s fun t => P (t.dev.cell 255)

def fresh (x : Cell) : Cell := x

theorem witness_CellOperands_immediate : (readWord 255 ⟨opLDW, spK, 1, 0xFFFFF⟩ base.dev).1 = ⟨0xFFFFFFFF, qGOOD, none⟩ := by
  decide +kernel
theorem witness_CellOperands_timer : let d := (cellAt opLD spT 0 0 fresh).dev
    (readBit 255 ⟨opLD, spT, 0, 0⟩ d).1 = false ∧ (readWord 255 ⟨opLDW, spT, 1, 0⟩ d).1.value = 2 := by decide +kernel
theorem witness_CellOperands_counter : let d := (cellAt opLDW spC 0 0 fresh).dev
    mget d.prog.counters 0 = some { cv := 0x7FFFFFFF, fresh := false } ∧
    (readWord 255 ⟨opLDW, spC, 0, 0⟩ d).1.value = 0x7FFFFFFF := by decide +kernel
theorem witness_CellOperands_frozen : let d := (cellAt opLDW spI 0 0 fresh).dev
    (mget (d.cellTask 255).inputs 0 = some (mkTV 1 5 qGOOD 0) ∧ tvOk 1 (mkTV 1 5 qGOOD 0) = true) ∧
    (readElem 255 spI 0 d).1 = ⟨5, qGOOD, none⟩ := by decide +kernel
theorem witness_CellOperands_provisional : let d := (cellAt opLDW spI 0 1 fresh).dev
    mget (d.cellTask 255).inputs 1 = none ∧ (readElem 255 spI 1 d).1 = ⟨7, qHELD, some 1⟩ ∧
    ((readElem 255 spI 1 d).2.cell 255).exec.spec.quals = [(1, qHELD)] := by decide +kernel
theorem witness_CellOperands_written :
    let d := (cellAt opLDW spM 0 0 fun x => { x with exec := { x.exec with writes := [⟨ekey spM 0, 9, qBAD⟩] } }).dev
    (readElem 255 spM 0 d).1 = ⟨9, qBAD, none⟩ := by decide +kernel

theorem witness_BitInstructions_LD : cell .cellLd opLD spI 1 0 fresh (fun y => !y.lb && y.lbq == qGOOD && y.pos == 1) = true :=
  by decide +kernel
theorem witness_BitInstructions_A : cell .cellA opA spI 0 0 (fun x => { x with lb := true, lbq := qBAD })
    (fun y => y.lb && y.lbq == qBAD) = true := by decide +kernel
theorem witness_BitInstructions_O : cell .cellO opO spI 0 32 fresh
    (fun y => y.lb && y.lbq == qHELD && y.exec.spec.bits == [(1, 1, 7)]) = true := by decide +kernel
theorem witness_BitInstructions_X : cell .cellX opX spI 0 0 (fun x => { x with lb := true }) (fun y => !y.lb) = true := by
  decide +kernel
theorem witness_BitInstructions_branches :
    (cell .cellBa opBA 0 0 0 (fun x => { x with lb := true }) (fun y => y.stack == [⟨true, 0, .and⟩])) &&
    (cell .cellBo opBO 0 0 0 (fun x => { x with stack := List.replicate 15 ⟨true, 0, .or⟩ }) (fun y => y.stack.length == 16)) &&
    (cell .cellBx opBX 0 0 0 fresh (fun y => y.stack == [⟨false, 0, .xor⟩])) &&
    (cell .cellBc opBC 0 0 0 (fun x => { x with lb := true, stack := [⟨true, qBAD, .xor⟩] })
      (fun y => !y.lb && y.lbq == qBAD && y.stack == [])) = true := by decide +kernel
theorem witness_BitInstructions_NOT : cell .cellNot opNOT 0 0 0 fresh (fun y => y.lb) = true := by decide +kernel
theorem witness_BitInstructions_writes :
    (cell .cellAsn opASN spM 1 31 fresh (fun y => y.exec.writes == [⟨ekey spM 0, 0x80000000, 0⟩])) &&
    (cell .cellSet opSET spM 0 0 (fun x => { x with lb := true }) (fun y => y.exec.writes == [⟨ekey spM 0, 1, 0⟩])) &&
    (cell .cellRst opRST spM 0 0 (fun x => { x with lb := true, exec := { x.exec with writes := [⟨ekey spM 0, 3, 0⟩] } })
      (fun y => y.exec.writes.getLast? == some ⟨ekey spM 0, 2, 0⟩)) &&
    (cell .cellSet opSET spM 0 0 fresh (fun y => y.exec.writes == [])) &&
    (cell .cellRst opRST spM 0 0 fresh (fun y => y.exec.writes == [])) = true := by decide +kernel

/-- PREV 0 against LB 1, and a FRESH record in mode ONE. -/
theorem witness_EdgeInstructions :
    (cell .cellPedge opPEDGE spE 0 0 (fun x => { x with lb := true })
      (fun y => y.lb && y.exec.edges == [(0, ⟨true, false⟩)])) &&
    (cell .cellNedge opNEDGE spE 0 1 fresh (fun y => y.lb && y.exec.edges == [(1, ⟨false, false⟩)])) = true := by
  decide +kernel

/-- TON for 1 s more than 2,000 µs, against PT 1 s and PT 1.002 s; TOF and TP on the same record. -/
theorem witness_TimerInstructions_TON :
    (cell .cellTon opTON spT 0 0 (fun x => { x with lb := true, w := 1002000 })
      (fun y => y.lb && (mgetD y.exec.timers 0 {}).et == 1002000)) &&
    (cell .cellTon opTON spT 1 0 (fun x => { x with lb := true, w := 1003 })
      (fun y => !y.lb && (mgetD y.exec.timers 0 {}).et == 1002000)) &&
    (cell .cellTon opTON spT 2 0 fresh (fun y => !y.lb && (mgetD y.exec.timers 0 {}).et == 0)) = true := by decide +kernel
theorem witness_TimerInstructions_TOF :
    (cell .cellTof opTOF spT 1 0 (fun x => { x with w := 5 }) (fun y => y.lb && (mgetD y.exec.timers 0 {}).run)) &&
    (cell .cellTof opTOF spT 1 0 (fun x => { x with lb := true, w := 5 })
      (fun y => y.lb && !(mgetD y.exec.timers 0 {}).run)) = true := by decide +kernel
theorem witness_TimerInstructions_TP :
    (cell .cellTp opTP spT 0 0 (fun x => { x with w := 1002001 })
      (fun y => y.lb && (mgetD y.exec.timers 0 {}).et == 1002000)) &&
    (cell .cellTp opTP spT 0 0 (fun x => { x with w := 1002000 }) (fun y => !y.lb)) = true := by decide +kernel

/-- CTU at 2^31 − 1 sets OVF; CTD counts down; CRST and CLD. -/
theorem witness_CounterInstructions :
    (cell .cellCtu opCTU spC 0 0 (fun x => { x with lb := true, w := 0x7FFFFFFF })
      (fun y => y.lb && y.ovf && (mgetD y.exec.counters 0 {}).cv == 0x7FFFFFFF)) &&
    (cell .cellCtd opCTD spC 0 0 (fun x => { x with lb := true })
      (fun y => !y.lb && !y.ovf && (mgetD y.exec.counters 0 {}).cv == 0x7FFFFFFE)) &&
    (cell .cellCrst opCRST spC 0 0 (fun x => { x with lb := true }) (fun y => (mgetD y.exec.counters 0 {}).cv == 0)) &&
    (cell .cellCld opCLD spC 0 0 (fun x => { x with lb := true, w := 0x80000000 })
      (fun y => (mgetD y.exec.counters 0 {}).cv == 0x80000000)) = true := by decide +kernel

theorem witness_WordInstructions_moves :
    (cell .cellLdw opLDW spI 0 1 fresh (fun y => y.w == 7 && y.wq == qHELD && y.mark == some 1)) &&
    (cell .cellMovw opMOVW spM 0 0 (fun x => { x with w := 9 }) (fun y => y.exec.writes == [⟨ekey spM 0, 9, 0⟩])) &&
    (cell .cellMovw opMOVW spM 1 0 (fun x => { x with w := 9 }) (fun y => y.exec.writes == [])) = true := by decide +kernel
theorem witness_WordInstructions_compare :
    (cell .cellCmp opCMP spI 2 0 (fun x => { x with w := 0x80000000 }) (fun y => y.lb)) &&
    (cell .cellCmpi opCMPI 0 5 0x80000 (fun x => { x with w := 0xFFF80000 }) (fun y => y.lb)) = true := by decide +kernel
/-- The product of chapter 03 in QF form, and sums that clip at both ends. -/
theorem witness_WordInstructions_arithmetic :
    (cell .cellMul opMUL 0 3 81920 (fun x => { x with w := 809042 }) (fun y => y.w == 0x000F6E67 && !y.sat)) &&
    (cell .cellMul opMUL spI 0 0 (fun x => { x with w := 0x40000000 }) (fun y => y.w == 0x7FFFFFFF && y.sat)) &&
    (cell .cellAdd opADD 0 1 1 (fun x => { x with w := 0x7FFFFFFF }) (fun y => y.w == 0x7FFFFFFF && y.sat)) &&
    (cell .cellSub opSUB spI 0 0 (fun x => { x with w := 0x80000004 }) (fun y => y.w == 0x80000000 && y.sat)) = true := by
  decide +kernel

theorem witness_QualityFlagsAndJumps :
    (cell .cellQual opQUAL 0 0 0 (fun x => { x with wq := qBAD }) (fun y => !y.lb)) &&
    (cell .cellQual opQUAL 0 1 0 (fun x => { x with lbq := qFORCED }) (fun y => y.lb && y.lbq == 0)) &&
    (cell .cellQual opQUAL 0 2 0 (fun x => { x with wq := qBAD }) (fun y => y.w == 0x80 && y.wq == 0)) &&
    (cell .cellQual opQUAL 0 3 0x90 fresh (fun y => y.wq == 0x90)) &&
    (cell .cellFlg opFLG 0 2 0 (fun x => { x with sat := true }) (fun y => y.lb && !y.sat)) &&
    (cell .cellFlg opFLG 0 1 0 (fun x => { x with ovf := true }) (fun y => y.lb && y.ovf)) &&
    (cell .cellJmp opJMP 0 1 2047 fresh (fun y => y.pos == 2047)) &&
    (cell .cellJmp opJMP 0 0 2047 fresh (fun y => y.pos == 1)) &&
    (cell .cellNop opNOP 0 0 0 fresh (fun y => y.pos == 1)) = true := by decide +kernel

theorem witness_BlockExecution_start :
    let b := withDev (cellAt opEND 0 0 0 fun x => { x with running := false, lb := true, w := 9 }) fun d =>
      { d with prog := { d.prog with map := some { blocks := [⟨0, 0, 255, true, false, 1⟩] } } }
    b.dev.nextBlock 255 = some (0, 0) ∧ after (.blockStart 255) b (fun t =>
      (t.dev.cell 255).running && !(t.dev.cell 255).lb && (t.dev.cell 255).w == 0) = true := by decide +kernel
theorem witness_BlockExecution_END :
    let s := cellAt opEND 0 0 0 fun x => { x with exec := { x.exec with writes := [⟨ekey spM 0, 9, 0⟩] } }
    atInstr s opEND = true ∧ after (.cellEnd 255 .none) s (fun t => !(t.dev.cell 255).running &&
      mget (t.dev.task 0).runs 0 == some { exec := (s.dev.cell 255).exec } &&
      t.dev.prog.vals == s.dev.prog.vals) = true := by decide +kernel
/-- A branch operation that the stack has no room for, and an opcode that Table 3.4 does not list. -/
theorem witness_BlockExecution_illegal :
    let s := cellAt opNOP 0 0 0 fun x => { x with stack := List.replicate 16 ⟨true, 0, .or⟩ }
    (branchBad (s.dev.cell 255) opBA = true ∧ opListed 0x3F = false ∧ s.dev.inMigDomain 255 = false) ∧
    (after (.illegalInstruction 255 (encodeWord ⟨opBA, 0, 0, 0⟩) none) s fun t =>
      !(t.dev.cell 255).running && raised t .dualrailError (255 + 512 * 3 + 32768)) &&
    (after (.illegalInstruction 255 0xFC000000 none) s fun t => happened t .dualrailError) = true := by decide +kernel

/-! ## Tasks and cycles (chapter 04) -/

/-- Task 7 of a program of one block, at tick 1,000: period 40 ticks, phase 0, input window 10, output offset 20. Partner
input 0 belongs to it. -/
def taskImage : Image :=
  { imageId := 1, tasks := 0x80, nI := 2, nQ := 1, nM := 1, nV := 1, nK := 1
    iDecl := [{ kind := 2, source := 9, id := 2 }, { kind := 2, source := 2, id := 3 }]
    qmv := [{ space := spV, kind := 2, id := 4 }]
    subSets := [{ task := 7, items := [(spI, 0)] }]
    blocks := [{ task := 7, code := [encodeWord ⟨opLDW, spI, 0, 0⟩, encodeWord ⟨opEND, 0, 0, 0⟩] }] }
def taskAt (f : Task → Task) : State :=
  withDev base fun d => { d with
    tick := 1000
    prog := { d.prog with
      image := some taskImage
      partnerIn := [(0, { policy := { kind := 1, value := 9 } })]
      tasks := vmod d.prog.tasks 7 fun k => f { k with
        counter := 0x1FF
        cfg := { enable := true, period := 40, window := 10, offset := 20, maxLate := 10 } } } }
def taskNow (s : State) : Task := s.dev.task 7

/-- The lowest period that Table 4.1 allows task 7, and its greatest phase. -/
def taskCfgBytes : Bytes := [7, 3, 0, 15] ++ leBytes 4 20 ++ leBytes 4 19 ++ leBytes 4 8 ++ leBytes 4 19 ++ leBytes 4 10 ++ zeros 4
theorem witness_TaskCommands_config : Claims.Pass (taskCfgTests base.dev taskCfgBytes) ∧
    runs .taskConfig 0x0300 taskCfgBytes base (fun _ t => answers t stOk [] && (taskNow t).cfg == taskCfgOf taskCfgBytes &&
      t.dev.pwr.confDirty) = true := by unfold Claims.Pass; decide +kernel
def startBudget : List Budget := List.replicate 8 { ck := 1, rk := 1, maxT := 1, maxTv := 1 }
/-- The task's block on cell 255. -/
def startable : State :=
  withDev (taskAt id) fun d => { d with prog := { d.prog with map := some { blocks := [⟨0, 0, 255, true, false, 2⟩] } } }
theorem witness_TaskCommands_start : Claims.Pass (startTests startBudget startable.dev [0x80, 0, 0, 0]) ∧
    runs (fun o => .cycleStart o startBudget) 0x0301 [0x80, 0, 0, 0] startable (fun _ t => gives t stOk &&
      (taskNow t).st == .starting && (taskNow t).firstT0 == 1040) = true := by unfold Claims.Pass; decide +kernel
theorem witness_TaskCommands_stop : runs .cycleStop 0x0302 [0xFF, 0, 0, 0] base (fun _ t => answers t stOk []) = true := by
  decide +kernel
theorem witness_TaskCommands_stopLater :
    runs .cycleStop 0x0302 [0x80, 1, 0, 0] (taskAt fun k => { k with st := .execute }) (fun _ t =>
      working t && (taskNow t).stopReq == some true && (taskNow t).st == .execute) = true := by decide +kernel
theorem witness_TaskCommands_stats :
    runs .taskStats 0x0303 [7, 1, 0, 0] (taskAt fun k => { k with stats := { commits := 3, stale := 2 } }) (fun s t =>
      answers t stOk (statsBytes (taskNow s)) && (taskNow t).stats == { commits := 3 }) = true := by decide +kernel
def policyBytes : Bytes := [1, 0, 0, 0] ++ leBytes 2 0 ++ [2, 0] ++ zeros 4 ++ leBytes 4 7
theorem witness_TaskCommands_policy : (Claims.Pass (policyTests (taskAt id).dev policyBytes) ∧
    ((policyEntries policyBytes).map (·.1)).Nodup) ∧
    runs .inputPolicy 0x0304 policyBytes (taskAt id) (fun _ t => answers t stOk [] &&
      (t.dev.partner 0).staged == some { kind := 2, value := 7 }) = true := by unfold Claims.Pass; decide +kernel

def starting : Task → Task := fun k => { k with st := .starting, firstT0 := 1000 }
theorem witness_InputsOfACycle_instant :
    ((taskNow (taskAt starting)).instant 1000 0 = true ∧ (taskAt starting).dev.stackWhole = true) ∧
    after (.taskInstant 7 0 0) (taskAt starting) (fun t => (taskNow t).st == .execute && (taskNow t).t0 == 1000 &&
      (mgetD (taskNow t).inputs 1 {}).seq == 0xFF) = true := by decide +kernel
theorem witness_InputsOfACycle_gap :
    let s := withDev (taskAt starting) fun d => { d with prog := { d.prog with swap := { inGap := true } } }
    after (.taskInstant 7 0 0) s (fun t => (taskNow t).st == .starting && vget t.dev.prog.report.skipped 7 == 1) = true := by
  decide +kernel
theorem witness_InputsOfACycle_deadline :
    let s := taskAt fun k => { k with st := .execute, t0 := 990 }
    (s.dev.prog.image.getD {}).ownedInputs 7 = [0] ∧ after (.inputDeadline 7) s (fun t =>
      (mgetD (taskNow t).inputs 0 {}).value == 9 && (mgetD (taskNow t).inputs 0 {}).quality == 0x20 &&
      (t.dev.partner 0).staleRun == 1) = true := by decide +kernel

def done : Map Run := [(0, { exec := { block := 0, writes := [⟨ekey spV 0, 5, qBAD⟩, ⟨ekey spV 0, 6, 0⟩] } })]
/-- Confirmation at the confirm limit itself: 20 ticks less 10 µs after t0. -/
theorem witness_ConfirmationAndOverrun_ready :
    let s := taskAt fun k => { k with st := .execute, t0 := 981, runs := done }
    s.dev.allConfirmed 7 = true ∧ after (.cycleConfirmed 7 9900) s (fun t => (taskNow t).st == .ready &&
      (taskNow t).confirmedAt == some 9900) = true := by decide +kernel
theorem witness_ConfirmationAndOverrun_late :
    let s := taskAt fun k => { k with st := .late, t0 := 971, runs := done }
    after (.cycleConfirmed 7 14999) s (fun t => (taskNow t).st == .wait && (taskNow t).runs == []) = true := by decide +kernel
theorem witness_ConfirmationAndOverrun_overrun :
    let s := taskAt fun k => { k with st := .execute, t0 := 981, cfg := { k.cfg with ovrN := 1 } }
    after (.confirmLimit 7) s (fun t => (taskNow t).st == .late && (taskNow t).overruns == 1 &&
      raised t (.taskOverrun 7) (0x1FF + 2 ^ 24)) = true := by decide +kernel
theorem witness_ConfirmationAndOverrun_fault :
    let s := taskAt fun k => { k with st := .execute, t0 := 981 }
    after (.confirmLimit 7) s (fun t => (taskNow t).st == .wait && raised t (.taskFault 7) (1 + 256 * 0x1FF)) = true := by
  decide +kernel
theorem witness_ConfirmationAndOverrun_lateness :
    let s := taskAt fun k => { k with st := .late, t0 := 970 }
    after (.latenessLimit 7) s (fun t => (taskNow t).st == .wait && raised t (.taskFault 7) (2 + 256 * 0x1FF)) = true := by
  decide +kernel

/-- Two writes of one element: the last VALUE, and the worse of the qualities (R107). -/
theorem witness_CommitAndPublish_commit :
    let s := taskAt fun k => { k with st := .ready, t0 := 980, runs := done }
    after (.commitPoint 7) s (fun t => (taskNow t).st == .publish && (taskNow t).counter == 0x200 &&
      (mgetD t.dev.prog.vals (ekey spV 0) {}).value == 6 && (mgetD t.dev.prog.vals (ekey spV 0) {}).quality == qBAD &&
      (mgetD t.dev.prog.vals (ekey spV 0) {}).seq == 0xFF) = true := by decide +kernel
/-- An element of the task that the cycle did not write keeps VALUE and takes the SEQ of the commit (Table 1.6, R147). -/
theorem witness_CommitAndPublish_unwritten :
    let im : Image := { blocks := [{ task := 7, code := [encodeWord { op := opMOVW, space := spV, mod := 0, index := 4 }] }] }
    let s := withDev (taskAt fun k => { k with st := .ready, t0 := 980 }) (modProg fun p => { p with
      image := some im, vals := [(ekey spV 4, mkTV (im.idOf spV 4) 9 qGOOD 3)] })
    after (.commitPoint 7) s (fun t => (mgetD t.dev.prog.vals (ekey spV 4) {}).value == 9 &&
      (mgetD t.dev.prog.vals (ekey spV 4) {}).seq == 0xFF) = true := by decide +kernel
theorem witness_CommitAndPublish_publish :
    (after (.publishSets 7) (taskAt fun k => { k with st := .publish }) fun t => (taskNow t).st == .wait) &&
    (after (.publishSets 7) (taskAt fun k => { k with st := .publish, stopReq := some true }) fun t =>
      (taskNow t).st == .stopped && (taskNow t).stoppedSafe) = true := by decide +kernel

/-! ## Programs, placement and recovery (chapter 05) -/

def writeBytes : Bytes := [7, 1, 0, 0] ++ [6, 0x20] ++ leBytes 2 0 ++ leBytes 4 77
theorem witness_ValueCommands_write : Claims.Pass (writeTests (taskAt id).dev writeBytes) ∧
    runs .writeValues 0x0203 writeBytes (taskAt id) (fun _ t => working t &&
      t.dev.prog.writePend == some ⟨7, writeEntries writeBytes, some (.ch 0), false⟩) = true := by
  unfold Claims.Pass; decide +kernel
theorem witness_ValueCommands_apply :
    let s := withDev (taskAt id) fun d => { d with prog := { d.prog with writePend := some ⟨7, writeEntries writeBytes, none, false⟩ } }
    after .writeValuesApply s (fun t => t.dev.prog.writePend == none &&
      (mgetD t.dev.prog.vals (ekey spV 0) {}).value == 77 && (mgetD t.dev.prog.vals (ekey spV 0) {}).quality == 0x20 &&
      (mgetD t.dev.prog.vals (ekey spV 0) {}).seq == 0xFF) = true := by decide +kernel
theorem witness_ValueCommands_read :
    runs .readValues 0x0204 ([1, 0, 0, 0] ++ [6, 0] ++ leBytes 2 0) (taskAt id) (fun s t =>
      answers t stOk (leBytes 8 s.dev.tick ++ tvBytes {})) = true := by decide +kernel
def forceBytes : Bytes := [1, 0, 0, 0] ++ [0, 0] ++ leBytes 2 1 ++ leBytes 4 0xFFFFFFFF ++ leBytes 4 3
theorem witness_ValueCommands_force : Claims.Pass (forceTests (taskAt id).dev forceBytes) ∧
    runs .force 0x0205 forceBytes (taskAt id) (fun _ t => answers t stOk [1, 0, 0, 0] &&
      t.dev.prog.forces == [⟨0, 1, 0xFFFFFFFF, 3⟩]) = true := by unfold Claims.Pass; decide +kernel
theorem witness_ValueCommands_discard : Claims.Pass (stageTests base.dev [2, 0, 0, 0, 0, 0, 0, 0]) ∧
    runs .stageConfig 0x0208 [2, 0, 0, 0, 0, 0, 0, 0] base (fun _ t => answers t stOk (zeros 4)) = true := by
  unfold Claims.Pass; decide +kernel
theorem witness_ValueCommands_stage :
    let s := withDev base fun d => { d with prog := { d.prog with image := some { taskImage with records := [⟨3, 7, 0, 1⟩] } } }
    let p : Bytes := [0, 0] ++ leBytes 2 3 ++ leBytes 2 0 ++ leBytes 2 1 ++ leBytes 4 5
    Claims.Pass (stageTests s.dev p) ∧ runs .stageConfig 0x0208 p s (fun _ t => answers t stOk [1, 0, 0, 0] &&
      t.dev.prog.stagedRecs == [⟨3, [(0, 5)], false⟩]) = true := by unfold Claims.Pass; decide +kernel

/-- The shortest image that Table 5.4 lets a load announce. -/
def beginBytes : Bytes := [0, 0, 0, 0] ++ leBytes 4 0x300000
theorem witness_LoadAndSwap_begin : Claims.Pass (loadTests base.mem base.dev beginBytes) ∧
    runs .programLoad 0x0200 beginBytes base (fun _ t => answers t stOk (leBytes 1 1 ++ zeros 3 ++ leBytes 4 0) &&
      t.dev.prog.load.open_ && (t.dev.slotRec 1).result == .incomplete && (t.dev.slotRec 1).length == 0x300000) = true := by
  unfold Claims.Pass; decide +kernel
theorem witness_LoadAndSwap_end :
    let s := withDev base fun d => { d with prog := { d.prog with load := { open_ := true, state := .receiving, length := 8, written := [0, 1] } } }
    Claims.Pass (loadTests s.mem s.dev [2, 0, 0, 0, 0, 0, 0, 0]) ∧
    runs .programLoad 0x0200 [2, 0, 0, 0, 0, 0, 0, 0] s (fun _ t => t.dev.prog.checking == some 1 &&
      (t.dev.slotRec 1).result == .checking && !t.dev.prog.load.open_) = true := by unfold Claims.Pass; decide +kernel
theorem witness_LoadAndSwap_verify : runs .programVerify 0x0201 [1, 0, 0, 0] base (fun s t =>
    answers t stOk (verifyReport 1 0 s.dev)) = true := by decide +kernel
theorem witness_LoadAndSwap_checks :
    let s := withDev base fun d => { d with prog := { d.prog with checking := some 1 } }
    s.dev.prog.checking = some (1 : Fin 2).val ∧ s.dev.stackWhole = true ∧ s.dev.pwr.startCheck = none := by decide +kernel
theorem witness_LoadAndSwap_swap :
    let s := withDev base fun d => { d with prog := { d.prog with slots := vmod d.prog.slots 1 fun x => { x with result := .accepted } } }
    let p := leBytes 4 0x5A5A0202 ++ zeros 4
    Claims.Pass (swapTests s.dev p) ∧ runs .programSwap 0x0202 p s (fun _ t =>
      t.dev.prog.swap.pending && t.dev.prog.swap.gapStart == 20) = true := by unfold Claims.Pass; decide +kernel
def swapping (f : Task → Task) : State :=
  withDev (taskAt f) fun d => { d with prog := { d.prog with swap := { pending := true, gapStart := 1000 } } }
theorem witness_LoadAndSwap_gapStart :
    ((swapping id).dev.runningTasks == [] && after .swapGapStart (swapping id) fun t => t.dev.prog.swap.inGap) &&
    (after .swapGapStart (swapping fun k => { k with st := .execute }) fun t =>
      t.dev.prog.swap.inGap && (taskNow t).st == .wait && (taskNow t).counter == 0x1FF) = true := by decide +kernel
theorem witness_LoadAndSwap_gapEnd :
    let s := withDev base fun d => { d with prog := { d.prog with swap := { inGap := true }, forces := [{}] } }
    after (.swapGapEnd 2000) s (fun t => !t.dev.prog.swap.inGap && t.dev.prog.activeSlot && t.dev.prog.forces == [] &&
      raised t .swapDone (2000 + 65536)) = true := by decide +kernel

/-- A device of 232 cells with block 0 of task 7 on cell 255. -/
def placed : State :=
  withDev (taskAt fun k => { k with st := .wait }) fun d => { d with
    sys := { d.sys with ident := 0x0003C8E807B06451 }
    prog := { d.prog with map := some { blocks := [⟨0, 0, 255, true, false, 2⟩] } } }
theorem witness_ValueCommands_report :
    waits (job 0x0206 [0, 0, 0, 0] placed) 0x0206 [0, 0, 0, 0] = true ∧ placed.dev.master = true := by decide +kernel
theorem witness_MigrationAndLadder_speed :
    (List.replicate 32 (900 : Half)).length = 32 ∧ (Instr.speedMonitorSample (List.replicate 32 900)).wellFormed = true := by
  decide +kernel
theorem witness_MigrationAndLadder_revalidation :
    after (.mapRevalidation startBudget none) placed (fun t => t.dev.prog.map.any fun m =>
      m.blocks.length == 1 && (vget m.budgets 7).ck == 1) = true := by decide +kernel
def migrateBytes : Bytes := [0, 0] ++ leBytes 2 255 ++ zeros 4
theorem witness_MigrationAndLadder_migrate : Claims.Pass (migrateTests (some 0) placed.dev migrateBytes) ∧
    runs (fun o => .migrate o (some 0)) 0x0207 migrateBytes placed (fun _ t => gives t stOk &&
      t.dev.prog.mig.state == .prepare && t.dev.prog.mig.source == 255 && raised t .migrationStart 255) = true := by
  unfold Claims.Pass; decide +kernel
def migrating (st : MigState) : State :=
  withDev placed fun d => { d with prog := { d.prog with mig := { state := st, source := 255, target := 0 } } }
theorem witness_MigrationAndLadder_switch :
    (after .migrationPrepareDone (migrating .prepare) fun t => t.dev.prog.mig.state == .switch) &&
    (((migrating .switch).dev.tasksOn 255 == [7]) && after (.migrationSwitch 7 none) (migrating .switch) fun t =>
      t.dev.prog.mig.state == .none && t.dev.placedOn 0 == [0] && raised t .migrationDone 255) = true := by decide +kernel
theorem witness_MigrationAndLadder_stall :
    let s := withDev placed fun d => { d with prog := { d.prog with
      cells := vmod d.prog.cells 255 fun x => { x with running := true, task := 7 } } }
    (s.dev.inMigDomain 255 = false ∧ s.dev.spareOk 0 = true) ∧ after (.progressStall 255 (some 0)) s (fun t =>
      (t.dev.cell 255).failed && t.dev.prog.mig.state == .prepare && raised t .progressStall (255 + 512 * 7)) = true := by
  decide +kernel
theorem witness_MigrationAndLadder_reload :
    let s := withDev (taskAt fun k => { k with st := .execute }) fun d => { d with prog := { d.prog with
      cells := vmod d.prog.cells 255 fun x => { x with level := .l0, task := 7, lb := true } } }
    s.dev.ready 7 0 = true ∧ after (.l0ReloadDone 255) s (fun t => (t.dev.cell 255).running &&
      !(t.dev.cell 255).lb && (t.dev.cell 255).level == .l0run) = true := by decide +kernel

/-! ## Loop units (chapter 06) -/

/-- A slot of unit 7, due at tick 1,000, whose PV is AI 5 and whose SP is fixed. -/
def loopAt (f : LoopSlot → LoopSlot) : State :=
  withDev base fun d => { d with
    tick := 1000
    ana := { d.ana with ai := vmod d.ana.ai 5 fun c => { c with elem := mkTV 0 753664 qGOOD 0 } }
    loops := vmod d.loops 7 fun u => { u with slots := vmod u.slots 31 f } }
def slotNow (t : State) : LoopSlot := t.dev.slot 7 31

/-- The worked design of chapter 06: an error filter and a PI section with a rate limit, SP fixed at 12.000 mA. -/
def piSet : CoefSet :=
  .biquad [{ b0 := 0x03C761C9, a1 := 0xE3C761C9 }, { b0 := 0x19A6B50B, b1 := 0xE6666666, a1 := 0xE0000000 }] 1 false
    0x40000 0x140000 0x80000 0x80000 786432
/-- The same slot before its first sample: TRACK has set s1 of section 1 to 10.000 mA. -/
def piSlot (x : LoopSlot) : LoopSlot :=
  { x with
    cfg := { enable := true, track := true, period := 20, pv := 0x01000005, sp := 0x04000000 }
    active := some piSet, prev := 655360
    s1 := vset x.s1 1 (BitVec.ofNat 48 (10 * 2 ^ 30)) }
def piIn : LIn := ⟨(753664, qGOOD), (786432, qGOOD), (0, qGOOD), false⟩

/-- Table 6.8: the output, SAT_OUT, and the integrator's skipped update. -/
theorem test_loopWorkedDesign : after (.loopSample 7 [] 0) (loopAt piSlot) (fun t =>
    (slotNow t).prev == 0x000A020C && (slotNow t).satOut && (slotNow t).frozen &&
      vget (slotNow t).s1 1 == BitVec.ofNat 48 (10 * 2 ^ 30) && (slotNow t).out.value == 0x000A020C &&
      (slotNow t).out.quality == 0) = true := by decide +kernel
theorem witness_LoopSample_inputs : (slotDue 1000 (slotNow (loopAt piSlot)) = true ∧ (loopAt piSlot).dev.loopsQuiet = false ∧
    (loopInputs 7 31 0 (loopAt piSlot).dev).1.pv = piIn.pv) ∧
    (List.range 31).all (fun k => !slotDue 1000 ((loopAt piSlot).dev.slot 7 k)) = true := by decide +kernel
theorem witness_LoopSample_unchanged : (loopInputs 7 31 0 (loopAt piSlot).dev).2 = (loopAt piSlot).dev := rfl
theorem witness_LoopSample_quiet : (withDev (loopAt piSlot) fun d => { d with sys := { d.sys with fenced := true } }).dev.loopsQuiet
    = true := by decide +kernel
theorem witness_LoopSample_fault :
    after (.loopSample 7 [(31, true)] 0) (loopAt fun x => { piSlot x with faults := 2 }) (fun t =>
      (slotNow t).prev == 655360 && (slotNow t).hw && (slotNow t).stopped && (slotNow t).out.quality == 0x85) = true := by
  decide +kernel
/-- An integrator in the last section, in AUTO, with no slot downstream that freezes it. -/
theorem witness_IntegratorFreeze : loopMode piIn none = .auto ∧ freezeDown (vget (loopAt piSlot).dev.loops 7) 31 = (false, false) ∧
    ((biquadSample (vget (loopAt piSlot).dev.loops 7) 31 (slotNow (loopAt piSlot))
      [{ b0 := 0x03C761C9, a1 := 0xE3C761C9 }, { b0 := 0x19A6B50B, b1 := 0xE6666666, a1 := 0xE0000000 }] 1 false
      0x40000 0x140000 0x80000 0x80000 piIn none).1.frozen) = true := by decide +kernel
theorem witness_LimitersAndHysteresis_limit : limit 658462 655360 0x40000 0x140000 0x80000 0x80000 20 = 0x000A020C := by
  decide +kernel
theorem witness_LimitersAndHysteresis_manual : loopMode { piIn with manual := true } none = .manual := by decide +kernel
/-- Below the band, with a window that has room for one switching and one that has none. -/
theorem witness_LimitersAndHysteresis_on :
    (hystSample 1000 {} 100 100 0 0 1 piIn none).1.onBit = true ∧
    (hystSample 1000 { bins := [(0, 1)] } 100 100 0 0 1 piIn none).1.onBit = false := by decide +kernel
/-- 50 ms of MIN_ON not yet over, and just over. -/
theorem witness_LimitersAndHysteresis_off :
    let i : LIn := ⟨(900000, qGOOD), (786432, qGOOD), (0, qGOOD), false⟩
    (hystSample 1999 { onBit := true, since := some 1000 } 100 100 50 0 0 i none).1.onBit = true ∧
    (hystSample 2000 { onBit := true, since := some 1000 } 100 100 50 0 0 i none).1.onBit = false := by decide +kernel

/-- The slot is declared by the active image, at position 0. -/
def declared (f : LoopSlot → LoopSlot) : State :=
  withDev (loopAt f) fun d => { d with prog := { d.prog with image := some { loops := [{ unit := 7, slot := 31 }] } } }
def loopCfgBytes (flags : Byte) : Bytes :=
  [7, 31, flags, 0] ++ leBytes 2 20 ++ leBytes 2 0 ++ leBytes 4 0x01000005 ++ leBytes 4 0x04000000 ++ zeros 8 ++
    [0, 0, 0x0D, 0] ++ zeros 4
theorem witness_LoopCommands_enable :
    let s := declared fun x => { x with active := some piSet }
    Claims.Pass (loopCfgTests s.dev (loopCfgBytes 1)) ∧ runs .loopConfig 0x0400 (loopCfgBytes 1) s (fun _ t =>
      answers t stOk [] && (slotNow t).cfg.enable && (slotNow t).notBefore == 1001) = true := by
  unfold Claims.Pass; decide +kernel
theorem witness_LoopCommands_disable :
    let s := declared fun x => { x with active := some piSet, cfg := { loopCfgOf (loopCfgBytes 0) with enable := true } }
    Claims.Pass (loopCfgTests s.dev (loopCfgBytes 0)) ∧ runs .loopConfig 0x0400 (loopCfgBytes 0) s (fun _ t =>
      (slotNow t).out.value == 0 && (slotNow t).out.quality == 0x80 && (slotNow t).mode == .disabled) = true := by
  unfold Claims.Pass; decide +kernel
def coefRequest : Bytes := [7, 31] ++ (coefBytes 0 0 piSet).drop 2
theorem witness_LoopCommands_stage : Claims.Pass (coefTests (loopAt id).dev coefRequest) ∧
    runs .loopCoeffStage 0x0401 coefRequest (loopAt id) (fun _ t => (slotNow t).staged == some piSet) = true := by
  unfold Claims.Pass; decide +kernel
theorem witness_LoopCommands_commit :
    let s := loopAt fun x => { x with staged := some piSet }
    let p : Bytes := [7, 0, 0, 0] ++ leBytes 4 0x80000000
    Claims.Pass (coefCommitTests s.dev p) ∧ runs .loopCoeffCommit 0x0402 p s (fun _ t => (slotNow t).active == some piSet &&
      (slotNow t).staged == none && answers t stOk (leBytes 8 1000)) = true := by unfold Claims.Pass; decide +kernel
theorem witness_LoopCommands_commitLater :
    let s := loopAt fun x => { piSlot x with staged := some piSet, active := none }
    let p : Bytes := [7, 0, 0, 0] ++ leBytes 4 0x80000000
    runs .loopCoeffCommit 0x0402 p s (fun _ t => (slotNow t).commitPend == some (false, 1001) && working t) = true := by
  decide +kernel
theorem witness_LoopCommands_flags :
    runs .loopFlagsReadClear 0x0403 ([7, 1, 0, 0] ++ leBytes 4 0x80000000) (loopAt fun x => { x with satOut := true })
      (fun s t => gives t stOk && (slotNow s).satOut && !(slotNow t).satOut) = true := by decide +kernel
def armBytes : Bytes := [7, 0, 31, 1] ++ [0, 0xFF, 0xFF, 0xFF] ++ zeros 16 ++ leBytes 2 1 ++ leBytes 2 0 ++ zeros 8
theorem witness_LoopCommands_arm : runs .traceArm 0x0404 ([7, 1] ++ zeros 34) (loopAt piSlot) (fun _ t =>
    gives t stOk && (vget t.dev.loops 7).trace == {}) = true := by decide +kernel
theorem witness_LoopCommands_armTests : Claims.Pass (traceTests (loopAt piSlot).dev armBytes) := by
  unfold Claims.Pass; decide +kernel
theorem witness_LoopCommands_read :
    let s := withDev (loopAt id) (modTrace 7 fun x => { x with state := .done })
    (traceObject 7 s.dev).length = 64 ∧ runs .traceRead 0x0405 ([7, 0, 0, 0] ++ leBytes 4 60 ++ leBytes 4 4) s (fun _ t =>
      answers t stOk (zeros 4)) = true := by decide +kernel

/-! ## Digital field channels (chapter 07) -/

def digOn (f : Dig → Dig) : State := withDev base fun d => { d with tick := 1000, dig := f d.dig }
/-- Input 31, input 3 (which can count), output 31 and group 3 of a device. -/
def di31 (f : DiCh → DiCh) : State := digOn fun g => { g with di := vmod g.di 31 f }
def di3 (f : DiCh → DiCh) : State := digOn fun g => { g with di := vmod g.di 3 f }
def do31 (f : DoCh → DoCh) : State := digOn fun g => { g with dout := vmod g.dout 31 f }
def grp3 (f : DoGroup → DoGroup) : State := digOn fun g => { g with grp := vmod g.grp 3 f }
def theDi (i : Nat) (t : State) : DiCh := vget t.dev.dig.di i
def theDo (t : State) : DoCh := vget t.dev.dig.dout 31
def theGrp (t : State) : DoGroup := vget t.dev.dig.grp 3

/-- N at 0, at 1, and at the ends of the count for N = 255. -/
theorem witness_CounterFilter :
    (after (.diFilterSample 31 true) (di31 id) fun t => (theDi 31 t).filtered && (theDi 31 t).count == 0) &&
    (after (.diFilterSample 31 true) (di31 fun c => { c with cfg := { c.cfg with n := 1 } }) fun t =>
      (theDi 31 t).filtered && (theDi 31 t).count == 1) &&
    (after (.diFilterSample 31 true) (di31 fun c => { c with cfg := { c.cfg with n := 255 }, count := 254 }) fun t =>
      (theDi 31 t).filtered && (theDi 31 t).count == 255) &&
    (after (.diFilterSample 31 false) (di31 fun c => { c with cfg := { c.cfg with n := 255 }, count := 1, filtered := true })
      fun t => !(theDi 31 t).filtered && (theDi 31 t).count == 0) &&
    (after (.diFilterSample 31 false) (di31 fun c => { c with cfg := { c.cfg with n := 255 }, count := 255, filtered := true })
      fun t => (theDi 31 t).filtered && (theDi 31 t).count == 254) = true := by decide +kernel
theorem witness_DigitalChannels_settings :
    after (.diFilterSample 31 true) (di31 fun c => { c with pend := some { n := 10 }, filtered := true }) (fun t =>
      (theDi 31 t).cfg.n == 10 && (theDi 31 t).pend == none && (theDi 31 t).count == 10) = true := by decide +kernel
theorem witness_DigitalChannels_wireBreak :
    let s := di31 fun c => { c with cfg := { c.cfg with wire := true }, filtered := true }
    s.dev.dig.unsup 31 = false ∧ after (.diWireBreakTimer 31 true) s (fun t => (theDi 31 t).broken &&
      !t.dev.dig.diState 31 && t.dev.dig.diQuality 31 == 0x82) = true := by decide +kernel
/-- The wrap at 2^31. -/
theorem witness_DigitalChannels_count :
    after (.diCountEdge 3 true) (di3 fun c => { c with cfg := { c.cfg with mode := 1, edge := 0 }, fast := 2 ^ 31 - 1 })
      (fun t => (theDi 3 t).fast == 0 && raised t .diFastcountOvf 3) = true := by decide +kernel
theorem witness_DigitalChannels_short :
    (after (.doShortSupplyDetect 31 true) (do31 fun c => { c with state := .off }) fun t =>
      (theDo t).state == .shortSupply && raised t (.doGroupFault 3) (31 + 64)) &&
    (after (.doShortSupplyDetect 31 false) (do31 fun c => { c with state := .shortSupply, image := true }) fun t =>
      (theDo t).state == .on) = true := by decide +kernel
theorem witness_DigitalChannels_open :
    (after (.doOpenLoadDetect 31 true) (do31 fun c => { c with state := .on, image := true }) fun t =>
      (theDo t).state == .openLoad && raised t (.doGroupFault 3) (31 + 32)) &&
    (after (.doOpenLoadDetect 31 false) (do31 fun c => { c with state := .openLoad, image := true }) fun t =>
      (theDo t).state == .on) = true := by decide +kernel
theorem witness_DigitalChannels_overcurrent :
    (after (.doIlimTimeout 31) (do31 fun c => { c with state := .on, image := true }) fun t =>
      (theDo t).state == .overcurrent && !(theDo t).demand && raised t (.doGroupFault 3) (31 + 96)) &&
    (let s := do31 fun c => { c with state := .overcurrent, image := true, cfg := { c.cfg with retry := true } }
     (s.dev.doWant 31).2 && after (.doRetryTimer 31) s fun t => (theDo t).state == .on && (theDo t).trial) &&
    (after (.doRetryTrialPassed 31) (do31 fun c => { c with state := .on, trial := true }) fun t => !(theDo t).trial) = true :=
  by decide +kernel
/-- Two entries at the edge of the 10 s window: the third latches. -/
theorem witness_DigitalChannels_overtemp :
    (after (.doOvertempEntry 31) (do31 fun c => { c with state := .on, image := true, otTimes := [1000, 1000] }) fun t =>
      (theDo t).state == .overtemp && (theDo t).otLatched && raised t .doThermal (31 + 256)) &&
    (after (.doOvertempRelease 31) (do31 fun c => { c with state := .overtemp, image := true }) fun t =>
      (theDo t).state == .on) = true := by decide +kernel
theorem witness_DigitalChannels_latchedRelease :
    after (.doOvertempRelease 31) (do31 fun c => { c with state := .overtemp, otLatched := true }) (fun t =>
      (theDo t).state == .overtemp) = true := by decide +kernel
theorem witness_DigitalChannels_supply :
    (after (.doGroupSupplyLoss 3 5) (grp3 id) fun t => (theGrp t).state == .lost && (theDo t).state == .supplyLost &&
      raised t (.doGroupLost 3) (5 * 65536)) &&
    (after (.doGroupSupplyReturn 3 5) (grp3 fun g => { g with state := .lost, latchOff := true }) fun t =>
      (theGrp t).state == .latchedOff) &&
    (after (.doGroupLatchedFall 3 5) (grp3 fun g => { g with state := .latchedOff }) fun t => (theGrp t).state == .lost) &&
    (after (.doGroupLowSet 3 5) (grp3 id) fun t => (theGrp t).low && happened t (.doGroupLow 3)) &&
    (after (.doGroupLowClear 3 5) (grp3 fun g => { g with low := true }) fun t => !(theGrp t).low) = true := by decide +kernel
/-- The last slot of a group, with a channel that was in overcurrent before. -/
theorem witness_DigitalChannels_reenergise :
    let s := digOn fun g => { g with
      grp := vmod g.grp 3 fun x => { x with state := .recovering, nextSlot := 7 }
      dout := vmod g.dout 31 fun c => { c with state := .supplyLost, kept := some .overcurrent } }
    after (.doReenergiseSlot 3) s (fun t => (theGrp t).state == .normal && (theDo t).state == .overcurrent) = true := by
  decide +kernel

theorem witness_WatchdogTripsAndCommands_timeout :
    let s := digOn fun g => { g with wdg := { g.wdg with state := .running, cfg := { g.wdg.cfg with timeout := 1000 } } }
    s.dev.wdgTicks = 20 ∧ after (.fieldWdgTimeout 0) s (fun t => t.dev.dig.wdg.state == .safe &&
      t.dev.dig.wdg.holdsExpiry && raised t .fieldWdgSafe 1) = true := by decide +kernel
theorem witness_WatchdogTripsAndCommands_extsafe :
    (after .extsafeNAssert (digOn fun g => { g with wdg := { g.wdg with state := .running } }) fun t =>
      t.dev.dig.wdg.state == .ext && raised t .fieldWdgSafe 2) &&
    (after .extsafeNRelease (digOn fun g => { g with wdg := { g.wdg with state := .ext, holdsExpiry := true, lastExpired := some 7 } })
      fun t => t.dev.dig.wdg.state == .safe && raised t .fieldWdgSafe (1 + 16 * 7)) = true := by decide +kernel
/-- DI 31 at trip level 0, linked to DO 31, which latches. -/
def tripCfg : TripCfg := { latch := 0x80000000, links := vset (Vector.replicate 32 0) 31 0x80000000, token := 5 }
theorem witness_WatchdogTripsAndCommands_trip :
    after .tripEvaluation (digOn fun g => { g with trip := { g.trip with armed := some tripCfg, acting := true } }) (fun t =>
      t.dev.dig.trip.tripped == 0x80000000 && t.dev.dig.trip.latched == 0x80000000 && happened t .tripFired) = true := by
  decide +kernel
theorem witness_WatchdogTripsAndCommands_stageExpiry :
    after .tripStageExpiry (digOn fun g => { g with trip := { g.trip with staged := some tripCfg } }) (fun t =>
      t.dev.dig.trip.staged.isNone) = true := by decide +kernel
theorem witness_WatchdogTripsAndCommands_diag : runs (fun o => .diagRead o {}) 0x0503 [1, 0, 0, 0]
    (di31 fun c => { c with breaks := 3 }) (fun s t => answers t stOk (diagPayload {} s.dev) && (theDi 31 t).breaks == 0) = true := by
  decide +kernel
theorem witness_WatchdogTripsAndCommands_DI_CONFIG :
    Claims.Pass (diCfgTests [31, 1, 0, 0, 255, 6, 0, 0]) ∧ runs .diConfig 0x0500 [31, 1, 0, 0, 255, 6, 0, 0] base (fun _ t =>
      answers t stOk [] && (theDi 31 t).pend == some { n := 255, ts := 2, wire := true }) = true := by
  unfold Claims.Pass; decide +kernel
theorem witness_WatchdogTripsAndCommands_DO_CONFIG :
    Claims.Pass (doCfgTests [31, 1, 0, 0, 2, 7, 250, 0]) ∧ runs .doConfig 0x0501 [31, 1, 0, 0, 2, 7, 250, 0] base (fun _ t =>
      answers t stOk [] && (theDo t).cfg == { safe := .hold, retry := true, ilim := 250 }) = true := by
  unfold Claims.Pass; decide +kernel
theorem witness_WatchdogTripsAndCommands_FIELD_WDG_CONFIG :
    let p : Bytes := leBytes 4 10000000 ++ [0x80, 0x80, 1, 0]
    Claims.Pass (wdgCfgTests p) ∧ runs .fieldWdgConfig 0x0502 p base (fun _ t => answers t stOk [] &&
      t.dev.dig.wdg.pend == some { timeout := 10000000, feed := 0x80, reqPartner := 0x80, manual := true }) = true := by
  unfold Claims.Pass; decide +kernel
theorem witness_WatchdogTripsAndCommands_TRIP_ARM :
    waits (job 0x0504 (zeros 144) base) 0x0504 (zeros 144) = true ∧ (zeros 144).length = 144 ∧
      allZero (zeros 144) 12 4 = true := by decide +kernel
theorem witness_WatchdogTripsAndCommands_TRIP_CONFIRM :
    runs .tripConfirm 0x0505 (leBytes 4 5) (digOn fun g => { g with trip := { g.trip with staged := some tripCfg } })
      (fun _ t => answers t stOk [] && t.dev.dig.trip.armed == some tripCfg && raised t .tripConfigChanged 5) = true := by
  decide +kernel
theorem witness_WatchdogTripsAndCommands_OUTPUT_RESET :
    runs (fun o => .outputReset o 0) 0x0506 ([15, 0, 0, 0] ++ leBytes 4 0x80000000 ++ [8, 0, 0, 0])
      (digOn fun g => { g with
        dout := vmod g.dout 31 fun c => { c with state := .overcurrent }, trip := { g.trip with latched := 0x80000000 }
        wdg := { g.wdg with state := .safe } })
      (fun _ t => gives t stOk && (theDo t).state == .off && t.dev.dig.trip.latched == 0 && t.dev.dig.wdg.armed) = true := by
  decide +kernel

/-! ## Current-loop channels (chapter 08) -/

def anaOn (f : Ana → Ana) : State := withDev base fun d => { d with tick := 1999, ana := f d.ana }
def ai15 (f : AiCh → AiCh) : State := anaOn fun a => { a with ai := vmod a.ai 15 f }
def ao7 (f : AoCh → AoCh) : State := anaOn fun a => { a with ao := vmod a.ao 7 f }
def theAi (t : State) : AiCh := vget t.dev.ana.ai 15
def theAo (t : State) : AoCh := vget t.dev.ana.ao 7

/-- 12.345 mA, and the limits of Table 8.4: the last code below 3.6 mA, and 21.0 mA. -/
theorem witness_CurrentLoopChannels_conversion :
    ((vget (ai15 id).dev.ana.ai 15).converts (1999 + 1) = true) ∧
    (after (.aiConversion 15 (BitVec.ofNat 24 (4 * 809042))) (ai15 id) fun t =>
      (theAi t).elem.value == 809042 && (theAi t).elem.quality == 0) &&
    (after (.aiConversion 15 (BitVec.ofNat 24 (4 * 0x39999))) (ai15 id) fun t =>
      (theAi t).elem.quality == 0x82 && happened t .aiWirebreak) &&
    (after (.aiConversion 15 (BitVec.ofNat 24 (4 * 0x150000))) (ai15 id) fun t => (theAi t).elem.quality == 0x51) &&
    (after (.aiConversion 15 (BitVec.ofNat 24 (4 * 0x150001))) (ai15 id) fun t => (theAi t).elem.quality == 0x80) = true := by
  decide +kernel
theorem witness_CurrentLoopChannels_grace :
    let s := anaOn fun a => { a with grace := true, ai := vmod a.ai 15 fun c => { c with loopPower := true } }
    after (.aiConversion 15 (BitVec.ofNat 24 (4 * 809042))) s (fun t => (theAi t).elem.quality == 0x84) = true := by
  decide +kernel
theorem witness_CurrentLoopChannels_loopPower :
    (after (.aiLooppowerTimeout 15) (ai15 fun c => { c with loopPower := true, lpOn := true }) fun t =>
      !(theAi t).lpOn && (theAi t).retry && raised t .aiLooppowerLimit 15) &&
    (after (.aiLooppowerRetry 15 false) (ai15 fun c => { c with loopPower := true, retry := true }) fun t =>
      (theAi t).lpOn && !(theAi t).retry) = true := by decide +kernel
theorem witness_CurrentLoopChannels_supply :
    (after (.vfldALoss 9) (anaOn id) fun t => t.dev.ana.vfld == .lost && t.dev.ana.grace &&
      raised t .aoSupplyLow (2 + 65536 * 9)) &&
    (after (.vfldAReturn 9) (anaOn fun a => { a with vfld := .lost }) fun t => t.dev.ana.vfld == .recovering) &&
    (after (.vfldALowSet 9) (anaOn id) fun t => t.dev.ana.low && raised t .aoSupplyLow (1 + 65536 * 9)) &&
    (after (.vfldALowClear 9) (anaOn fun a => { a with low := true }) fun t => !t.dev.ana.low) &&
    (after .aoRecoverySlot (anaOn fun a => { a with vfld := .recovering, nextSlot := 7 }) fun t => t.dev.ana.vfld == .normal) &&
    (after .aiSupplyGraceEnd (anaOn fun a => { a with grace := true }) fun t => !t.dev.ana.grace) = true := by decide +kernel
/-- Output 7, driving 10.000 mA. -/
def driving (x : AoCh) : AoCh := { x with undriven := false, image := 655360, demand := 655360 }
theorem witness_CurrentLoopChannels_detects :
    (ao7 driving).dev.aoSuspended 7 = false ∧
    (after (.aoComplianceDetect 7 true) (ao7 driving) fun t => (theAo t).compliance && (theAo t).entries == 1) &&
    (after (.aoComplianceDetect 7 false) (ao7 fun x => { driving x with compliance := true }) fun t => !(theAo t).compliance) &&
    (after (.aoComplianceTimeExpiry 7 65536) (ao7 fun x => { driving x with compliance := true }) fun t =>
      raised t .aoCompliance (7 + 65536 * 1000)) &&
    (after (.aoOpenDetect 7 true) (ao7 driving) fun t => (theAo t).openLoop && raised t .aoOpen 7) &&
    (after (.aoOpenDetect 7 false) (ao7 fun x => { driving x with openLoop := true }) fun t => !(theAo t).openLoop) &&
    (after (.aoMismatchDetect 7 true) (ao7 fun x => { driving x with cfg := { x.cfg with mismatchOff := true } }) fun t =>
      (theAo t).mismatch && (theAo t).demand == 0 && happened t .aoReadbackMismatch) &&
    (after (.aoMismatchDetect 7 false) (ao7 fun x => { driving x with mismatch := true }) fun t => !(theAo t).mismatch) &&
    (after (.aoReadbackConversion 7 5) (ao7 driving) fun t => (theAo t).readback.value == 5) = true := by decide +kernel
/-- 150 °C and 165 °C, in 1/16 °C, and just below 140 °C. -/
theorem witness_CurrentLoopChannels_thermal :
    (after (.aoTemperatureChange 7 2400) (ao7 driving) fun t => (theAo t).foldback && !(theAo t).thermalOff &&
      raised t .aoThermalFoldback (7 + 65536 * 2400)) &&
    (after (.aoTemperatureChange 7 2640) (ao7 driving) fun t => (theAo t).thermalOff && (theAo t).demand == 0 &&
      happened t .aoThermalOff) &&
    (after (.aoThermalRecover 7 2239) (ao7 fun x => { driving x with thermalOff := true, foldback := true }) fun t =>
      !(theAo t).thermalOff && !(theAo t).foldback) = true := by decide +kernel

/-- The code of 12.345 mA, from chapter 08, and a current above 24 mA. -/
theorem witness_CurrentLoopCommands_drive :
    (let d := (ao7 fun x => { driving x with image := 809042 }).dev
     d.aoZero 7 = false ∧ d.fieldSafe = false ∧ d.writerSafe 3 7 = false ∧ (vget (settleAo 7 d).ana.ao 7).code = 33710 ∧
       (vget (settleAo 7 d).ana.ao 7).demand = 809042) ∧
    (let d := (ao7 fun x => { driving x with image := 1572865 }).dev
     (vget (settleAo 7 d).ana.ao 7).demand = 1572864 ∧ (vget (settleAo 7 d).ana.ao 7).clipped = true) := by decide +kernel
theorem witness_CurrentLoopCommands_diag : runs (fun o => .analogDiagRead o {}) 0x0602 [1, 0, 0, 0]
    (ai15 fun c => { c with wbCount := 4 }) (fun s t => answers t stOk (anaPayload {} s.dev) && (theAi t).wbCount == 0) = true := by
  decide +kernel
theorem witness_CurrentLoopCommands_AI_CONFIG :
    Claims.Pass (aiCfgTests [15, 1, 0, 0, 3, 1, 3, 0]) ∧ runs .aiConfig 0x0600 [15, 1, 0, 0, 3, 1, 3, 0] base (fun _ t =>
      answers t stOk [] && (theAi t).rate == 3 && (theAi t).loopPower) = true := by unfold Claims.Pass; decide +kernel
theorem witness_CurrentLoopCommands_AO_CONFIG :
    let p : Bytes := [7, 1, 0, 0] ++ [2, 1] ++ leBytes 2 50 ++ zeros 4 ++ zeros 4
    Claims.Pass (aoCfgTests p) ∧ runs .aoConfig 0x0601 p base (fun _ t => answers t stOk [] &&
      (theAo t).cfg == { safe := .hold, mismatchOff := true }) = true := by unfold Claims.Pass; decide +kernel
def calBytes (op ch pt : Byte) (v : Nat) : Bytes := [op, ch, pt, 0] ++ leBytes 4 v ++ zeros 4
theorem witness_CurrentLoopCommands_read : runs .analogCalibrate 0x0603 (calBytes 0 15 0 0) base (fun s t =>
    answers t stOk (aiCalPayload 15 0 s.dev)) = true := by decide +kernel
theorem witness_CurrentLoopCommands_capture : bandBad true (20 * 65536) = false ∧
    runs .analogCalibrate 0x0603 (calBytes 1 15 1 (20 * 65536)) base (fun _ t => working t && t.dev.ana.capture.isSome) = true := by
  decide +kernel
def lo : CalPoint := { ref := 262144, raw := 262144 }
def hi : CalPoint := { ref := 1310720, raw := 1310720 }
theorem witness_CurrentLoopCommands_apply : trimOk ⟨lo, hi⟩ = true ∧
    runs .analogCalibrate 0x0603 (calBytes 2 15 0 0) (ai15 fun c => { c with ptLo := some lo, ptHi := some hi }) (fun _ t =>
      (theAi t).trim == some ⟨lo, hi⟩ && (theAi t).ptLo == none) = true := by decide +kernel
theorem witness_CurrentLoopCommands_restore : runs .analogCalibrate 0x0603 (calBytes 7 15 0 0)
    (ai15 fun c => { c with trim := some ⟨lo, hi⟩ }) (fun _ t => (theAi t).trim == none) = true := by decide +kernel
theorem witness_CurrentLoopCommands_AO_DRIVE : (ao7 driving).dev.driveRefused 7 = false ∧
    runs .analogCalibrate 0x0603 (calBytes 3 135 1 0) (ao7 driving) (fun _ t =>
      (theAo t).drive == some true && (theAo t).demand == 1310720) = true := by decide +kernel
theorem witness_CurrentLoopCommands_AO_MEASURED :
    runs .analogCalibrate 0x0603 (calBytes 4 135 1 1310720) (ao7 fun x => { driving x with drive := some true }) (fun _ t =>
      (theAo t).ptHi == some hi) && runs .analogCalibrate 0x0603 (calBytes 6 135 0 0)
        (ao7 fun x => { driving x with drive := some true }) (fun _ t => (theAo t).drive == none) = true := by decide +kernel
theorem witness_CurrentLoopCommands_captured :
    after .aiCaptureDone (anaOn fun a => { a with capture := some ⟨15, true, 1310720, 5, 2, .ch 0⟩ }) (fun t =>
      (theAi t).ptHi == some { ref := 1310720, raw := 3 } && t.dev.ana.capture == none) = true := by decide +kernel

/-! ## Ethernet ports and PTP (chapter 09) -/

def netOn (f : Net → Net) : State := withDev netted fun d => { d with tick := 100000, net := f { d.net with linkA := true } }

theorem witness_PortsAndClock_link :
    (after (.ethLinkChange 0 true) base fun t => t.dev.net.linkA && raised t .portALink 1) &&
    (after (.ethLinkChange 1 false) (netOn fun n => { n with linkB := true }) fun t =>
      !t.dev.net.linkB && raised t .portBLink 0) = true := by decide +kernel
theorem witness_PortsAndClock_arp : (netOn id).dev.linkUp 0 = true ∧
    (after (.arpRequestReceived 0 0x0A000001 7) (netOn id) fun t => t.dev.out == [.arpReply 7]) &&
    (after (.arpRequestReceived 0 0x0A000002 7) (netOn id) fun t => t.dev.out == []) &&
    (after (.icmpEchoRequestReceived 0 0x0A000001 7 [5]) (netOn id) fun t => t.dev.out == [.icmpReply 7 [5]]) &&
    (after (.igmpQueryReceived 0 0) (netOn id) fun t => t.dev.out == [.igmpReport announceGroup]) = true := by decide +kernel
/-- A node heard on one port only, in its third interval. -/
theorem witness_PortsAndClock_supervision :
    let s := netOn fun n => { n with cfg := { n.cfg with mode := 2 }, nodes := [{ mac := 9, seenA := true, onePort := 2 }] }
    after .hsrSupervisionSend s (fun t => t.dev.out == [.eth 0 0 [], .eth 1 0 []] && happened t .hsrPrpError &&
      t.dev.net.nodes.all fun y => !y.seenA) = true := by decide +kernel
theorem witness_PortsAndClock_single : (netOn id).dev.net.cfg.mode = 0 := by decide +kernel
def red (tag : RedTag) : RedFrame := { mac := 9, seq := 1, tag := tag, supervision := false, forMe := false, data := [5] }
def redOn (mode : Nat) (n : Net) : Net := { n with cfg := { n.cfg with mode := mode }, nodes := [{ mac := 9 }] }
theorem witness_PortsAndClock_wrongFrames :
    ((9 : Nat) ≠ macA base.mem ∧ (9 : Nat) ≠ macA base.mem + 1) ∧
    (after (.hsrPrpFrameReceived 0 (red (.prp true))) (netOn (redOn 1)) fun t => raised t .hsrPrpError 1) &&
    (after (.hsrPrpFrameReceived 0 (red .hsr)) (netOn (redOn 1)) fun t => raised t .hsrPrpError 4) = true := by decide +kernel
/-- A copy 400 ms old less one tick, and one that has left the window. -/
theorem witness_PortsAndClock_forward :
    (after (.hsrPrpFrameReceived 0 (red .hsr)) (netOn fun n => { redOn 2 n with dups := [(18, 1, 92001)] }) fun t =>
      t.dev.out == []) &&
    (after (.hsrPrpFrameReceived 0 (red .hsr)) (netOn fun n => { redOn 2 n with dups := [(18, 1, 92000)] }) fun t =>
      t.dev.out == [.eth 1 1 [5]]) = true := by decide +kernel
theorem witness_PortsAndClock_ageout : after (.hsrNodeAgeout 9) (netOn (redOn 2)) (fun t => t.dev.net.nodes == []) = true := by
  decide +kernel
def gm : PtpMaster :=
  { priority1 := 1, clockClass := 6, accuracy := 0x21, variance := 0, priority2 := 1, gmId := 77, steps := 0 }
def ptpOn (f : Ptp → Ptp) : State :=
  netOn fun n => { n with ptp := f { n.ptp with cfg := { n.ptp.cfg with enable := true }, masterA := some gm } }
theorem witness_PortsAndClock_offsets : (ptpOn id).dev.bestMaster.isSome = true ∧
    (after (.ptpSyncReceived 0 999) (ptpOn fun p => { p with good := 15 }) fun t =>
      t.dev.net.ptp.locked && raised t .ptpLockChange 1) &&
    (after (.ptpSyncReceived 0 (-10001)) (ptpOn fun p => { p with locked := true, bad := 3 }) fun t =>
      !t.dev.net.ptp.locked && raised t .ptpLockChange 0) &&
    (after (.ptpSyncReceived 0 10000) (ptpOn fun p => { p with locked := true, bad := 3 }) fun t => t.dev.net.ptp.locked) &&
    (after .ptpSyncTimeout (ptpOn fun p => { p with locked := true }) fun t => !t.dev.net.ptp.locked) = true := by
  decide +kernel
theorem witness_PortsAndClock_send :
    (after (.ptpSendTimer 0) (ptpOn fun p => { p with isMaster := true }) fun t => t.dev.out == [.ptp 0 0 [], .ptp 0 8 []]) &&
    (after (.ptpSendTimer 1) (ptpOn fun p => { p with isMaster := true }) fun t => t.dev.out == [.ptp 0 0xB []]) &&
    (after (.ptpSendTimer 2) (ptpOn fun p => { p with cfg := { p.cfg with p2p := true } }) fun t =>
      t.dev.out == [.ptp 0 2 []]) && !(netOn id).dev.net.ptp.cfg.enable = true := by decide +kernel
theorem witness_PortsAndClock_announce :
    let s := withDev (ptpOn fun p => { p with cfg := { p.cfg with slaveOnly := true }, locked := true, gmId := 77 }) fun d =>
      { d with rtc := { d.rtc with discipline := true } }
    s.dev.discActive = true ∧ after (.ptpAnnounceReceived 0 gm 37 true false false) s (fun t =>
      !t.dev.net.ptp.isMaster && t.dev.net.ptp.gmId == 77 && t.dev.net.ptp.steps == 1 && t.dev.rtc.leap == 5 &&
      t.dev.rtc.leapFromPtp) = true := by decide +kernel
theorem witness_PortsAndClock_receiptTimeout :
    after (.ptpAnnounceReceiptTimeout 0) (ptpOn id) (fun t => t.dev.net.ptp.masterA == none) = true := by decide +kernel
theorem witness_PortsAndClock_delay :
    (after (.ptpDelayReqReceived 0 true [5]) (ptpOn fun p => { p with cfg := { p.cfg with p2p := true } }) fun t =>
      t.dev.out == [.ptp 0 3 [5], .ptp 0 0xA [5]]) &&
    (after (.ptpDelayReqReceived 0 false [5]) (ptpOn fun p => { p with isMaster := true }) fun t =>
      t.dev.out == [.ptp 0 9 [5]]) &&
    (after (.ptpDelayRespReceived 0 400) (ptpOn id) fun t => t.dev.net.ptp.delay == 400) = true := by decide +kernel
def netBytes : Bytes :=
  [0, 0, 0, 63] ++ leBytes 2 0 ++ leBytes 2 10 ++ leBytes 4 0x0A000005 ++ leBytes 4 0xFFFFFF00 ++ leBytes 4 0x0A000001 ++
    leBytes 4 7 ++ [2, 0, 0, 0] ++ [0x30, 0x41, 0x5A, 0x39, 0x30, 0x30] ++ zeros 6
theorem witness_PortsAndClock_NET_CONFIG : Claims.Pass (netTests base.dev netBytes) ∧
    runs .netConfig 0x0700 netBytes base (fun _ t => answers t stOk [] && t.dev.net.cfg == netCfgOf netBytes &&
      t.dev.pwr.netConfigured) = true := by unfold Claims.Pass; decide +kernel
def ptpBytes : Bytes := [127, 1, 255, 0, 1, 3, 5, 10] ++ zeros 8
theorem witness_PortsAndClock_PTP_CONFIG : Claims.Pass (ptpTests base.dev ptpBytes) ∧
    runs .ptpConfig 0x0703 ptpBytes base (fun _ t => gives t stOk && t.dev.net.ptp.cfg == ptpCfgOf ptpBytes) = true := by
  unfold Claims.Pass; decide +kernel

/-! ## The station protocol (chapter 09) -/

/-- A device that follows partner 0x11223344 at 10.0.0.2 for set 5, whose subscription is in a state, and publishes set 8. -/
def stationDev (st : SubState) : State :=
  withDev (netOn fun n => { n with
    partners := [{ state := .present, role := 1, partnerId := 0x11223344, sender := 0x99, ip := 0x0A000002 }]
    subs := [(0, { state := st })]
    subscribers := [⟨8, 0x11223344, 0x99, 0x0A000002, some 4, false⟩] }) fun d => { d with
  prog := { d.prog with image := some { imageId := 1, nI := 1
                                        subSets := [{ setNo := 5, task := 7, partner := 0x11223344, signature := 6, items := [(0, 0)] }]
                                        pubSets := [{ setNo := 8, task := 7, signature := 9, items := [(1, 0)] }] } } }

theorem witness_StationProtocol_announce : (stationDev .active).dev.stopped = false ∧ (stationDev .active).dev.master = true ∧
    (stationDev .active).dev.net.cfg.partnerId ≠ 0 ∧ (stationDev .active).dev.pubSets.length ≤ 64 := by decide +kernel
theorem witness_StationProtocol_stopped :
    (withDev netted fun d => { d with sys := { d.sys with fenced := true } }).dev.stopped = true := by decide +kernel
/-- An announcement of no sets, from a known partner and to a table that does not know it. -/
def annBytes : Bytes := beBytes 2 0x6451 ++ zeros 2 ++ beBytes 4 1 ++ beBytes 8 2 ++ beBytes 2 100 ++ [0, 1] ++ zeros 4
theorem witness_StationProtocol_announced (s : State) (h : s.dev.net.cfg.ip ≠ 0) :
    Heard s (station 1 1 0 annBytes) (stHeader 1 1 0 annBytes) 1 := heard s 1 1 0 _ h rfl (by decide) (by decide) (by decide)
theorem witness_StationProtocol_announcer : announceOk (stHeader 1 1 0 annBytes) = true ∧
    (stationDev .active).dev.partnerOf 0x11223344 0x99 = some 0 ∧ (stationDev .active).dev.net.cfg.ip ≠ 0 ∧
    netted.dev.partnerOf 0x11223344 0x99 = none ∧ netted.dev.newEntry = some 0 ∧ netted.dev.net.cfg.ip ≠ 0 := by
  decide +kernel
theorem witness_StationProtocol_timeout :
    let s := netOn fun n => { n with partners := [{ state := .present, lastAnn := 94000 }] }
    after (.announceTimeout 0) s (fun t => (lget t.dev.net.partners 0).state == .lost && raised t .partnerLost 512) = true := by
  decide +kernel
theorem witness_StationProtocol_withdraw : Heard (stationDev .active) (station 2 1 0 []) (stHeader 2 1 0 []) 2 :=
  heard _ 2 1 0 [] (by decide +kernel) rfl (by decide) (by decide) (by decide)
theorem witness_StationProtocol_rejected : stationParse [1, 2, 3] = none ∧
    after (.datagramRejected [1, 2, 3] false) netted (fun t => t.dev.net.discarded == 1) = true := by decide +kernel
/-- Set 5 with one value, of cycle 0xFFFFFFFF and of the cycle after it. -/
def setBytes (cycle : Nat) : Bytes :=
  beBytes 2 5 ++ [0, 1] ++ beBytes 4 cycle ++ beBytes 2 0 ++ beBytes 2 1 ++ zeros 4 ++ zeros 8
theorem witness_StationProtocol_set (c : Nat) : Heard (stationDev .active) (station 0x10 1 0 (setBytes c))
    (stHeader 0x10 1 0 (setBytes c)) 0x10 :=
  heard _ 0x10 1 0 _ (by decide +kernel) rfl (by decide) (by decide) (by simp [setBytes, beBytes_length, zeros])
theorem witness_StationProtocol_follows : (stationDev .active).dev.subFrom (stHeader 0x10 1 0 (setBytes 0)) 5 = some (0, 0) ∧
    fragOk 1 (setBytes 0) = true ∧ fragOk 2 (setBytes 0) = false ∧ seqGreater 0 0xFFFFFFFF = true ∧
    seqGreater 0x80000000 0 = false ∧ (stationDev .active).dev.mayExchange = true := by decide +kernel
theorem witness_StationProtocol_ack :
    let p := beBytes 2 8 ++ zeros 2 ++ beBytes 4 5
    Heard (stationDev .active) (station 0x11 1 0 p) (stHeader 0x11 1 0 p) 0x11 ∧ p.length = 8 ∧ seqGreater 5 4 = true :=
  ⟨heard _ 0x11 1 0 _ (by decide +kernel) rfl (by decide) (by decide) (by decide), by decide, by decide⟩
def reqBytes (setNo sig : Nat) : Bytes := beBytes 2 setNo ++ zeros 2 ++ beBytes 4 sig ++ beBytes 4 20
theorem witness_StationProtocol_request (n g : Nat) :
    Heard (stationDev .active) (station 0x12 1 0 (reqBytes n g)) (stHeader 0x12 1 0 (reqBytes n g)) 0x12 ∧
      (reqBytes n g).length = 12 ∧ allZero (reqBytes n g) 2 2 = true :=
  ⟨heard _ 0x12 1 0 _ (by decide +kernel) rfl (by decide) (by decide) (by simp [reqBytes, beBytes_length, zeros]),
    by simp [reqBytes, beBytes_length, zeros], by simp [reqBytes, allZero, slice, beBytes, leBytes, zeros]⟩
theorem witness_StationProtocol_results : (stationDev .active).dev.subscribeResult (stHeader 0x12 1 0 (reqBytes 8 9)) = 0 ∧
    (stationDev .active).dev.subscribeResult (stHeader 0x12 1 0 (reqBytes 8 10)) = 2 ∧
    getBe (reqBytes 0xFFFF 0) 4 4 = 0 := by decide +kernel
theorem witness_StationProtocol_response :
    let p := beBytes 2 5 ++ [0, 0]
    Heard (stationDev .requested) (station 0x13 1 0 p) (stHeader 0x13 1 0 p) 0x13 ∧
      (stationDev .requested).dev.subFrom (stHeader 0x13 1 0 p) 5 = some (0, 0) :=
  ⟨heard _ 0x13 1 0 _ (by decide +kernel) rfl (by decide) (by decide) (by decide), by decide +kernel⟩
theorem witness_StationProtocol_retry : (stationDev .requested).dev.selectSender 0x11223344 = some 0 ∧
    after (.subscribeRetry 0) (stationDev .requested) (fun t => (t.dev.sub 0).state == .requested && t.dev.out.length == 1) = true :=
  by decide +kernel
theorem witness_StationProtocol_events :
    let s := withDev (netOn fun n => { n with evSubs := [⟨1, 2, 3⟩] }) fun d =>
      { d with evt := { d.evt with netQueue := List.replicate 32 (zeros 16) } }
    after .eventFrameSend s (fun t => t.dev.evt.netQueue == [] && t.dev.out.length == 1) = true := by decide +kernel
theorem witness_StationProtocol_PARTNER_TABLE_READ :
    runs .partnerTableRead 0x0701 (leBytes 2 511 ++ leBytes 2 100) (stationDev .active) (fun s t =>
      answers t stOk (leBytes 2 1 ++ leBytes 2 1 ++ zeros 12 ++ partnerBytes s.dev 511)) = true := by decide +kernel
theorem witness_StationProtocol_SUBSCRIBE :
    (runs .subscribe 0x0702 ([1, 0] ++ leBytes 2 0 ++ leBytes 2 1 ++ zeros 2) (stationDev .active) fun _ t =>
      gives t stOk && (t.dev.sub 0).state == .suspended) &&
    (runs .subscribe 0x0702 ([3, 0] ++ leBytes 2 0 ++ leBytes 2 1 ++ zeros 2) (stationDev .suspended) fun _ t =>
      gives t stOk && (t.dev.sub 0).state == .requested) = true := by decide +kernel

/-! ## CAN FD, UART and the Gligil link (chapter 09) -/

/-- CAN 3 with one receive object of a two-byte signed field, UART 1 with one poll entry and one listener field. -/
def busImage : Image :=
  { imageId := 1
    canObjs := [{ ctrl := 3, id := 0x7FF, mask := 0x7FF, length := 2, fields := [{ size := 2, bigEndian := true, signed := true, element := 4 }] }]
    polls := [{ uart := 1, slave := 9, start := 0x10, regs := [{ element := 5, signed := true }] }]
    listens := [{ uart := 1, field := 1, talker := [0x47, 0x50], formatter := [0x5A, 0x44, 0x41], element := 6 }] }
def busOn (f : Ser → Ser) : State :=
  withDev base fun d => { d with
    ser := f { d.ser with can := vmod d.ser.can 3 fun k => { k with cfg := { k.cfg with enable := true } } }
    prog := { d.prog with image := some busImage } }
def holds (t : State) (el : Nat) (v : Word) (q : Byte) : Bool :=
  (mget t.dev.prog.fieldIn el).any fun x => x.value == v && x.quality == q

theorem witness_CanAndUartFields_frame : ((((busOn id).dev.canRx 3).filter fun x => x.accepts 0x7FF false [0xFF, 0xFE]).length = 1) ∧
    (after (.canFrameReceived 3 0x7FF false false [0xFF, 0xFE]) (busOn id) fun t => holds t 4 0xFFFFFFFE qGOOD) &&
    (after (.canRxTimeout 0) (busOn id) fun t => holds t 4 0 qBAD_SOURCE_LOST) = true := by decide +kernel
theorem witness_CanAndUartFields_disabled : (vget base.dev.ser.can 3).cfg.enable = false := by decide +kernel
theorem witness_CanAndUartFields_busOff :
    (after (.canBusOffEntry 3 255) (busOn id) fun t => (vget t.dev.ser.can 3).busOff && raised t (.canBusoff 3) 255 &&
      holds t 4 0 qBAD_SOURCE_LOST) &&
    (after (.canBusoffRecovery 3) (busOn fun x => { x with can := vmod x.can 3 fun k =>
        { k with cfg := { k.cfg with autoRecover := true }, busOff := true, tec := 255 } }) fun t =>
      !(vget t.dev.ser.can 3).busOff && (vget t.dev.ser.can 3).tec == 0) = true := by decide +kernel
def modbusOn (a : Option Nat) : State := busOn fun x => { x with uart := vmod x.uart 1 fun u => { u with mode := 1, awaiting := a } }
def pollFrame : Bytes := modbusFrame [9, 3, 0, 0x10, 0, 1]
theorem witness_CanAndUartFields_poll : after (.modbusPoll 1 0) (modbusOn none) (fun t => t.dev.out == [.uart 1 pollFrame] &&
    (vget t.dev.ser.uart 1).awaiting == some 0) = true := by decide +kernel
def replyFrame : Bytes := modbusFrame [9, 3, 2, 0xFF, 0xFE]
theorem witness_CanAndUartFields_reply : replyOk (lget busImage.polls 0) replyFrame = true ∧
    (after (.modbusReply 1 replyFrame 0) (modbusOn (some 0)) fun t => holds t 5 0xFFFFFFFE qGOOD &&
      (vget t.dev.ser.uart 1).awaiting == none) &&
    (after (.modbusReply 1 replyFrame 3) (modbusOn (some 0)) fun t => holds t 5 0 qBAD_SOURCE_LOST &&
      raised t .uartError (1 + 2 * 3)) &&
    (after (.modbusReplyTimeout 1) (modbusOn (some 0)) fun t => holds t 5 0 qBAD_SOURCE_LOST &&
      raised t .uartError (1 + 12)) = true := by decide +kernel
/-- "$GPZDA,201*xx" with the checksum that IEC 61162-1 computes over GPZDA,201. -/
def sentence : Bytes := asciiBytes "$GPZDA,201*57\r\n".toList
def listenOn : State := busOn fun x => { x with uart := vmod x.uart 1 fun u => { u with mode := 2 } }
theorem witness_CanAndUartFields_timeout : after (.listenerFieldTimeout 0) listenOn (fun t => holds t 6 0 qBAD_SOURCE_LOST) = true :=
  by decide +kernel
theorem witness_CanAndUartFields_badSentence : sentenceBody [1, 2] = none ∧
    after (.listenerSentenceReceived 1 [1, 2] 0) listenOn (fun t => (vget t.dev.ser.uart 1).errors == 1 &&
      raised t .uartError (1 + 10)) = true := by decide +kernel
theorem witness_CanAndUartFields_UART_CONFIG :
    let p : Bytes := [1, 1, 0, 0] ++ leBytes 4 3000000 ++ leBytes 2 1000 ++ [8, 8, 0, 0, 0, 0]
    Claims.Pass (uartTests p) ∧ runs .uartConfig 0x0705 p base (fun _ t => gives t stOk &&
      (vget t.dev.ser.uart 1).baud == 3000000) = true := by unfold Claims.Pass; decide +kernel
theorem witness_CanAndUartFields_CAN_CONFIG :
    let p : Bytes := [3, 1, 1, 61, 18, 1, 1, 5, 4, 4, 127, 0, 0, 0, 0, 0]
    Claims.Pass (canTests p) ∧ runs .canConfig 0x0704 p base (fun _ t => gives t stOk &&
      (vget t.dev.ser.can 3).cfg == canCfgOf p) = true := by unfold Claims.Pass; decide +kernel
theorem witness_CanAndUartFields_sentence : sentenceBody sentence = some (asciiBytes "GPZDA,201".toList) ∧
    after (.listenerSentenceReceived 1 sentence 0) listenOn (fun t => holds t 6 201 qGOOD) = true := by decide +kernel

def glOn (pos : BitVec 3) (f : Gl → Gl) : State :=
  withDev base fun d => { d with
    tick := 70000, gl := f d.gl, sys := { d.sys with stackPos := pos }
    otp := { d.otp with settings := { d.otp.settings with stackSize := 2 } } }
theorem witness_GligilLink_tick :
    (after .baseTick base fun t => t.dev.tick == 1) &&
    (after (.tickMarkerReceived 1 (BitVec.ofNat 16 (70000 + 32767))) (glOn 1 id) fun t => t.dev.tick == 70000 + 32767) &&
    (after .tickLost (glOn 1 id) fun t => t.dev.sys.fenced && raised t .fenced 6) = true := by decide +kernel
theorem witness_GligilLink_image : let s := withDev base fun d => { d with
      sys := { d.sys with role := .standby }, red := { d.red with standby := .ready, cfg := { d.red.cfg with paired := true } } }
    s.dev.follows = true ∧ after (.imageForwardFrame 0 [1, 2, 3, 4] true) s (fun t =>
      (t.dev.slotRec 1).length == 4 && t.dev.prog.checking.isSome) = true := by decide +kernel
theorem witness_GligilLink_ports : base.dev.gligil = true ∧
    (after (.gligilPortUp 2 7 1 2 3) base fun t => (t.dev.gl.port 2).up && (t.dev.gl.port 2).neighbour == 7 &&
      happened t .stackLinkChange) &&
    (after (.gligilPortDown 0) (glOn 0 fun g => { g with portA := { g.portA with up := true } }) fun t =>
      !(t.dev.gl.port 0).up && happened t .stackLinkChange) = true := by decide +kernel
theorem witness_GligilLink_status :
    (after (.ringStatusFrame 1 {} false false) (glOn 1 id) fun t => t.dev.out.length == 2) &&
    (after (.ringStatusFrame 0 { portA := true } true true) (glOn 1 id) fun t =>
      vget t.dev.pwr.pfwAt 0 && t.dev.sys.safeState && (vget t.dev.gl.pos 0).portA) = true := by decide +kernel
def cycling (pos : BitVec 3) : State :=
  withDev (glOn pos id) fun d => { d with prog := { d.prog with tasks := vmod d.prog.tasks 7 fun k => { k with st := .execute, counter := 4 } } }
theorem witness_GligilLink_cycles :
    (after (.gligilConfirmFrame 7 7 4) (cycling 0) fun t => (vget t.dev.gl.confirmed 7).getLsbD 7) &&
    (after (.gligilCommitDecision 7 4 true) (cycling 1) fun t => vget t.dev.gl.decision 7 == some true) &&
    (after (.gligilScheduledData [.working 7 3 (ekey spV 0) 5 0x10 true]) (cycling 1) fun t =>
      (mget (t.dev.task 7).runs 3).any fun r => r.remote && r.provisional && r.exec.writes == [⟨ekey spV 0, 5, 0x10⟩]) = true := by
  decide +kernel
theorem witness_GligilLink_publication :
    let s := withDev base fun d => { d with prog := { d.prog with image := some { nI := 1, iDecl := [{ kind := 1, source := 8, id := 5 }] } } }
    after (.gligilScheduledData [.publication 5 (mkTV 5 9 0 1)]) s (fun t => mget t.dev.prog.fieldIn 0 == some (mkTV 5 9 0 1)) = true :=
  by decide +kernel
theorem witness_GligilLink_class2 :
    (after (.gligilRetransmit 5) (glOn 1 fun g => { g with pendingTx := [⟨5, 0, 1, [9], 7⟩] }) fun t =>
      t.dev.gl.pendingTx == [] && t.dev.out.length == 1) &&
    (after (.gligilRetransmit 5) (glOn 1 fun g => { g with pendingTx := [⟨5, 0, 1, [9], 6⟩] }) fun t =>
      t.dev.gl.pendingTx == [⟨5, 0, 1, [9], 7⟩]) &&
    (after (.gligilAckReceived 0 5) (glOn 1 fun g => { g with pendingTx := [⟨5, 0, 1, [9], 7⟩, ⟨5, 1, 1, [9], 7⟩] }) fun t =>
      t.dev.gl.pendingTx == [⟨5, 1, 1, [9], 7⟩]) = true := by decide +kernel
theorem witness_GligilLink_notices :
    ((glOn 1 id).dev.master = false ∧ (glOn 1 id).dev.inStack = true ∧ base.dev.master = true) ∧
    after .fenceNoticeReceived (glOn 1 id) (fun t => t.dev.sys.fenced && raised t .fenced 7) = true := by decide +kernel
theorem witness_GligilLink_STACK_STATUS : runs .stackStatus 0x0706 [1, 0, 0, 0]
    (glOn 0 fun g => { g with portP := { g.portP with discarded := 9 } }) (fun _ t => gives t stOk &&
      t.dev.gl.portP.discarded == 0) = true := by decide +kernel


/-! ## Redundancy (chapter 10) -/

/-- A payload of an authenticated station message with its trailer under key 7 and boot epoch 5, and the MAC over the
header that its frame has (R392). -/
def sealed (type role seq : Nat) (p : Bytes) : Bytes :=
  let tr : Bytes := [7, 0, 0, 0] ++ leBytes 4 5
  p ++ tr ++ hmac (zeros 32) ((station type role seq (zeros (p.length + 40))).take 24 ++ p ++ tr)
theorem sealed_length (type role seq : Nat) (x : LeaseMsg) : (sealed type role seq x.bytes).length = 72 := by
  simp [sealed, hmac_length, LeaseMsg.bytes, beBytes_length, leBytes_length, zeros]
/-- Claims.LeaseHeard holds of a lease message that is sealed, at a device with the key. -/
theorem leaseHeard (s : State) (type role seq : Nat) (x : LeaseMsg) (hip : s.dev.net.cfg.ip ≠ 0)
    (ht : stTypeListed type = true) (hb : type < 256) (hr : role < 4) (hk : s.dev.hmacKey 7 = some (zeros 32))
    (hm : leaseMsgOf x.bytes = some x) :
    LeaseHeard s (station type role seq (sealed type role seq x.bytes)) type x 7 5
      (stHeader type role seq (sealed type role seq x.bytes)) := by
  refine ⟨heard s type role seq _ hip ht hb hr (by simp [sealed_length]), x.bytes, ?_, hm⟩
  refine authParse_sealed _ _ s.dev 7 5 (zeros 32) _ hk (by decide) ?_
  rw [station, stationFrame_take type role _ _ _ _ (zeros (x.bytes.length + 40))]
  · rfl
  · simp [sealed_length]; simp [LeaseMsg.bytes, beBytes_length, zeros]

/-- A paired standby master of station 0x11223344 with its arbiter at 10.0.0.9, key 7 and L = 100 ms. -/
def pairOn (f : Red → Red) : State :=
  withDev (netOn id) fun d => { d with
    sys := { d.sys with role := .standby, stackPos := 0, uid := 0x77 }
    red := f { d.red with cfg := { d.red.cfg with paired := true, arbiterIp := 0x0A000009, keyIndex := 7 } } }

theorem witness_LeaseOfADevice_cold : (pairOn id).dev.coldOk = true ∧ base.dev.coldOk = false ∧
    after .coldLeaseRequest (pairOn id) (fun t => t.dev.red.lease.reqNo == 1) = true := by decide +kernel

/-- The arbiter's answer to the request of REQ_NO 4, sent 1 ms ago. -/
def answerMsg (epoch : Word) : LeaseMsg :=
  { station := 0x11223344, epoch := epoch, reqNo := 4, leaseMs := 100, candidate := 0x77 }
def asked (st : LeaseState) (sb : StandbyState) : State :=
  pairOn fun r => { r with
    standby := sb
    lease := { r.lease with state := st, epoch := 3, reqNo := 4, outstanding := [⟨4, 100000 * tickUnits - 10000, false⟩] } }
def answerFrame (type : Nat) (epoch : Word) : Bytes := station type 2 0 (sealed type 2 0 (answerMsg epoch).bytes)

theorem witness_LeaseOfADevice_answers (type : Nat) (epoch : Word) (st : LeaseState) (sb : StandbyState)
    (ht : stTypeListed type = true) (hb : type < 256) (hm : leaseMsgOf (answerMsg epoch).bytes = some (answerMsg epoch)) :
    Answered (asked st sb) 0x0A000009 (answerFrame type epoch) type (answerMsg epoch) ⟨4, 100000 * tickUnits - 10000, false⟩ :=
  ⟨rfl, 5, _, leaseHeard (asked st sb) type 2 0 _ (by rw [show (asked st sb).dev.net.cfg.ip = 0x0A000001 from rfl]; decide)
    ht hb (by decide) rfl hm, by rfl⟩
theorem witness_LeaseOfADevice_messages :
    ([(0x41, 3), (0x42, 0), (0x44, 3)].all fun x => stTypeListed x.1 &&
      leaseMsgOf (answerMsg x.2).bytes == some (answerMsg x.2)) = true := by decide +kernel
theorem witness_LeaseOfADevice_states : (asked .requesting .ready).dev.stopped = false ∧
    (asked .requesting .ready).dev.candidate = true ∧ (asked .late .none).dev.red.lease.state.holds = true ∧
    (asked .requesting .ready).dev.red.lease.answered ≤ 100000 * tickUnits - 10000 := by decide +kernel

/-- A holder whose last three renewals are L / 12 old and older, at two thirds of L, and at its lease's end. -/
def holder (st : LeaseState) (age : Nat) : State :=
  let now := 100000 * tickUnits
  pairOn fun r => { r with
    cfg := { r.cfg with fallback := true }
    lease := { r.lease with
      state := st, epoch := 3, reqNo := 4, answered := now - age, leaseEnd := now - age + 1000000 - 10200
      outstanding := [⟨2, now - 300000, false⟩, ⟨3, now - 200000, false⟩, ⟨4, now - 90000, false⟩] } }
theorem witness_LeaseOfADevice_renew : (holder .late 700000).dev.unanswered3 = true ∧
    after .leaseRenewTimer (holder .late 700000) (fun t => t.dev.red.lease.state == .fallback && raised t .arbiterLost 1 &&
      t.dev.red.lease.reqNo == 5) = true := by decide +kernel
/-- Two thirds of 100 ms: 66 666.6 µs, in the base tick of 66 650 µs; the lease ends 32.33 ms later. -/
theorem witness_LeaseOfADevice_late : (holder .holding 666500).dev.reached (100000 * tickUnits - 666500 + 2 * 1000000 / 3) = true ∧
    after .leaseLateTimer (holder .holding 666500) (fun t => raised t .leaseRenewLate 32 && t.dev.red.lease.lateRenewals == 1 &&
      t.dev.red.lease.arbiterLost) = true := by decide +kernel
theorem witness_LeaseOfADevice_end :
    (holder .holding 989800).dev.reached (holder .holding 989800).dev.red.lease.leaseEnd = true ∧
    (holder .holding 980000).dev.reached (holder .holding 980000).dev.red.lease.leaseEnd = false ∧
    after .leaseEnd (holder .holding 989800) (fun t => t.dev.sys.fenced && raised t .fenced 1 && t.dev.red.releaseDue &&
      after .fenceLeaseRelease t fun u => !u.dev.red.releaseDue && u.dev.red.lease.reqNo == 5) = true := by decide +kernel
theorem witness_LeaseOfADevice_quiet :
    after .fallbackQuietEnd (pairOn fun r => { r with lease := { r.lease with quietUntil := 1 } }) (fun t =>
      t.dev.red.lease.quietUntil == 0) = true := by decide +kernel
/-- A renewal under fallback on port P: quiet for L + δ = 101.02 ms. -/
theorem witness_LeaseOfADevice_fallback :
    let m := { answerMsg 3 with fallback := true }
    (leaseMsgOf m.bytes = some m ∧ (asked .none .ready).dev.gligil = true ∧
      (asked .none .ready).dev.red.cfg.network = false) ∧
    after (.leaseRenewReceived .portP m.bytes) (asked .none .ready) (fun t =>
      t.dev.red.lease.quietUntil == 100000 * tickUnits + 1010200 && t.dev.out.length == 1) = true := by decide +kernel
/-- PAIR_CONFIG with the shortest lease and a FAULTY standby. -/
def pairBytes : Bytes := [1, 2, 3, 1] ++ leBytes 4 20 ++ leBytes 4 0x0A000009 ++ zeros 4 ++ [7, 16] ++ leBytes 2 600 ++
  leBytes 4 0xCCD ++ zeros 8
theorem witness_LeaseOfADevice_config : Claims.Pass (pairTests (asked .none .faulty).dev pairBytes) ∧
    runs .pairConfig 0x0800 pairBytes (asked .none .faulty) (fun _ t => answers t stOk [] &&
      t.dev.red.cfg == pairCfgOf pairBytes && t.dev.red.standby == .unpaired) = true := by
  unfold Claims.Pass; decide +kernel
theorem witness_LeaseOfADevice_LEASE_STATUS : ([false, true].all fun b =>
    runs .leaseStatus 0x0801 [if b then 1 else 0, 0, 0, 0] (holder .late 700000) fun s t => answers t stOk (leaseStatus s.dev) &&
      (leaseStatus s.dev).length == 64) = true := by decide +kernel

/-- An arbiter at 500 ms that serves station 0x11223344 in entry 15 under key 7, L = 100 ms. -/
def arbOn (f : ArbEntry → ArbEntry) : State :=
  withDev netted fun d => { d with
    tick := 10000, sys := { d.sys with role := .arbiter }
    red := { d.red with arbiters := d.red.arbiters.set 15 (f {
      enable := true, key := 7, station := 0x11223344, state := .free, coldWait := 20, epoch := 8 }) } }
def arbNow : Nat := 10000 * tickUnits
/-- A request of candidate 0x99 with REQ_NO 2³² − 1, a COLD one with PREFER, and one of another lease length. -/
def reqMsg : LeaseMsg := { station := 0x11223344, reqNo := 0xFFFFFFFF, leaseMs := 100, candidate := 0x99, epoch := 9 }
def coldMsg : LeaseMsg := { reqMsg with cold := true, prefer := true }
def otherMsg : LeaseMsg := { reqMsg with leaseMs := 99 }
def strangeMsg : LeaseMsg := { reqMsg with station := 1 }
def arbFrame (type role : Nat) (m : LeaseMsg) : Bytes := station type role 0 (sealed type role 0 m.bytes)

theorem witness_ArbiterLeases_messages :
    [reqMsg, coldMsg, otherMsg, strangeMsg].all (fun m => leaseMsgOf m.bytes == some m) = true := by decide +kernel
theorem witness_ArbiterLeases_heard (type role : Nat) (m : LeaseMsg) (f : ArbEntry → ArbEntry)
    (ht : stTypeListed type = true) (hb : type < 256) (hr : role < 4) (hm : leaseMsgOf m.bytes = some m)
    (he : (arbOn f).dev.arbEntry m.station = some 15) (hk : ((arbOn f).dev.arb 15).key = 7) :
    ToArbiter (arbOn f) (arbFrame type role m) type m 15 (stHeader type role 0 (sealed type role 0 m.bytes)) := by
  refine ⟨rfl, rfl, he, 5, ?_, rfl⟩
  rw [show ((arbOn f).dev.arb 15).key = 7 from hk]
  exact leaseHeard _ _ _ _ _ (by rw [show (arbOn f).dev.net.cfg.ip = 0x0A000001 from rfl]; decide) ht hb hr rfl hm
theorem witness_ArbiterLeases_strange : (arbOn id).dev.arbEntry strangeMsg.station = none ∧
    LeaseHeard (arbOn id) (arbFrame 0x40 0 strangeMsg) 0x40 strangeMsg 7 5
      (stHeader 0x40 0 0 (sealed 0x40 0 0 strangeMsg.bytes)) :=
  ⟨by decide +kernel, leaseHeard _ _ _ _ _ (by decide +kernel) rfl (by decide) (by decide) rfl (by decide +kernel)⟩
/-- A held entry: granted 50 ms ago. -/
def arbHeld (age : Nat) : State :=
  arbOn fun x => { x with
    state := .held, holder := 0x99, heldEpoch := 9, epoch := 9, g := some (arbNow - age)
    pending := [⟨0x55, 0x0A000005, 5, 3, false, false, arbNow - 333000⟩] }
theorem witness_ArbiterLeases_states : (arbOn id).dev.arbEntry 0x11223344 = some 15 ∧
    (arbHeld 500000).dev.arbEntry 0x11223344 = some 15 ∧ (arbOn id).dev.arbOpen 15 = true ∧
    (arbHeld 1010199).dev.arbOpen 15 = false ∧ (arbHeld 1010200).dev.arbOpen 15 = true ∧
    (((arbHeld 1).dev.arb 15).pending.find? (fun y => y.candidate == 0x55)).isSome = true ∧
    (arbHeld 1).dev.reached (arbNow - 333000 + 1000000 / 3) = true ∧
    (arbOn id).dev.sys.role = .arbiter := by decide +kernel
theorem witness_ArbiterLeases_mac : authParse (station 0x40 0 0 []) (stHeader 0x40 0 0 []) (arbOn id).dev = none ∧
    Heard (arbOn id) (station 0x40 0 0 []) (stHeader 0x40 0 0 []) 0x40 ∧
    Heard (arbOn id) (station 0x45 0 0 []) (stHeader 0x45 0 0 []) 0x45 :=
  ⟨by decide +kernel, heard _ 0x40 0 0 [] (by decide +kernel) rfl (by decide) (by decide) (by decide),
    heard _ 0x45 0 0 [] (by decide +kernel) rfl (by decide) (by decide) (by decide)⟩
theorem witness_ArbiterLeases_expiry : after (.leaseReqPendingExpiry 15 0x55) (arbHeld 1) (fun t =>
    (t.dev.arb 15).pending == [] && (t.dev.arb 15).denials == 1) = true := by decide +kernel
theorem witness_ArbiterLeases_ready : after (.arbiterGrantReady 15) (arbHeld 1010200) (fun t =>
    (t.dev.arb 15).holder == 0x55 && (t.dev.arb 15).epoch == 10 && (t.dev.arb 15).g == some arbNow &&
      raised t .leaseGranted 0xA00) = true := by decide +kernel
/-- The quiet period of 101.02 ms after the start ends within the base tick of 101 ms. -/
theorem witness_ArbiterLeases_quiet :
    let s := fun n => withDev (arbOn fun x => { x with state := .quiet }) fun d => { d with tick := n }
    after (.arbiterQuietEnd 15) (s 2020) (fun t => (t.dev.arb 15).state == .free) = true ∧
    after (.arbiterQuietEnd 15) (s 2019) (fun t => (t.dev.arb 15).state == .quiet) = true := by decide +kernel
/-- Two COLD requests; the second prefers. -/
theorem witness_ArbiterLeases_cold :
    after (.coldWaitExpiry 15) (arbOn fun x => { x with
      state := .collecting, cold := [⟨0x55, 1, 5, 3, true, false, arbNow - 200000⟩, ⟨0x66, 2, 5, 3, true, true, arbNow⟩] }) (fun t =>
      (t.dev.arb 15).holder == 0x66 && (t.dev.arb 15).cold == [] && (t.dev.arb 15).denials == 1) = true := by decide +kernel
theorem witness_ArbiterLeases_renew : ((arbHeld 999999).dev.arb 15).holder = reqMsg.candidate ∧
    ((arbHeld 999999).dev.arb 15).heldEpoch = reqMsg.epoch ∧ arbNow < arbNow - 999999 + leaseLen 100 ∧
    ¬arbNow < arbNow - 1000000 + leaseLen 100 := by decide +kernel
def arbBytesIn : Bytes := [0, 15, 1, 7] ++ leBytes 4 0x11223344 ++ leBytes 4 2000 ++ leBytes 2 60 ++ zeros 10
theorem witness_ArbiterLeases_ARBITER_CONFIG : ([0, 1].all fun a =>
    let p := if a == 1 then [1, 15] ++ zeros 22 else arbBytesIn
    firstFail (arbTests (arbOn id).dev p) == none && runs .arbiterConfig 0x0805 p (arbOn id) fun _ t =>
      gives t stOk && (t.dev.arb 15).epoch == 8 && (a == 1 || (t.dev.arb 15).leaseMs == 2000)) = true := by decide +kernel

/-- A standby that follows its active counterpart over port P, with an image of two timers, in a standby state. -/
def follower (st : StandbyState) : State :=
  withDev (pairOn fun r => { r with
    standby := st, pathUp := true, shapeOk := true
    firn := { r.firn with synced := true, rxSeq := 0xFFFFFFFF, pass := 8 } }) fun d => { d with
      prog := { d.prog with image := some { imageId := 9, nT := 2 } } }
/-- The same with the active role. -/
def streamer : State := withDev (follower .none) fun d => { d with sys := { d.sys with role := .active } }

theorem witness_StreamAndTakeover_shape :
    (((follower .ready).dev.red.cfg.paired = true ∧ (follower .ready).dev.master = true) ∧
      (follower .unpaired).dev.follows = true) ∧
    after (.shapeRecordExchange false []) (follower .ready) (fun t => t.dev.red.standby == .unpaired && !t.dev.red.pathUp) ∧
    after (.shapeRecordExchange true [(0, 1)]) (follower .ready) (fun t => t.dev.red.standby == .unpaired &&
      raised t .checkpointGap 3) ∧
    after (.shapeRecordExchange true ((follower .unpaired).dev.shape.map fun v => (v, 1))) (follower .unpaired) (fun t =>
      t.dev.red.standby == .syncing && t.dev.red.shapeOk) := by decide +kernel
theorem witness_StreamAndTakeover_notice : (follower .ready).dev.candidate = true ∧ base.dev.follows = false ∧
    after (.pairNoticeReceived .fence) (follower .ready) (fun t => t.dev.red.lease.state == .requesting &&
      t.dev.red.lease.reqNo == 1) = true := by decide +kernel
/-- Output 31 alone, switched off in the safe state. -/
theorem witness_StreamAndTakeover_forward : Claims.Pass (doCfgTests [31, 1, 0, 0, 0, 0, 1, 0]) := by
  unfold Claims.Pass; decide +kernel

/-- A delta of task 7 with timer 1, under STREAM_SEQ 0 after 2³² − 1, and under one further on. -/
def deltaFrame (seq : Word) : Bytes :=
  beBytes 4 seq.toNat ++ [7, 1] ++ beBytes 2 0 ++ beBytes 4 5 ++ zeros 4 ++ (DeltaRec.bytes ⟨1, 1, 0xA5 :: zeros 23⟩)
theorem witness_StreamAndTakeover_records : ckSize 1 = 24 ∧
    parseRecords (deltaFrame 0).length (DeltaRec.bytes ⟨1, 1, 0xA5 :: zeros 23⟩) = some [⟨1, 1, 0xA5 :: zeros 23⟩] := by
  decide +kernel
theorem witness_StreamAndTakeover_delta : (follower .ready).dev.gligil = true ∧ (0 : Word) = 0xFFFFFFFF + 1 ∧
    after (.firnDeltaReceived .portP (deltaFrame 0)) (follower .ready) (fun t => t.dev.red.firn.rxSeq == 0 &&
      (Image.ckRead { imageId := 9, nT := 2 } t.dev.red.replica 1 1) == 0xA5 :: zeros 23 &&
      vget t.dev.red.firn.lastDelta 7 == 100000) = true := by decide +kernel
theorem witness_StreamAndTakeover_ahead : seqGreater 1 0xFFFFFFFF = true ∧
    after (.firnDeltaReceived .portP (deltaFrame 1)) (follower .ready) (fun t => t.dev.red.firn.rxSeq == 0xFFFFFFFF &&
      t.dev.red.firn.staging.map (·.1) == [1] && after .firnGapTimeout t fun u =>
        u.dev.red.standby == .syncing && u.dev.red.firn.gaps == 1 && u.dev.red.firn.rxSeq == 1 &&
          happened u .checkpointGap) = true := by decide +kernel
theorem witness_StreamAndTakeover_behind : seqGreater 0xFFFFFFFF 0xFFFFFFFF = false := by decide +kernel
theorem witness_StreamAndTakeover_segment :
    after (.firnSegmentReceived .portP (beBytes 4 0 ++ beBytes 4 3 ++ beBytes 4 1 ++ beBytes 2 2 ++ zeros 2 ++ [0xAA, 0xBB]))
      (follower .ready) (fun t => t.dev.red.firn.rxSeq == 0 && t.dev.red.firn.rxPass == 3 &&
        t.dev.red.replica.take 4 == [0, 0xAA, 0xBB, 0]) = true := by decide +kernel
theorem witness_StreamAndTakeover_active : (streamer.dev.streams = true ∧ streamer.dev.prog.image.isSome = true) ∧
    after .firnPassStart streamer (fun t => t.dev.red.firn.pass == 9 && t.dev.red.firn.passStart == 100000) ∧
    after .firnAckSend (follower .ready) (fun t => t.dev.red.firn.sinceAck == 0 && t.dev.out.length == 1) ∧
    after (.firnAckReceived 5 .ready) streamer (fun t => t.dev.red.firn.acked == 5 && t.dev.red.peerState == .ready) := by
  decide +kernel
/-- A standby that loads: the active device's task 7 ran 10 ms ago, and is enabled. -/
def loading : State := withDev (follower .loading) fun d => { d with
  prog := { d.prog with tasks := vmod d.prog.tasks 7 fun k => { k with cfg := { k.cfg with enable := true, period := 200, phase := 3 } } }
  red := { d.red with firn := { d.red.firn with lastDelta := vset d.red.firn.lastDelta 7 99800 } } }
theorem witness_StreamAndTakeover_load : (loading.dev.peerRuns 99800 7 = true ∧ loading.dev.stopped = false) ∧
    after .takeoverLoadDone loading (fun t => t.dev.red.standby == .warmup && (t.dev.task 7).st == .starting &&
      (t.dev.task 7).firstT0 == 100003 && t.dev.prog.origin == 100000) ∧
    after .takeoverLoadDone (follower .loading) (fun t => t.dev.red.standby == .none) := by decide +kernel
theorem witness_StreamAndTakeover_switchover :
    let s := withDev streamer fun d => { d with red := { d.red with switchAt := some 100000 } }
    after .switchoverFence s (fun t => t.dev.sys.fenced && raised t .fenced 4 && t.dev.red.switchAt == none) = true := by
  decide +kernel
theorem witness_StreamAndTakeover_shadow :
    let s := (follower .ready)
    (let d := s.dev.shadowDev { imageId := 9, nT := 2 } 7 5 1 [] ; firstDiff ((shadowRun { imageId := 9, nT := 2 } 7 d).cycleRecords { imageId := 9, nT := 2 } 7) []) = none ∧
    after (.shadowInputReceived 7 5 1 [] [] true) s (fun t => t.dev.red.shadow.compared == 1) ∧
    after (.shadowInputReceived 7 5 1 [] [] false) s (fun t => t.dev.red.shadow.skipped == 1) := by decide +kernel
theorem witness_StreamAndTakeover_timeout :
    let s := withDev streamer fun d => { d with red := { d.red with shadow := { d.red.shadow with
      state := 1, startTick := 60000, until_ := 100000 } } }
    after .shadowCompareTimeout s (fun t => t.dev.red.shadow.state == 2 && t.dev.red.shadow.ranS == 2) = true := by
  decide +kernel
/-- A holder whose standby is READY. -/
def readyPair : State := withDev streamer fun d => { d with
  red := { d.red with peerState := .ready, lease := { d.red.lease with state := .holding } } }
theorem witness_StreamAndTakeover_commands :
    (readyPair.dev.master = true ∧ readyPair.dev.moving = false) ∧
    runs .switchoverRequest 0x0802 (leBytes 4 0x5A5A0802 ++ zeros 4) readyPair (fun s t =>
      answers t stOk (leBytes 8 s.dev.commitAhead) && t.dev.red.switchAt == some s.dev.commitAhead) ∧
    runs .shadowCompareStart 0x0803 (leBytes 4 86400 ++ [1, 0, 0, 0]) readyPair (fun _ t => answers t stOk (leBytes 8 100000) &&
      t.dev.red.shadow.until_ == 100000 + 1728000000) ∧
    runs .shadowCompareStop 0x0804 [1, 0, 0, 0] readyPair (fun s t => gives t stOk && t.dev.red == s.dev.red) ∧
    runs .shadowCompareStop 0x0804 [0, 0, 0, 0] (withDev readyPair fun d => { d with red := { d.red with
      shadow := { d.red.shadow with state := 1 } } }) (fun _ t => gives t stOk && t.dev.red.shadow.state == 3) := by
  decide +kernel

/-! ## Memory integrity (chapter 11) -/

/-- The example of R441: the scrubber stands at step 6,660 of its pass. -/
def scrubbing (f : Integ → Integ) : State :=
  withDev base fun d => { d with tick := 2000000000, integ := f { d.integ with weevilOffset := 6660 * 1024 } }
def exampleByte : ByteFault := { offset := 0x234 }
/-- Copy A fails at 0x681234: PRIV_CORRECTED with detail 0x01681234; and the same byte 60 s later: REPAIR_PENDING with
detail 0x00903401. -/
theorem test_weevilStep_example :
    after (.weevilStep [exampleByte] false) (scrubbing id) (fun t => raised t .privCorrected 0x01681234 &&
      t.dev.integ.weevil.corrected == 1 && !happened t .repairPending &&
      after (.weevilStep [exampleByte] false) (withDev t fun d => { d with
          tick := d.tick + 1200000, integ := { d.integ with weevilOffset := 6660 * 1024 } }) fun u =>
        raised u .repairPending 0x00903401 && u.dev.integ.candidates == [⟨1, 0, 52, false, 72, 1⟩]) = true := by
  decide +kernel
theorem witness_MemoryIntegrity_weevil : exampleByte.offset < 1024 ∧ exampleByte.badA ≠ exampleByte.badB ∧
    0x800000 ≤ 8191 * 1024 + 1024 ∧
    after (.weevilStep [] false) (scrubbing fun g => { g with weevilOffset := 8191 * 1024 }) (fun t =>
      t.dev.integ.weevilOffset == 0 && t.dev.integ.weevilPasses == 1) = true := by decide +kernel
/-- Pass 3 runs over 2 KiB and stands at its second, with two bytes wrong in both copies; and ABORT waits. -/
def scrubbing3 (abort : Bool) (at_ : Nat) : State :=
  scrubbing fun g => { g with passes := vset g.passes 3 {
    state := .running, memory := 1, offset := 0x780000, length := 2048, at_ := at_, errors := 2, abort := abort } }
theorem witness_MemoryIntegrity_pass :
    after (.scrubPassStep 3 [] false) (scrubbing3 false 1024) (fun t => (vget t.dev.integ.passes 3).state == .done &&
      raised t .scrubDone (3 + 8 + 0x20000)) ∧
    after (.scrubPassStep 3 [] false) (scrubbing3 false 0) (fun t => (vget t.dev.integ.passes 3).at_ == 1024) ∧
    after (.scrubPassStep 3 [] true) (scrubbing3 true 1024) (fun t => (vget t.dev.integ.passes 3).state == .aborted &&
      raised t .scrubDone (3 + 4 + 8 + 0x20000)) := by decide +kernel
theorem witness_MemoryIntegrity_walk : base.dev.pwr.phase = .running ∧
    after (.supervisorMemoryWalk [{ offset := 5, badB := true }]) base (fun t => t.dev.pwr.phase == .inReset &&
      t.dev.pwr.kind == .lockstep) = true := ⟨rfl, by decide +kernel⟩
/-- The last KiB of the store, with the default interval of 7,324 µs: 8 ms. -/
def scrubBytesIn : Bytes := [1, 0, 0, 0] ++ leBytes 4 0x7FFC00 ++ leBytes 4 1024 ++ zeros 4
theorem witness_MemoryIntegrity_SCRUB_RANGE :
    (memAbsent 1 0 (scrubbing id).dev = false ∧ freePass (scrubbing id).dev = some 0 ∧ freePass (scrubbing3 false 0).dev = some 0) ∧
    Claims.Pass (scrubTests (scrubbing id).dev scrubBytesIn) ∧
    runs .scrubRange 0x0900 scrubBytesIn (scrubbing id) (fun _ t => answers t stOk ([0, 0, 0, 0] ++ leBytes 4 8) &&
      (vget t.dev.integ.passes 0).length == 1024) = true := by unfold Claims.Pass; decide +kernel
/-- Released, aborting, read, and the functional log released. -/
theorem witness_MemoryIntegrity_SCRUB_SUMMARY :
    let done := scrubbing fun g => { g with passes := vset g.passes 3 { state := .done, length := 2048 } }
    ((firstFail (summaryTests (scrubbing3 false 0).dev [3, 2, 0, 0]) == none) &&
      (firstFail (summaryTests done.dev [3, 1, 0, 0]) == none) && (firstFail (summaryTests done.dev [0xFF, 0, 0, 0]) == none) &&
      (firstFail (summaryTests done.dev [0xFE, 1, 0, 0]) == none)) = true ∧
    runs .scrubSummary 0x0901 [3, 2, 0, 0] (scrubbing3 false 0) (fun _ t => gives t stOk && (vget t.dev.integ.passes 3).abort) ∧
    runs .scrubSummary 0x0901 [3, 1, 0, 0] done (fun _ t => gives t stOk && vget t.dev.integ.passes 3 == {}) ∧
    runs .scrubSummary 0x0901 [0xFF, 0, 0, 0] done (fun s t => gives t stOk && t.dev.integ == s.dev.integ) := by
  decide +kernel
theorem witness_MemoryIntegrity_WEEVIL_CONFIG :
    ([10, 10000].all fun n => runs .weevilConfig 0x0902 ([0, 0, 0, 0] ++ leBytes 4 n) base fun _ t =>
      answers t stOk (weevilBytes t.dev) && t.dev.integ.interval == n) ∧
    runs .weevilConfig 0x0902 ([1, 0, 0, 0] ++ zeros 4) base (fun s t => answers t stOk (weevilBytes s.dev)) := by
  decide +kernel

/-! ## Time and history (chapter 12) -/

/-- A running RTC at the end of a second, of 1 ppm too slow a crystal. -/
def rtcOn (f : Rtc → Rtc) : State :=
  withDev base fun d => { d with rtc := f { d.rtc with oscRun := true, sec := 0x3B29C78D, frac := 0xFFFFFFFFFFFFFF } }
/-- A discipline that steers. -/
def steered (f : Rtc → Rtc) : State :=
  withDev (rtcOn fun r => f { r with discipline := true }) fun d => { d with
    net := { d.net with ptp := { d.net.ptp with locked := true } } }

theorem witness_RtcAndCalendar_tick : (rtcOn id).dev.rtc.trim = 0 ∧ rtcIncrement 0 = 512 * 2 ^ 32 ∧
    after .rtcTick (rtcOn id) (fun t => t.dev.rtc.sec == 0x3B29C78E && t.dev.rtc.frac == 512 * 2 ^ 32 - 1) ∧
    after .rtcTick (rtcOn fun r => { r with sec := 0xFFFFFFFFFF, trim := -500000 }) (fun t => t.dev.rtc.sec == 0) := by
  decide +kernel
theorem witness_RtcAndCalendar_load :
    after .rtcLoad (rtcOn fun r => { r with pending := some (0x123456789ABCDE, .ctrl) }) (fun t =>
      t.dev.rtc.timeWord == 0x123456789ABCDE && happened t .timeStep && !t.dev.rtc.osf) = true := by decide +kernel
theorem witness_RtcAndCalendar_commit : ((rtcOn id).dev.discActive = false ∧ (steered id).dev.discActive = true) ∧
    after .rtcCommit (rtcOn fun r => { r with setSec := 0xFFFFFFFFFF, setFrac := 5 }) (fun t =>
      t.dev.rtc.pending == some (0xFFFFFFFFFF000005, .ctrl)) = true := by decide +kernel
theorem witness_RtcAndCalendar_trim :
    after (.rtcTrimWrite (BitVec.ofInt 32 (-500000))) (rtcOn id) (fun t => t.dev.rtc.trim == -500000) ∧
    after (.rtcTrimWrite 500001) (rtcOn id) (fun t => t.dev.rtc.trim == 0 && t.dev.rtc.commitRefused) ∧
    after (.rtcTrimWrite 1) (steered id) (fun t => t.dev.rtc.trim == 0 && t.dev.rtc.commitRefused) := by decide +kernel
theorem witness_RtcAndCalendar_set :
    after (.rtcSetWrite 0 0x1FF) (rtcOn id) (fun t => t.dev.rtc.setSec == 0xFF00000000) ∧
    after (.rtcSetWrite 2 5) (rtcOn fun r => { r with pending := some (1, .ptp) }) (fun t => t.dev.rtc.setFrac == 0) := by
  decide +kernel
theorem witness_RtcAndCalendar_leap :
    let s := rtcOn fun r => { r with leap := 5, leapPend := some (6, 0x3B29C78D000000) }
    (0x3B29C78D000000 : DWord).toNat ≤ s.dev.rtc.timeWord.toNat ∧
    after .leapChangeApply s (fun t => t.dev.rtc.leap == 6 && t.dev.rtc.leapPend == none) := by decide +kernel
/-- A step of more than 1 ms, and a smaller one. -/
theorem witness_RtcAndCalendar_discipline :
    (2 ^ 24 < 1000 * (((steered id).dev.rtc.timeWord.toNat : Int) - (0x3B29C78E008000 : DWord).toNat).natAbs ∧
      1000 * (((steered id).dev.rtc.timeWord.toNat : Int) - (0x3B29C78E000100 : DWord).toNat).natAbs ≤ 2 ^ 24) ∧
    after (.rtcDisciplineCompare 0x3B29C78E008000) (steered id) (fun t =>
      t.dev.rtc.pending == some (0x3B29C78E008000, .ptp)) = true := by decide +kernel
/-- 2031-06-15 08:30:00 with FRACTION 0x123456, and its count under a leap offset of 5 s (the example of R478). -/
def june15 : Bytes := leBytes 2 2031 ++ [6, 15, 8, 30, 0, 0] ++ leBytes 4 0x123456
theorem witness_RtcAndCalendar_calendar : (june15.length = 12 ∧ Claims.Pass (calendarTests june15)) ∧
    runs .timeSetCalendar 0x0A00 june15 (rtcOn fun r => { r with leap := 5 }) (fun _ t => working t &&
      t.dev.rtc.pending == some (0x3B29C78D123456, .calendar)) = true := by unfold Claims.Pass; decide +kernel
/-- The count of the example shows 08:30:00 of Sunday the 15th. -/
theorem witness_RtcAndCalendar_TIME_GET_CALENDAR :
    let s := rtcOn fun r => { r with leap := 5, frac := 0 }
    utcOk (utcOf s.dev.rtc s.dev.rtc.timeWord.toNat) = true ∧
    runs .timeGetCalendar 0x0A01 [] s (fun _ t =>
      answers t stOk (leBytes 8 0x3B29C78D000000 ++ leBytes 2 2031 ++ [6, 15, 8, 30, 0, 7] ++ zeros 4 ++ [5, 0] ++ [1, 0])) = true := by
  decide +kernel
theorem witness_RtcAndCalendar_CONVERT :
    let s := rtcOn fun r => { r with leap := 5 }
    runs .convert 0x0A02 (zeros 4 ++ leBytes 8 0x3B29C78D000000 ++ zeros 12) s (fun _ t =>
      answers t stOk (leBytes 8 0x3B29C78D000000 ++ leBytes 2 2031 ++ [6, 15, 8, 30, 0, 7] ++ zeros 4 ++ [5, 0, 0, 0])) ∧
    runs .convert 0x0A02 ([1] ++ zeros 11 ++ june15) s (fun _ t =>
      answers t stOk (leBytes 8 0x3B29C78D123456 ++ leBytes 2 2031 ++ [6, 15, 8, 30, 0, 7] ++ leBytes 4 0x123456 ++ [5, 0, 0, 0])) := by
  decide +kernel
/-- 29 February of 2100 is refused, of 2400 accepted. -/
theorem test_calendarTests :
    firstFail (calendarTests (leBytes 2 2100 ++ [2, 29] ++ zeros 8)) = some stBadParam ∧
    firstFail (calendarTests (leBytes 2 2400 ++ [2, 29] ++ zeros 8)) = none ∧
    firstFail (calendarTests (leBytes 2 3000 ++ [2, 28] ++ zeros 8)) = some stRange := by decide +kernel
theorem witness_RtcAndCalendar_LEAP_OFFSET_SET :
    runs .leapOffsetSet 0x0A06 (leBytes 2 (BitVec.ofInt 16 (-100)).toNat ++ [1, 0] ++ leBytes 8 0x3B29C78F000000 ++ zeros 4)
      (rtcOn id) (fun _ t => answers t stOk [] && t.dev.rtc.leapPend == some (-100, 0x3B29C78F000000)) = true := by
  decide +kernel

/-- The example of R481: LOW 4 mA, WIDTH 0.5 mA, a sample of 12.345 mA falls into bin 17. -/
theorem test_histAdd_example :
    vget (histAdd { value := 809042, quality := 0 } { low := 262144, width := 32768 }).bins 17 = 1 ∧
    vget (histAdd { value := 262143, quality := 0 } { low := 262144, width := 32768 }).bins 0 = 1 ∧
    vget (histAdd { value := 0x7FFFFFFF, quality := 0x7F } { low := 0x80000000, width := 1 }).bins 31 = 1 ∧
    (histAdd { value := 5, quality := 0x80 } { low := 0, width := 1 }).badq = 1 := by decide +kernel
theorem witness_HistogramsAndExtremes : qUsable 0x80 = false ∧ qUsable 0x7F = true ∧ 0 < (1 : Word).toInt ∧
    ((extAdd { value := 5 } { value := 5, opSec := 9 } { seen := true, min := { value := 6 }, max := { value := 5 } }).min.opSec = 9 ∧
      (extAdd { value := 5 } { value := 5, opSec := 9 } { seen := true, min := { value := 6 }, max := { value := 5 } }).max.opSec = 0) := by
  decide +kernel
/-- A recorder with histogram 63 bound, one log entry, and a program of eight Q elements. -/
def histOn (f : HistRec → HistRec) : State :=
  withDev base fun d => { d with
    prog := { d.prog with image := some { imageId := 9, nQ := 8 } }
    hist := f { d.hist with
      opSeconds := 7, powerCycles := 3, hists := [(63, { bind := { enabled := true }, badq := 5 })]
      log := [{ event := 0 }] } }
def histBytesIn (on : Byte) : Bytes :=
  [0, 63, on, 1] ++ leBytes 2 7 ++ leBytes 2 0xFFFF ++ leBytes 4 262144 ++ leBytes 4 32768 ++ zeros 8
theorem witness_HistoryRecorder_config :
    (Claims.Pass (histCfgTests (histOn id).dev (histBytesIn 1)) ∧ Claims.Pass (histCfgTests (histOn id).dev (histBytesIn 0))) ∧
    (mget (histOn id).dev.hist.hists 63).isSome = true ∧
    runs .historyConfig 0x0A03 (histBytesIn 1) (histOn id) (fun _ t => answers t stOk [] &&
      (mget t.dev.hist.hists 63).any fun h => h.bind.decim == 0xFFFF && h.bind.element == 7 && h.opSec == 7 && h.cycles == 3) ∧
    runs .historyConfig 0x0A03 (histBytesIn 0) (histOn id) (fun _ t => answers t stOk [] &&
      (mget t.dev.hist.hists 63).any fun h => !h.bind.enabled && h.badq == 5) := by unfold Claims.Pass; decide +kernel
theorem witness_HistoryRecorder_read :
    ([(0, 63), (1, 127), (2, 0)].all fun (x : Nat × Nat) =>
      runs .historyRead 0x0A04 ([BitVec.ofNat 8 x.1, 0] ++ leBytes 2 x.2 ++ leBytes 2 1 ++ zeros 2) (histOn id) fun s t =>
        answers t stOk (histObject x.1 x.2 1 s.dev)) = true := by decide +kernel
theorem witness_HistoryRecorder_clear : (histOn id).dev.pfwFlush = false ∧
    runs .historyClear 0x0A05 ([2, 0] ++ leBytes 4 0x5A5A0A05 ++ zeros 2) (histOn id) (fun _ t => answers t stOk [] &&
      t.dev.hist.log == [] && t.dev.hist.clearFlush) = true := by decide +kernel
theorem witness_HistoryRecorder_flush :
    after .historyPeriodicFlush (histOn fun h => { h with dirty := [3] }) (fun t =>
      (t.dev.hist.flush.any fun f => f.kind == 1 && f.segments.contains 0 && f.segments.contains 3) &&
      after (.historyFlushComplete true) t fun u => u.dev.hist.flush.isNone && u.dev.hist.flushSeq == 1 &&
        u.dev.hist.valid.contains 3 && happened u .historyFlushed) ∧
    after .historyClearFlush (histOn fun h => { h with clearFlush := true }) (fun t =>
      t.dev.hist.flush.any fun f => f.kind == 2) := by decide +kernel

/-! ## The panel (chapter 13) -/

/-- A 16 by 8 panel of one region with the default band. -/
def panelOn (f : Panel → Panel) : State :=
  withDev base fun d => { d with tick := 1000, panel := f { d.panel with set := { d.panel.set with bands := [{}] } } }
/-- A bistable pass on row 7, in a phase. -/
def passOn (p : Machine.Pass → Machine.Pass) : State :=
  panelOn fun x => { x with
    state := .updating, driveMode := 2, settled := true, set := { x.set with mode := 2 }
    pass := some (p { region := 0, bandNo := 0, timing := { te := 3 }, row := 7 }) }

theorem witness_AnnunciatorPanel_panel : base.dev.hasPanel = true ∧
    (withDev base fun d => { d with sys := { d.sys with ident := 0 } }).dev.hasPanel = false := by decide +kernel
theorem witness_AnnunciatorPanel_rails :
    after .panelRailsSettled (panelOn fun x => { x with state := .railsUp, driveMode := 1, pendingMask := 5 }) (fun t =>
      t.dev.panel.state == .showing && raised t .panelUpdateDone (16 + 0x500)) ∧
    after .panelRailsSettled (panelOn fun x => { x with state := .railsUp, driveMode := 2 }) (fun t =>
      t.dev.panel.state == .updating && t.dev.panel.pass.any fun p => p.region == 0 && p.start == 1000 && !p.wait) := by
  decide +kernel
theorem witness_AnnunciatorPanel_fault :
    after (.panelRailFaultDetect true true 2 0xFFFF) (panelOn fun x => { x with state := .idle }) (fun t =>
      t.dev.panel.state == .fault && raised t .panelRailFault (1 + 2 + 8 + 0xFFFF0000)) ∧
    after (.panelRailFaultDetect false true 1 0) (panelOn fun x => { x with state := .railsUp }) (fun t =>
      t.dev.panel.state == .fault) := by decide +kernel
theorem witness_AnnunciatorPanel_discharge :
    after .panelDischargeDone (panelOn fun x => { x with state := .discharge, disCause := .retain }) (fun t =>
      t.dev.panel.state == .retained && raised t .panelUpdateDone 8) ∧
    after .panelDischargeDone (panelOn fun x => { x with state := .discharge }) (fun t => t.dev.panel.state == .off) := by
  decide +kernel
theorem witness_AnnunciatorPanel_frame :
    let s := fun f => panelOn fun x => f { x with state := .showing, driveMode := 1, polarity := true }
    after .panelFrameStart (s id) (fun t => !t.dev.panel.polarity && t.dev.panel.state == .showing) ∧
    after .panelFrameStart (s fun x => { x with stopReq := some .pfw }) (fun t => t.dev.panel.state == .discharge &&
      t.dev.panel.disCause == .pfw) := by decide +kernel
theorem witness_AnnunciatorPanel_select :
    after (.bistableRowPhaseEnd false) (passOn fun p => { p with phase := .select }) (fun t =>
      t.dev.panel.pass.any fun p => p.phase == .evolve && p.phaseTick == 1000) = true := by decide +kernel
/-- The end of row 7: it stands on the glass, and no row is left. -/
theorem witness_AnnunciatorPanel_evolve :
    let s := passOn fun p => { p with phase := .evolve, pixels := [3, 2, 1] }
    s.dev.panel.rowsFrom 0 8 = [] ∧ after (.bistableRowPhaseEnd false) s (fun t =>
      mget t.dev.panel.glass 7 == some [3, 2, 1] && (t.dev.panel.pass.any fun p => p.done) &&
      after .panelPassEnd t fun u => u.dev.panel.state == .idle && raised u .panelUpdateDone (50 * 0x10000)) := by
  decide +kernel
theorem witness_AnnunciatorPanel_bad :
    after (.bistableRowPhaseEnd true) (passOn id) (fun t => t.dev.panel.badRows == [7] &&
      raised t .panelCrcMismatch (7 + 128 + 256)) = true := by decide +kernel
/-- Row 7 has a check c (that of its bytes, say): it goes from RESET to SELECT where c is their CRC. -/
theorem witness_AnnunciatorPanel_check (c : Word) :
    let s := withDev (passOn id) fun d => { d with panel := { d.panel with rowChecks := vset d.panel.rowChecks 7 c } }
    vget s.dev.panel.rowChecks 7 = c ∧ s.dev.panel.state = .updating ∧ s.mem = State.reset.mem := ⟨rfl, rfl, rfl⟩
theorem witness_AnnunciatorPanel_temperature :
    after (.ptempMeasure 1250) (panelOn fun x => { x with temps := [1, 2, 3, 4, 5, 6, 7, 8] }) (fun t =>
      t.dev.panel.temps == [1250, 1, 2, 3, 4, 5, 6, 7]) = true := by decide +kernel
/-- 128 by 64 pixels with a region from row 63. -/
def panelBytesIn : Bytes := [2, 1, 128, 64, 63] ++ List.replicate 6 0xFF ++ [0] ++ leBytes 2 200 ++ zeros 10
theorem witness_AnnunciatorPanel_PANEL_CONFIG : Claims.Pass (panelCfgTests (panelOn id).dev panelBytesIn) ∧
    runs .panelConfig 0x0B00 panelBytesIn (panelOn id) (fun s t => answers t stOk [] &&
      t.dev.panel.set == panelSetOf panelBytesIn s.dev.panel.set.bands) = true := by unfold Claims.Pass; decide +kernel
theorem witness_AnnunciatorPanel_PANEL_FRAME_WRITE : Memory.wf 0 (panelOn id).mem.drawing = true ∧
    runs .panelFrameWrite 0x0B05 (leBytes 2 8191 ++ leBytes 2 1 ++ [0xA5]) (panelOn id) (fun _ t => answers t stOk [] &&
      t.mem.drawing == [(8191, 0xA5)]) = true := by decide +kernel
/-- A frame commit under the CRC of the drawing buffer, of a panel that shows and of one that is off. -/
theorem witness_AnnunciatorPanel_PANEL_FRAME_COMMIT (st : PanelState) :
    let s := panelOn fun x => { x with state := st }
    let p := leBytes 4 (crc32c (Memory.readN 0 s.mem.drawing 0 8192)).toNat ++ zeros 4
    Waits (job 0x0B01 p s) (.ch 0) 0x0B01 p ∧ s.dev.panel.unwritten = [] ∧ s.dev.panelDma = false ∧
      s.dev.panel.exchange = none ∧ s.dev.panel.locked = false := by
  intro s p
  generalize hp : p = q
  have hl : q.length = 8 := by rw [← hp]; simp [p, leBytes_length, zeros]
  refine ⟨⟨{ header := leBytes 2 0x0B01 ++ zeros 2 ++ leBytes 2 q.length ++ zeros 10, payload := q }, rfl, ?_, ?_, rfl, rfl,
    rfl, rfl⟩, rfl, rfl, rfl, rfl⟩ <;> rw [hl] <;> rfl
theorem witness_AnnunciatorPanel_PANEL_REGION_UPDATE :
    runs .panelRegionUpdate 0x0B02 [1, 0, 0, 0] (passOn id) (fun _ t => answers t stOk (panelStatus t.dev) &&
      t.dev.panel.pendingMask == 1) ∧
    runs .panelRegionUpdate 0x0B02 [1, 0, 0, 0] (panelOn fun x => { x with set := { x.set with mode := 1 } }) (fun _ t =>
      answers t stNotPermitted []) := by decide +kernel
theorem witness_AnnunciatorPanel_PANEL_RETAIN_OFF :
    runs .panelRetainOff 0x0B03 [0, 0, 0, 0] (passOn id) (fun _ t => answers t stOk [] &&
      t.dev.panel.stopReq == some .retain) ∧
    runs .panelRetainOff 0x0B03 [0, 0, 0, 0] (panelOn fun x => { x with state := .railsUp, stopReq := some .pfw }) (fun _ t =>
      working t && t.dev.panel.stopReq == some .pfw) ∧
    runs .panelRetainOff 0x0B03 [1, 0, 0, 0] (panelOn fun x => { x with state := .retained }) (fun _ t => answers t stOk [] &&
      t.dev.panel.state == .railsUp && t.dev.panel.keepPending) := by decide +kernel
def bandBytesIn : Bytes := [1, 0, 0, 0] ++ leBytes 2 0xFFFF ++ leBytes 2 320 ++ leBytes 2 200 ++ leBytes 2 1000 ++ leBytes 2 40 ++
  leBytes 2 1000 ++ leBytes 2 320 ++ leBytes 2 320 ++ leBytes 2 320 ++ zeros 6 ++ zeros 8
theorem witness_AnnunciatorPanel_PANEL_BANDS : (bandBytesIn.length = 4 + 32 * 1 ∧
      allZero bandBytesIn 28 8 = true ∧ (bandAt bandBytesIn 4).bad = false ∧ rising [(bandAt bandBytesIn 4).upper] = true ∧
      (bandAt bandBytesIn 4).upper = 0xFFFF) ∧
    runs .panelBands 0x0B04 bandBytesIn (panelOn id) (fun _ t => answers t stOk (panelStatus t.dev) &&
      t.dev.panel.set.bands == [bandAt bandBytesIn 4]) ∧
    runs .panelBands 0x0B04 [0, 0, 0, 0] (panelOn id) (fun s t => answers t stOk (panelStatus s.dev)) := by decide +kernel

/-! ## One-time memory (chapter 14) -/

/-- Settings that every test accepts: a stack of 8, a reserve of 16 cells, a speed guard of 50. -/
def settingsBytes : Bytes := leBytes 2 1 ++ [8, 16, 50] ++ zeros 1007
/-- One signing key and the HMAC key of index 7. -/
def keyBytes : Bytes := [1] ++ zeros 7 ++ List.replicate 32 1 ++ zeros 96 ++ [0x80] ++ zeros 15 ++ zeros 224 ++
  List.replicate 32 2 ++ zeros 604
theorem witness_OneTimeMemory_settings : settingsBytes.length = 1012 ∧ getLe settingsBytes 0 2 = 1 ∧
    settingsResv settingsBytes = false ∧ settingsRange settingsBytes = false ∧
    nextRecord base.mem settingsBase 4 = some 0 := by decide +kernel
theorem witness_OneTimeMemory_keys : keyBytes.length = 1012 ∧ allZero keyBytes 1 7 = true ∧ allZero keyBytes 137 15 = true ∧
    allZero keyBytes 408 604 = true ∧ keysBad keyBytes = false ∧ nextRecord base.mem keysBase 2 = some 0 := by decide +kernel
theorem witness_OneTimeMemory_writes : (base.dev.otp.write = none ∧ base.dev.pwr.pfw = false ∧ base.dev.pwr.hold = false) ∧
    runs .settingsWriteGeneration 0x0C01 (leBytes 4 0x5A5A0C01 ++ zeros 4 ++ settingsBytes) base (fun _ t => working t &&
      t.dev.otp.write == some (.settings 0 settingsBytes (some (.ch 0)))) ∧
    runs .keyInstall 0x0C03 (leBytes 4 0x5A5A0C03 ++ zeros 4 ++ keyBytes) base (fun _ t => working t &&
      t.dev.otp.write == some (.keys 0 keyBytes (some (.ch 0)))) := by decide +kernel
/-- Every settings record used: no record is left. -/
def usedUp : State := { base with mem := { base.mem with otp := [(0xC00, 1)] } }
theorem witness_OneTimeMemory_exhausted : nextRecord usedUp.mem settingsBase 4 = none ∧
    runs .settingsWriteGeneration 0x0C01 (leBytes 4 0x5A5A0C01 ++ zeros 4 ++ settingsBytes) usedUp (fun _ t =>
      answers t stOtpExhausted []) = true := by decide +kernel
theorem witness_OneTimeMemory_reads :
    runs .settingsRead 0x0C00 [0xFF, 0, 0, 0] base (fun s t => answers t stOk (otpHead s.mem s.dev)) ∧
    runs .settingsRead 0x0C00 [3, 0, 0, 0] base (fun _ t => gives t stOk) ∧
    runs .fuseRead 0x0C02 (leBytes 2 508 ++ leBytes 2 4) base (fun s t =>
      answers t stOk (Memory.readN 0 s.mem.fuse 508 4 ++ [0])) := by decide +kernel
/-- A repair candidate; committed, listed, dropped; and the last line of a macro named. -/
def repairOn : State := withDev base fun d => { d with
  integ := { d.integ with candidates := [⟨1, 0, 52, false, 72, 1⟩] } }
theorem witness_OneTimeMemory_repairs :
    let mk := fun (op : Byte) => [op, 0, 0, 0] ++ (if op == 1 || op == 2 then leBytes 4 0x5A5A0903 else zeros 4) ++
      (if op == 2 then [1, 0, 127, 1] ++ leBytes 2 575 ++ zeros 2 else zeros 8)
    ([0, 1, 2, 3].all fun op => firstFail (repairTests (.ch 0) repairOn.mem repairOn.dev (mk op)) == none) ∧
    memAbsent 1 0 repairOn.dev = false ∧
    runs .repairCommit 0x0903 (mk 0) repairOn (fun s t => answers t stOk (repairList s.mem s.dev)) ∧
    runs .repairCommit 0x0903 (mk 1) repairOn (fun _ t => working t && t.dev.otp.write ==
      some (.repair 0 (repairBytes ⟨1, 0, 52, false, 72, 1⟩) (some ⟨1, 0, 52, false, 72, 1⟩) (some (.ch 0)))) ∧
    runs .repairCommit 0x0903 (mk 2) repairOn (fun _ t => working t && t.dev.otp.write ==
      some (.repair 0 (repairBytes ⟨1, 0, 127, true, 575, 0⟩) none (some (.ch 0)))) ∧
    runs .repairCommit 0x0903 (mk 3) repairOn (fun _ t => gives t stOk && t.dev.integ.candidates == []) := by decide +kernel
/-- The last field-repair entry is being programmed for the command on channel 0. -/
def burning : State := withDev (job 0x0903 [] base) fun d =>
  let d := setChan 0 (fun c => { c with job := c.job.map fun j => { j with started := true } }) d
  { d with otp := { d.otp with write := some (.repair 31 [1, 0, 52, 0, 72, 0, 0x55, 0x5A] none (some (.ch 0))) } }
theorem witness_OneTimeMemory_done : (Memory.wf 0 burning.mem.otp = true ∧ working burning = true) ∧
    after (.otpWriteDone true) burning (fun t => answers t stOk [31, 0, 0, 0] && raised t .settingsChanged (3 + 256 * 31) &&
      Memory.readN 0 t.mem.otp 0x18F8 8 == [1, 0, 52, 0, 72, 0, 0x55, 0x5A]) ∧
    after (.otpWriteDone false) burning (fun t => gives t stInternal && happened t .fwFault) := by decide +kernel

/-! ## Power, reset and start-up (chapter 15) -/

/-- A running device with a word in copy A of its store, an end point's MSI-X word and an alarm of every kind due. -/
def running : State :=
  let s := withDev linked fun d => { d with
    pwr := { d.pwr with wdgStage1 := true, tjCrit := true }, sys := { d.sys with softReset := true, cause := { pin := true } } }
  { s with mem := { s.mem with storeA := [(5, 1)], storeB := [(5, 1)] } }
theorem witness_ResetsRestartTheDevice : running.dev.pwr.phase = .running ∧ running.dev.softAnswering = false ∧
    ([Instr.powerOnReset, .brownoutReset].all fun c => after c running fun t => t.mem.storeA == [] && t.dev.pwr.phase == .inReset &&
      t.dev.mbx == {} && !t.dev.host.linkUp) ∧
    ([Instr.pinReset, .lockstepReset, .supervisorWdgReset, .thermalReset].all fun c => after c running fun t =>
      t.mem.storeA == [(5, 1)] && !t.dev.host.linkUp && t.dev.pwr.fenceN) ∧
    after .softResetExecute running (fun t => t.dev.host.linkUp && t.mem.storeA == [(5, 1)]) := by decide +kernel
/-- SYS_RESET_CAUSE (Table 2.7) of a device that had a power-on and a PIN reset: each reset adds its own bit, a power-on
reset leaves POR. -/
theorem witness_ResetCauses :
    ([(Instr.powerOnReset, 1), (.pinReset, 3), (.brownoutReset, 67), (.softResetExecute, 7), (.supervisorWdgReset, 11),
      (.lockstepReset, 19), (.thermalReset, 35)].all fun x => after x.1 running fun t => t.dev.sys.cause.word == BitVec.ofNat 32 x.2) =
      true := by decide +kernel
theorem witness_IdentityIsFixed : State.reset.dev.pwr.phase = .inReset ∧ State.reset.dev.pwr.jtag.holds = false ∧
    after (.internalResetEnd 7 3) State.reset (fun t => t.dev.pwr.phase == .booting && !t.dev.pwr.fenceN &&
      t.dev.sys.stackPos == 7 && t.dev.sys.bootSel == 3) = true := by decide +kernel
/-- A booting device whose straps forbid a boot. -/
def booting : State := on fun d => { d with
  pwr := { d.pwr with phase := .booting }, sys := { d.sys with bootSel := 2 } }
theorem witness_StartUp_ready : booting.dev.pwr.phase = .booting ∧
    after (.startupFwReady []) booting (fun t => t.dev.sys.fwReady && t.dev.pwr.phase == .running &&
      (vget t.dev.mbx.chans 0).state == .idle && happened t .porDone && t.dev.sys.recovery) = true := by decide +kernel
theorem witness_StartUp_load :
    let s := withDev base fun d => { d with pwr := { d.pwr with loadDue := true } }
    (s.dev.serves = true ∧ s.dev.pwr.storeKept = false ∧ s.dev.pwr.bootImage = 0xFF) ∧
    after .startupProgramLoad s (fun t => !t.dev.pwr.loadDue && t.dev.prog.image.isNone) = true := by decide +kernel
theorem witness_StartUp_kept :
    let s := withDev base fun d => { d with
      pwr := { d.pwr with loadDue := true, storeKept := true }
      prog := { d.prog with activeSlot := true, slots := vmod d.prog.slots 1 fun x => { x with result := .accepted } } }
    (s.dev.slotRec (b2n s.dev.prog.activeSlot)).result = .accepted ∧
    after .startupProgramLoad s (fun t => t.dev.pwr.startCheck == some true && t.dev.prog.checking == some 1) = true := by
  decide +kernel
theorem witness_StartUp_autostart :
    let s := withDev startable fun d => { d with pwr := { d.pwr with autostartDue := true, autostart := 0x80 } }
    (s.dev.pfwOn = false ∧ s.dev.stackWhole = true ∧ s.dev.stopped = false ∧ s.dev.sys.role = .unassigned ∧ s.dev.master = true) ∧
    s.dev.startFits startBudget [7] = true ∧
    after (.autostartTasks startBudget) s (fun t => (taskNow t).st == .starting && !t.dev.pwr.autostartDue) = true := by
  decide +kernel
theorem witness_SupervisionAndJtag_rails :
    let s := withDev base fun d => { d with pwr := { d.pwr with rails := vmod d.pwr.rails 0 fun r => { r with outside := true } } }
    s.dev.awake = true ∧ after (.railMonitorSample [819, 3300, 1800, 1200, 2500, 900]) s (fun t =>
      t.dev.pwr.vddCore == 819 && happened t .vcoreWarn) = true := by decide +kernel
theorem witness_SupervisionAndJtag_vbat :
    after (.vbatMeasure 209) (withDev base fun d => { d with pwr := { d.pwr with vbatUnder := true } }) (fun t =>
      raised t .vbatLow (65536 * 209)) ∧
    after (.vbatMeasure 220) (withDev base fun d => { d with pwr := { d.pwr with vbatLow := true } }) (fun t =>
      !t.dev.pwr.vbatLow) := by decide +kernel
/-- Ten samples of 105 °C. -/
theorem witness_SupervisionAndJtag_heat :
    let s := withDev base fun d => { d with pwr := { d.pwr with tjHist := List.replicate 9 1680 } }
    105 * 160 ≤ (1680 : Half).toInt + (s.dev.pwr.tjHist.take 9).sum ∧
    after (.tjMeasure 11 1680) s (fun t => t.dev.pwr.tj == 1680 && raised t .tjHigh (11 + 65536 * 1680)) = true := by
  decide +kernel
theorem witness_SupervisionAndJtag_watchdog : after (.supervisorWdgStage1 true) base (fun t => t.dev.pwr.wdgStage1 &&
    raised t .supervisorWdg 1) = true := by decide +kernel
theorem witness_SupervisionAndJtag_tap : after (.jtagInstructionUpdate .highz) base (fun t => t.dev.pwr.phase == .inReset &&
    after .jtagTapReset t fun u => u.dev.sys.cause.pin && u.dev.pwr.jtag == .idcode) = true := by decide +kernel
/-- A device that has run 3,600 operating seconds since its last snapshot. -/
def saving (f : Pwr → Pwr) : State := withDev base fun d => { d with
  prog := { d.prog with image := some { imageId := 9 } }, pwr := f d.pwr
  hist := { d.hist with opSeconds := 3600 } }
theorem witness_PowerFailAndSaves_pfw : base.dev.awake = true ∧ base.dev.pwr.pfw = false ∧
    after .pfwNFall base (fun t => t.dev.pwr.pfw && t.dev.pwr.hold && raised t .pfw 1) = true := by decide +kernel
theorem witness_PowerFailAndSaves_hold :
    after (.powerFailSnapshotDone true) (saving fun p => { p with pfw := true, hold := true }) (fun t => t.dev.pwr.step2 &&
      t.dev.pwr.snapFlash.isSome && t.dev.inStack == false && after .pfwEnd t fun u => !u.dev.pwr.pfw && !u.dev.pwr.hold) = true := by
  decide +kernel
theorem witness_PowerFailAndSaves_config : (saving id).dev.serves = true ∧
    after .retentiveConfigSave (saving fun p => { p with confDirty := true }) (fun t => !t.dev.pwr.confDirty &&
      t.dev.pwr.confSave.isSome && after (.flashOperationDone .config true) t fun u =>
        u.dev.pwr.confFlash == t.dev.pwr.confSave && u.dev.pwr.confSave.isNone) = true := by decide +kernel
theorem witness_PowerFailAndSaves_snapshot : after .retentiveSnapshot (saving id) (fun t => t.dev.pwr.snapSave.isSome &&
    t.dev.pwr.lastSnapOp == 3600) = true := by decide +kernel
/-- Table 11.3: an uncorrectable byte in the trip configuration of a kept store: the record is not restored, and
PRIV_UNCORRECTABLE gives region 2 and outcome 3. -/
theorem test_restoreLoss :
    let d := { base.dev with pwr := { base.dev.pwr with storeKept := true, confArea := some { trip := some {} } } }
    let e := loseRecords base.mem [.conf .trip 4] d
    e.pwr.confArea.map (fun c => c.trip) = some none ∧ e.evt.pending.getLsbD 117 = true ∧
      ((vget e.evt.recs 117).detail = BitVec.ofNat 32 (0x600004 + 2 * 2 ^ 23 + 3 * 2 ^ 26)) := by decide +kernel

/-! ## Frames, and a tagged value -/

/-- A command of each of the three frames goes on, and a part outside its list. -/
theorem witness_FrameOfHostCommands : hostMayWrite (.registerWrite 0x14 [1]) = some (Claims.raised ++
      [.sys, .mailbox, .rtc, .power, .buffers]) ∧ (∃ t, Machine.exec (.registerWrite 0x14 (leBytes 4 5)) base = .next t) ∧
    ¬ Part.panel ∈ Claims.raised ++ [.sys, .mailbox, .rtc, .power, .buffers] := ⟨rfl, ⟨_, rfl⟩, by decide⟩
theorem witness_FrameOfFieldCommands : fieldMayWrite (.loopCoeffStage (.ch 0)) = some [.mailbox, .loops] ∧
    (∃ t, Machine.exec (.loopCoeffStage (.ch 0)) base = .next t) ∧ ¬ Part.digital ∈ [Part.mailbox, .loops] :=
  ⟨rfl, ⟨_, rfl⟩, by decide⟩
theorem witness_FrameOfProgramCommands : programMayWrite (.force (.ch 0)) = some [.mailbox, .forces] ∧
    (∃ t, Machine.exec (.force (.ch 0)) base = .next t) ∧ ¬ Part.values ∈ [Part.mailbox, .forces] :=
  ⟨rfl, ⟨_, rfl⟩, by decide⟩
/-- The example of R40: AI05, source identity 0x4C000105, VALUE 0x000C5852, GOOD, SEQ 0x2A. -/
theorem test_taggedValue : tvBytes (mkTV 0x4C000105 0x000C5852 0 0x2A) = [0x52, 0x58, 0x0C, 0x00, 0x00, 0x2A, 0xC3, 0x07] ∧
    tvOfWord 0x07C32A00000C5852 = mkTV 0x4C000105 0x000C5852 0 0x2A := by decide +kernel

end Sys2Proof.Tests
end

section
/-!
PROOF. The fixed part of the device: its identity record, and the PENDING bits of the reserved events. Every operation
that the commands share leaves it as it is, but for three that are treated further below: a write that clears EVT_PENDING,
a reset, and the end of the internal reset. One lemma per operation says so, in the order of the model's files; each is
proved from those of the operations that it calls.
-/

namespace Sys2Proof.Machine

open Sys2Proof

/-! ## The reserved events -/

/-- The reserved events of Table 2.20 as bits of EVT_PENDING: 78, 79 and 90 to 95. -/
def reservedMask : BitVec 128 := BitVec.ofNat 128 (0x3 * 2 ^ 78 + 0x3F * 2 ^ 90)

theorem getLsbD_reservedMask (n : Nat) : reservedMask.getLsbD n = evReserved n := by
  by_cases h : n < 128
  · exact (by decide : ∀ n < 128, reservedMask.getLsbD n = evReserved n) n h
  · rw [BitVec.getLsbD_of_ge _ _ (Nat.le_of_not_lt h)]
    simp [evReserved]; omega

/-- No event that the device raises has a reserved number (R18). -/
theorem evReserved_num (e : Ev) : evReserved e.num = false := by
  cases e with
  | taskOverrun n | taskFault n | loopSat n | loopTrace n | diGroupSupply n | doGroupLow n | doGroupLost n
  | doGroupFault n | canBusoff n => revert n; decide
  | _ => rfl

theorem setPending_reserved (n : Nat) (h : evReserved n = false) (p : BitVec 128) :
    (p ||| 1#128 <<< n) &&& reservedMask = p &&& reservedMask := by
  refine BitVec.eq_of_getLsbD_eq fun i hi => ?_
  simp only [BitVec.getLsbD_and, BitVec.getLsbD_or, getLsbD_reservedMask]
  by_cases hin : i = n
  · simp [hin, h]
  · have other : (1#128 <<< n).getLsbD i = false := by
      simp only [BitVec.getLsbD_shiftLeft, BitVec.getLsbD_one]
      simp; omega
    rw [other, Bool.or_false]

/-! ## The fixed part -/

/-- The identity record and the PENDING bits of the reserved events. -/
def Dev.fixed (d : Dev) : DWord × BitVec 128 := (d.sys.ident, d.evt.pending &&& reservedMask)

@[simp] theorem fixed_mk (sys mbx evt host prog loops dig ana net ser gl red integ rtc hist panel otp pwr tick free out) :
    Dev.fixed ⟨sys, mbx, evt, host, prog, loops, dig, ana, net, ser, gl, red, integ, rtc, hist, panel, otp, pwr, tick,
      free, out⟩ = (sys.ident, evt.pending &&& reservedMask) := by rw [Dev.fixed]

@[simp] theorem fixed_eta (d : Dev) : (d.sys.ident, d.evt.pending &&& reservedMask) = d.fixed := by rw [Dev.fixed]

@[simp] theorem fixed_ite (c : Prop) [Decidable c] (d e : Dev) :
    (if c then d else e).fixed = if c then d.fixed else e.fixed := apply_ite Dev.fixed c d e

@[simp] theorem fixed_fst_ite {β : Type} (c : Prop) [Decidable c] (a b : Dev × β) :
    (if c then a else b).1.fixed = if c then a.1.fixed else b.1.fixed := apply_ite (fun x : Dev × β => x.1.fixed) c a b

@[simp] theorem fixed_snd_ite {β : Type} (c : Prop) [Decidable c] (a b : β × Dev) :
    (if c then a else b).2.fixed = if c then a.2.fixed else b.2.fixed := apply_ite (fun x : β × Dev => x.2.fixed) c a b

/-- What every step of a fold leaves as it is, the fold does. -/
theorem foldl_proj {α β γ : Type} (p : β → γ) (f : β → α → β) (h : ∀ b a, p (f b a) = p b) (l : List α) (b : β) :
    p (l.foldl f b) = p b :=
  List.foldlRecOn l f (motive := fun e => p e = p b) rfl fun e he a _ => (h e a).trans he

@[simp] theorem foldl_fixed {α : Type} (f : Dev → α → Dev) (h : ∀ d x, (f d x).fixed = d.fixed) (l : List α) (d : Dev) :
    (l.foldl f d).fixed = d.fixed := foldl_proj Dev.fixed f h l d

theorem foldl_snd_fixed {α β : Type} (f : β × Dev → α → β × Dev) (h : ∀ a x, (f a x).2.fixed = a.2.fixed) (l : List α)
    (a : β × Dev) : (l.foldl f a).2.fixed = a.2.fixed := foldl_proj (fun a : β × Dev => a.2.fixed) f h l a

/-! ## The operations -/

section
variable (d : Dev)

/-! ### Machine/Ops -/

@[simp] theorem countCheck_fixed (p) : (countCheck p d).fixed = d.fixed := by simp [countCheck]
@[simp] theorem readTV_fixed (p id v) : (readTV p id v d).2.fixed = d.fixed := by simp [readTV]
@[simp] theorem freshNat_fixed : (freshNat d).2.fixed = d.fixed := by simp [freshNat]
@[simp] theorem freshInt_fixed : (freshInt d).2.fixed = d.fixed := by simp [freshInt]
@[simp] theorem freshBool_fixed : (freshBool d).2.fixed = d.fixed := by simp [freshBool]
@[simp] theorem emit_fixed (o) : (emit o d).fixed = d.fixed := by simp [emit]
@[simp] theorem emitAll_fixed (os) : (emitAll os d).fixed = d.fixed := by simp [emitAll]
@[simp] theorem updInt_fixed : (updInt d).fixed = d.fixed := by simp [updInt]
@[simp] theorem msixSend_fixed (n) : (msixSend n d).fixed = d.fixed := by simp [msixSend]
@[simp] theorem msixRelease_fixed : (msixRelease d).fixed = d.fixed := by simp [msixRelease]
@[simp] theorem markDirty_fixed (seg) : (markDirty seg d).fixed = d.fixed := by simp [markDirty]

@[simp] theorem logOccurrence_fixed (n detail) : (logOccurrence n detail d).fixed = d.fixed := by
  unfold logOccurrence
  split <;> simp

theorem raise1_pending (n x) : (raise1 n x d).evt.pending = d.evt.pending ||| (1#128 <<< n) := by
  unfold raise1
  dsimp only
  (repeat' split) <;> simp [updInt]

theorem raise1_fixed (n x) (h : evReserved n = false) : (raise1 n x d).fixed = d.fixed := by
  rw [Dev.fixed, raise1_sys, raise1_pending, setPending_reserved n h, Dev.fixed]

@[simp] theorem raise_fixed (e x) : (raise e x d).fixed = d.fixed := by
  simp [raise, raise1_fixed, evReserved_num, show evReserved 122 = false from rfl]
/-- The simp lemmas of Laws/Events rewrite the `sys` of a raised event; this one keeps its `evt` in step. -/
@[simp] theorem raise_reserved (e x) :
    (raise e x d).evt.pending &&& reservedMask = d.evt.pending &&& reservedMask :=
  congrArg Prod.snd (raise_fixed d e x)

@[simp] theorem raiseIf_fixed (c e detail) : (raiseIf c e detail d).fixed = d.fixed := by simp [raiseIf]

/-! ### Machine/Wire -/

@[simp] theorem stationSend_fixed (dst port type payload) :
    (stationSend dst port type payload d).fixed = d.fixed := by
  simp [stationSend]

@[simp] theorem stationTo_fixed (dst type payload) : (stationTo dst type payload d).fixed = d.fixed := by
  simp [stationTo]

@[simp] theorem countDiscard_fixed : (countDiscard d).fixed = d.fixed := by simp [countDiscard]

theorem withStation_fixed (type data) (f : StHeader → Dev) (h : ∀ x, (f x).fixed = d.fixed) :
    (withStation type data d f).fixed = d.fixed := by
  unfold withStation
  (repeat' split) <;> simp [h]

/-! ### Machine/Mailbox -/

@[simp] theorem setChan_fixed (n f) : (setChan n f d).fixed = d.fixed := by simp [setChan]

@[simp] theorem setJob_fixed (o j) : (setJob o j d).fixed = d.fixed := by
  unfold setJob
  (repeat' split) <;> simp

@[simp] theorem respond_fixed (o st payload) : (respond o st payload d).fixed = d.fixed := by
  unfold respond
  split <;> simp

@[simp] theorem respondTo_fixed (w st payload) : (respondTo w st payload d).fixed = d.fixed := by
  unfold respondTo
  split <;> simp

@[simp] theorem reply_fixed (o r) : (reply o r d).fixed = d.fixed := by
  unfold reply
  split <;> simp

@[simp] theorem startJob_fixed (o j) : (startJob o j d).fixed = d.fixed := by simp [startJob]

@[simp] theorem ring_fixed (n m) : (ring n m d).fixed = d.fixed := by
  simp only [ring]
  split <;> simp

@[simp] theorem release_fixed (n) : (release n d).fixed = d.fixed := by
  unfold release
  split <;> simp

@[simp] theorem doorbell_fixed (n v m) : (doorbell n v m d).fixed = d.fixed := by simp [doorbell]

@[simp] theorem netRespond_fixed (ip port key epoch h st payload) :
    (netRespond ip port key epoch h st payload d).fixed = d.fixed := by
  simp [netRespond]

@[simp] theorem authFailed_fixed (ip port key epoch h) : (authFailed ip port key epoch h d).fixed = d.fixed := by
  simp only [authFailed]
  (repeat' split) <;> simp

@[simp] theorem netCommand_fixed (ip port block) : (netCommand ip port block d).fixed = d.fixed := by
  simp only [netCommand]
  (repeat' split) <;> simp

@[simp] theorem dropWaits_fixed (o) : (dropWaits o d).fixed = d.fixed := by simp [dropWaits]

@[simp] theorem finish_fixed (o j st payload m) : (finish o j st payload m d).1.fixed = d.fixed := by
  simp only [finish]
  (repeat' split) <;> simp

@[simp] theorem complete_fixed (o k m) : (complete o k m d).1.fixed = d.fixed := by
  unfold complete
  (repeat' split) <;> simp

/-! ### Machine/Pair -/

@[simp] theorem confChanged_fixed : (confChanged d).fixed = d.fixed := by simp [confChanged]

@[simp] theorem glSend_fixed (onP cls type dst payload) : (glSend onP cls type dst payload d).fixed = d.fixed := by
  simp [glSend]

@[simp] theorem glSendLong_fixed (onP cls type dst payload) :
    (glSendLong onP cls type dst payload d).fixed = d.fixed := by
  simp [glSendLong]

@[simp] theorem stationAuth_fixed (dst type key epoch payload) :
    (stationAuth dst type key epoch payload d).fixed = d.fixed := by
  unfold stationAuth
  split <;> simp

@[simp] theorem pairSend_fixed (type payload) : (pairSend type payload d).fixed = d.fixed := by simp [pairSend]
@[simp] theorem forward_fixed (code payload) : (forward code payload d).fixed = d.fixed := by simp [forward]
@[simp] theorem sendStatus_fixed : (sendStatus d).fixed = d.fixed := by simp [sendStatus]

/-! ### Machine/Field -/

@[simp] theorem modDi_fixed (i f) : (modDi i f d).fixed = d.fixed := by simp [modDi]
@[simp] theorem modDo_fixed (j f) : (modDo j f d).fixed = d.fixed := by simp [modDo]
@[simp] theorem modGrp_fixed (g f) : (modGrp g f d).fixed = d.fixed := by simp [modGrp]
@[simp] theorem modWdg_fixed (f) : (modWdg f d).fixed = d.fixed := by simp [modWdg]
@[simp] theorem modTrip_fixed (f) : (modTrip f d).fixed = d.fixed := by simp [modTrip]
@[simp] theorem settleDo_fixed (j) : (settleDo j d).fixed = d.fixed := by simp [settleDo]
@[simp] theorem settleAo_fixed (j) : (settleAo j d).fixed = d.fixed := by simp [settleAo]
@[simp] theorem settleDos_fixed : (settleDos d).fixed = d.fixed := by simp [settleDos]
@[simp] theorem settleAll_fixed : (settleAll d).fixed = d.fixed := by simp [settleAll]

@[simp] theorem inputSeq_fixed (el) : (inputSeq el d).2.fixed = d.fixed := by
  unfold inputSeq
  split <;> simp

/-! ### Machine/Digital -/

@[simp] theorem updSupply_fixed : (updSupply d).fixed = d.fixed := by simp [updSupply]
@[simp] theorem doFault_fixed (j st kind) : (doFault j st kind d).fixed = d.fixed := by simp [doFault]
@[simp] theorem resetChannel_fixed (j cool) : (resetChannel j cool d).fixed = d.fixed := by simp [resetChannel]
@[simp] theorem grpLost_fixed (g v) : (grpLost g v d).fixed = d.fixed := by simp [grpLost]
@[simp] theorem grpRecover_fixed (g) : (grpRecover g d).fixed = d.fixed := by simp [grpRecover]
@[simp] theorem reenergise_fixed (g) : (reenergise g d).fixed = d.fixed := by simp [reenergise]
@[simp] theorem wdgSafeTimeout_fixed : (wdgSafeTimeout d).fixed = d.fixed := by simp [wdgSafeTimeout]
@[simp] theorem wdgTimeout_fixed (t) : (wdgTimeout t d).fixed = d.fixed := by simp [wdgTimeout]
@[simp] theorem wdgRun_fixed : (wdgRun d).fixed = d.fixed := by simp [wdgRun]

@[simp] theorem extAssert_fixed : (extAssert d).fixed = d.fixed := by
  simp only [extAssert]
  split <;> simp

@[simp] theorem extRelease_fixed : (extRelease d).fixed = d.fixed := by
  simp only [extRelease]
  split <;> simp

@[simp] theorem wdgCommit_fixed (t stale) : (wdgCommit t stale d).fixed = d.fixed := by
  simp only [wdgCommit]
  (repeat' split) <;> simp

@[simp] theorem tripEval_fixed : (tripEval d).fixed = d.fixed := by simp [tripEval]
@[simp] theorem tripReset_fixed (m) : (tripReset m d).fixed = d.fixed := by simp [tripReset]
@[simp] theorem doNewCfg_fixed : (doNewCfg d).fixed = d.fixed := by simp [doNewCfg]

@[simp] theorem commitDos_fixed (t) : (commitDos t d).fixed = d.fixed := by
  unfold commitDos
  rw [foldl_fixed]
  · simp
  · intro d j
    (repeat' split) <;> simp

@[simp] theorem diCfgApply_fixed (p) : (diCfgApply p d).fixed = d.fixed := by simp [diCfgApply]

theorem whenNoTask_fixed (f : Dev → Dev) (h : ∀ d, (f d).fixed = d.fixed) : (whenNoTask f d).fixed = d.fixed := by
  simp [whenNoTask, h]

@[simp] theorem doCfgApply_fixed (p) : (doCfgApply p d).fixed = d.fixed := by
  simp [doCfgApply, whenNoTask_fixed]

@[simp] theorem wdgCfgApply_fixed (p) : (wdgCfgApply p d).fixed = d.fixed := by simp [wdgCfgApply]
@[simp] theorem tripApply_fixed (c) : (tripApply c d).fixed = d.fixed := by simp [tripApply]
@[simp] theorem outputReset_fixed (cool p) : (outputReset cool p d).fixed = d.fixed := by simp [outputReset]

/-! ### Machine/Analog -/

@[simp] theorem modAi_fixed (i f) : (modAi i f d).fixed = d.fixed := by simp [modAi]
@[simp] theorem modAo_fixed (j f) : (modAo j f d).fixed = d.fixed := by simp [modAo]
@[simp] theorem aiEvents_fixed (i value old new) : (aiEvents i value old new d).fixed = d.fixed := by simp [aiEvents]

@[simp] theorem aiConvert_fixed (i code) : (aiConvert i code d).fixed = d.fixed := by
  simp only [aiConvert]
  (repeat' split) <;> simp

@[simp] theorem vfldLoss_fixed (v) : (vfldLoss v d).fixed = d.fixed := by simp [vfldLoss]
@[simp] theorem vfldReturn_fixed (v) : (vfldReturn v d).fixed = d.fixed := by simp [vfldReturn]
@[simp] theorem aoSlot_fixed : (aoSlot d).fixed = d.fixed := by simp [aoSlot]
@[simp] theorem aoNewCfg_fixed : (aoNewCfg d).fixed = d.fixed := by simp [aoNewCfg]

@[simp] theorem commitAos_fixed (t) : (commitAos t d).fixed = d.fixed := by
  unfold commitAos
  rw [foldl_fixed]
  · simp
  · intro d j
    (repeat' split) <;> simp

@[simp] theorem commitToField_fixed (t stale) : (commitToField t stale d).fixed = d.fixed := by simp [commitToField]
@[simp] theorem aiCfgApply_fixed (p) : (aiCfgApply p d).fixed = d.fixed := by simp [aiCfgApply]

@[simp] theorem aoCfgApply_fixed (p) : (aoCfgApply p d).fixed = d.fixed := by
  simp [aoCfgApply, whenNoTask_fixed]

@[simp] theorem calAct_fixed (o p) : (calAct o p d).1.fixed = d.fixed := by
  simp only [calAct]
  split <;> simp

/-! ### Machine/History -/

@[simp] theorem modHist_fixed (f) : (modHist f d).fixed = d.fixed := by simp [modHist]
@[simp] theorem startFlush_fixed (kind) : (startFlush kind d).fixed = d.fixed := by simp [startFlush]

@[simp] theorem endFlush_fixed (ok) : (endFlush ok d).fixed = d.fixed := by
  unfold endFlush
  split <;> simp

@[simp] theorem cutFlush_fixed : (cutFlush d).fixed = d.fixed := by
  unfold cutFlush
  split <;> simp

@[simp] theorem historyCommit_fixed (t) : (historyCommit t d).fixed = d.fixed := by
  unfold historyCommit
  split <;> simp

@[simp] theorem rebindAll_fixed (im) : (rebindAll im d).fixed = d.fixed := by simp [rebindAll]
@[simp] theorem opTick_fixed : (opTick d).fixed = d.fixed := by simp [opTick]
@[simp] theorem histCfgApply_fixed (p) : (histCfgApply p d).fixed = d.fixed := by simp [histCfgApply]
@[simp] theorem histClear_fixed (kind) : (histClear kind d).fixed = d.fixed := by simp [histClear]

/-! ### Machine/Panel -/

@[simp] theorem modPanel_fixed (f) : (modPanel f d).fixed = d.fixed := by simp [modPanel]
@[simp] theorem setBand_fixed (n) : (setBand n d).fixed = d.fixed := by simp [setBand]
@[simp] theorem railsUp_fixed : (railsUp d).fixed = d.fixed := by simp [railsUp]
@[simp] theorem discharge_fixed (cause) : (discharge cause d).fixed = d.fixed := by simp [discharge]

@[simp] theorem updateDone_fixed (region kind ms) : (updateDone region kind ms d).fixed = d.fixed := by
  simp [updateDone]

@[simp] theorem startPass_fixed (k) : (startPass k d).fixed = d.fixed := by simp [startPass]

@[simp] theorem panelGo_fixed : (panelGo d).fixed = d.fixed := by
  unfold panelGo
  (repeat' split) <;> simp

@[simp] theorem markPending_fixed (mask) : (markPending mask d).fixed = d.fixed := by simp [markPending]

@[simp] theorem rowEnd_fixed : (rowEnd d).fixed = d.fixed := by
  simp only [rowEnd]
  (repeat' split) <;> simp

@[simp] theorem badRow_fixed (r walk parity) : (badRow r walk parity d).fixed = d.fixed := by simp [badRow]

@[simp] theorem loseRow_fixed : (loseRow d).fixed = d.fixed := by
  unfold loseRow
  split <;> simp

@[simp] theorem exchangeFrames_fixed (m) : (exchangeFrames m d).1.fixed = d.fixed := by simp [exchangeFrames]

@[simp] theorem doExchange_fixed (m) : (doExchange m d).1.fixed = d.fixed := by
  unfold doExchange
  split <;> simp

@[simp] theorem leaveShowing_fixed (m) : (leaveShowing m d).1.fixed = d.fixed := by simp [leaveShowing]
@[simp] theorem drawBytes_fixed (off data m) : (drawBytes off data m d).1.fixed = d.fixed := by simp [drawBytes]

@[simp] theorem panelCommit_fixed (t m) : (panelCommit t m d).fixed = d.fixed := by
  unfold panelCommit
  split <;> simp

@[simp] theorem panelSwap_fixed (m old) : (panelSwap m old d).fixed = d.fixed := by simp [panelSwap]

@[simp] theorem moveBand_fixed (n) : (moveBand n d).1.fixed = d.fixed := by
  unfold moveBand
  split <;> simp

@[simp] theorem bandEvent_fixed (new old restarted avg) : (bandEvent new old restarted avg d).fixed = d.fixed := by
  simp [bandEvent]

@[simp] theorem ptemp_fixed (mv) : (ptemp mv d).fixed = d.fixed := by
  simp only [ptemp]
  split <;> simp

@[simp] theorem railsSettled_fixed : (railsSettled d).fixed = d.fixed := by
  simp only [railsSettled]
  split <;> simp

@[simp] theorem railFault_fixed (pos neg kind mag m) : (railFault pos neg kind mag m d).1.fixed = d.fixed := by
  simp [railFault]

@[simp] theorem panelResume_fixed : (panelResume d).fixed = d.fixed := by simp [panelResume]

@[simp] theorem dischargeDone_fixed : (dischargeDone d).fixed = d.fixed := by
  unfold dischargeDone
  (repeat' split) <;> simp

@[simp] theorem frameStart_fixed (m) : (frameStart m d).1.fixed = d.fixed := by
  simp only [frameStart]
  (repeat' split) <;> simp

@[simp] theorem phaseEnd_fixed (fault m) : (phaseEnd fault m d).fixed = d.fixed := by
  unfold phaseEnd
  (repeat' split) <;> simp

@[simp] theorem passEnd_fixed : (passEnd d).fixed = d.fixed := by
  simp only [passEnd]
  (repeat' split) <;> simp

@[simp] theorem panelPfw_fixed (m) : (panelPfw m d).1.fixed = d.fixed := by
  simp only [panelPfw]
  (repeat' split) <;> simp

@[simp] theorem panelCfgApply_fixed (p) : (panelCfgApply p d).fixed = d.fixed := by simp [panelCfgApply]

/-! ### Machine/Recovery -/

@[simp] theorem modProg_fixed (f) : (modProg f d).fixed = d.fixed := by simp [modProg]
@[simp] theorem modTask_fixed (t f) : (modTask t f d).fixed = d.fixed := by simp [modTask]
@[simp] theorem modCell_fixed (c f) : (modCell c f d).fixed = d.fixed := by simp [modCell]
@[simp] theorem modStats_fixed (t f) : (modStats t f d).fixed = d.fixed := by simp [modStats]
@[simp] theorem dropCycle_fixed (t) : (dropCycle t d).fixed = d.fixed := by simp [dropCycle]
@[simp] theorem stopAnswer_fixed : (stopAnswer d).fixed = d.fixed := by simp [stopAnswer]
@[simp] theorem stopTask_fixed (t) : (stopTask t d).fixed = d.fixed := by simp [stopTask]

@[simp] theorem stopCheck_fixed (t) : (stopCheck t d).fixed = d.fixed := by
  unfold stopCheck
  split <;> simp

@[simp] theorem stopTasks_fixed : (stopTasks d).fixed = d.fixed := by simp [stopTasks]
@[simp] theorem withdraw_fixed : (withdraw d).fixed = d.fixed := by simp [withdraw]
@[simp] theorem shadowEnd_fixed (state) : (shadowEnd state d).fixed = d.fixed := by simp [shadowEnd]
@[simp] theorem fence_fixed (cause) : (fence cause d).fixed = d.fixed := by simp [fence]
@[simp] theorem enterSafe_fixed : (enterSafe d).fixed = d.fixed := by simp [enterSafe]
@[simp] theorem standbyFaulty_fixed : (standbyFaulty d).fixed = d.fixed := by simp [standbyFaulty]
@[simp] theorem ladderL2_fixed : (ladderL2 d).fixed = d.fixed := by simp [ladderL2]

@[simp] theorem runReaction_fixed (r) : (runReaction r d).fixed = d.fixed := by
  unfold runReaction
  split <;> simp

@[simp] theorem redoBlock_fixed (t b) : (redoBlock t b d).fixed = d.fixed := by simp [redoBlock]

@[simp] theorem startMigration_fixed (src tgt cause) : (startMigration src tgt cause d).fixed = d.fixed := by
  simp [startMigration]

@[simp] theorem stopSource_fixed (c) : (stopSource c d).fixed = d.fixed := by simp [stopSource]
@[simp] theorem abortMigration_fixed : (abortMigration d).fixed = d.fixed := by simp [abortMigration]

@[simp] theorem ladderL1_fixed (c cause spare) : (ladderL1 c cause spare d).fixed = d.fixed := by
  unfold ladderL1
  split <;> simp

@[simp] theorem nextQueued_fixed (spare) : (nextQueued spare d).fixed = d.fixed := by
  unfold nextQueued
  split <;> simp

@[simp] theorem escalateQueued_fixed (t) : (escalateQueued t d).fixed = d.fixed := by simp [escalateQueued]

@[simp] theorem taskFault_fixed (t cause) : (taskFault t cause d).fixed = d.fixed := by
  unfold taskFault
  split <;> simp

@[simp] theorem cellFault_fixed (c spare) : (cellFault c spare d).fixed = d.fixed := by
  simp only [cellFault]
  (repeat' split) <;> simp

@[simp] theorem modInteg_fixed (f) : (modInteg f d).fixed = d.fixed := by simp [modInteg]

@[simp] theorem hardError_fixed (mem index macro_ row column) :
    (hardError mem index macro_ row column d).fixed = d.fixed := by
  simp [hardError]

@[simp] theorem correctByte_fixed (mem addr rowsPerMacro macrosPerCopy copyB f) :
    (correctByte mem addr rowsPerMacro macrosPerCopy copyB f d).2.fixed = d.fixed := by
  simp [correctByte]

@[simp] theorem privLost_fixed (a outcome diverged) : (privLost a outcome diverged d).fixed = d.fixed := by
  simp [privLost]

@[simp] theorem privFixed_fixed (a copyB source) : (privFixed a copyB source d).fixed = d.fixed := by simp [privFixed]
@[simp] theorem gapEvent_fixed (kind counter) : (gapEvent kind counter d).fixed = d.fixed := by simp [gapEvent]

@[simp] theorem privUncorrectable_fixed (a diverged) : (privUncorrectable a diverged d).fixed = d.fixed := by
  simp only [privUncorrectable]
  split <;> simp

@[simp] theorem privByte_fixed (source a f) : (privByte source a f d).2.fixed = d.fixed := by simp [privByte]
@[simp] theorem logFunctional_fixed (e r addr) : (logFunctional e r addr d).fixed = d.fixed := by simp [logFunctional]
@[simp] theorem storeRead_fixed (a f) : (storeRead a f d).fixed = d.fixed := by simp [storeRead]
@[simp] theorem cellParity_fixed (mem c x y) : (cellParity mem c x y d).fixed = d.fixed := by simp [cellParity]

/-! ### Machine/Operands -/

@[simp] theorem modExec_fixed (c f) : (modExec c f d).fixed = d.fixed := by simp [modExec]
@[simp] theorem modSpec_fixed (c f) : (modSpec c f d).fixed = d.fixed := by simp [modSpec]
@[simp] theorem readStored_fixed (id v) : (readStored id v d).2.fixed = d.fixed := by simp [readStored]

@[simp] theorem readElem_fixed (c space el) : (readElem c space el d).2.fixed = d.fixed := by
  simp only [readElem]
  (repeat' split) <;> simp

@[simp] theorem readBit_fixed (c i) : (readBit c i d).2.2.fixed = d.fixed := by
  simp only [readBit]
  (repeat' split) <;> simp

@[simp] theorem readBitN_fixed (c i) : (readBitN c i d).2.2.fixed = d.fixed := by simp [readBitN]
@[simp] theorem readWord_fixed (c i) : (readWord c i d).2.fixed = d.fixed := by simp [readWord]

@[simp] theorem writeElem_fixed (c space el value quality) :
    (writeElem c space el value quality d).fixed = d.fixed := by
  simp [writeElem]

@[simp] theorem writeBit_fixed (c i bit quality) : (writeBit c i bit quality d).fixed = d.fixed := by simp [writeBit]
@[simp] theorem setArith_fixed (c el) : (setArith c el d).fixed = d.fixed := by simp [setArith]

@[simp] theorem setArithOpt_fixed (c el) : (setArithOpt c el d).fixed = d.fixed := by
  unfold setArithOpt
  split <;> simp

@[simp] theorem arithW_fixed (c) : (arithW c d).fixed = d.fixed := by simp [arithW]

@[simp] theorem signature_fixed (c kind o result) : (signature c kind o result d).fixed = d.fixed := by
  simp only [signature]
  split <;> simp

/-! ### Machine/CellFam -/

@[simp] theorem advance_fixed (c) : (advance c d).fixed = d.fixed := by simp [advance]

theorem siliconFault_fixed {c i f} {e : Dev} (h : siliconFault c i f d = some e) : e.fixed = d.fixed := by
  unfold siliconFault at h
  (repeat' split at h) <;> cases h <;> simp

@[simp] theorem storeFault_fixed (i f) : (storeFault i f d).fixed = d.fixed := by
  unfold storeFault
  split <;> simp

@[simp] theorem setLB_fixed (c b q) : (setLB c b q d).fixed = d.fixed := by simp [setLB]
@[simp] theorem combine_fixed (c g i) : (combine c g i d).fixed = d.fixed := by simp [combine]
@[simp] theorem semLd_fixed (c i) : (semLd c i d).fixed = d.fixed := by simp [semLd]
@[simp] theorem semA_fixed (c x1) : (semA c x1 d).fixed = d.fixed := by simp [semA]
@[simp] theorem semO_fixed (c x1) : (semO c x1 d).fixed = d.fixed := by simp [semO]
@[simp] theorem semX_fixed (c x1) : (semX c x1 d).fixed = d.fixed := by simp [semX]
@[simp] theorem openBranch_fixed (c k) : (openBranch c k d).fixed = d.fixed := by simp [openBranch]
@[simp] theorem semBa_fixed (c x1) : (semBa c x1 d).fixed = d.fixed := by simp [semBa]
@[simp] theorem semBo_fixed (c x1) : (semBo c x1 d).fixed = d.fixed := by simp [semBo]
@[simp] theorem semBx_fixed (c x1) : (semBx c x1 d).fixed = d.fixed := by simp [semBx]
@[simp] theorem semBc_fixed (c x1) : (semBc c x1 d).fixed = d.fixed := by simp [semBc]
@[simp] theorem semNot_fixed (c x1) : (semNot c x1 d).fixed = d.fixed := by simp [semNot]
@[simp] theorem semAsn_fixed (c i) : (semAsn c i d).fixed = d.fixed := by simp [semAsn]
@[simp] theorem semSet_fixed (c i) : (semSet c i d).fixed = d.fixed := by simp [semSet]
@[simp] theorem semRst_fixed (c i) : (semRst c i d).fixed = d.fixed := by simp [semRst]
@[simp] theorem edgeOp_fixed (c g i) : (edgeOp c g i d).fixed = d.fixed := by simp [edgeOp]
@[simp] theorem semPedge_fixed (c x1) : (semPedge c x1 d).fixed = d.fixed := by simp [semPedge]
@[simp] theorem semNedge_fixed (c x1) : (semNedge c x1 d).fixed = d.fixed := by simp [semNedge]
@[simp] theorem timerOp_fixed (kind c i) : (timerOp kind c i d).fixed = d.fixed := by simp [timerOp]
@[simp] theorem semTon_fixed (c x1) : (semTon c x1 d).fixed = d.fixed := by simp [semTon]
@[simp] theorem semTof_fixed (c x1) : (semTof c x1 d).fixed = d.fixed := by simp [semTof]
@[simp] theorem semTp_fixed (c x1) : (semTp c x1 d).fixed = d.fixed := by simp [semTp]
@[simp] theorem putCounter_fixed (c n r) : (putCounter c n r d).fixed = d.fixed := by simp [putCounter]
@[simp] theorem counterOp_fixed (up c i) : (counterOp up c i d).fixed = d.fixed := by simp [counterOp]
@[simp] theorem semCtu_fixed (c x1) : (semCtu c x1 d).fixed = d.fixed := by simp [semCtu]
@[simp] theorem semCtd_fixed (c x1) : (semCtd c x1 d).fixed = d.fixed := by simp [semCtd]
@[simp] theorem semCrst_fixed (c i) : (semCrst c i d).fixed = d.fixed := by simp [semCrst]
@[simp] theorem semCld_fixed (c i) : (semCld c i d).fixed = d.fixed := by simp [semCld]
@[simp] theorem semLdw_fixed (c i) : (semLdw c i d).fixed = d.fixed := by simp [semLdw]
@[simp] theorem semMovw_fixed (c i) : (semMovw c i d).fixed = d.fixed := by simp [semMovw]
@[simp] theorem compareOp_fixed (c i) : (compareOp c i d).fixed = d.fixed := by simp [compareOp]
@[simp] theorem semCmp_fixed (c x1) : (semCmp c x1 d).fixed = d.fixed := by simp [semCmp]
@[simp] theorem semCmpi_fixed (c x1) : (semCmpi c x1 d).fixed = d.fixed := by simp [semCmpi]
@[simp] theorem arithOp_fixed (c g i) : (arithOp c g i d).fixed = d.fixed := by simp [arithOp]
@[simp] theorem semAdd_fixed (c x1) : (semAdd c x1 d).fixed = d.fixed := by simp [semAdd]
@[simp] theorem semSub_fixed (c x1) : (semSub c x1 d).fixed = d.fixed := by simp [semSub]
@[simp] theorem semMul_fixed (c x1) : (semMul c x1 d).fixed = d.fixed := by simp [semMul]

@[simp] theorem semQual_fixed (c i) : (semQual c i d).fixed = d.fixed := by
  unfold semQual
  split <;> simp

@[simp] theorem semFlg_fixed (c i) : (semFlg c i d).fixed = d.fixed := by simp [semFlg]
@[simp] theorem semJmp_fixed (c i) : (semJmp c i d).fixed = d.fixed := by simp [semJmp]
@[simp] theorem semNop_fixed (x0 x1) : (semNop x0 x1 d).fixed = d.fixed := by simp [semNop]
@[simp] theorem sendWorking_fixed (t r) : (sendWorking t r d).fixed = d.fixed := by simp [sendWorking]
@[simp] theorem settle_fixed (t) : (settle t d).fixed = d.fixed := by simp [settle]
@[simp] theorem semEnd_fixed (c x1) : (semEnd c x1 d).fixed = d.fixed := by simp [semEnd]
@[simp] theorem beginBlock_fixed (c t b) : (beginBlock c t b d).fixed = d.fixed := by simp [beginBlock]
@[simp] theorem migCheck_fixed (spare) : (migCheck spare d).fixed = d.fixed := by simp [migCheck]

/-! ### Machine/Rtc -/

@[simp] theorem leapTick_fixed : (leapTick d).fixed = d.fixed := by
  simp only [leapTick]
  (repeat' split) <;> simp

@[simp] theorem rtcLoad_fixed : (rtcLoad d).fixed = d.fixed := by
  unfold rtcLoad
  split <;> simp

@[simp] theorem rtcTick_fixed : (rtcTick d).fixed = d.fixed := by simp [rtcTick]
@[simp] theorem refuse_fixed : (refuse d).fixed = d.fixed := by simp [refuse]

@[simp] theorem rtcSetWrite_fixed (r v) : (rtcSetWrite r v d).fixed = d.fixed := by
  unfold rtcSetWrite
  (repeat' split) <;> simp

@[simp] theorem rtcCommit_fixed : (rtcCommit d).fixed = d.fixed := by simp [rtcCommit]
@[simp] theorem rtcCancel_fixed : (rtcCancel d).fixed = d.fixed := by simp [rtcCancel]
@[simp] theorem rtcDiscipline_fixed (on) : (rtcDiscipline on d).fixed = d.fixed := by simp [rtcDiscipline]
@[simp] theorem rtcCtrlWrite_fixed (v) : (rtcCtrlWrite v d).fixed = d.fixed := by simp [rtcCtrlWrite]
@[simp] theorem rtcTrimWrite_fixed (v) : (rtcTrimWrite v d).fixed = d.fixed := by simp [rtcTrimWrite]
@[simp] theorem setOsf_fixed (lost) : (setOsf lost d).fixed = d.fixed := by simp [setOsf]

/-! ### Machine/HostPort -/

@[simp] theorem evtMaskWrite_fixed (k v) : (evtMaskWrite k v d).fixed = d.fixed := by simp [evtMaskWrite]
@[simp] theorem evtCtrlWrite_fixed (v) : (evtCtrlWrite v d).fixed = d.fixed := by simp [evtCtrlWrite]

@[simp] theorem msixWrite_fixed (off v) : (msixWrite off v d).fixed = d.fixed := by
  simp only [msixWrite, msixRelease_fixed, fixed_mk, fixed_eta]

@[simp] theorem bufByte_fixed (off m) : (bufByte off m d).2.fixed = d.fixed := by simp [bufByte]

@[simp] theorem spiBytes_fixed (n off m) : (spiBytes n off m d).2.fixed = d.fixed := by
  induction n generalizing off d with
  | zero => rfl
  | succ n ih =>
    simp only [spiBytes, ih]
    split <;> simp

@[simp] theorem spiFail_fixed (kind) : (spiFail kind d).fixed = d.fixed := by simp [spiFail]
@[simp] theorem spiOk_fixed : (spiOk d).fixed = d.fixed := by simp [spiOk]
@[simp] theorem spiPortStatus_fixed : (spiPortStatus d).fixed = d.fixed := by simp [spiPortStatus]
@[simp] theorem pcieLink_fixed (up speed width) : (pcieLink up speed width d).fixed = d.fixed := by simp [pcieLink]

/-! ### Machine/Loop -/

@[simp] theorem modSlot_fixed (u n f) : (modSlot u n f d).fixed = d.fixed := by simp [modSlot]
@[simp] theorem modTrace_fixed (u f) : (modTrace u f d).fixed = d.fixed := by simp [modTrace]
@[simp] theorem shadowWrite_fixed (keys) : (shadowWrite keys d).fixed = d.fixed := by simp [shadowWrite]
@[simp] theorem shadowTick_fixed : (shadowTick d).fixed = d.fixed := by simp [shadowTick]
@[simp] theorem loopInputs_fixed (u n badAi) : (loopInputs u n badAi d).2.fixed = d.fixed := by simp [loopInputs]

@[simp] theorem nodeWord_fixed (code ref i r s) : (nodeWord code ref i r s d).2.fixed = d.fixed := by
  simp only [nodeWord]
  (repeat' split) <;> simp

@[simp] theorem traceWords_fixed (l i r s) : (traceWords l i r s d).2.fixed = d.fixed := by
  induction l generalizing d with
  | nil => rfl
  | cons x l ih => simp [traceWords, ih]

@[simp] theorem traceDone_fixed (u) : (traceDone u d).fixed = d.fixed := by simp [traceDone]

@[simp] theorem traceCut_fixed (u n) : (traceCut u n d).fixed = d.fixed := by
  simp only [traceCut]
  (repeat' split) <;> simp

@[simp] theorem traceSample_fixed (u n i r satOut newly) : (traceSample u n i r satOut newly d).fixed = d.fixed := by
  simp [traceSample]

@[simp] theorem applyCommit_fixed (u n) : (applyCommit u n d).fixed = d.fixed := by
  simp only [applyCommit]
  split <;> simp

@[simp] theorem commitAnswers_fixed (u) : (commitAnswers u d).fixed = d.fixed := by simp [commitAnswers]

@[simp] theorem settleBound_fixed (c) : (settleBound c d).fixed = d.fixed := by
  unfold settleBound
  split <;> simp

@[simp] theorem sampleSlot_fixed (u n fault badAi) : (sampleSlot u n fault badAi d).fixed = d.fixed := by
  simp [sampleSlot]

@[simp] theorem sampleUnit_fixed (u faults badAi) : (sampleUnit u faults badAi d).fixed = d.fixed := by
  simp [sampleUnit]

@[simp] theorem loopsFirstCommit_fixed : (loopsFirstCommit d).fixed = d.fixed := by simp [loopsFirstCommit]
@[simp] theorem enableSlot_fixed (u n c) : (enableSlot u n c d).fixed = d.fixed := by simp [enableSlot]

@[simp] theorem disableSlot_fixed (u n c) : (disableSlot u n c d).fixed = d.fixed := by
  simp only [disableSlot]
  split <;> simp

@[simp] theorem loopCfgApply_fixed (p) : (loopCfgApply p d).fixed = d.fixed := by simp [loopCfgApply]

@[simp] theorem coefMark_fixed (p) : (coefMark p d).fixed = d.fixed := by
  unfold coefMark
  dsimp only
  rw [forward_fixed, foldl_fixed]
  intro d n
  (repeat' split) <;> simp

@[simp] theorem coefCommit_fixed (o p) : (coefCommit o p d).fixed = d.fixed := by simp [coefCommit]

@[simp] theorem traceArm_fixed (p) : (traceArm p d).fixed = d.fixed := by
  unfold traceArm
  split <;> simp

/-! ### Machine/Scrub -/

@[simp] theorem scrubStoreByte_fixed (m source a f s) : (scrubStoreByte m source a f s d).2.fixed = d.fixed := by
  simp [scrubStoreByte]

@[simp] theorem scrubOtherByte_fixed (m mem index a f s) :
    (scrubOtherByte m mem index a f s d).2.fixed = d.fixed := by
  simp [scrubOtherByte]

@[simp] theorem scrubKib_fixed (m source mem index base faults sum) :
    (scrubKib m source mem index base faults sum d).2.fixed = d.fixed := by
  unfold scrubKib
  rw [foldl_snd_fixed]
  intro a f
  split <;> simp

@[simp] theorem weevilStep_fixed (faults written m) : (weevilStep faults written m d).fixed = d.fixed := by
  simp [weevilStep]

@[simp] theorem scrubEnd_fixed (p aborted s) : (scrubEnd p aborted s d).fixed = d.fixed := by simp [scrubEnd]

@[simp] theorem scrubPassStep_fixed (p faults written m) : (scrubPassStep p faults written m d).fixed = d.fixed := by
  simp [scrubPassStep]

@[simp] theorem superWalk_fixed (fs) : (superWalk fs d).2.fixed = d.fixed := by
  induction fs generalizing d with
  | nil => rfl
  | cons f fs ih =>
    simp only [superWalk]
    (repeat' split) <;> simp [ih]

@[simp] theorem scrubStart_fixed (p) : (scrubStart p d).1.fixed = d.fixed := by
  unfold scrubStart
  split <;> simp

@[simp] theorem summaryAct_fixed (p) : (summaryAct p d).fixed = d.fixed := by simp [summaryAct]

/-! ### Machine/Dma -/

@[simp] theorem stageWrite_fixed (slot off data m) : (stageWrite slot off data m d).1.fixed = d.fixed := by
  simp [stageWrite]

@[simp] theorem modDma_fixed (n f) : (modDma n f d).fixed = d.fixed := by simp [modDma]
@[simp] theorem dmaHalt_fixed (n kind x addr) : (dmaHalt n kind x addr d).fixed = d.fixed := by simp [dmaHalt]

@[simp] theorem dmaStart_fixed (n) : (dmaStart n d).fixed = d.fixed := by
  unfold dmaStart
  split <;> simp

@[simp] theorem dmaStore_fixed (x off data m) : (dmaStore x off data m d).1.fixed = d.fixed := by simp [dmaStore]

@[simp] theorem dmaDone_fixed (n data m) : (dmaDone n data m d).1.fixed = d.fixed := by
  simp only [dmaDone]
  split <;> simp

@[simp] theorem freeBytes_fixed (n) : (freeBytes n d).2.fixed = d.fixed := by
  induction n generalizing d with
  | zero => rfl
  | succ n ih => simp [freeBytes, ih]

@[simp] theorem dmaFail_fixed (n kind addr m) : (dmaFail n kind addr m d).1.fixed = d.fixed := by
  simp only [dmaFail]
  split <;> simp

@[simp] theorem dmaShrink_fixed : (dmaShrink d).fixed = d.fixed := by
  unfold dmaShrink
  rw [foldl_fixed]
  intro d n
  split <;> simp

@[simp] theorem dmaSubmit_fixed (p) : (dmaSubmit p d).1.fixed = d.fixed := by simp [dmaSubmit]

@[simp] theorem dmaAbort_fixed (p) : (dmaAbort p d).1.fixed = d.fixed := by
  simp only [dmaAbort]
  (repeat' split) <;> simp

/-! ### Machine/Partner -/

@[simp] theorem modNet_fixed (f) : (modNet f d).fixed = d.fixed := by simp [modNet]
@[simp] theorem modPartner_fixed (k f) : (modPartner k f d).fixed = d.fixed := by simp [modPartner]
@[simp] theorem modSub_fixed (i f) : (modSub i f d).fixed = d.fixed := by simp [modSub]

@[simp] theorem sendSubscribe_fixed (i) : (sendSubscribe i d).fixed = d.fixed := by
  simp only [sendSubscribe]
  split <;> simp

@[simp] theorem senderChanged_fixed (pid old) : (senderChanged pid old d).fixed = d.fixed := by
  unfold senderChanged
  dsimp only
  split
  · rfl
  · rw [foldl_fixed]
    intro d i
    (repeat' split) <;> simp

@[simp] theorem partnerLost_fixed (k cause) : (partnerLost k cause d).fixed = d.fixed := by simp [partnerLost]
@[simp] theorem subscribeAll_fixed : (subscribeAll d).fixed = d.fixed := by simp [subscribeAll]
@[simp] theorem pairDown_fixed : (pairDown d).fixed = d.fixed := by simp [pairDown]

/-! ### Machine/Tasks -/

@[simp] theorem freezeAi_fixed (ch bad) : (freezeAi ch bad d).2.fixed = d.fixed := by simp [freezeAi]
@[simp] theorem freezeFast_fixed (t el ch) : (freezeFast t el ch d).2.fixed = d.fixed := by simp [freezeFast]

@[simp] theorem freezeSource_fixed (t el level badAi) : (freezeSource t el level badAi d).2.fixed = d.fixed := by
  simp only [freezeSource]
  (repeat' split) <;> simp

@[simp] theorem latch_fixed (t el v) : (latch t el v d).fixed = d.fixed := by simp [latch]
@[simp] theorem modPIn_fixed (el f) : (modPIn el f d).fixed = d.fixed := by simp [modPIn]
@[simp] theorem takeInput_fixed (t el v) : (takeInput t el v d).fixed = d.fixed := by simp [takeInput]
@[simp] theorem awaitFreeze_fixed (el v) : (awaitFreeze el v d).fixed = d.fixed := by simp [awaitFreeze]
@[simp] theorem dropEarly_fixed (t owned) : (dropEarly t owned d).fixed = d.fixed := by simp [dropEarly]

@[simp] theorem arrive_fixed (t el v) : (arrive t el v d).fixed = d.fixed := by
  simp only [arrive]
  split <;> simp

@[simp] theorem freezeEl_fixed (t level badAi owned el) : (freezeEl t level badAi owned d el).fixed = d.fixed := by
  simp only [freezeEl]
  (repeat' split) <;> simp

@[simp] theorem overrideK_fixed (el v) : (overrideK el v d).fixed = d.fixed := by simp [overrideK]

@[simp] theorem applyRecords_fixed (t) : (applyRecords t d).fixed = d.fixed := by
  have records (f : Dev → StagedRec → Dev) (l : List StagedRec) (h : ∀ d x, (f d x).fixed = d.fixed) :
      (l.foldl f d).fixed = d.fixed := foldl_fixed f h l d
  unfold applyRecords
  dsimp only
  (repeat' split) <;> simp
  all_goals
    rw [records]
    intro d r
    split <;> simp

@[simp] theorem applyPolicies_fixed (owned) : (applyPolicies owned d).fixed = d.fixed := by simp [applyPolicies]
@[simp] theorem beginCycle_fixed (t level badAi) : (beginCycle t level badAi d).fixed = d.fixed := by simp [beginCycle]
@[simp] theorem goStale_fixed (t el) : (goStale t el d).fixed = d.fixed := by simp [goStale]

@[simp] theorem countSilent_fixed (t stale pid) : (countSilent t stale pid d).fixed = d.fixed := by
  unfold countSilent
  split <;> simp

@[simp] theorem l0Done_fixed (t) : (l0Done t d).fixed = d.fixed := by simp [l0Done]
@[simp] theorem reportConfirm_fixed (t) : (reportConfirm t d).fixed = d.fixed := by simp [reportConfirm]

@[simp] theorem overrun_fixed (t) : (overrun t d).fixed = d.fixed := by
  unfold overrun
  split <;> simp

@[simp] theorem sendDecision_fixed (t go) : (sendDecision t go d).fixed = d.fixed := by simp [sendDecision]

@[simp] theorem mismatch_fixed (context t analogue el) : (mismatch context t analogue el d).fixed = d.fixed := by
  simp [mismatch]

@[simp] theorem modTake_fixed (f) : (modTake f d).fixed = d.fixed := by simp [modTake]

@[simp] theorem warmCompare_fixed (t) : (warmCompare t d).fixed = d.fixed := by
  simp only [warmCompare]
  (repeat' split) <;> simp

@[simp] theorem commitJournals_fixed (t) : (commitJournals t d).fixed = d.fixed := by simp [commitJournals]

@[simp] theorem commitValues_fixed (t) : (commitValues t d).fixed = d.fixed := by
  unfold commitValues
  dsimp only
  rw [foldl_fixed, foldl_fixed, foldl_fixed]
  · intro d k
    split <;> simp
  · simp
  · simp

@[simp] theorem commitRetentive_fixed (t keys) : (commitRetentive t keys d).fixed = d.fixed := by simp [commitRetentive]
@[simp] theorem commitStats_fixed (t) : (commitStats t d).fixed = d.fixed := by simp [commitStats]

@[simp] theorem commitInputs_fixed (t) : (commitInputs t d).fixed = d.fixed := by
  unfold commitInputs
  rw [foldl_fixed]
  intro d el
  split <;> simp

@[simp] theorem releaseTask_fixed (t) : (releaseTask t d).fixed = d.fixed := by simp [releaseTask]
@[simp] theorem commitTask_fixed (t m) : (commitTask t m d).fixed = d.fixed := by simp [commitTask]

@[simp] theorem abandonCycle_fixed (t) : (abandonCycle t d).fixed = d.fixed := by
  unfold abandonCycle
  split <;> simp

@[simp] theorem enterHold_fixed : (enterHold d).fixed = d.fixed := by simp [enterHold]
@[simp] theorem leaveHold_fixed : (leaveHold d).fixed = d.fixed := by simp [leaveHold]
@[simp] theorem tickStep_fixed : (tickStep d).fixed = d.fixed := by simp [tickStep]
@[simp] theorem markTick_fixed : (markTick d).fixed = d.fixed := by simp [markTick]

/-! ### Machine/Gligil -/

@[simp] theorem modGl_fixed (f) : (modGl f d).fixed = d.fixed := by simp [modGl]
@[simp] theorem modPort_fixed (p f) : (modPort p f d).fixed = d.fixed := by simp [modPort]
@[simp] theorem linkEvent_fixed (p) : (linkEvent p d).fixed = d.fixed := by simp [linkEvent]

@[simp] theorem ringUpdate_fixed (changed) : (ringUpdate changed d).fixed = d.fixed := by
  unfold ringUpdate
  split <;> simp

@[simp] theorem takeWorking_fixed (t block key value quality prov) :
    (takeWorking t block key value quality prov d).fixed = d.fixed := by
  simp [takeWorking]

@[simp] theorem takePublication_fixed (id tv) : (takePublication id tv d).fixed = d.fixed := by simp [takePublication]

/-! ### Machine/Network -/

@[simp] theorem linkChange_fixed (p up) : (linkChange p up d).fixed = d.fixed := by simp [linkChange]
@[simp] theorem redError_fixed (kind port) : (redError kind port d).fixed = d.fixed := by simp [redError]
@[simp] theorem nodeSeen_fixed (p fr) : (nodeSeen p fr d).fixed = d.fixed := by simp [nodeSeen]
@[simp] theorem modPtp_fixed (f) : (modPtp f d).fixed = d.fixed := by simp [modPtp]
@[simp] theorem ptpChange_fixed (gm) : (ptpChange gm d).fixed = d.fixed := by simp [ptpChange]
@[simp] theorem setLock_fixed (l) : (setLock l d).fixed = d.fixed := by simp [setLock]
@[simp] theorem ptpDecide_fixed (alone) : (ptpDecide alone d).fixed = d.fixed := by simp [ptpDecide]
@[simp] theorem announce_fixed : (announce d).fixed = d.fixed := by simp [announce]
@[simp] theorem retryRefused_fixed (pid image) : (retryRefused pid image d).fixed = d.fixed := by simp [retryRefused]

@[simp] theorem announced_fixed (ip h) : (announced ip h d).fixed = d.fixed := by
  unfold announced
  (repeat' split) <;> simp

@[simp] theorem instanceHeld_fixed (i x k cycle vals) : (instanceHeld i x k cycle vals d).fixed = d.fixed := by
  simp [instanceHeld]

@[simp] theorem takeFragment_fixed (i x k p) : (takeFragment i x k p d).fixed = d.fixed := by simp [takeFragment]
@[simp] theorem subscribeAnswer_fixed (ip n r) : (subscribeAnswer ip n r d).fixed = d.fixed := by simp [subscribeAnswer]
@[simp] theorem netApply_fixed (c) : (netApply c d).fixed = d.fixed := by simp [netApply]

@[simp] theorem subOp_fixed (op i) : (subOp op i d).fixed = d.fixed := by
  unfold subOp
  split <;> simp

@[simp] theorem ptpApply_fixed (c) : (ptpApply c d).fixed = d.fixed := by simp [ptpApply]

/-! ### Machine/Lease -/

@[simp] theorem modLease_fixed (f) : (modLease f d).fixed = d.fixed := by simp [modLease]

@[simp] theorem leaseRequest_fixed (cold fallback) : (leaseRequest cold fallback d).2.fixed = d.fixed := by
  simp [leaseRequest]

@[simp] theorem toArbiter_fixed (type x) : (toArbiter type x d).fixed = d.fixed := by simp [toArbiter]
@[simp] theorem sendLeaseReq_fixed (cold) : (sendLeaseReq cold d).fixed = d.fixed := by simp [sendLeaseReq]
@[simp] theorem requestLease_fixed : (requestLease d).fixed = d.fixed := by simp [requestLease]

theorem arbiterAnswer_fixed (type ip data) (f : LeaseMsg → Outstanding → Dev) (h : ∀ x o, (f x o).fixed = d.fixed) :
    (arbiterAnswer type ip data d f).fixed = d.fixed := by
  refine withStation_fixed d _ _ _ fun x => ?_
  (repeat' split) <;> simp [h]

@[simp] theorem leaseAck_fixed (arbiter x o) : (leaseAck arbiter x o d).fixed = d.fixed := by simp [leaseAck]
@[simp] theorem arbiterTest_fixed : (arbiterTest d).fixed = d.fixed := by simp [arbiterTest]
@[simp] theorem modArb_fixed (e f) : (modArb e f d).fixed = d.fixed := by simp [modArb]
@[simp] theorem arbAnswer_fixed (e type r x) : (arbAnswer e type r x d).fixed = d.fixed := by simp [arbAnswer]
@[simp] theorem arbDeny_fixed (e r reason) : (arbDeny e r reason d).fixed = d.fixed := by simp [arbDeny]
@[simp] theorem arbGrant_fixed (e r) : (arbGrant e r d).fixed = d.fixed := by simp [arbGrant]

@[simp] theorem arbNext_fixed (e) : (arbNext e d).fixed = d.fixed := by
  unfold arbNext
  split <;> simp

@[simp] theorem noteReq_fixed (c epoch n) : (noteReq c epoch n d).fixed = d.fixed := by simp [noteReq]

theorem forArbiter_fixed (type ip data) (f : LeaseMsg → Nat → Word → StHeader → Dev → Dev)
    (h : ∀ x k e y d, (f x k e y d).fixed = d.fixed) : (forArbiter type ip data d f).fixed = d.fixed := by
  unfold forArbiter
  split
  · rfl
  · refine withStation_fixed d _ _ _ fun x => ?_
    (repeat' split) <;> simp [h]

@[simp] theorem arbRequest_fixed (e x r) : (arbRequest e x r d).fixed = d.fixed := by simp [arbRequest]

@[simp] theorem arbRenew_fixed (e ip x epoch h) : (arbRenew e ip x epoch h d).fixed = d.fixed := by
  simp only [arbRenew]
  (repeat' split) <;> simp

theorem fallbackAck_fixed (x) (send : Bytes → Dev → Dev) (h : ∀ b d, (send b d).fixed = d.fixed) :
    (fallbackAck x send d).fixed = d.fixed := by
  simp [fallbackAck, h]

@[simp] theorem arbSet_fixed (p) : (arbSet p d).fixed = d.fixed := by simp [arbSet]

/-! ### Machine/Firn -/

@[simp] theorem modFirn_fixed (f) : (modFirn f d).fixed = d.fixed := by simp [modFirn]
@[simp] theorem modShadow_fixed (f) : (modShadow f d).fixed = d.fixed := by simp [modShadow]
@[simp] theorem setStandby_fixed (st) : (setStandby st d).fixed = d.fixed := by simp [setStandby]
@[simp] theorem firnSend_fixed (type body) : (firnSend type body d).fixed = d.fixed := by simp [firnSend]
@[simp] theorem sendSegment_fixed (im off) : (sendSegment im off d).fixed = d.fixed := by simp [sendSegment]

@[simp] theorem pumpPass_fixed (im n) : (pumpPass im n d).fixed = d.fixed := by
  induction n generalizing d with
  | zero => rfl
  | succ n ih =>
    unfold pumpPass
    (repeat' split) <;> simp [ih]

@[simp] theorem startPassSend_fixed : (startPassSend d).fixed = d.fixed := by
  unfold startPassSend
  split <;> simp

@[simp] theorem backlogTest_fixed : (backlogTest d).fixed = d.fixed := by simp [backlogTest]

@[simp] theorem sendDelta_fixed (t final) : (sendDelta t final d).fixed = d.fixed := by
  unfold sendDelta
  split <;> simp

@[simp] theorem sendShadowInput_fixed (t) : (sendShadowInput t d).fixed = d.fixed := by simp [sendShadowInput]

theorem pairPayload_fixed (type via data) (f : Bytes → Dev) (h : ∀ p, (f p).fixed = d.fixed) :
    (pairPayload type via data d f).fixed = d.fixed := by
  unfold pairPayload
  split
  · simp [h]
  · refine withStation_fixed d _ _ _ fun x => ?_
    (repeat' split) <;> simp [h]

@[simp] theorem sendFirnAck_fixed : (sendFirnAck d).fixed = d.fixed := by simp [sendFirnAck]
@[simp] theorem passComplete_fixed : (passComplete d).fixed = d.fixed := by simp [passComplete]

@[simp] theorem applyFrame_fixed (f) : (applyFrame f d).fixed = d.fixed := by
  unfold applyFrame
  split <;> simp

@[simp] theorem drainFrames_fixed (n) : (drainFrames n d).fixed = d.fixed := by
  induction n generalizing d with
  | zero => rfl
  | succ n ih =>
    unfold drainFrames
    dsimp only
    split <;> simp [ih]

@[simp] theorem takeFrame_fixed (seq f) : (takeFrame seq f d).fixed = d.fixed := by simp [takeFrame]
@[simp] theorem dropRequest_fixed : (dropRequest d).fixed = d.fixed := by simp [dropRequest]
@[simp] theorem joinStep_fixed (t) : (joinStep t d).fixed = d.fixed := by simp [joinStep]
@[simp] theorem shadowMiss_fixed (t r cycle) : (shadowMiss t r cycle d).fixed = d.fixed := by simp [shadowMiss]
@[simp] theorem loadReplica_fixed (im) : (loadReplica im d).fixed = d.fixed := by simp [loadReplica]
@[simp] theorem shadowReport_fixed : (shadowReport d).2.fixed = d.fixed := by simp [shadowReport]

/-! ### Machine/Otp -/

@[simp] theorem spoil_fixed (n valid) : (spoil n valid d).2.fixed = d.fixed := by simp [spoil]
@[simp] theorem spoilWrite_fixed (w m) : (spoilWrite w m d).1.fixed = d.fixed := by simp [spoilWrite]
@[simp] theorem dropCandidate_fixed (k) : (dropCandidate k d).fixed = d.fixed := by simp [dropCandidate]

@[simp] theorem otpDone_fixed (ok m) : (otpDone ok m d).1.fixed = d.fixed := by
  unfold otpDone
  (repeat' split) <;> simp

@[simp] theorem startOtp_fixed (w) : (startOtp w d).fixed = d.fixed := by simp [startOtp]

@[simp] theorem repairAct_fixed (o m p) : (repairAct o m d p).1.fixed = d.fixed := by
  unfold repairAct
  (repeat' split) <;> simp

/-! ### Machine/Serial -/

@[simp] theorem modSer_fixed (f) : (modSer f d).fixed = d.fixed := by simp [modSer]
@[simp] theorem modCan_fixed (c f) : (modCan c f d).fixed = d.fixed := by simp [modCan]
@[simp] theorem modUart_fixed (u f) : (modUart u f d).fixed = d.fixed := by simp [modUart]
@[simp] theorem putField_fixed (el value quality) : (putField el value quality d).fixed = d.fixed := by simp [putField]
@[simp] theorem loseField_fixed (el) : (loseField el d).fixed = d.fixed := by simp [loseField]
@[simp] theorem fieldWord_fixed (analogue x) : (fieldWord analogue x d).2.fixed = d.fixed := by simp [fieldWord]
@[simp] theorem openQuotient_fixed (a b) : (openQuotient a b d).2.fixed = d.fixed := by simp [openQuotient]

@[simp] theorem busNumber_fixed (analogue signed n v) : (busNumber analogue signed n v d).2.fixed = d.fixed := by
  simp [busNumber]

@[simp] theorem canData_fixed (x) : (canData x d).2.fixed = d.fixed := by
  unfold canData
  rw [foldl_snd_fixed]
  simp

@[simp] theorem sendCan_fixed (t) : (sendCan t d).fixed = d.fixed := by simp [sendCan]
@[simp] theorem canApply_fixed (p) : (canApply p d).fixed = d.fixed := by simp [canApply]
@[simp] theorem uartError_fixed (u kind) : (uartError u kind d).fixed = d.fixed := by simp [uartError]

@[simp] theorem pollData_fixed (x) : (pollData x d).2.fixed = d.fixed := by
  unfold pollData
  rw [foldl_snd_fixed]
  simp

@[simp] theorem pollRequest_fixed (x) : (pollRequest x d).2.fixed = d.fixed := by simp [pollRequest]
@[simp] theorem loseRegs_fixed (x) : (loseRegs x d).fixed = d.fixed := by simp [loseRegs]
@[simp] theorem takeRegs_fixed (x data) : (takeRegs x data d).fixed = d.fixed := by simp [takeRegs]

@[simp] theorem takeSentence_fixed (x f) : (takeSentence x f d).fixed = d.fixed := by
  simp only [takeSentence]
  (repeat' split) <;> simp

@[simp] theorem uartApply_fixed (p) : (uartApply p d).fixed = d.fixed := by simp [uartApply]

/-! ### Machine/Place -/

@[simp] theorem marginPercent_fixed (tile) : (marginPercent tile d).2.fixed = d.fixed := by simp [marginPercent]

@[simp] theorem speedTest_fixed (tile) : (speedTest tile d).fixed = d.fixed := by
  unfold speedTest
  split <;> simp

@[simp] theorem speedSample_fixed (r) : (speedSample r d).fixed = d.fixed := by simp [speedSample]

theorem queuedMove_fixed {src tgt} {e : Dev} (h : queuedMove src tgt d = some e) : e.fixed = d.fixed := by
  unfold queuedMove at h
  (repeat' split at h) <;> cases h
  simp

@[simp] theorem revalidate_fixed (b move) : (revalidate b move d).fixed = d.fixed := by
  simp only [revalidate]
  split
  · split
    · simp
    · split
      · next h => simp [queuedMove_fixed _ h]
      · simp
  · rfl

/-! ### Machine/Program -/

@[simp] theorem modSlotRec_fixed (n f) : (modSlotRec n f d).fixed = d.fixed := by simp [modSlotRec]
@[simp] theorem modLoad_fixed (f) : (modLoad f d).fixed = d.fixed := by simp [modLoad]
@[simp] theorem placementEvent_fixed (n) : (placementEvent n d).fixed = d.fixed := by simp [placementEvent]
@[simp] theorem startChecks_fixed (n) : (startChecks n d).fixed = d.fixed := by simp [startChecks]
@[simp] theorem beginLoad_fixed (n len) : (beginLoad n len d).fixed = d.fixed := by simp [beginLoad]
@[simp] theorem endLoad_fixed (n) : (endLoad n d).fixed = d.fixed := by simp [endLoad]
@[simp] theorem fromFlash_fixed (slot i m) : (fromFlash slot i m d).1.fixed = d.fixed := by simp [fromFlash]

@[simp] theorem loadAct_fixed (m p) : (loadAct m d p).1.1.fixed = d.fixed := by
  unfold loadAct
  split <;> simp

@[simp] theorem retainAll_fixed (im) : (retainAll im d).fixed = d.fixed := by simp [retainAll]

@[simp] theorem install_fixed (n im vals timers counters edges fields m) :
    (install n im vals timers counters edges fields m d).fixed = d.fixed := by
  unfold install
  simp only [shadowWrite_fixed, panelSwap_fixed, rebindAll_fixed, subscribeAll_fixed]
  simp

@[simp] theorem swapSlot_fixed (im u n) : (swapSlot im u n d).fixed = d.fixed := by
  unfold swapSlot
  (repeat' split) <;> simp

@[simp] theorem restoreSlot_fixed (im u n) : (restoreSlot im u n d).fixed = d.fixed := by simp [restoreSlot]

theorem eachSlot_fixed (f : Nat → Nat → Dev → Dev) (h : ∀ u n d, (f u n d).fixed = d.fixed) :
    (eachSlot f d).fixed = d.fixed := by
  simp [eachSlot, h]

@[simp] theorem swapNow_fixed (us m) : (swapNow us m d).fixed = d.fixed := by
  simp [swapNow, eachSlot_fixed]

@[simp] theorem gapStart_fixed : (gapStart d).fixed = d.fixed := by simp [gapStart]
@[simp] theorem gapEnd_fixed (us m) : (gapEnd us m d).fixed = d.fixed := by simp [gapEnd]
@[simp] theorem spread_fixed (b map) : (spread b map d).fixed = d.fixed := by simp [spread]

@[simp] theorem startProgram_fixed (n m) : (startProgram n m d).fixed = d.fixed := by
  simp [startProgram, eachSlot_fixed]

@[simp] theorem bootFault_fixed : (bootFault d).fixed = d.fixed := by simp [bootFault]
@[simp] theorem bootLoad_fixed (m) : (bootLoad m d).1.fixed = d.fixed := by simp [bootLoad]

@[simp] theorem checksDone_fixed (map m) : (checksDone map m d).1.fixed = d.fixed := by
  simp only [checksDone]
  (repeat' split) <;> simp

@[simp] theorem placementPart_fixed (map own) : (placementPart map own d).fixed = d.fixed := by simp [placementPart]

@[simp] theorem imagePart_fixed (off data last m) : (imagePart off data last m d).1.fixed = d.fixed := by
  simp [imagePart]

/-! ### Machine/Flash -/

@[simp] theorem applyConf_fixed (c) : (applyConf c d).fixed = d.fixed := by simp [applyConf]
@[simp] theorem modPwr_fixed (f) : (modPwr f d).fixed = d.fixed := by simp [modPwr]
@[simp] theorem confSave_fixed : (confSave d).fixed = d.fixed := by simp [confSave]
@[simp] theorem periodicSnapshot_fixed : (periodicSnapshot d).fixed = d.fixed := by simp [periodicSnapshot]
@[simp] theorem flashFault_fixed : (flashFault d).fixed = d.fixed := by simp [flashFault]

@[simp] theorem flashDone_fixed (k ok) : (flashDone k ok d).fixed = d.fixed := by
  unfold flashDone
  (repeat' split) <;> simp

@[simp] theorem snapshotDone_fixed (ok) : (snapshotDone ok d).fixed = d.fixed := by
  unfold snapshotDone
  (repeat' split) <;> simp

@[simp] theorem restoreHistory_fixed (c por) : (restoreHistory c por d).fixed = d.fixed := by simp [restoreHistory]

@[simp] theorem takeEpoch_fixed : (takeEpoch d).fixed = d.fixed := by
  unfold takeEpoch
  split <;> simp

@[simp] theorem loadBootFrame_fixed (m) : (loadBootFrame m d).1.fixed = d.fixed := by simp [loadBootFrame]

/-! ### Machine/TaskCmd -/

@[simp] theorem taskCfgApply_fixed (p) : (taskCfgApply p d).fixed = d.fixed := by simp [taskCfgApply]
@[simp] theorem freshTimers_fixed (t) : (freshTimers t d).fixed = d.fixed := by simp [freshTimers]
@[simp] theorem startTask_fixed (t) : (startTask t d).fixed = d.fixed := by simp [startTask]
@[simp] theorem stopSelected_fixed (safe t) : (stopSelected safe t d).fixed = d.fixed := by simp [stopSelected]
@[simp] theorem policyApply_fixed (p) : (policyApply p d).fixed = d.fixed := by simp [policyApply]

@[simp] theorem readOne_fixed (space el) : (readOne space el d).2.fixed = d.fixed := by
  simp only [readOne]
  (repeat' split) <;> simp

@[simp] theorem reportBudget_fixed (t) : (reportBudget t d).2.fixed = d.fixed := by simp [reportBudget]
@[simp] theorem reportBlock_fixed (b) : (reportBlock b d).2.fixed = d.fixed := by simp [reportBlock]
@[simp] theorem reportTile_fixed (t) : (reportTile t d).2.fixed = d.fixed := by simp [reportTile]

theorem gather_fixed {α : Type} (f : α → Dev → Bytes × Dev) (h : ∀ x d, (f x d).2.fixed = d.fixed) (l) :
    (gather f l d).2.fixed = d.fixed := by
  simp only [gather]
  rw [foldl_snd_fixed]
  simp [h]

@[simp] theorem reportPage_fixed (kind page) : (reportPage kind page d).2.fixed = d.fixed := by
  unfold reportPage
  split <;> simp [gather_fixed]

/-! ### Machine/PairCmd -/

@[simp] theorem followSwap_fixed (m) : (followSwap m d).fixed = d.fixed := by simp [followSwap]

@[simp] theorem pairNotice_fixed (n m) : (pairNotice n m d).fixed = d.fixed := by
  unfold pairNotice
  (repeat' split) <;> simp

theorem applyIf_fixed (tests) (f : Dev → Dev) (h : ∀ d, (f d).fixed = d.fixed) :
    (applyIf tests f d).fixed = d.fixed := by
  simp [applyIf, h]

@[simp] theorem forwarded_fixed (code p) : (forwarded code p d).fixed = d.fixed := by
  unfold forwarded
  split <;> simp [applyIf_fixed]

/-! ### Machine/Power -/

@[simp] theorem wdgStage1_fixed (pair) : (wdgStage1 pair d).fixed = d.fixed := by simp [wdgStage1]
@[simp] theorem openChannels_fixed : (openChannels d).fixed = d.fixed := by simp [openChannels]
@[simp] theorem fwReady_fixed : (fwReady d).fixed = d.fixed := by simp [fwReady]

@[simp] theorem restoreConf_fixed : (restoreConf d).2.fixed = d.fixed := by
  unfold restoreConf
  split <;> simp

@[simp] theorem restoreData_fixed : (restoreData d).fixed = d.fixed := by
  unfold restoreData
  (repeat' split) <;> simp

@[simp] theorem restoreLost_fixed (a) : (restoreLost a d).fixed = d.fixed := by simp [restoreLost]

@[simp] theorem loseRecord_fixed (im x) : (loseRecord im x d).fixed = d.fixed := by
  unfold loseRecord
  split <;> simp

@[simp] theorem loseRecords_fixed (m lost) : (loseRecords m lost d).fixed = d.fixed := by simp [loseRecords]

@[simp] theorem startFirmware_fixed (lost m copy fallback) :
    (startFirmware lost m copy fallback d).1.fixed = d.fixed := by
  simp only [startFirmware]
  split <;> simp

@[simp] theorem startupReady_fixed (lost m) : (startupReady lost m d).1.fixed = d.fixed := by
  unfold startupReady
  dsimp only
  (repeat' split) <;> simp

@[simp] theorem programLoad_fixed (m) : (programLoad m d).1.fixed = d.fixed := by simp [programLoad]
@[simp] theorem autostart_fixed (b) : (autostart b d).fixed = d.fixed := by simp [autostart]
@[simp] theorem railWarn_fixed (i mv) : (railWarn i mv d).fixed = d.fixed := by simp [railWarn]
@[simp] theorem railStep_fixed (i mv) : (railStep i mv d).fixed = d.fixed := by simp [railStep]
@[simp] theorem railSample_fixed (mv) : (railSample mv d).fixed = d.fixed := by simp [railSample]
@[simp] theorem vbatMeasure_fixed (v) : (vbatMeasure v d).fixed = d.fixed := by simp [vbatMeasure]
@[simp] theorem tjHighStep_fixed (detail sum) : (tjHighStep detail sum d).fixed = d.fixed := by simp [tjHighStep]

@[simp] theorem tjMeasure_fixed (sensor temp) : (tjMeasure sensor temp d).fixed = d.fixed := by
  simp only [tjMeasure]
  (repeat' split) <;> simp

@[simp] theorem pfwFall_fixed (m) : (pfwFall m d).1.fixed = d.fixed := by simp [pfwFall]
@[simp] theorem pfwEnd_fixed : (pfwEnd d).fixed = d.fixed := by simp [pfwEnd]

/-! ### Machine/Publish -/

@[simp] theorem sendSet_fixed (k cycle x) : (sendSet k cycle x d).fixed = d.fixed := by simp [sendSet]
@[simp] theorem countUnacked_fixed (sets prev) : (countUnacked sets prev d).fixed = d.fixed := by simp [countUnacked]
@[simp] theorem publishSets_fixed (t) : (publishSets t d).fixed = d.fixed := by simp [publishSets]
@[simp] theorem bindText_fixed (im b v) : (bindText im b v d).2.fixed = d.fixed := by simp [bindText]

@[simp] theorem sentence_fixed (im k x) : (sentence im k x d).2.fixed = d.fixed := by
  simp only [sentence]
  rw [foldl_snd_fixed]
  simp

@[simp] theorem sendSentences_fixed (t) : (sendSentences t d).fixed = d.fixed := by simp [sendSentences]
@[simp] theorem sendPublications_fixed (t) : (sendPublications t d).fixed = d.fixed := by simp [sendPublications]
@[simp] theorem publish_fixed (t) : (publish t d).fixed = d.fixed := by simp [publish]

end

end Sys2Proof.Machine
end

section
/-!
PROOF. The commands that leave the fixed part as it is: all but those that clear pending events, those that reset the
device, and the end of the internal reset.
-/

namespace Sys2Proof.Machine

open Sys2Proof

/-- A next state that an outcome gives has the fixed part of the state before. -/
def Fixes (s : State) (o : Host.Outcome State Fault Refusal) : Prop := ∀ t, o = .next t → t.dev.fixed = s.dev.fixed

section
variable (s : State)

/-! ## The shapes of a command -/

@[simp] theorem fixes_nextD (f : Dev → Dev) : Fixes s (nextD s f) ↔ (f s.dev).fixed = s.dev.fixed := by
  simp [Fixes, nextD]

@[simp] theorem fixes_nextR (f : Mems → Dev → Dev) : Fixes s (nextR s f) ↔ (f s.mem s.dev).fixed = s.dev.fixed := by
  simp [Fixes, nextR]

@[simp] theorem fixes_nextM (f : Mems → Dev → Dev × Mems) :
    Fixes s (nextM s f) ↔ (f s.mem s.dev).1.fixed = s.dev.fixed := by
  simp [Fixes, nextM]

/-- A mailbox command whose effect leaves the fixed part as it is does so, whichever of its checks fails. -/
@[simp] theorem runCmd_fixes (o code absent tests) (act : Mems → Dev → Bytes → Dev × Reply)
    (h : ∀ m d p, (act m d p).1.fixed = d.fixed) : Fixes s (runCmd s o code absent tests act) := by
  rw [runCmd, fixes_nextR]
  dsimp only
  (repeat' split) <;> simp [h]

@[simp] theorem runCmdM_fixes (o code absent tests) (act : Mems → Dev → Bytes → (Dev × Mems) × Reply)
    (h : ∀ m d p, (act m d p).1.1.fixed = d.fixed) : Fixes s (runCmdM s o code absent tests act) := by
  rw [runCmdM, fixes_nextM]
  dsimp only
  (repeat' split) <;> simp [h]

@[simp] theorem fieldD_fixes (f : Dev → Dev) (h : ∀ d, (f d).fixed = d.fixed) : Fixes s (fieldD s f) := by
  simp [fieldD, h]

@[simp] theorem glD_fixes (f : Dev → Dev) (h : ∀ d, (f d).fixed = d.fixed) : Fixes s (glD s f) := by
  simp [glD, h]

@[simp] theorem panelR_fixes (f : Mems → Dev → Dev) (h : ∀ m d, (f m d).fixed = d.fixed) : Fixes s (panelR s f) := by
  simp [panelR, h]

/-- A row of the cell machine: nothing runs, a fault of the silicon is taken, or the instruction is carried out. -/
@[simp] theorem cellRow_fixes (op c f) (sem : IWord → Dev → Dev) (h : ∀ i d, (sem i d).fixed = d.fixed) :
    Fixes s (cellRow op c f s sem) := by
  rw [cellRow, fixes_nextD]
  dsimp only
  split
  · rfl
  · split
    · next hf => exact siliconFault_fixed _ hf
    · simp [h]

@[simp] theorem cellStep_fixes (op c f) (sem : IWord → Dev → Dev) (h : ∀ i d, (sem i d).fixed = d.fixed) :
    Fixes s (cellStep op c f s sem) := by
  simp [cellStep, h]

/-! ## The commands -/

/-! ### Machine/Mailbox -/

@[simp] theorem execMbxRing_fixes (n) : Fixes s (execMbxRing n s) := by simp [execMbxRing]
@[simp] theorem execMbxRelease_fixes (n again) : Fixes s (execMbxRelease n again s) := by simp [execMbxRelease]

@[simp] theorem execMbxCommandComplete_fixes (o k) : Fixes s (execMbxCommandComplete o k s) := by
  simp [execMbxCommandComplete]

@[simp] theorem execUnknownCommand_fixes (o) : Fixes s (execUnknownCommand o s) := by
  rw [execUnknownCommand, fixes_nextD]
  split <;> simp

@[simp] theorem execMailboxCmdReceived_fixes (ip port data) : Fixes s (execMailboxCmdReceived ip port data s) := by
  rw [execMailboxCmdReceived, fixes_nextD]
  split
  · rfl
  · exact withStation_fixed _ _ _ _ fun h => by simp

/-! ### Machine/Digital -/

@[simp] theorem execDiFilterSample_fixes (i high) : Fixes s (execDiFilterSample i high s) := by
  simp [execDiFilterSample]

@[simp] theorem execDiWireBreakTimer_fixes (i low) : Fixes s (execDiWireBreakTimer i low s) := by
  simp [execDiWireBreakTimer]

@[simp] theorem execDiCountEdge_fixes (i rising) : Fixes s (execDiCountEdge i rising s) := by simp [execDiCountEdge]

@[simp] theorem execDoShortSupplyDetect_fixes (j above) : Fixes s (execDoShortSupplyDetect j above s) := by
  simp [execDoShortSupplyDetect]

@[simp] theorem execDoOpenLoadDetect_fixes (j below) : Fixes s (execDoOpenLoadDetect j below s) := by
  simp [execDoOpenLoadDetect]

@[simp] theorem execDoIlimTimeout_fixes (j) : Fixes s (execDoIlimTimeout j s) := by simp [execDoIlimTimeout]
@[simp] theorem execDoRetryTimer_fixes (j) : Fixes s (execDoRetryTimer j s) := by simp [execDoRetryTimer]

@[simp] theorem execDoRetryTrialPassed_fixes (j) : Fixes s (execDoRetryTrialPassed j s) := by
  simp [execDoRetryTrialPassed]

@[simp] theorem execDoOvertempEntry_fixes (j) : Fixes s (execDoOvertempEntry j s) := by simp [execDoOvertempEntry]
@[simp] theorem execDoOvertempRelease_fixes (j) : Fixes s (execDoOvertempRelease j s) := by simp [execDoOvertempRelease]

@[simp] theorem execDoGroupSupplyLoss_fixes (g v) : Fixes s (execDoGroupSupplyLoss g v s) := by
  unfold execDoGroupSupplyLoss
  apply fieldD_fixes
  intro d
  split <;> simp

@[simp] theorem execDoGroupSupplyReturn_fixes (g v) : Fixes s (execDoGroupSupplyReturn g v s) := by
  simp [execDoGroupSupplyReturn]

@[simp] theorem execDoGroupLatchedFall_fixes (g v) : Fixes s (execDoGroupLatchedFall g v s) := by
  simp [execDoGroupLatchedFall]

@[simp] theorem execDoReenergiseSlot_fixes (g) : Fixes s (execDoReenergiseSlot g s) := by simp [execDoReenergiseSlot]
@[simp] theorem execDoGroupLowSet_fixes (g v) : Fixes s (execDoGroupLowSet g v s) := by simp [execDoGroupLowSet]
@[simp] theorem execDoGroupLowClear_fixes (g v) : Fixes s (execDoGroupLowClear g v s) := by simp [execDoGroupLowClear]
@[simp] theorem execFieldWdgTimeout_fixes (t) : Fixes s (execFieldWdgTimeout t s) := by simp [execFieldWdgTimeout]
@[simp] theorem execExtsafeNAssert_fixes : Fixes s (execExtsafeNAssert s) := by simp [execExtsafeNAssert]
@[simp] theorem execExtsafeNRelease_fixes : Fixes s (execExtsafeNRelease s) := by simp [execExtsafeNRelease]
@[simp] theorem execTripEvaluation_fixes : Fixes s (execTripEvaluation s) := by simp [execTripEvaluation]
@[simp] theorem execTripStageExpiry_fixes : Fixes s (execTripStageExpiry s) := by simp [execTripStageExpiry]
@[simp] theorem execDiConfig_fixes (o) : Fixes s (execDiConfig o s) := by simp [execDiConfig]
@[simp] theorem execDoConfig_fixes (o) : Fixes s (execDoConfig o s) := by simp [execDoConfig]
@[simp] theorem execFieldWdgConfig_fixes (o) : Fixes s (execFieldWdgConfig o s) := by simp [execFieldWdgConfig]
@[simp] theorem execDiagRead_fixes (o m) : Fixes s (execDiagRead o m s) := by simp [execDiagRead]
@[simp] theorem execTripArm_fixes (o) : Fixes s (execTripArm o s) := by simp [execTripArm]

@[simp] theorem execTripConfirm_fixes (o) : Fixes s (execTripConfirm o s) := by
  unfold execTripConfirm
  apply runCmd_fixes
  intro m d p
  split <;> simp

@[simp] theorem execOutputReset_fixes (o cool) : Fixes s (execOutputReset o cool s) := by simp [execOutputReset]

/-! ### Machine/Analog -/

@[simp] theorem execAiConversion_fixes (i code) : Fixes s (execAiConversion i code s) := by simp [execAiConversion]

@[simp] theorem execAiLooppowerTimeout_fixes (i) : Fixes s (execAiLooppowerTimeout i s) := by
  simp [execAiLooppowerTimeout]

@[simp] theorem execAiLooppowerRetry_fixes (i limited) : Fixes s (execAiLooppowerRetry i limited s) := by
  simp [execAiLooppowerRetry]

@[simp] theorem execVfldALoss_fixes (v) : Fixes s (execVfldALoss v s) := by simp [execVfldALoss]
@[simp] theorem execVfldAReturn_fixes (v) : Fixes s (execVfldAReturn v s) := by simp [execVfldAReturn]
@[simp] theorem execAoRecoverySlot_fixes : Fixes s (execAoRecoverySlot s) := by simp [execAoRecoverySlot]
@[simp] theorem execAiSupplyGraceEnd_fixes : Fixes s (execAiSupplyGraceEnd s) := by simp [execAiSupplyGraceEnd]
@[simp] theorem execVfldALowSet_fixes (v) : Fixes s (execVfldALowSet v s) := by simp [execVfldALowSet]
@[simp] theorem execVfldALowClear_fixes (v) : Fixes s (execVfldALowClear v s) := by simp [execVfldALowClear]

@[simp] theorem execAoComplianceDetect_fixes (j present) : Fixes s (execAoComplianceDetect j present s) := by
  simp [execAoComplianceDetect]

@[simp] theorem execAoComplianceTimeExpiry_fixes (j reg) : Fixes s (execAoComplianceTimeExpiry j reg s) := by
  simp [execAoComplianceTimeExpiry]

@[simp] theorem execAoOpenDetect_fixes (j present) : Fixes s (execAoOpenDetect j present s) := by
  simp [execAoOpenDetect]

@[simp] theorem execAoMismatchDetect_fixes (j present) : Fixes s (execAoMismatchDetect j present s) := by
  simp [execAoMismatchDetect]

@[simp] theorem execAoReadbackConversion_fixes (j v) : Fixes s (execAoReadbackConversion j v s) := by
  simp [execAoReadbackConversion]

@[simp] theorem execAoTemperatureChange_fixes (j temp) : Fixes s (execAoTemperatureChange j temp s) := by
  simp [execAoTemperatureChange]

@[simp] theorem execAoThermalRecover_fixes (j temp) : Fixes s (execAoThermalRecover j temp s) := by
  simp [execAoThermalRecover]

@[simp] theorem execAiConfig_fixes (o) : Fixes s (execAiConfig o s) := by simp [execAiConfig]
@[simp] theorem execAoConfig_fixes (o) : Fixes s (execAoConfig o s) := by simp [execAoConfig]
@[simp] theorem execAnalogDiagRead_fixes (o m) : Fixes s (execAnalogDiagRead o m s) := by simp [execAnalogDiagRead]
@[simp] theorem execAnalogCalibrate_fixes (o) : Fixes s (execAnalogCalibrate o s) := by simp [execAnalogCalibrate]

@[simp] theorem execAiCaptureDone_fixes : Fixes s (execAiCaptureDone s) := by
  unfold execAiCaptureDone
  apply fieldD_fixes
  intro d
  split <;> simp

/-! ### Machine/History -/

@[simp] theorem execHistoryPeriodicFlush_fixes : Fixes s (execHistoryPeriodicFlush s) := by
  simp [execHistoryPeriodicFlush]

@[simp] theorem execHistoryClearFlush_fixes : Fixes s (execHistoryClearFlush s) := by simp [execHistoryClearFlush]

@[simp] theorem execHistoryFlushComplete_fixes (ok) : Fixes s (execHistoryFlushComplete ok s) := by
  simp [execHistoryFlushComplete]

@[simp] theorem execHistoryConfig_fixes (o) : Fixes s (execHistoryConfig o s) := by simp [execHistoryConfig]
@[simp] theorem execHistoryRead_fixes (o) : Fixes s (execHistoryRead o s) := by simp [execHistoryRead]
@[simp] theorem execHistoryClear_fixes (o) : Fixes s (execHistoryClear o s) := by simp [execHistoryClear]

/-! ### Machine/Panel -/

@[simp] theorem execPanelRailsSettled_fixes : Fixes s (execPanelRailsSettled s) := by simp [execPanelRailsSettled]

@[simp] theorem execPanelRailFaultDetect_fixes (pos neg kind mag) :
    Fixes s (execPanelRailFaultDetect pos neg kind mag s) := by
  simp [execPanelRailFaultDetect]

@[simp] theorem execPanelDischargeDone_fixes : Fixes s (execPanelDischargeDone s) := by simp [execPanelDischargeDone]
@[simp] theorem execPanelFrameStart_fixes : Fixes s (execPanelFrameStart s) := by simp [execPanelFrameStart]

@[simp] theorem execBistableRowPhaseEnd_fixes (fault) : Fixes s (execBistableRowPhaseEnd fault s) := by
  simp [execBistableRowPhaseEnd]

@[simp] theorem execPanelPassEnd_fixes : Fixes s (execPanelPassEnd s) := by simp [execPanelPassEnd]
@[simp] theorem execPtempMeasure_fixes (mv) : Fixes s (execPtempMeasure mv s) := by simp [execPtempMeasure]
@[simp] theorem execPanelRowWalk_fixes (bad) : Fixes s (execPanelRowWalk bad s) := by simp [execPanelRowWalk]
@[simp] theorem execPanelConfig_fixes (o) : Fixes s (execPanelConfig o s) := by simp [execPanelConfig]
@[simp] theorem execPanelFrameWrite_fixes (o) : Fixes s (execPanelFrameWrite o s) := by simp [execPanelFrameWrite]

@[simp] theorem execPanelFrameCommit_fixes (o) : Fixes s (execPanelFrameCommit o s) := by
  unfold execPanelFrameCommit
  apply runCmdM_fixes
  intro m d p
  dsimp only
  split <;> simp

@[simp] theorem execPanelRegionUpdate_fixes (o) : Fixes s (execPanelRegionUpdate o s) := by simp [execPanelRegionUpdate]
@[simp] theorem execPanelRetainOff_fixes (o) : Fixes s (execPanelRetainOff o s) := by simp [execPanelRetainOff]

@[simp] theorem execPanelBands_fixes (o) : Fixes s (execPanelBands o s) := by
  unfold execPanelBands
  apply runCmd_fixes
  intro m d p
  dsimp only
  (repeat' split) <;> simp

/-! ### Machine/CellFam -/

@[simp] theorem execCellLd_fixes (c f) : Fixes s (execCellLd c f s) := by simp [execCellLd]
@[simp] theorem execCellA_fixes (c f) : Fixes s (execCellA c f s) := by simp [execCellA]
@[simp] theorem execCellO_fixes (c f) : Fixes s (execCellO c f s) := by simp [execCellO]
@[simp] theorem execCellX_fixes (c f) : Fixes s (execCellX c f s) := by simp [execCellX]
@[simp] theorem execCellBa_fixes (c f) : Fixes s (execCellBa c f s) := by simp [execCellBa]
@[simp] theorem execCellBo_fixes (c f) : Fixes s (execCellBo c f s) := by simp [execCellBo]
@[simp] theorem execCellBx_fixes (c f) : Fixes s (execCellBx c f s) := by simp [execCellBx]
@[simp] theorem execCellBc_fixes (c f) : Fixes s (execCellBc c f s) := by simp [execCellBc]
@[simp] theorem execCellNot_fixes (c f) : Fixes s (execCellNot c f s) := by simp [execCellNot]
@[simp] theorem execCellAsn_fixes (c f) : Fixes s (execCellAsn c f s) := by simp [execCellAsn]
@[simp] theorem execCellSet_fixes (c f) : Fixes s (execCellSet c f s) := by simp [execCellSet]
@[simp] theorem execCellRst_fixes (c f) : Fixes s (execCellRst c f s) := by simp [execCellRst]
@[simp] theorem execCellPedge_fixes (c f) : Fixes s (execCellPedge c f s) := by simp [execCellPedge]
@[simp] theorem execCellNedge_fixes (c f) : Fixes s (execCellNedge c f s) := by simp [execCellNedge]
@[simp] theorem execCellTon_fixes (c f) : Fixes s (execCellTon c f s) := by simp [execCellTon]
@[simp] theorem execCellTof_fixes (c f) : Fixes s (execCellTof c f s) := by simp [execCellTof]
@[simp] theorem execCellTp_fixes (c f) : Fixes s (execCellTp c f s) := by simp [execCellTp]
@[simp] theorem execCellCtu_fixes (c f) : Fixes s (execCellCtu c f s) := by simp [execCellCtu]
@[simp] theorem execCellCtd_fixes (c f) : Fixes s (execCellCtd c f s) := by simp [execCellCtd]
@[simp] theorem execCellCrst_fixes (c f) : Fixes s (execCellCrst c f s) := by simp [execCellCrst]
@[simp] theorem execCellCld_fixes (c f) : Fixes s (execCellCld c f s) := by simp [execCellCld]
@[simp] theorem execCellLdw_fixes (c f) : Fixes s (execCellLdw c f s) := by simp [execCellLdw]
@[simp] theorem execCellMovw_fixes (c f) : Fixes s (execCellMovw c f s) := by simp [execCellMovw]
@[simp] theorem execCellCmp_fixes (c f) : Fixes s (execCellCmp c f s) := by simp [execCellCmp]
@[simp] theorem execCellCmpi_fixes (c f) : Fixes s (execCellCmpi c f s) := by simp [execCellCmpi]
@[simp] theorem execCellAdd_fixes (c f) : Fixes s (execCellAdd c f s) := by simp [execCellAdd]
@[simp] theorem execCellSub_fixes (c f) : Fixes s (execCellSub c f s) := by simp [execCellSub]
@[simp] theorem execCellMul_fixes (c f) : Fixes s (execCellMul c f s) := by simp [execCellMul]
@[simp] theorem execCellQual_fixes (c f) : Fixes s (execCellQual c f s) := by simp [execCellQual]
@[simp] theorem execCellFlg_fixes (c f) : Fixes s (execCellFlg c f s) := by simp [execCellFlg]
@[simp] theorem execCellJmp_fixes (c f) : Fixes s (execCellJmp c f s) := by simp [execCellJmp]
@[simp] theorem execCellNop_fixes (c f) : Fixes s (execCellNop c f s) := by simp [execCellNop]
@[simp] theorem execCellEnd_fixes (c f) : Fixes s (execCellEnd c f s) := by simp [execCellEnd]

@[simp] theorem execIllegalInstruction_fixes (c w spare) : Fixes s (execIllegalInstruction c w spare s) := by
  simp [execIllegalInstruction]

@[simp] theorem execBlockStart_fixes (c) : Fixes s (execBlockStart c s) := by
  rw [execBlockStart, fixes_nextD]
  split <;> simp

@[simp] theorem execL0ReloadDone_fixes (c) : Fixes s (execL0ReloadDone c s) := by simp [execL0ReloadDone]

@[simp] theorem execProgressStall_fixes (c spare) : Fixes s (execProgressStall c spare s) := by
  simp only [execProgressStall, fixes_nextD]
  split <;> simp

@[simp] theorem execMigrationPrepareDone_fixes : Fixes s (execMigrationPrepareDone s) := by
  simp [execMigrationPrepareDone]

@[simp] theorem execMigrationSwitch_fixes (t spare) : Fixes s (execMigrationSwitch t spare s) := by
  simp [execMigrationSwitch]

/-! ### Machine/Rtc -/

@[simp] theorem execRtcCommit_fixes : Fixes s (execRtcCommit s) := by simp [execRtcCommit]
@[simp] theorem execRtcCancel_fixes (commit) : Fixes s (execRtcCancel commit s) := by simp [execRtcCancel]

@[simp] theorem execRtcDisciplineWrite_fixes (on) : Fixes s (execRtcDisciplineWrite on s) := by
  simp [execRtcDisciplineWrite]

@[simp] theorem execRtcTrimWrite_fixes (v) : Fixes s (execRtcTrimWrite v s) := by simp [execRtcTrimWrite]
@[simp] theorem execRtcSetWrite_fixes (r v) : Fixes s (execRtcSetWrite r v s) := by simp [execRtcSetWrite]
@[simp] theorem execRtcTick_fixes : Fixes s (execRtcTick s) := by simp [execRtcTick]
@[simp] theorem execRtcLoad_fixes : Fixes s (execRtcLoad s) := by simp [execRtcLoad]
@[simp] theorem execLeapChangeApply_fixes : Fixes s (execLeapChangeApply s) := by simp [execLeapChangeApply]

@[simp] theorem execRtcDisciplineCompare_fixes (ptp) : Fixes s (execRtcDisciplineCompare ptp s) := by
  simp [execRtcDisciplineCompare]

@[simp] theorem execRtcOscStop_fixes : Fixes s (execRtcOscStop s) := by simp [execRtcOscStop]
@[simp] theorem execRtcOscStart_fixes : Fixes s (execRtcOscStart s) := by simp [execRtcOscStart]
@[simp] theorem execVbatRestore_fixes : Fixes s (execVbatRestore s) := by simp [execVbatRestore]
@[simp] theorem execTimeSetCalendar_fixes (o) : Fixes s (execTimeSetCalendar o s) := by simp [execTimeSetCalendar]
@[simp] theorem execTimeGetCalendar_fixes (o) : Fixes s (execTimeGetCalendar o s) := by simp [execTimeGetCalendar]

@[simp] theorem execConvert_fixes (o) : Fixes s (execConvert o s) := by
  unfold execConvert
  apply runCmd_fixes
  intro m d p
  dsimp only
  split <;> rfl

@[simp] theorem execLeapOffsetSet_fixes (o) : Fixes s (execLeapOffsetSet o s) := by simp [execLeapOffsetSet]

/-! ### Machine/HostPort -/

@[simp] theorem execEvtMaskWrite_fixes (k v) : Fixes s (execEvtMaskWrite k v s) := by simp [execEvtMaskWrite]
@[simp] theorem execEvtCtrlWrite_fixes (v) : Fixes s (execEvtCtrlWrite v s) := by simp [execEvtCtrlWrite]

@[simp] theorem execMsixMaskWrite_fixes (v masked) : Fixes s (execMsixMaskWrite v masked s) := by
  rw [execMsixMaskWrite, fixes_nextD]
  split <;> simp

@[simp] theorem execSpiPortStatus_fixes : Fixes s (execSpiPortStatus s) := by simp [execSpiPortStatus]

@[simp] theorem execPcieLinkTransition_fixes (up speed width) :
    Fixes s (execPcieLinkTransition up speed width s) := by
  simp [execPcieLinkTransition]

@[simp] theorem execPciePerst_fixes : Fixes s (execPciePerst s) := by simp [execPciePerst]

@[simp] theorem execPciePowerStateChange_fixes (d3hot) : Fixes s (execPciePowerStateChange d3hot s) := by
  simp [execPciePowerStateChange]

@[simp] theorem execPcieBusMasterEnableChange_fixes (on) : Fixes s (execPcieBusMasterEnableChange on s) := by
  simp [execPcieBusMasterEnableChange]

@[simp] theorem execGetIdentity_fixes (o) : Fixes s (execGetIdentity o s) := by simp [execGetIdentity]
@[simp] theorem execGetStatus_fixes (o) : Fixes s (execGetStatus o s) := by simp [execGetStatus]
@[simp] theorem execEventConfig_fixes (o) : Fixes s (execEventConfig o s) := by simp [execEventConfig]
@[simp] theorem execEventRead_fixes (o) : Fixes s (execEventRead o s) := by simp [execEventRead]

/-! ### Machine/Loop -/

@[simp] theorem execLoopSample_fixes (u faults badAi) : Fixes s (execLoopSample u faults badAi s) := by
  simp [execLoopSample]

@[simp] theorem execLoopConfig_fixes (o) : Fixes s (execLoopConfig o s) := by simp [execLoopConfig]
@[simp] theorem execLoopCoeffStage_fixes (o) : Fixes s (execLoopCoeffStage o s) := by simp [execLoopCoeffStage]
@[simp] theorem execLoopCoeffCommit_fixes (o) : Fixes s (execLoopCoeffCommit o s) := by simp [execLoopCoeffCommit]

@[simp] theorem execLoopFlagsReadClear_fixes (o) : Fixes s (execLoopFlagsReadClear o s) := by
  simp [execLoopFlagsReadClear]

@[simp] theorem execTraceArm_fixes (o) : Fixes s (execTraceArm o s) := by simp [execTraceArm]
@[simp] theorem execTraceRead_fixes (o) : Fixes s (execTraceRead o s) := by simp [execTraceRead]

/-! ### Machine/Scrub -/

@[simp] theorem execWeevilStep_fixes (faults written) : Fixes s (execWeevilStep faults written s) := by
  simp [execWeevilStep]

@[simp] theorem execScrubPassStep_fixes (p faults written) : Fixes s (execScrubPassStep p faults written s) := by
  simp [execScrubPassStep]

@[simp] theorem execScrubRange_fixes (o) : Fixes s (execScrubRange o s) := by simp [execScrubRange]
@[simp] theorem execScrubSummary_fixes (o) : Fixes s (execScrubSummary o s) := by simp [execScrubSummary]
@[simp] theorem execWeevilConfig_fixes (o) : Fixes s (execWeevilConfig o s) := by simp [execWeevilConfig]

/-! ### Machine/Dma -/

@[simp] theorem execDmaDescriptorDone_fixes (n data) : Fixes s (execDmaDescriptorDone n data s) := by
  simp [execDmaDescriptorDone]

@[simp] theorem execDmaHalt_fixes (n kind addr) : Fixes s (execDmaHalt n kind addr s) := by simp [execDmaHalt]
@[simp] theorem execDmaSubmit_fixes (o) : Fixes s (execDmaSubmit o s) := by simp [execDmaSubmit]
@[simp] theorem execDmaStatus_fixes (o) : Fixes s (execDmaStatus o s) := by simp [execDmaStatus]
@[simp] theorem execDmaAbort_fixes (o) : Fixes s (execDmaAbort o s) := by simp [execDmaAbort]

/-! ### Machine/Tasks -/

@[simp] theorem execTaskInstant_fixes (t level badAi) : Fixes s (execTaskInstant t level badAi s) := by
  simp [execTaskInstant]

@[simp] theorem execInputDeadline_fixes (t) : Fixes s (execInputDeadline t s) := by simp [execInputDeadline]

@[simp] theorem execCycleConfirmed_fixes (t at_) : Fixes s (execCycleConfirmed t at_ s) := by
  simp only [execCycleConfirmed, fixes_nextD]
  (repeat' split) <;> simp

@[simp] theorem execConfirmLimit_fixes (t) : Fixes s (execConfirmLimit t s) := by
  simp only [execConfirmLimit, fixes_nextD]
  (repeat' split) <;> simp

@[simp] theorem execLatenessLimit_fixes (t) : Fixes s (execLatenessLimit t s) := by simp [execLatenessLimit]
@[simp] theorem execCommitPoint_fixes (t) : Fixes s (execCommitPoint t s) := by simp [execCommitPoint]

@[simp] theorem execWriteValuesApply_fixes : Fixes s (execWriteValuesApply s) := by
  rw [execWriteValuesApply, fixes_nextD]
  split <;> simp

@[simp] theorem execBaseTick_fixes : Fixes s (execBaseTick s) := by simp [execBaseTick]

@[simp] theorem execTickMarkerReceived_fixes (p n) : Fixes s (execTickMarkerReceived p n s) := by
  simp [execTickMarkerReceived]

@[simp] theorem execTickLost_fixes : Fixes s (execTickLost s) := by simp [execTickLost]

/-! ### Machine/Gligil -/

@[simp] theorem execGligilPortUp_fixes (p neighbour variant uid latency) :
    Fixes s (execGligilPortUp p neighbour variant uid latency s) := by
  simp [execGligilPortUp]

@[simp] theorem execGligilPortDown_fixes (p) : Fixes s (execGligilPortDown p s) := by simp [execGligilPortDown]

@[simp] theorem execRingStatusFrame_fixes (src st safe pfw) : Fixes s (execRingStatusFrame src st safe pfw s) := by
  simp [execRingStatusFrame]

@[simp] theorem execFenceNoticeReceived_fixes : Fixes s (execFenceNoticeReceived s) := by simp [execFenceNoticeReceived]

@[simp] theorem execGligilRetransmit_fixes (seq) : Fixes s (execGligilRetransmit seq s) := by
  unfold execGligilRetransmit
  apply glD_fixes
  intro d
  split <;> simp

@[simp] theorem execGligilAckReceived_fixes (src seq) : Fixes s (execGligilAckReceived src seq s) := by
  simp [execGligilAckReceived]

@[simp] theorem execGligilConfirmFrame_fixes (src t cycle) : Fixes s (execGligilConfirmFrame src t cycle s) := by
  simp [execGligilConfirmFrame]

@[simp] theorem execGligilCommitDecision_fixes (t cycle commit) :
    Fixes s (execGligilCommitDecision t cycle commit s) := by
  simp [execGligilCommitDecision]

@[simp] theorem execGligilScheduledData_fixes (vals) : Fixes s (execGligilScheduledData vals s) := by
  unfold execGligilScheduledData
  apply glD_fixes
  intro d
  apply foldl_fixed
  intro d v
  split <;> simp

@[simp] theorem execStackStatus_fixes (o) : Fixes s (execStackStatus o s) := by simp [execStackStatus]

/-! ### Machine/Network -/

@[simp] theorem execEthLinkChange_fixes (p up) : Fixes s (execEthLinkChange p up s) := by simp [execEthLinkChange]

@[simp] theorem execArpRequestReceived_fixes (p target sender) :
    Fixes s (execArpRequestReceived p target sender s) := by
  simp [execArpRequestReceived]

@[simp] theorem execIcmpEchoRequestReceived_fixes (p dst src data) :
    Fixes s (execIcmpEchoRequestReceived p dst src data s) := by
  simp [execIcmpEchoRequestReceived]

@[simp] theorem execIgmpQueryReceived_fixes (p group) : Fixes s (execIgmpQueryReceived p group s) := by
  simp [execIgmpQueryReceived]

@[simp] theorem execHsrSupervisionSend_fixes : Fixes s (execHsrSupervisionSend s) := by simp [execHsrSupervisionSend]

@[simp] theorem execHsrPrpFrameReceived_fixes (p fr) : Fixes s (execHsrPrpFrameReceived p fr s) := by
  simp only [execHsrPrpFrameReceived, fixes_nextR]
  (repeat' split) <;> simp

@[simp] theorem execHsrNodeAgeout_fixes (mac) : Fixes s (execHsrNodeAgeout mac s) := by simp [execHsrNodeAgeout]

@[simp] theorem execPtpAnnounceReceived_fixes (p m utc valid leap59 leap61) :
    Fixes s (execPtpAnnounceReceived p m utc valid leap59 leap61 s) := by
  simp [execPtpAnnounceReceived]

@[simp] theorem execPtpAnnounceReceiptTimeout_fixes (p) : Fixes s (execPtpAnnounceReceiptTimeout p s) := by
  simp [execPtpAnnounceReceiptTimeout]

@[simp] theorem execPtpSyncReceived_fixes (p offset) : Fixes s (execPtpSyncReceived p offset s) := by
  simp [execPtpSyncReceived]

@[simp] theorem execPtpSyncTimeout_fixes : Fixes s (execPtpSyncTimeout s) := by simp [execPtpSyncTimeout]
@[simp] theorem execPtpSendTimer_fixes (kind) : Fixes s (execPtpSendTimer kind s) := by simp [execPtpSendTimer]

@[simp] theorem execPtpDelayReqReceived_fixes (p pdelay data) :
    Fixes s (execPtpDelayReqReceived p pdelay data s) := by
  simp [execPtpDelayReqReceived]

@[simp] theorem execPtpDelayRespReceived_fixes (p delay) : Fixes s (execPtpDelayRespReceived p delay s) := by
  simp [execPtpDelayRespReceived]

@[simp] theorem execAnnounceSend_fixes : Fixes s (execAnnounceSend s) := by simp [execAnnounceSend]

@[simp] theorem execAnnounceReceived_fixes (ip data) : Fixes s (execAnnounceReceived ip data s) := by
  rw [execAnnounceReceived, fixes_nextD]
  split
  · rfl
  · exact withStation_fixed _ _ _ _ fun h => by simp

@[simp] theorem execAnnounceTimeout_fixes (k) : Fixes s (execAnnounceTimeout k s) := by simp [execAnnounceTimeout]

@[simp] theorem execWithdrawReceived_fixes (ip data) : Fixes s (execWithdrawReceived ip data s) := by
  rw [execWithdrawReceived, fixes_nextD]
  refine withStation_fixed _ _ _ _ fun h => ?_
  split <;> simp

@[simp] theorem execDatagramRejected_fixes (data fragmented) : Fixes s (execDatagramRejected data fragmented s) := by
  rw [execDatagramRejected, fixes_nextD]
  (repeat' split) <;> simp

@[simp] theorem execSetDataReceived_fixes (ip data) : Fixes s (execSetDataReceived ip data s) := by
  rw [execSetDataReceived, fixes_nextD]
  split
  · rfl
  · refine withStation_fixed _ _ _ _ fun h => ?_
    split <;> simp

@[simp] theorem execSetAckReceived_fixes (ip data) : Fixes s (execSetAckReceived ip data s) := by
  rw [execSetAckReceived, fixes_nextD]
  exact withStation_fixed _ _ _ _ fun h => by simp

@[simp] theorem execSubscribeReqReceived_fixes (ip data) : Fixes s (execSubscribeReqReceived ip data s) := by
  rw [execSubscribeReqReceived, fixes_nextD]
  exact withStation_fixed _ _ _ _ fun h => by simp

@[simp] theorem execSubscribeRespReceived_fixes (ip data) : Fixes s (execSubscribeRespReceived ip data s) := by
  rw [execSubscribeRespReceived, fixes_nextD]
  refine withStation_fixed _ _ _ _ fun h => ?_
  dsimp only
  (repeat' split) <;> simp

@[simp] theorem execSubscribeRetry_fixes (k) : Fixes s (execSubscribeRetry k s) := by simp [execSubscribeRetry]
@[simp] theorem execEventFrameSend_fixes : Fixes s (execEventFrameSend s) := by simp [execEventFrameSend]
@[simp] theorem execNetConfig_fixes (o) : Fixes s (execNetConfig o s) := by simp [execNetConfig]
@[simp] theorem execPartnerTableRead_fixes (o) : Fixes s (execPartnerTableRead o s) := by simp [execPartnerTableRead]
@[simp] theorem execSubscribe_fixes (o) : Fixes s (execSubscribe o s) := by simp [execSubscribe]
@[simp] theorem execPtpConfig_fixes (o) : Fixes s (execPtpConfig o s) := by simp [execPtpConfig]

/-! ### Machine/Lease -/

@[simp] theorem execColdLeaseRequest_fixes : Fixes s (execColdLeaseRequest s) := by simp [execColdLeaseRequest]

@[simp] theorem execLeaseGrantReceived_fixes (ip data) : Fixes s (execLeaseGrantReceived ip data s) := by
  rw [execLeaseGrantReceived, fixes_nextD]
  exact arbiterAnswer_fixed _ _ _ _ _ fun x o => by simp

@[simp] theorem execLeaseDenyReceived_fixes (ip data) : Fixes s (execLeaseDenyReceived ip data s) := by
  rw [execLeaseDenyReceived, fixes_nextD]
  exact arbiterAnswer_fixed _ _ _ _ _ fun x o => by simp

@[simp] theorem execLeaseAckReceived_fixes (via data) : Fixes s (execLeaseAckReceived via data s) := by
  rw [execLeaseAckReceived, fixes_nextD]
  split
  · (repeat' split) <;> simp
  · split
    · exact arbiterAnswer_fixed _ _ _ _ _ fun x o => by simp
    · refine withStation_fixed _ _ _ _ fun h => ?_
      (repeat' split) <;> simp

@[simp] theorem execLeaseRenewTimer_fixes : Fixes s (execLeaseRenewTimer s) := by simp [execLeaseRenewTimer]
@[simp] theorem execLeaseLateTimer_fixes : Fixes s (execLeaseLateTimer s) := by simp [execLeaseLateTimer]
@[simp] theorem execLeaseEnd_fixes : Fixes s (execLeaseEnd s) := by simp [execLeaseEnd]
@[simp] theorem execFenceLeaseRelease_fixes : Fixes s (execFenceLeaseRelease s) := by simp [execFenceLeaseRelease]
@[simp] theorem execFallbackQuietEnd_fixes : Fixes s (execFallbackQuietEnd s) := by simp [execFallbackQuietEnd]

@[simp] theorem execLeaseReqReceived_fixes (ip data) : Fixes s (execLeaseReqReceived ip data s) := by
  rw [execLeaseReqReceived, fixes_nextD]
  refine forArbiter_fixed _ _ _ _ _ fun x k e y d => ?_
  dsimp only
  split <;> simp

@[simp] theorem execLeaseReqPendingExpiry_fixes (e cand) : Fixes s (execLeaseReqPendingExpiry e cand s) := by
  rw [execLeaseReqPendingExpiry, fixes_nextD]
  split <;> simp

@[simp] theorem execArbiterGrantReady_fixes (e) : Fixes s (execArbiterGrantReady e s) := by simp [execArbiterGrantReady]
@[simp] theorem execArbiterQuietEnd_fixes (e) : Fixes s (execArbiterQuietEnd e s) := by simp [execArbiterQuietEnd]

@[simp] theorem execColdWaitExpiry_fixes (e) : Fixes s (execColdWaitExpiry e s) := by
  simp only [execColdWaitExpiry, fixes_nextD]
  (repeat' split) <;> simp

@[simp] theorem execLeaseRenewReceived_fixes (via data) : Fixes s (execLeaseRenewReceived via data s) := by
  rw [execLeaseRenewReceived, fixes_nextD]
  split
  · split <;> simp [fallbackAck_fixed]
  · split
    · refine forArbiter_fixed _ _ _ _ _ fun x k e y d => ?_
      split <;> simp
    · split
      · rfl
      · refine withStation_fixed _ _ _ _ fun h => ?_
        (repeat' split) <;> simp [fallbackAck_fixed]

@[simp] theorem execLeaseReleaseReceived_fixes (ip data) : Fixes s (execLeaseReleaseReceived ip data s) := by
  rw [execLeaseReleaseReceived, fixes_nextD]
  refine forArbiter_fixed _ _ _ _ _ fun x k e y d => ?_
  split <;> simp

@[simp] theorem execPairConfig_fixes (o) : Fixes s (execPairConfig o s) := by simp [execPairConfig]
@[simp] theorem execLeaseStatus_fixes (o) : Fixes s (execLeaseStatus o s) := by simp [execLeaseStatus]
@[simp] theorem execArbiterConfig_fixes (o) : Fixes s (execArbiterConfig o s) := by simp [execArbiterConfig]

/-! ### Machine/Firn -/

@[simp] theorem execFirnPassStart_fixes : Fixes s (execFirnPassStart s) := by simp [execFirnPassStart]

@[simp] theorem execFirnAckReceived_fixes (seq st) : Fixes s (execFirnAckReceived seq st s) := by
  simp [execFirnAckReceived]

@[simp] theorem execFirnAckSend_fixes : Fixes s (execFirnAckSend s) := by simp [execFirnAckSend]

@[simp] theorem execFirnDeltaReceived_fixes (via data) : Fixes s (execFirnDeltaReceived via data s) := by
  rw [execFirnDeltaReceived, fixes_nextD]
  refine pairPayload_fixed _ _ _ _ _ fun p => ?_
  dsimp only
  (repeat' split) <;> simp

@[simp] theorem execFirnSegmentReceived_fixes (via data) : Fixes s (execFirnSegmentReceived via data s) := by
  rw [execFirnSegmentReceived, fixes_nextD]
  exact pairPayload_fixed _ _ _ _ _ fun p => by simp

@[simp] theorem execFirnGapTimeout_fixes : Fixes s (execFirnGapTimeout s) := by
  rw [execFirnGapTimeout, fixes_nextD]
  split <;> simp

@[simp] theorem execShapeRecordExchange_fixes (up peer) : Fixes s (execShapeRecordExchange up peer s) := by
  simp [execShapeRecordExchange]

@[simp] theorem execShadowInputReceived_fixes (t tau cycle inputs delta inTime) :
    Fixes s (execShadowInputReceived t tau cycle inputs delta inTime s) := by
  simp only [execShadowInputReceived, fixes_nextD]
  (repeat' split) <;> simp

@[simp] theorem execShadowCompareTimeout_fixes : Fixes s (execShadowCompareTimeout s) := by
  simp [execShadowCompareTimeout]

@[simp] theorem execTakeoverLoadDone_fixes : Fixes s (execTakeoverLoadDone s) := by
  rw [execTakeoverLoadDone, fixes_nextD]
  split <;> simp

@[simp] theorem execSwitchoverFence_fixes : Fixes s (execSwitchoverFence s) := by
  rw [execSwitchoverFence, fixes_nextD]
  (repeat' split) <;> simp

@[simp] theorem execSwitchoverRequest_fixes (o) : Fixes s (execSwitchoverRequest o s) := by simp [execSwitchoverRequest]

@[simp] theorem execShadowCompareStart_fixes (o) : Fixes s (execShadowCompareStart o s) := by
  simp [execShadowCompareStart]

@[simp] theorem execShadowCompareStop_fixes (o) : Fixes s (execShadowCompareStop o s) := by simp [execShadowCompareStop]

/-! ### Machine/Otp -/

@[simp] theorem execOtpWriteDone_fixes (ok) : Fixes s (execOtpWriteDone ok s) := by simp [execOtpWriteDone]
@[simp] theorem execSettingsRead_fixes (o) : Fixes s (execSettingsRead o s) := by simp [execSettingsRead]

@[simp] theorem execSettingsWriteGeneration_fixes (o) : Fixes s (execSettingsWriteGeneration o s) := by
  simp [execSettingsWriteGeneration]

@[simp] theorem execFuseRead_fixes (o) : Fixes s (execFuseRead o s) := by simp [execFuseRead]
@[simp] theorem execKeyInstall_fixes (o) : Fixes s (execKeyInstall o s) := by simp [execKeyInstall]
@[simp] theorem execRepairCommit_fixes (o) : Fixes s (execRepairCommit o s) := by simp [execRepairCommit]

/-! ### Machine/Serial -/

@[simp] theorem execCanFrameReceived_fixes (c id ext fd data) :
    Fixes s (execCanFrameReceived c id ext fd data s) := by
  simp [execCanFrameReceived]

@[simp] theorem execCanRxTimeout_fixes (k) : Fixes s (execCanRxTimeout k s) := by
  rw [execCanRxTimeout, fixes_nextD]
  split <;> simp

@[simp] theorem execCanBusOffEntry_fixes (c tec) : Fixes s (execCanBusOffEntry c tec s) := by simp [execCanBusOffEntry]
@[simp] theorem execCanBusoffRecovery_fixes (c) : Fixes s (execCanBusoffRecovery c s) := by simp [execCanBusoffRecovery]
@[simp] theorem execCanConfig_fixes (o) : Fixes s (execCanConfig o s) := by simp [execCanConfig]

@[simp] theorem execModbusPoll_fixes (u k) : Fixes s (execModbusPoll u k s) := by
  rw [execModbusPoll, fixes_nextD]
  split <;> simp

@[simp] theorem execModbusReply_fixes (u data err) : Fixes s (execModbusReply u data err s) := by
  rw [execModbusReply, fixes_nextD]
  split <;> simp

@[simp] theorem execModbusReplyTimeout_fixes (u) : Fixes s (execModbusReplyTimeout u s) := by
  simp only [execModbusReplyTimeout, fixes_nextD]
  (repeat' split) <;> simp

@[simp] theorem execListenerSentenceReceived_fixes (u data err) :
    Fixes s (execListenerSentenceReceived u data err s) := by
  rw [execListenerSentenceReceived, fixes_nextD]
  (repeat' split)
  · rfl
  · simp
  · simp
  · apply foldl_fixed
    intro d x
    split <;> simp

@[simp] theorem execListenerFieldTimeout_fixes (k) : Fixes s (execListenerFieldTimeout k s) := by
  rw [execListenerFieldTimeout, fixes_nextD]
  split <;> simp

@[simp] theorem execUartConfig_fixes (o) : Fixes s (execUartConfig o s) := by simp [execUartConfig]

/-! ### Machine/Place -/

@[simp] theorem execSpeedMonitorSample_fixes (r) : Fixes s (execSpeedMonitorSample r s) := by
  simp [execSpeedMonitorSample]

@[simp] theorem execMapRevalidation_fixes (b move) : Fixes s (execMapRevalidation b move s) := by
  simp [execMapRevalidation]

/-! ### Machine/Program -/

@[simp] theorem execProgramLoad_fixes (o) : Fixes s (execProgramLoad o s) := by simp [execProgramLoad]
@[simp] theorem execSwapGapStart_fixes : Fixes s (execSwapGapStart s) := by simp [execSwapGapStart]
@[simp] theorem execSwapGapEnd_fixes (us) : Fixes s (execSwapGapEnd us s) := by simp [execSwapGapEnd]
@[simp] theorem execProgramSwap_fixes (o) : Fixes s (execProgramSwap o s) := by simp [execProgramSwap]

@[simp] theorem execPlacementChecksDone_fixes (map) : Fixes s (execPlacementChecksDone map s) := by
  simp [execPlacementChecksDone]

@[simp] theorem execProgramVerify_fixes (o) : Fixes s (execProgramVerify o s) := by simp [execProgramVerify]

@[simp] theorem execPlacementPartFrame_fixes (map own) : Fixes s (execPlacementPartFrame map own s) := by
  simp [execPlacementPartFrame]

@[simp] theorem execImageForwardFrame_fixes (off data last) : Fixes s (execImageForwardFrame off data last s) := by
  simp [execImageForwardFrame]

/-! ### Machine/Flash -/

@[simp] theorem execRetentiveConfigSave_fixes : Fixes s (execRetentiveConfigSave s) := by simp [execRetentiveConfigSave]
@[simp] theorem execRetentiveSnapshot_fixes : Fixes s (execRetentiveSnapshot s) := by simp [execRetentiveSnapshot]

@[simp] theorem execFlashOperationDone_fixes (k ok) : Fixes s (execFlashOperationDone k ok s) := by
  simp [execFlashOperationDone]

@[simp] theorem execPowerFailSnapshotDone_fixes (ok) : Fixes s (execPowerFailSnapshotDone ok s) := by
  simp [execPowerFailSnapshotDone]

/-! ### Machine/TaskCmd -/

@[simp] theorem execTaskConfig_fixes (o) : Fixes s (execTaskConfig o s) := by simp [execTaskConfig]
@[simp] theorem execCycleStart_fixes (o b) : Fixes s (execCycleStart o b s) := by simp [execCycleStart]
@[simp] theorem execCycleStop_fixes (o) : Fixes s (execCycleStop o s) := by simp [execCycleStop]
@[simp] theorem execTaskStats_fixes (o) : Fixes s (execTaskStats o s) := by simp [execTaskStats]
@[simp] theorem execInputPolicy_fixes (o) : Fixes s (execInputPolicy o s) := by simp [execInputPolicy]
@[simp] theorem execWriteValues_fixes (o) : Fixes s (execWriteValues o s) := by simp [execWriteValues]

@[simp] theorem execReadValues_fixes (o) : Fixes s (execReadValues o s) := by
  unfold execReadValues
  apply runCmd_fixes
  intro m d p
  exact foldl_snd_fixed _ (fun a e => by simp) _ _

@[simp] theorem execForce_fixes (o) : Fixes s (execForce o s) := by simp [execForce]
@[simp] theorem execPlacementReport_fixes (o) : Fixes s (execPlacementReport o s) := by simp [execPlacementReport]
@[simp] theorem execMigrate_fixes (o spare) : Fixes s (execMigrate o spare s) := by simp [execMigrate]

@[simp] theorem execStageConfig_fixes (o) : Fixes s (execStageConfig o s) := by
  unfold execStageConfig
  apply runCmd_fixes
  intro m d p
  dsimp only
  split <;> simp

/-! ### Machine/PairCmd -/

@[simp] theorem execPairNoticeReceived_fixes (n) : Fixes s (execPairNoticeReceived n s) := by
  simp [execPairNoticeReceived]

@[simp] theorem execConfigForwardReceived_fixes (code p) : Fixes s (execConfigForwardReceived code p s) := by
  simp [execConfigForwardReceived]

/-! ### Machine/Power -/

@[simp] theorem execSupervisorWdgStage1_fixes (pair) : Fixes s (execSupervisorWdgStage1 pair s) := by
  simp [execSupervisorWdgStage1]

@[simp] theorem execSoftReset_fixes (o) : Fixes s (execSoftReset o s) := by simp [execSoftReset]
@[simp] theorem execStartupFwReady_fixes (lost) : Fixes s (execStartupFwReady lost s) := by simp [execStartupFwReady]
@[simp] theorem execStartupProgramLoad_fixes : Fixes s (execStartupProgramLoad s) := by simp [execStartupProgramLoad]
@[simp] theorem execAutostartTasks_fixes (b) : Fixes s (execAutostartTasks b s) := by simp [execAutostartTasks]

@[simp] theorem execRailMonitorSample_fixes (mv) : Fixes s (execRailMonitorSample mv s) := by
  simp [execRailMonitorSample]

@[simp] theorem execVbatMeasure_fixes (v) : Fixes s (execVbatMeasure v s) := by simp [execVbatMeasure]
@[simp] theorem execTjMeasure_fixes (sensor temp) : Fixes s (execTjMeasure sensor temp s) := by simp [execTjMeasure]
@[simp] theorem execPfwNFall_fixes : Fixes s (execPfwNFall s) := by simp [execPfwNFall]
@[simp] theorem execPfwEnd_fixes : Fixes s (execPfwEnd s) := by simp [execPfwEnd]

/-! ### Machine/Publish -/

@[simp] theorem execPublishSets_fixes (t) : Fixes s (execPublishSets t s) := by simp [execPublishSets]

end

end Sys2Proof.Machine
end

section
/-!
PROOF. What every command keeps: the identity record, but for the end of the internal reset (R5), and every reserved event
not pending (R18). The commands of the section before leave both as they are; a write to EVT_PENDING and a reset clear
PENDING bits.
-/

namespace Sys2Proof.Machine

open Sys2Proof

/-- The identity record is kept, and no reserved event becomes pending. -/
structure Dev.Keeps (d e : Dev) : Prop where
  ident : e.sys.ident = d.sys.ident
  reserved : ∀ n, evReserved n = true → d.evt.pending.getLsbD n = false → e.evt.pending.getLsbD n = false

theorem Dev.Keeps.of_fixed {d e : Dev} (h : e.fixed = d.fixed) : d.Keeps e := by
  obtain ⟨hi, hp⟩ := Prod.mk.inj h
  refine ⟨hi, fun n hn hd => ?_⟩
  have hb := congrArg (·.getLsbD n) hp
  simpa [getLsbD_reservedMask, hn, hd] using hb

theorem Dev.Keeps.refl (d : Dev) : d.Keeps d := .of_fixed rfl

theorem Dev.Keeps.trans {d e f : Dev} (h : d.Keeps e) (h' : e.Keeps f) : d.Keeps f :=
  ⟨h'.ident.trans h.ident, fun n hn hd => h'.reserved n hn (h.reserved n hn hd)⟩

/-! ## Writes to EVT_PENDING -/

section
variable (d : Dev)

theorem evtPendingClear_keeps (k v) : d.Keeps (evtPendingClear k v d) :=
  ⟨rfl, fun n _ hd => by simp [evtPendingClear, updInt, hd]⟩

theorem writeWord_pending (pcie off v m) (h : 0x400 ≤ off ∧ off < 0x410) :
    writeWord pcie off v m d = evtPendingClear ((off - 0x400) / 4) v d := by
  unfold writeWord
  rw [if_neg (by omega), if_neg (by omega), if_neg (by omega), if_pos h]

theorem writeWord_fixed (pcie off v m) (h : ¬ (0x400 ≤ off ∧ off < 0x410)) :
    (writeWord pcie off v m d).fixed = d.fixed := by
  simp only [writeWord, if_neg h, fixed_ite, fixed_mk, fixed_eta, evtMaskWrite_fixed, evtCtrlWrite_fixed,
    rtcSetWrite_fixed, rtcCtrlWrite_fixed, rtcTrimWrite_fixed, msixWrite_fixed, ite_self]
  split
  · rfl
  · split
    · rfl
    · split
      · split <;> simp
      · rfl

theorem writeWord_keeps (pcie off v m) : d.Keeps (writeWord pcie off v m d) := by
  by_cases h : 0x400 ≤ off ∧ off < 0x410
  · rw [writeWord_pending d pcie off v m h]
    exact evtPendingClear_keeps d _ v
  · exact .of_fixed (writeWord_fixed d pcie off v m h)

theorem writeReg_keeps (pcie off data m) : d.Keeps (writeReg pcie off data m d).1 := by
  unfold writeReg
  split
  · split <;> exact .refl d
  · split
    · exact writeWord_keeps d pcie off _ m
    · exact .refl d

theorem spiWriteWords_keeps (ws a m) : d.Keeps (spiWriteWords ws a m d).1 := by
  induction ws generalizing a m d with
  | nil =>
    rw [spiWriteWords]
    exact .refl d
  | cons w ws ih =>
    rw [spiWriteWords]
    exact (writeReg_keeps d false a w m).trans (ih _ _ _)

theorem spiData_keeps (write addr data n extra m) : d.Keeps (spiData write addr data n extra m d).1 := by
  cases write with
  | false => exact .of_fixed (by simp [spiData])
  | true =>
    refine (spiWriteWords_keeps d (chunks 4 (data.take (min n (spiRoom addr) / 4 * 4))) addr m).trans (.of_fixed ?_)
    simp [spiData]

theorem spiTransaction_keeps (mosi extra nRead m) : d.Keeps (spiTransaction mosi extra nRead m d).1 := by
  cases mosi with
  | nil => exact .refl d
  | cons i rest =>
    unfold spiTransaction
    dsimp only
    repeat' split
    any_goals exact spiData_keeps d _ _ _ _ _ m
    all_goals exact .of_fixed (by simp)

/-! ## Resets -/

theorem resetBlocks_keeps (k kept) : d.Keeps (resetBlocks k kept d) :=
  ⟨rfl, fun n _ _ => by simp [resetBlocks]⟩

theorem resetWith_keeps (k m) : d.Keeps (resetWith k m d).1 := by
  unfold resetWith
  dsimp only
  split <;> exact .trans (.of_fixed (by simp)) (resetBlocks_keeps _ k _)

theorem resetDev_keeps (k m) : d.Keeps (resetDev k m d).1 := .trans (.of_fixed (by simp)) (resetWith_keeps _ k m)

theorem jtagUpdate_keeps (i m) : d.Keeps (jtagUpdate i m d).1 := by
  unfold jtagUpdate
  dsimp only
  split
  · exact .trans (.of_fixed (by simp)) (resetWith_keeps _ _ m)
  · exact .of_fixed (by simp)

theorem tapReset_keeps (m) : d.Keeps (tapReset m d).1 := by
  unfold tapReset
  dsimp only
  split
  · exact .trans (.of_fixed (by simp)) (resetDev_keeps _ _ m)
  · exact .of_fixed (by simp)

theorem memoryWalk_keeps (faults m) : d.Keeps (memoryWalk faults m d).1 := by
  unfold memoryWalk
  dsimp only
  split
  · exact .refl d
  · split
    · exact .trans (.of_fixed (superWalk_fixed d faults)) (resetDev_keeps _ _ m)
    · exact .of_fixed (superWalk_fixed d faults)

end

/-- The end of the internal reset touches no event. -/
theorem resetEnd_evt (pos sel m) (d : Dev) : (resetEnd pos sel m d).evt = d.evt := by
  unfold resetEnd
  split <;> rfl

theorem resetEnd_ident (pos sel m) (d : Dev) (hp : d.pwr.phase = .inReset) (hj : d.pwr.jtag.holds = false) :
    (resetEnd pos sel m d).sys.ident = BitVec.ofNat 64 (fromLe (Memory.readN 0 m.fuse 0 8)) := by
  simp [resetEnd, Dev.awake, hp, hj]

/-! ## The commands -/

/-- A next state that an outcome gives keeps what `Dev.Keeps` says. -/
def Keeps (s : State) (o : Host.Outcome State Fault Refusal) : Prop := ∀ t, o = .next t → s.dev.Keeps t.dev

theorem Fixes.keeps {s : State} {o : Host.Outcome State Fault Refusal} (h : Fixes s o) : Keeps s o :=
  fun t ht => .of_fixed (h t ht)

theorem nextD_keeps {s : State} {f : Dev → Dev} (h : s.dev.Keeps (f s.dev)) : Keeps s (nextD s f) := by
  rintro t ⟨⟩
  exact h

theorem nextM_keeps {s : State} {f : Mems → Dev → Dev × Mems} (h : s.dev.Keeps (f s.mem s.dev).1) :
    Keeps s (nextM s f) := by
  rintro t ⟨⟩
  exact h

/-- A reset that a condition lets through. -/
theorem resetIf_keeps (s : State) (c : Dev → Bool) (k : ResetKind) :
    Keeps s (nextM s fun m d => if c d then resetDev k m d else (d, m)) := by
  apply nextM_keeps
  split
  · exact resetDev_keeps _ k _
  · exact .refl _

/-- Every command but the end of the internal reset; the last arm is every command that leaves the fixed part as it is,
each by its own lemma. -/
theorem exec_keeps (c : Instr) (s : State) (hc : ∀ pos sel, c ≠ .internalResetEnd pos sel) : Keeps s (exec c s) := by
  cases c with
  | internalResetEnd pos sel => exact absurd rfl (hc pos sel)
  | registerWrite off d => exact nextM_keeps (writeReg_keeps _ _ _ _ _)
  | evtPendingClear k v => exact nextD_keeps (evtPendingClear_keeps _ _ _)
  | spiTransaction mosi e n => exact nextM_keeps (spiTransaction_keeps _ _ _ _ _)
  | powerOnReset | brownoutReset | pinReset | lockstepReset => exact nextM_keeps (resetDev_keeps _ _ _)
  | supervisorWdgReset => exact resetIf_keeps s (fun d => d.pwr.wdgStage1) _
  | thermalReset => exact resetIf_keeps s (fun d => d.pwr.tjCrit) _
  | softResetExecute => exact resetIf_keeps s (fun d => d.sys.softReset && !d.softAnswering) _
  | supervisorMemoryWalk f => exact nextM_keeps (memoryWalk_keeps _ _ _)
  | jtagInstructionUpdate i => exact nextM_keeps (jtagUpdate_keeps _ _ _)
  | jtagTapReset => exact nextM_keeps (tapReset_keeps _ _)
  | _ => exact Fixes.keeps (by simp [exec])

theorem exec_reserved (c : Instr) (s t : State) (h : exec c s = .next t) (n : Nat) (hn : evReserved n = true)
    (hs : s.dev.evt.pending.getLsbD n = false) : t.dev.evt.pending.getLsbD n = false := by
  by_cases hc : ∃ pos sel, c = .internalResetEnd pos sel
  · obtain ⟨pos, sel, rfl⟩ := hc
    obtain rfl : { s with dev := resetEnd pos sel s.mem s.dev } = t := Host.Outcome.next.inj h
    simpa only [resetEnd_evt] using hs
  · exact (exec_keeps c s (fun pos sel e => hc ⟨pos, sel, e⟩) t h).reserved n hn hs

/-- Settles O5: an idle step changes nothing, and no command makes a reserved event pending. -/
theorem stepKeepsReservedEventsClear : Obligations.StepKeepsReservedEventsClear := by
  unfold Obligations.StepKeepsReservedEventsClear
  intro s t hs h n hn
  unfold step at h
  split at h
  · obtain rfl : s = t := Host.Outcome.next.inj h
    exact hs n hn
  · exact exec_reserved _ _ t h n hn (hs n hn)

/-- Settles O54: INTERNAL_RESET_END reads the fuse block, and every other command keeps the record. -/
theorem identityIsFixed : Obligations.IdentityIsFixed := by
  unfold Obligations.IdentityIsFixed
  constructor
  · intro pos sel s hp hj
    exact ⟨_, rfl, resetEnd_ident pos sel s.mem s.dev hp hj⟩
  · intro c s t hc h
    exact (exec_keeps c s hc t h).ident

end Sys2Proof.Machine
end

section
/-!
PROOF. Host accesses: a command that no class lists (R17), writes to registers and command buffers (R13, R55), SPI
transactions (R57, R58), and the PCIe endpoint (R52, R54, R603). What raising an event leaves in its record comes first.
-/

namespace Sys2Proof.Machine

open Sys2Proof Sys2Proof.Claims

/-! ## An unlisted command -/

/-- Settles O9: the command begins and has its response in the same step. -/
theorem unknownCommand : Obligations.UnknownCommand := by
  unfold Obligations.UnknownCommand
  intro s o j hj hl hs hr
  have run : exec (.unknownCommand o) s = .next { s with dev := respond o stBadCommand [] (startJob o j s.dev) } := by
    simp only [exec, execUnknownCommand, nextD, hj, hl, hs, hr, Option.isSome_none, Bool.or_self, Bool.false_eq_true,
      if_false]
  exact ⟨_, run, _, job_respond o { j with started := true } _ _ _ (job_setJob o j _ _ hj) rfl hr, rfl⟩

/-! ## What raising an event records -/

theorem Ev.num_lt (e : Ev) : e.num < 128 := by
  cases e with
  | taskOverrun n | taskFault n | loopSat n | loopTrace n | diGroupSupply n | doGroupLow n | doGroupLost n
  | doGroupFault n | canBusoff n => simp only [Ev.num]; omega
  | _ => simp only [Ev.num]; decide

theorem raise1_detail (n k : Nat) (x : Word) (d : Dev) (hn : n < 128) :
    (vget (raise1 n x d).evt.recs k).detail = if n = k then x else (vget d.evt.recs k).detail := by
  have recs : (raise1 n x d).evt.recs = vset d.evt.recs n { vget d.evt.recs n with
      saturated := (vget d.evt.recs n).saturated || (vget d.evt.recs n).count = 0xFFFF
      count := satInc (vget d.evt.recs n).count, untrusted := d.rtc.osf, detail := x, stamp := d.rtc.timeWord } := by
    unfold raise1
    dsimp only
    split <;> split <;> split <;> simp [updInt]
  rw [recs]
  split
  · next h => rw [← h, vget_vset_same _ _ _ hn]
  · next h => rw [vget_vset_other _ _ _ _ h]

/-- An event just raised is pending with its detail word. HISTORY_LOG_FULL (122) is left out: one more occurrence of it
may follow its own (R485). -/
theorem raised_raise (e : Ev) (x : Nat) (d : Dev) (he : e.num ≠ 122) :
    (raise e x d).evt.pending.getLsbD e.num = true ∧
      (vget (raise e x d).evt.recs e.num).detail = BitVec.ofNat 32 x := by
  have hn := e.num_lt
  unfold raise
  dsimp only
  split
  · rw [raise1_pending, raise1_pending, raise1_detail _ _ _ _ (by omega), raise1_detail _ _ _ _ hn]
    simp [hn, Ne.symm he]
  · rw [raise1_pending, raise1_detail _ _ _ _ hn]
    simp [hn]

/-- The host block but for the PBA. -/
def HostBlk.withoutPba (h : HostBlk) : HostBlk := { h with pba := 0 }

theorem HostBlk.eq_of_withoutPba {g h : HostBlk} (e : g.withoutPba = h.withoutPba) : ∃ p, g = { h with pba := p } := by
  cases g
  cases h
  simp only [HostBlk.withoutPba, HostBlk.mk.injEq] at e ⊢
  simp [e]

theorem msixSend_withoutPba (n : Nat) (d : Dev) : (msixSend n d).host.withoutPba = d.host.withoutPba := by
  unfold msixSend
  split <;> rfl

theorem raise1_withoutPba (n : Nat) (x : Word) (d : Dev) : (raise1 n x d).host.withoutPba = d.host.withoutPba := by
  unfold raise1
  dsimp only
  split <;> split <;> split <;> simp [msixSend_withoutPba]

/-- Raising an event changes of the host block the PBA alone. -/
theorem raise_host (e : Ev) (x : Nat) (d : Dev) : ∃ p, (raise e x d).host = { d.host with pba := p } := by
  apply HostBlk.eq_of_withoutPba
  unfold raise
  dsimp only
  split <;> simp [raise1_withoutPba]

theorem msixRelease_host (d : Dev) : ∃ p, (msixRelease d).host = { d.host with pba := p } :=
  HostBlk.eq_of_withoutPba (foldl_proj (fun d : Dev => d.host.withoutPba) _ (fun d n => by dsimp only; split <;> rfl) _ d)

theorem msixRelease_evt (d : Dev) : (msixRelease d).evt = d.evt :=
  foldl_proj Dev.evt _ (fun d n => by split <;> rfl) _ d

/-! ## A word of a 128-bit register -/

theorem wordOf_eq (k : Nat) (x : BitVec 128) : wordOf k x = (x.extractLsb' (32 * k) 32).toNat := by
  simp [wordOf, Nat.shiftRight_eq_div_pow]

theorem getLsbD_wordAt (k : Nat) (v : Word) (i : Nat) (hi : i < 128) :
    (wordAt k v).getLsbD i = (decide (32 * k ≤ i) && v.getLsbD (i - 32 * k)) := by
  by_cases h : 32 * k ≤ i <;> simp [wordAt, hi, h]

/-- The mask with word k replaced, bit by bit. -/
theorem getLsbD_replaceWord (k : Nat) (v : Word) (x : BitVec 128) (i : Nat) (hi : i < 128) :
    ((x &&& ~~~(wordAt k 0xFFFFFFFF)) ||| wordAt k v).getLsbD i =
      if 32 * k ≤ i ∧ i < 32 * k + 32 then v.getLsbD (i - 32 * k) else x.getLsbD i := by
  have ones : (0xFFFFFFFF : Word) = BitVec.allOnes 32 := by decide
  rw [BitVec.getLsbD_or, BitVec.getLsbD_and, BitVec.getLsbD_not, getLsbD_wordAt _ _ _ hi, getLsbD_wordAt _ _ _ hi, ones,
    BitVec.getLsbD_allOnes]
  by_cases hk : 32 * k ≤ i
  · by_cases hw : i < 32 * k + 32
    · have : i - 32 * k < 32 := by omega
      simp [hk, hw, this]
    · have : 32 ≤ i - 32 * k := by omega
      simp [hk, hw, hi, this]
  · simp [hk, hi]

theorem wordOf_replace_same (k : Fin 4) (v : Word) (x : BitVec 128) :
    wordOf k ((x &&& ~~~(wordAt k 0xFFFFFFFF)) ||| wordAt k v) = v.toNat := by
  rw [wordOf_eq]
  congr 1
  refine BitVec.eq_of_getLsbD_eq fun i hi => ?_
  rw [BitVec.getLsbD_extractLsb', getLsbD_replaceWord _ _ _ _ (by omega), if_pos (by omega)]
  simp [hi]

theorem wordOf_replace_other (k j : Fin 4) (h : j ≠ k) (v : Word) (x : BitVec 128) :
    wordOf j ((x &&& ~~~(wordAt k 0xFFFFFFFF)) ||| wordAt k v) = wordOf j x := by
  rw [wordOf_eq, wordOf_eq]
  congr 1
  refine BitVec.eq_of_getLsbD_eq fun i hi => ?_
  rw [BitVec.getLsbD_extractLsb', BitVec.getLsbD_extractLsb', getLsbD_replaceWord _ _ _ _ (by omega), if_neg (by omega)]

theorem evtMaskWrite_evt (k : Nat) (v : Word) (d : Dev) :
    (evtMaskWrite k v d).evt = { d.evt with
      mask := (d.evt.mask &&& ~~~(wordAt k 0xFFFFFFFF)) ||| wordAt k v
      intAsserted := d.evt.intEn &&
        (d.evt.pending &&& ~~~((d.evt.mask &&& ~~~(wordAt k 0xFFFFFFFF)) ||| wordAt k v)) != 0 } := by
  have send : ∀ (fresh : BitVec 128) (d : Dev),
      ((List.range 128).foldl (fun d n => if fresh.getLsbD n then msixSend n d else d) d).evt = d.evt := fun fresh d =>
    foldl_proj Dev.evt _ (fun d n => by split <;> simp) _ d
  simp only [evtMaskWrite, updInt, send]

/-! ## Writes -/

theorem ofNat_fromLe_leBytes (v : Word) : BitVec.ofNat 32 (fromLe (leBytes 4 v.toNat)) = v := by
  rw [fromLe_leBytes, Nat.mod_eq_of_lt (by omega), BitVec.ofNat_toNat, BitVec.setWidth_eq]

theorem writeReg_scratch (pcie : Bool) (v : Word) (m : Mems) (d : Dev) :
    writeReg pcie 0x14 (leBytes 4 v.toNat) m d = ({ d with sys := { d.sys with scratch := v } }, m) := by
  simp [writeReg, leBytes_length, ofNat_fromLe_leBytes, writeWord]

theorem isCmdBuf_cmdBuf (n : Fin 8) (i : Nat) (hi : i < 4096) : isCmdBuf (cmdBuf n + i) = true := by
  simp only [isCmdBuf, cmdBuf, Nat.testBit_eq_decide_div_mod_eq, Bool.and_eq_true, Bool.not_eq_true',
    decide_eq_false_iff_not]
  exact ⟨decide_eq_true (by omega), by omega⟩

theorem bufAccessOk_byte (off : Nat) : bufAccessOk off 1 = true := by
  simp only [bufAccessOk, Bool.or_eq_true, decide_eq_true_eq]
  omega

theorem writeReg_bufByte (pcie : Bool) (n : Fin 8) (i : Nat) (b : Byte) (hi : i < 4096) (m : Mems) (d : Dev) :
    writeReg pcie (cmdBuf n + i) [b] m d = (d, { m with bufs := Memory.write 0 m.bufs (cmdBuf n + i) b }) := by
  have hb : 0x10000 ≤ cmdBuf n + i := by simp only [cmdBuf]; omega
  have ok : (isCmdBuf (cmdBuf n + i) && bufAccessOk (cmdBuf n + i) [b].length) = true := by
    rw [isCmdBuf_cmdBuf n i hi, List.length_singleton, bufAccessOk_byte]; rfl
  rw [writeReg, if_pos hb, if_pos ok]
  rfl

/-! ## SPI transactions -/

theorem spiBytes_registers (n off : Nat) (m : Mems) (d : Dev) (h : off + n ≤ 0x10000) :
    spiBytes n off m d = ((List.range n).map fun i =>
      BitVec.ofNat 8 (regValue ((off + i) / 4 * 4) d / 2 ^ (8 * ((off + i) % 4))), d) := by
  induction n generalizing off with
  | zero => rfl
  | succ n ih =>
    rw [spiBytes, if_neg (by omega), List.range_succ_eq_map, List.map_cons, List.map_map]
    dsimp only
    rw [ih (off + 1) (by omega)]
    simp [Function.comp_def, Nat.add_assoc, Nat.add_comm 1]

theorem spiTransaction_read (a n : Nat) (dummy : Byte) (m : Mems) (d : Dev) (ha : a % 4 = 0) (hn : n % 4 = 0)
    (h : a + n ≤ 4096) (h0 : 0 < n) :
    spiTransaction ([3] ++ beBytes 3 a ++ [dummy]) 0 n m d = (spiOk (emit (.spiMiso ((List.range n).map fun i =>
      BitVec.ofNat 8 (regValue ((a + i) / 4 * 4) d / 2 ^ (8 * ((a + i) % 4))))) d), m) := by
  have addr : getBe (beBytes 3 a ++ [dummy]) 0 3 = a := getBe_mid [] [dummy] 3 a 0 rfl (by omega)
  have room : n ≤ spiRoom a := by simp only [spiRoom]; omega
  have len : (beBytes 3 a ++ [dummy]).length = 4 := by simp [beBytes_length]
  have data : spiData false a [] n 0 m d = (spiOk (emit (.spiMiso ((List.range n).map fun i =>
      BitVec.ofNat 8 (regValue ((a + i) / 4 * 4) d / 2 ^ (8 * ((a + i) % 4))))) d), m) := by
    simp [spiData, Nat.min_eq_left room, spiBytes_registers n a m d (by omega), hn, Nat.not_lt.mpr room]
  have big : ¬ 2 ^ 17 ≤ a := by omega
  rw [List.append_assoc, List.singleton_append, spiTransaction]
  simp only [addr, len, big, ha, data]
  simp

theorem spiTransaction_scratch (v : Word) (m : Mems) (d : Dev) :
    spiTransaction ([2] ++ beBytes 3 0x14 ++ leBytes 4 v.toNat) 0 0 m d =
      (spiOk { d with sys := { d.sys with scratch := v } }, m) := by
  have addr : getBe (beBytes 3 0x14 ++ leBytes 4 v.toNat) 0 3 = 0x14 :=
    getBe_mid [] (leBytes 4 v.toNat) 3 0x14 0 rfl (by decide)
  have len : (beBytes 3 0x14 ++ leBytes 4 v.toNat).length = 7 := by simp [beBytes_length, leBytes_length]
  have rest : (beBytes 3 0x14 ++ leBytes 4 v.toNat).drop 3 = leBytes 4 v.toNat := rfl
  have words : chunks 4 ((leBytes 4 v.toNat).take 4) = [leBytes 4 v.toNat] := rfl
  have data : spiData true 0x14 (leBytes 4 v.toNat) 4 0 m d =
      (spiOk { d with sys := { d.sys with scratch := v } }, m) := by
    simp [spiData, spiRoom, words, spiWriteWords, writeReg_scratch]
  rw [List.append_assoc, List.singleton_append, spiTransaction]
  simp only [addr, len, rest]
  simp [data]

theorem spiTransaction_unknown (i : Byte) (rest : Bytes) (extra n : Nat) (m : Mems) (d : Dev) (h2 : i ≠ 2)
    (h3 : i ≠ 3) (h5 : i ≠ 5) : spiTransaction (i :: rest) extra n m d = (spiFail 1 d, m) := by
  rw [spiTransaction]
  exact (if_neg h5).trans (if_pos ⟨h2, h3⟩)

theorem spiErr_spiFail (kind : Nat) (d : Dev) : (spiFail kind d).host.spiErr = true := by
  obtain ⟨p, hp⟩ := raise_host .spiProtocolErr kind { d with host := { d.host with spiErr := true } }
  rw [spiFail, hp]

/-! ## The PCIe endpoint -/

/-- The device with its link up at a speed and a width. -/
def Dev.linkedUp (speed : BitVec 3) (width : BitVec 4) (d : Dev) : Dev :=
  { d with host := { d.host with linkUp := true, linkSpeed := speed, linkWidth := width } }

theorem pcieLink_up (speed : BitVec 3) (width : BitVec 4) (d : Dev) (h : d.host.linkUp = false) :
    pcieLink true speed width d =
      msixRelease (raise .pcieLink (linkDetail true speed width) (d.linkedUp speed width)) := by
  simp [pcieLink, h, Dev.linkedUp]

theorem pcieLink_down (speed : BitVec 3) (width : BitVec 4) (d : Dev) (h : d.host.linkUp = true) :
    pcieLink false speed width d = raise .pcieLink (linkDetail false d.host.linkSpeed d.host.linkWidth)
      { d with host := { d.host with linkUp := false } } := by
  simp [pcieLink, h]

/-- Settles O13, one access at a time. -/
theorem registerAccesses : Obligations.RegisterAccesses := by
  unfold Obligations.RegisterAccesses
  intro s
  refine ⟨fun v => ?scratch, fun n i b hi hwf => ?buffer, fun k v => ?clear, fun k v => ?mask, fun v => ?ctrl,
    fun n b => ?vector, fun b => ?function, fun a n dummy ha hn h0 h => ?read, fun v => ?write,
    fun i rest extra n h2 h3 h5 => ?unknown, fun speed width h => ?linkUp, fun speed width h => ?linkDown, ?perst,
    fun b => ?power, fun b => ?master, ?status⟩
  case scratch => exact ⟨_, rfl, by rw [writeReg_scratch]⟩
  case buffer =>
    refine ⟨_, rfl, ?_⟩
    rw [writeReg_bufByte true n i b hi]
    exact ⟨read_write_same _ _ _ _ hwf, rfl, fun a ha => read_write_other _ _ _ _ ha _⟩
  case clear => exact ⟨_, rfl, rfl, rfl, rfl⟩
  case mask =>
    refine ⟨_, rfl, ?_⟩
    dsimp only
    rw [evtMaskWrite_evt]
    exact ⟨wordOf_replace_same k v _, rfl, fun j hj => wordOf_replace_other k j hj v _, rfl⟩
  case ctrl => exact ⟨_, rfl, rfl, rfl⟩
  case vector =>
    refine ⟨_, rfl, ?_⟩
    obtain ⟨p, hp⟩ := msixRelease_host { s.dev with host := { s.dev.host with
      msix := vmod s.dev.host.msix n fun e => { e with masked := b } } }
    dsimp only
    rw [hp]
    exact ⟨by rw [vget_vmod_same _ _ _ n.isLt], rfl, fun k hk => vget_vmod_other _ _ _ _ (Ne.symm hk)⟩
  case function =>
    refine ⟨_, rfl, ?_⟩
    obtain ⟨p, hp⟩ := msixRelease_host { s.dev with host := { s.dev.host with msixMask := b } }
    dsimp only
    rw [hp]
  case read =>
    refine ⟨_, rfl, ?_⟩
    rw [spiTransaction_read a n dummy _ _ ha hn h h0]
    exact ⟨rfl, rfl⟩
  case write =>
    refine ⟨_, rfl, ?_⟩
    rw [spiTransaction_scratch]
    exact ⟨rfl, rfl⟩
  case unknown =>
    refine ⟨_, rfl, ?_⟩
    rw [spiTransaction_unknown i rest extra n _ _ h2 h3 h5]
    exact ⟨spiErr_spiFail 1 _, raised_raise .spiProtocolErr 1 _ (by decide)⟩
  case linkUp =>
    refine ⟨_, rfl, ?_⟩
    unfold Raised
    dsimp only
    rw [pcieLink_up speed width s.dev h, msixRelease_evt]
    obtain ⟨p, released⟩ := msixRelease_host
      (raise .pcieLink (linkDetail true speed width) (s.dev.linkedUp speed width))
    obtain ⟨q, host⟩ := raise_host .pcieLink (linkDetail true speed width) (s.dev.linkedUp speed width)
    rw [released, host]
    exact ⟨rfl, rfl, rfl, raised_raise .pcieLink _ _ (by decide)⟩
  case linkDown =>
    refine ⟨_, rfl, ?_⟩
    unfold Raised
    rw [pcieLink_down speed width s.dev h]
    obtain ⟨p, host⟩ := raise_host .pcieLink (linkDetail false s.dev.host.linkSpeed s.dev.host.linkWidth)
      { s.dev with host := { s.dev.host with linkUp := false } }
    have detail : linkDetail false s.dev.host.linkSpeed s.dev.host.linkWidth =
        2 * s.dev.host.linkSpeed.toNat + 16 * s.dev.host.linkWidth.toNat := by simp [linkDetail, b2n]
    exact ⟨by rw [host], detail ▸ raised_raise .pcieLink _ _ (by decide)⟩
  case perst => exact ⟨_, rfl, rfl⟩
  case power =>
    refine ⟨_, rfl, ?_⟩
    obtain ⟨p, hp⟩ := msixRelease_host { s.dev with host := { s.dev.host with d3hot := b } }
    dsimp only
    rw [hp]
  case master =>
    refine ⟨_, rfl, ?_⟩
    obtain ⟨p, hp⟩ := msixRelease_host { s.dev with host := { s.dev.host with busMaster := b } }
    dsimp only
    rw [hp]
  case status => exact ⟨_, rfl, rfl, rfl⟩

end Sys2Proof.Machine
end

section
/-!
PROOF. What several families share: reading a sparse table after a write, a command whose checks pass and that answers at
once (R66), and what a forwarded change leaves as it is (R389).
-/

namespace Sys2Proof.Machine

open Sys2Proof Sys2Proof.Claims

/-! ## Sparse tables -/

theorem mget_cons {α : Type} (j k : Nat) (y : α) (m : Map α) :
    mget ((j, y) :: m) k = if j = k then some y else mget m k := by
  by_cases h : j = k <;> simp [mget, h]

theorem mget_mput {α : Type} (m : Map α) (j k : Nat) (x : α) :
    mget (mput m j x) k = if j = k then some x else mget m k := by
  induction m with
  | nil => rw [mput, mget_cons]
  | cons e m ih =>
    obtain ⟨i, y⟩ := e
    unfold mput
    split
    · rw [mget_cons]
    · split
      · next h => rw [mget_cons, mget_cons]; split <;> simp_all
      · next h => rw [mget_cons, mget_cons, ih]; split <;> simp_all

/-! ## Completion of a command -/

theorem goes_of_becomes {c : Instr} {s : State} {d : Dev} {P : State → Prop} (h : Becomes c s d)
    (holds : P { s with dev := d }) : Goes c s P := ⟨_, h, holds⟩

theorem firstFail_eq_none (l : List (Bool × Half)) : firstFail l = none ↔ ∀ t ∈ l, t.1 = false := by
  induction l with
  | nil => simp [firstFail]
  | cons t l ih =>
    obtain ⟨b, st⟩ := t
    cases b <;> simp [firstFail, ih]

theorem pass_roleTest {d : Dev} {l : List (Bool × Half)} (active : d.passive = false) (pass : Claims.Pass l) :
    Claims.Pass (roleTest d :: l) := by
  simpa only [Claims.Pass, roleTest, active, firstFail] using pass

/-- A command that waits and whose checks pass begins and answers: what its action makes of the device stands but for the
mailboxes, where the command stands with its response. -/
theorem runCmd_answers {c : Instr} {s : State} {o : Origin} {code : Nat} {p : Bytes} {absent : Dev → Bytes → Bool}
    {tests : Mems → Dev → Bytes → List (Bool × Half)} {act : Mems → Dev → Bytes → Dev × Reply}
    (command : exec c s = runCmd s o code absent tests act) (waits : Waits s o code p)
    (net : (code == 0x0C03 || code / 256 == 0x0D) = false) (present : ∀ m, absent { s.dev with mbx := m } p = false)
    (pass : ∀ m, Claims.Pass (tests s.mem { s.dev with mbx := m } p)) :
    ∃ m t, exec c s = .next t ∧ ∀ e q, act s.mem { s.dev with mbx := m } p = (e, .ok q) → e.mbx = m →
      (∃ m', t.dev = { e with mbx := m' }) ∧ Answers t o stOk q := by
  obtain ⟨j, job, hc, flags, hs, hr, rfl, awake⟩ := waits
  have begun := startJob_eq o j s.dev
  have common : Claims.Pass (commonTests o code (absent (startJob o j s.dev) j.payload) j.header (startJob o j s.dev) ++
      tests s.mem (startJob o j s.dev) j.payload) := by
    rw [begun, Claims.Pass, firstFail_eq_none]
    simp only [List.mem_append, or_imp, forall_and]
    exact ⟨by simp [commonTests, flags, present, awake, net], (firstFail_eq_none _).mp (pass _)⟩
  have run := command.trans (runCmd_pass s o code absent tests act j (due_of_job o code j _ job hc hs hr) common)
  refine ⟨(startJob o j s.dev).mbx, _, run, fun e q he hm => ?_⟩
  have stands : e.job o = some { j with started := true } :=
    (job_congr o e _ hm).trans (job_setJob o j { j with started := true } _ job)
  rw [begun, he]
  exact ⟨⟨_, respond_eq o stOk q e⟩, _, job_respond o _ stOk q e stands rfl hr, rfl⟩

/-! ## Forwarding -/

/-- The device but for what sending a message changes. -/
def Dev.unsent (d : Dev) : Dev := { d with net := {}, gl := {}, out := [] }

theorem glSend_unsent (onP : Bool) (cls type dst : Nat) (payload : Bytes) (d : Dev) :
    (glSend onP cls type dst payload d).unsent = d.unsent := by
  unfold glSend
  dsimp only
  (repeat' split) <;> rfl

theorem stationTo_unsent (dst : Word) (type : Nat) (payload : Bytes) (d : Dev) :
    (stationTo dst type payload d).unsent = d.unsent := by
  unfold stationTo stationSend
  dsimp only
  split <;> rfl

theorem forward_unsent (code : Nat) (payload : Bytes) (d : Dev) : (forward code payload d).unsent = d.unsent := by
  unfold forward pairSend
  split
  · split
    · unfold stationAuth
      split
      · rfl
      · exact stationTo_unsent _ _ _ d
    · exact foldl_proj Dev.unsent _ (fun d p => glSend_unsent true 2 _ _ p d) _ d
  · rfl

section
variable (code : Nat) (payload : Bytes) (d : Dev)

theorem forward_mbx : (forward code payload d).mbx = d.mbx := (congrArg Dev.mbx (forward_unsent code payload d) :)
theorem forward_ser : (forward code payload d).ser = d.ser := (congrArg Dev.ser (forward_unsent code payload d) :)
theorem forward_pwr : (forward code payload d).pwr = d.pwr := (congrArg Dev.pwr (forward_unsent code payload d) :)

end

end Sys2Proof.Machine
end

section
/-!
PROOF. CAN FD and the UARTs (R42, R360 to R364, R381, R382, R607). First what taking or losing a bus field may change, one
lemma for each operation that the commands share; then folds over the fields of a frame, a reply or a sentence; then the
commands.
-/

namespace Sys2Proof.Machine

open Sys2Proof Sys2Proof.Claims

/-! ## What a bus field's update changes -/

/-- The device but for its bus fields and its place among the free values. -/
def Dev.withoutFields (d : Dev) : Dev := { d with prog := { d.prog with fieldIn := [] }, free := 0 }

/-- A device differs from another in the bus fields of some elements and in the free values taken, and in nothing else. -/
structure Dev.OnlyFields (els : List Nat) (d e : Dev) : Prop where
  rest : e.withoutFields = d.withoutFields
  other : ∀ k, k ∉ els → mget e.prog.fieldIn k = mget d.prog.fieldIn k

/-- The bus field of an element has a VALUE and a quality. -/
def Dev.HoldsField (d : Dev) (el : Nat) (value : Word) (quality : Byte) : Prop :=
  ∃ x, mget d.prog.fieldIn el = some x ∧ x.value = value ∧ x.quality = quality

section
variable {d e f : Dev} {els l : List Nat} {el : Nat}

theorem Dev.OnlyFields.ser (h : d.OnlyFields els e) : e.ser = d.ser := (congrArg Dev.ser h.rest :)
theorem Dev.OnlyFields.evt (h : d.OnlyFields els e) : e.evt = d.evt := (congrArg Dev.evt h.rest :)
theorem Dev.OnlyFields.out (h : d.OnlyFields els e) : e.out = d.out := (congrArg Dev.out h.rest :)

theorem Dev.OnlyFields.refl (d : Dev) : d.OnlyFields [] d := ⟨rfl, fun _ _ => rfl⟩

theorem Dev.OnlyFields.trans (h : d.OnlyFields els e) (h' : e.OnlyFields l f) : d.OnlyFields (els ++ l) f := by
  refine ⟨h'.rest.trans h.rest, fun k hk => ?_⟩
  simp only [List.mem_append, not_or] at hk
  rw [h'.other k hk.2, h.other k hk.1]

theorem fieldValue_congr (h : mget e.prog.fieldIn el = mget d.prog.fieldIn el) : e.fieldValue el = d.fieldValue el := by
  simp only [Dev.fieldValue, h]

theorem HoldsField.congr {v : Word} {q : Byte} (hd : d.HoldsField el v q)
    (h : mget e.prog.fieldIn el = mget d.prog.fieldIn el) : e.HoldsField el v q := by
  rwa [Dev.HoldsField, h]

theorem HoldsField.fieldValue {v : Word} {q : Byte} (h : d.HoldsField el v q) : d.fieldValue el = (v, q) := by
  obtain ⟨x, hx, rfl, rfl⟩ := h
  simp only [Dev.fieldValue, hx]

end

section
variable (d : Dev)

theorem freshNat_onlyFields : d.OnlyFields [] (freshNat d).2 := ⟨rfl, fun _ _ => rfl⟩

theorem inputSeq_onlyFields (el) : d.OnlyFields [] (inputSeq el d).2 := by
  unfold inputSeq
  split
  · exact .refl d
  · exact freshNat_onlyFields d

theorem putField_fieldIn (el v q) : ∃ x : TV, (putField el v q d).prog.fieldIn = mput d.prog.fieldIn el x ∧
    x.value = v ∧ x.quality = q := by
  have fields : (inputSeq (some el) d).2.prog.fieldIn = d.prog.fieldIn := by
    unfold inputSeq
    split <;> rfl
  exact ⟨_, congrArg (mput · el _) fields, rfl, rfl⟩

theorem putField_onlyFields (el v q) : d.OnlyFields [el] (putField el v q d) := by
  refine ⟨(inputSeq_onlyFields d (some el)).rest, fun k hk => ?_⟩
  obtain ⟨x, hx, -, -⟩ := putField_fieldIn d el v q
  rw [hx, mget_mput, if_neg (by simpa using Ne.symm (List.ne_of_not_mem_cons hk))]

theorem putField_holds (el v q) : (putField el v q d).HoldsField el v q := by
  obtain ⟨x, hx, hv, hq⟩ := putField_fieldIn d el v q
  exact ⟨x, by rw [hx, mget_mput, if_pos rfl], hv, hq⟩

theorem loseField_onlyFields (el) : d.OnlyFields [el] (loseField el d) := putField_onlyFields d el _ _

theorem loseField_holds (el) : (loseField el d).HoldsField el (d.fieldValue el).1 qBAD_SOURCE_LOST :=
  putField_holds d el _ _

/-- A loss keeps the VALUE of every field. -/
theorem fieldValue_loseField (el k) : ((loseField el d).fieldValue k).1 = (d.fieldValue k).1 := by
  by_cases h : k = el
  · rw [h, HoldsField.fieldValue (loseField_holds d el)]
  · rw [fieldValue_congr ((loseField_onlyFields d el).other k (by simpa using h))]

/-! ## Numbers -/

theorem fieldWord_bits (x : Int) : fieldWord false x d = (BitVec.ofInt 32 x, d) := rfl

theorem fieldWord_analogue (x : Int) (h : -32768 ≤ x) (h' : x ≤ 32767) :
    fieldWord true x d = (BitVec.ofInt 32 (x * 65536), d) := by
  rw [fieldWord, if_neg (by simp), if_pos ⟨h, h'⟩]

theorem fieldWord_onlyFields (a x) : d.OnlyFields [] (fieldWord a x d).2 := by
  unfold fieldWord
  split
  · exact .refl d
  · split
    · exact .refl d
    · exact freshNat_onlyFields d

theorem openQuotient_onlyFields (a b) : d.OnlyFields [] (openQuotient a b d).2 := by
  unfold openQuotient
  split
  · exact .refl d
  · exact ⟨rfl, fun _ _ => rfl⟩

theorem busNumber_onlyFields (a sg n v) : d.OnlyFields [] (busNumber a sg n v d).2 := by
  have quotient := openQuotient_onlyFields d v.toInt 65536
  cases a with
  | false => exact .refl d
  | true =>
    simp only [busNumber, Bool.not_true, Bool.false_eq_true, if_false]
    generalize (if sg then -(256 ^ n / 2 : Nat) else 0 : Int) = lo
    generalize (if sg then (256 ^ n / 2 - 1 : Nat) else (256 ^ n - 1 : Nat) : Int) = hi
    split
    · exact quotient
    · exact quotient.trans (freshNat_onlyFields _)

/-- A field that takes a number. -/
theorem takeNumber_onlyFields (el a x q) :
    d.OnlyFields [el] (putField el (fieldWord a x d).1 q (fieldWord a x d).2) :=
  (fieldWord_onlyFields d a x).trans (putField_onlyFields _ el _ q)

theorem takeNumber_bits (el x q) :
    (putField el (fieldWord false x d).1 q (fieldWord false x d).2).HoldsField el (BitVec.ofInt 32 x) q :=
  putField_holds d el _ q

theorem takeNumber_analogue (el x q) (h : -32768 ≤ x) (h' : x ≤ 32767) :
    (putField el (fieldWord true x d).1 q (fieldWord true x d).2).HoldsField el (BitVec.ofInt 32 (x * 65536)) q := by
  rw [fieldWord_analogue d x h h']
  exact putField_holds d el _ q

end

/-! ## Folds over fields -/

section
variable {α : Type} {el : α → Nat} {g : Dev → α → Dev}

theorem foldl_onlyFields (h : ∀ (d : Dev) a, d.OnlyFields [el a] (g d a)) (l : List α) (d : Dev) :
    d.OnlyFields (l.map el) (l.foldl g d) := by
  induction l generalizing d with
  | nil => exact .refl d
  | cons a l ih => exact (h d a).trans (ih (g d a))

/-- Where the fields of a fold stand in different elements, each holds in the end what its own step gave it, and met its
element as the fold found it. -/
theorem foldl_field (h : ∀ (d : Dev) a, d.OnlyFields [el a] (g d a)) (l : List α) (nodup : (l.map el).Nodup)
    (d : Dev) (a : α) (ha : a ∈ l) :
    ∃ e, mget e.prog.fieldIn (el a) = mget d.prog.fieldIn (el a) ∧
      mget (l.foldl g d).prog.fieldIn (el a) = mget (g e a).prog.fieldIn (el a) := by
  obtain ⟨before, after, rfl⟩ := List.append_of_mem ha
  rw [List.map_append, List.map_cons, List.nodup_middle, List.nodup_cons, List.mem_append, not_or] at nodup
  refine ⟨before.foldl g d, (foldl_onlyFields h before d).other _ nodup.1.1, ?_⟩
  rw [List.foldl_append, List.foldl_cons]
  exact (foldl_onlyFields h after _).other _ nodup.1.2

/-- So it holds what its step always gives it. -/
theorem foldl_holdsField (h : ∀ (d : Dev) a, d.OnlyFields [el a] (g d a)) (l : List α) (nodup : (l.map el).Nodup)
    (d : Dev) (a : α) (ha : a ∈ l) {v : Word} {q : Byte} (step : ∀ e, (g e a).HoldsField (el a) v q) :
    (l.foldl g d).HoldsField (el a) v q := by
  obtain ⟨e, -, he⟩ := foldl_field h l nodup d a ha
  exact HoldsField.congr (step e) he

theorem foldl_loseField_onlyFields (el : α → Nat) (l : List α) (d : Dev) :
    d.OnlyFields (l.map el) (l.foldl (fun d a => loseField (el a) d) d) :=
  foldl_onlyFields (fun d a => loseField_onlyFields d (el a)) l d

/-- Fields that are lost together keep their VALUEs, also where two of them stand in one element. -/
theorem foldl_loseField_holds (el : α → Nat) (l : List α) (d : Dev) (k : Nat) (hk : k ∈ l.map el) :
    (l.foldl (fun d a => loseField (el a) d) d).HoldsField k (d.fieldValue k).1 qBAD_SOURCE_LOST := by
  induction l generalizing d with
  | nil => exact absurd hk List.not_mem_nil
  | cons b l ih =>
    by_cases later : k ∈ l.map el
    · rw [← fieldValue_loseField d (el b) k]
      exact ih (loseField (el b) d) later
    · obtain rfl : k = el b := by simpa [later] using hk
      exact HoldsField.congr (loseField_holds d _) ((foldl_loseField_onlyFields el l _).other _ later)

end

/-! ## CAN FD -/

/-- A frame's receive objects, one after another, take their fields in the order of the objects. -/
theorem foldl_fields (g : Dev → CanField → Dev) (xs : List CanDecl) (d : Dev) :
    xs.foldl (fun d x => x.fields.foldl g d) d = (xs.flatMap (·.fields)).foldl g d := List.foldl_flatMap.symm

theorem loseObjects_onlyFields (xs : List CanDecl) (d : Dev) :
    d.OnlyFields ((xs.flatMap (·.fields)).map (·.element))
      (xs.foldl (fun d x => x.fields.foldl (fun d f => loseField f.element d) d) d) := by
  rw [foldl_fields]
  exact foldl_loseField_onlyFields _ _ d

theorem loseObjects_holds (xs : List CanDecl) (d : Dev) (x : CanDecl) (hx : x ∈ xs) (f : CanField) (hf : f ∈ x.fields) :
    (xs.foldl (fun d x => x.fields.foldl (fun d f => loseField f.element d) d) d).HoldsField f.element
      (d.fieldValue f.element).1 qBAD_SOURCE_LOST := by
  rw [foldl_fields]
  exact foldl_loseField_holds _ _ d _ (List.mem_map_of_mem (List.mem_flatMap_of_mem hx hf))

/-- What a received frame does to a field. -/
def takeField (data : Bytes) (d : Dev) (f : CanField) : Dev :=
  putField f.element (fieldWord f.analogue (f.number data) d).1 qGOOD (fieldWord f.analogue (f.number data) d).2

theorem takeField_onlyFields (data : Bytes) (d : Dev) (f : CanField) : d.OnlyFields [f.element] (takeField data d f) :=
  takeNumber_onlyFields d f.element f.analogue (f.number data) qGOOD

/-- A frame that the controller receives gives its data to the fields of every object that accepts it (R360). -/
theorem canFrameReceived_taken (c : Fin 4) (id : Nat) (ext fd : Bool) (data : Bytes) (s : State)
    (on : (vget s.dev.ser.can c).cfg.enable = true) (up : (vget s.dev.ser.can c).busOff = false)
    (format : fd = true → (vget s.dev.ser.can c).cfg.fd = true) :
    Becomes (.canFrameReceived c id ext fd data) s
      ((((s.dev.canRx c).filter fun x => x.accepts id ext data).flatMap (·.fields)).foldl (takeField data) s.dev) := by
  have received : (!(vget s.dev.ser.can c).cfg.enable || (vget s.dev.ser.can c).busOff ||
      (fd && !(vget s.dev.ser.can c).cfg.fd)) = false := by
    cases fd <;> simp_all
  rw [← foldl_fields]
  simp only [Becomes, exec, execCanFrameReceived, nextD, received, Bool.false_eq_true, if_false]
  rfl

/-- A controller that is off, off the bus, or not set for the frame's format receives nothing. -/
theorem canFrameReceived_ignored (c : Fin 4) (id : Nat) (ext fd : Bool) (data : Bytes) (s : State)
    (off : (vget s.dev.ser.can c).cfg.enable = false ∨ (vget s.dev.ser.can c).busOff = true ∨
      fd = true ∧ (vget s.dev.ser.can c).cfg.fd = false) :
    Becomes (.canFrameReceived c id ext fd data) s s.dev := by
  have ignored : (!(vget s.dev.ser.can c).cfg.enable || (vget s.dev.ser.can c).busOff ||
      (fd && !(vget s.dev.ser.can c).cfg.fd)) = true := by
    obtain h | h | ⟨h, h'⟩ := off <;> simp [*]
  simp only [Becomes, exec, execCanFrameReceived, nextD, ignored, if_true]

theorem takeFields_holds (data : Bytes) (fs : List CanField) (nodup : (fs.map (·.element)).Nodup) (d : Dev) (f : CanField)
    (hf : f ∈ fs) :
    (f.analogue = false →
      (fs.foldl (takeField data) d).HoldsField f.element (BitVec.ofInt 32 (f.number data)) qGOOD) ∧
    (f.analogue = true → -32768 ≤ f.number data → f.number data ≤ 32767 →
      (fs.foldl (takeField data) d).HoldsField f.element (BitVec.ofInt 32 (f.number data * 65536)) qGOOD) := by
  constructor
  · intro bits
    refine foldl_holdsField (takeField_onlyFields data) fs nodup d f hf fun e => ?_
    rw [takeField, bits]
    exact takeNumber_bits e _ _ _
  · intro analogue low high
    refine foldl_holdsField (takeField_onlyFields data) fs nodup d f hf fun e => ?_
    rw [takeField, analogue]
    exact takeNumber_analogue e _ _ _ low high

/-- A controller that goes off the bus (R361): counted, its event raised, its receive objects' fields lost. -/
def busOffEntered (c : Fin 4) (tec : Byte) (d : Dev) : Dev :=
  let off := modCan c (fun k => { k with busOff := true, tec := tec, busOffs := min 0xFFFF (k.busOffs + 1) }) d
  raise (.canBusoff c) tec.toNat
    ((d.canRx c).foldl (fun d x => x.fields.foldl (fun d f => loseField f.element d) d) off)

theorem busOffEntered_can (c : Fin 4) (tec : Byte) (d : Dev) : vget (busOffEntered c tec d).ser.can c =
    { vget d.ser.can c with busOff := true, tec := tec, busOffs := min 0xFFFF ((vget d.ser.can c).busOffs + 1) } := by
  rw [busOffEntered, raise_ser, (loseObjects_onlyFields _ _).ser]
  exact vget_vmod_same _ _ _ c.isLt

theorem busOffEntered_holds (c : Fin 4) (tec : Byte) (d : Dev) (x : CanDecl) (hx : x ∈ d.canRx c) (f : CanField)
    (hf : f ∈ x.fields) :
    (busOffEntered c tec d).HoldsField f.element (d.fieldValue f.element).1 qBAD_SOURCE_LOST :=
  HoldsField.congr (loseObjects_holds (d.canRx c) (modCan c _ d) x hx f hf) (by rw [busOffEntered, raise_prog])

theorem busOffEntered_raised (c : Fin 4) (tec : Byte) (d : Dev) :
    (busOffEntered c tec d).evt.pending.getLsbD (Ev.canBusoff c).num = true ∧
      (vget (busOffEntered c tec d).evt.recs (Ev.canBusoff c).num).detail = BitVec.ofNat 32 tec.toNat :=
  raised_raise (.canBusoff c) _ _ (by simp only [Ev.num]; omega)

/-! ## UARTs -/

section
variable (d : Dev)

theorem loseRegs_onlyFields (x : PollDecl) : d.OnlyFields (x.regs.map (·.element)) (loseRegs x d) := by
  unfold loseRegs
  split
  · exact foldl_loseField_onlyFields _ _ d
  · exact ⟨rfl, fun _ _ => rfl⟩

theorem loseRegs_holds (x : PollDecl) (reads : x.function ≤ 4) (r : PollReg) (hr : r ∈ x.regs) :
    (loseRegs x d).HoldsField r.element (d.fieldValue r.element).1 qBAD_SOURCE_LOST := by
  rw [loseRegs, if_pos reads]
  exact foldl_loseField_holds _ _ d _ (List.mem_map_of_mem hr)

theorem uartError_prog (u kind : Nat) : (uartError u kind d).prog = d.prog := by
  simp [uartError, modUart]

theorem uartError_ser (u kind : Nat) : (uartError u kind d).ser =
    (modUart u (fun x => { x with errors := min 0xFFFFFFFF (x.errors + 1) }) d).ser := by
  simp [uartError, modUart]

theorem modUart_uart (u : Fin 2) (f : Uart → Uart) : vget (modUart u f d).ser.uart u = f (vget d.ser.uart u) :=
  vget_vmod_same _ _ _ u.isLt

theorem uartError_uart (u : Fin 2) (kind : Nat) : vget (uartError u kind d).ser.uart u =
    { vget d.ser.uart u with errors := min 0xFFFFFFFF ((vget d.ser.uart u).errors + 1) } := by
  rw [uartError_ser, modUart_uart]

/-- The first error since the event was cleared raises it (R364). -/
theorem uartError_raised (u kind : Nat) (clear : d.evt.pending.getLsbD 106 = false) :
    (uartError u kind d).evt.pending.getLsbD 106 = true ∧
      (vget (uartError u kind d).evt.recs 106).detail = BitVec.ofNat 32 (u + 2 * kind) := by
  have armed : (!(modUart u (fun x => { x with errors := min 0xFFFFFFFF (x.errors + 1) }) d).evt.pending.getLsbD 106) =
      true := by rw [show (modUart u _ d).evt = d.evt from rfl, clear]; rfl
  simp only [uartError, raiseIf, armed, if_true]
  exact raised_raise .uartError _ _ (by decide)

/-- The device when a UART awaits no reply any more. -/
def pollEnded (u : Nat) (d : Dev) : Dev := modUart u (fun y => { y with awaiting := none }) d

/-- A poll ends without its registers (R362, R364): the UART waits no more and has counted an error of a kind, the event
names it unless it stood, and the elements that the entry reads are lost. -/
structure PollLost (u : Fin 2) (x : PollDecl) (kind : Nat) (d e : Dev) : Prop where
  uart : vget e.ser.uart u = { vget d.ser.uart u with
    awaiting := none, errors := min 0xFFFFFFFF ((vget d.ser.uart u).errors + 1) }
  raised : d.evt.pending.getLsbD 106 = false →
    e.evt.pending.getLsbD 106 = true ∧ (vget e.evt.recs 106).detail = BitVec.ofNat 32 (u + 2 * kind)
  regs : x.function ≤ 4 → ∀ r ∈ x.regs, e.HoldsField r.element (d.fieldValue r.element).1 qBAD_SOURCE_LOST

theorem pollLost_uartError_last (u : Fin 2) (x : PollDecl) (kind : Nat) :
    PollLost u x kind d (uartError u kind (loseRegs x (pollEnded u d))) where
  uart := by rw [uartError_uart, (loseRegs_onlyFields _ x).ser, pollEnded, modUart_uart]
  raised clear := uartError_raised _ u kind (by rw [(loseRegs_onlyFields _ x).evt]; exact clear)
  regs reads r hr := HoldsField.congr (loseRegs_holds (pollEnded u d) x reads r hr) (by rw [uartError_prog])

theorem pollLost_uartError_first (u : Fin 2) (x : PollDecl) (kind : Nat) :
    PollLost u x kind d (loseRegs x (uartError u kind (pollEnded u d))) where
  uart := by rw [(loseRegs_onlyFields _ x).ser, uartError_uart, pollEnded, modUart_uart]
  raised clear := by
    rw [(loseRegs_onlyFields _ x).evt]
    exact uartError_raised (pollEnded u d) u kind clear
  regs reads r hr := by
    have before : (uartError u kind (pollEnded u d)).fieldValue r.element = d.fieldValue r.element :=
      fieldValue_congr (by rw [uartError_prog]; rfl)
    rw [← before]
    exact loseRegs_holds _ x reads r hr

/-! ### Requests -/

theorem pollData_onlyFields (x : PollDecl) : d.OnlyFields [] (pollData x d).2 :=
  List.foldlRecOn x.regs _ (motive := fun a : Bytes × Dev => d.OnlyFields [] a.2) (.refl d) fun _ ha _ _ =>
    ha.trans (busNumber_onlyFields _ _ _ _ _)

theorem pollRequest_onlyFields (x : PollDecl) : d.OnlyFields [] (pollRequest x d).2 := by
  unfold pollRequest
  dsimp only
  split
  · exact .refl d
  · split <;> exact pollData_onlyFields d x

theorem pollRequest_read (x : PollDecl) (reads : x.function ≤ 4) : (pollRequest x d).1 =
    modbusFrame (beBytes 1 x.slave ++ beBytes 1 x.function ++ beBytes 2 x.start ++ beBytes 2 x.regs.length) := by
  simp only [pollRequest, reads, if_true]

/-- A poll entry's request leaves, and the UART waits for the reply (R362). -/
def modbusSent (u : Fin 2) (k : Nat) (x : PollDecl) (d : Dev) : Dev :=
  emit (.uart u (pollRequest x d).1) (modUart u (fun y => { y with awaiting := some k }) (pollRequest x d).2)

theorem modbusSent_ser (u : Fin 2) (k : Nat) (x : PollDecl) :
    (modbusSent u k x d).ser = (modUart u (fun y => { y with awaiting := some k }) d).ser := by
  simp only [modbusSent, emit_ser, modUart, modSer_ser, (pollRequest_onlyFields d x).ser]

theorem modbusSent_out (u : Fin 2) (k : Nat) (x : PollDecl) :
    (modbusSent u k x d).out = d.out ++ [.uart u (pollRequest x d).1] :=
  congrArg (· ++ [Out.uart u (pollRequest x d).1]) (pollRequest_onlyFields d x).out

/-! ### Replies -/

/-- The number of register i of a reply. -/
def PollReg.number (r : PollReg) (data : Bytes) (i : Nat) : Int :=
  if r.signed then toSigned 16 (getBe data (3 + 2 * i) 2) else getBe data (3 + 2 * i) 2

theorem number_low (r : PollReg) (data : Bytes) (i : Nat) : -32768 ≤ r.number data i := by
  unfold PollReg.number
  split
  · exact BitVec.le_toInt (BitVec.ofNat 16 (getBe data (3 + 2 * i) 2))
  · omega

/-- What a reply does to register i of a poll entry. -/
def takeReg (regs : List PollReg) (data : Bytes) (d : Dev) (i : Nat) : Dev :=
  let r := lget regs i
  putField r.element (fieldWord r.analogue (r.number data i) d).1 qGOOD (fieldWord r.analogue (r.number data i) d).2

theorem takeReg_onlyFields (regs : List PollReg) (data : Bytes) (d : Dev) (i : Nat) :
    d.OnlyFields [(lget regs i).element] (takeReg regs data d i) := takeNumber_onlyFields d _ _ _ qGOOD

theorem takeRegs_read (x : PollDecl) (data : Bytes) (reads : x.function ≤ 4) :
    takeRegs x data d = (List.range x.regs.length).foldl (takeReg x.regs data) d := by
  rw [takeRegs, if_neg (by omega)]
  rfl

theorem takeRegs_onlyFields (x : PollDecl) (data : Bytes) (reads : x.function ≤ 4) :
    d.OnlyFields ((List.range x.regs.length).map fun i => (lget x.regs i).element) (takeRegs x data d) := by
  rw [takeRegs_read d x data reads]
  exact foldl_onlyFields (takeReg_onlyFields x.regs data) _ d

theorem map_lget_range {α β : Type} [Inhabited α] (f : α → β) (l : List α) :
    ((List.range l.length).map fun i => f (lget l i)) = l.map f := by
  refine List.ext_getElem (by simp) fun i h _ => ?_
  have : i < l.length := by simpa using h
  simp [lget, this]

theorem takeRegs_holds (x : PollDecl) (data : Bytes) (reads : x.function ≤ 4) (nodup : (x.regs.map (·.element)).Nodup)
    (i : Nat) (r : PollReg) (hr : x.regs[i]? = some r) :
    (r.analogue = false →
      (takeRegs x data d).HoldsField r.element (BitVec.ofInt 32 (r.number data i)) qGOOD) ∧
    (r.analogue = true → r.number data i ≤ 32767 →
      (takeRegs x data d).HoldsField r.element (BitVec.ofInt 32 (r.number data i * 65536)) qGOOD) := by
  have hi : i ∈ List.range x.regs.length := List.mem_range.mpr (List.getElem?_eq_some_iff.mp hr).1
  obtain rfl : lget x.regs i = r := by rw [lget, hr]; rfl
  rw [← map_lget_range] at nodup
  rw [takeRegs_read d x data reads]
  constructor
  · intro bits
    refine foldl_holdsField (takeReg_onlyFields x.regs data) _ nodup d i hi fun e => ?_
    rw [takeReg, bits]
    exact takeNumber_bits e _ _ _
  · intro analogue high
    refine foldl_holdsField (takeReg_onlyFields x.regs data) _ nodup d i hi fun e => ?_
    rw [takeReg, analogue]
    exact takeNumber_analogue e _ _ _ (number_low _ _ _) high

/-! ### Sentences -/

theorem takeSentence_onlyFields (x : ListenDecl) (f : Bytes) : d.OnlyFields [x.element] (takeSentence x f d) := by
  unfold takeSentence
  split
  · split
    · exact putField_onlyFields d _ _ _
    · split
      · exact putField_onlyFields d _ _ _
      · exact loseField_onlyFields d _
  · split
    · exact loseField_onlyFields d _
    · next n q _ =>
      split
      · have quotient := openQuotient_onlyFields d (n * 65536) q
        dsimp only
        split
        · exact quotient.trans (putField_onlyFields _ _ _ _)
        · exact (quotient.trans (freshNat_onlyFields _)).trans (putField_onlyFields _ _ _ _)
      · exact putField_onlyFields d _ _ _

theorem takeSentence_active (x : ListenDecl) (h : x.letter = true) :
    takeSentence x [0x41] d = putField x.element 1 qGOOD d := by
  rw [takeSentence, if_pos h, if_pos rfl]

theorem takeSentence_void (x : ListenDecl) (h : x.letter = true) :
    takeSentence x [0x56] d = putField x.element 0 qGOOD d := by
  rw [takeSentence, if_pos h, if_neg (by decide), if_pos rfl]

theorem takeSentence_integer (x : ListenDecl) (f : Bytes) (m : Int) (q : Nat) (h : x.letter = false)
    (ha : x.analogue = false) (hf : numberOf f = some (m, q)) :
    takeSentence x f d = putField x.element (BitVec.ofInt 32 (m / q)) qGOOD d := by
  simp only [takeSentence, h, ha, hf, Bool.false_eq_true, if_false]

theorem takeSentence_empty (x : ListenDecl) : takeSentence x [] d = loseField x.element d := by
  unfold takeSentence
  split
  · rw [if_neg (by decide), if_neg (by decide)]
  · rfl

/-- What the fields of a sentence do to a listener field. -/
def takeListen (fs : List Bytes) (d : Dev) (x : ListenDecl) : Dev :=
  match fs[x.field]? with
  | some f => takeSentence x f d
  | none => loseField x.element d

theorem takeListen_some (fs : List Bytes) (x : ListenDecl) (f : Bytes) (h : fs[x.field]? = some f) :
    takeListen fs d x = takeSentence x f d := by rw [takeListen, h]

theorem takeListen_missing (fs : List Bytes) (x : ListenDecl) (h : fs[x.field]? = none ∨ fs[x.field]? = some []) :
    takeListen fs d x = loseField x.element d := by
  obtain h | h := h
  · rw [takeListen, h]
  · rw [takeListen_some d fs x [] h, takeSentence_empty]

theorem takeListen_onlyFields (fs : List Bytes) (d : Dev) (x : ListenDecl) :
    d.OnlyFields [x.element] (takeListen fs d x) := by
  unfold takeListen
  split
  · exact takeSentence_onlyFields d x _
  · exact loseField_onlyFields d x.element

theorem takeListens_holds (fs : List Bytes) (xs : List ListenDecl) (nodup : (xs.map (·.element)).Nodup) (x : ListenDecl)
    (hx : x ∈ xs) :
    let e := xs.foldl (takeListen fs) d
    (x.letter = true → fs[x.field]? = some [0x41] → e.HoldsField x.element 1 qGOOD) ∧
    (x.letter = true → fs[x.field]? = some [0x56] → e.HoldsField x.element 0 qGOOD) ∧
    (∀ f m q, x.letter = false → x.analogue = false → fs[x.field]? = some f → numberOf f = some (m, q) →
      e.HoldsField x.element (BitVec.ofInt 32 (m / q)) qGOOD) ∧
    (fs[x.field]? = none ∨ fs[x.field]? = some [] →
      e.HoldsField x.element (d.fieldValue x.element).1 qBAD_SOURCE_LOST) := by
  have holds := fun v => foldl_holdsField (takeListen_onlyFields fs) xs nodup d x hx (v := v) (q := qGOOD)
  refine ⟨fun letter active => holds 1 fun e => ?_, fun letter void => holds 0 fun e => ?_,
    fun f m q number bits given hf => holds _ fun e => ?_, fun missing => ?_⟩
  · rw [takeListen_some e fs x _ active, takeSentence_active e x letter]
    exact putField_holds e _ _ _
  · rw [takeListen_some e fs x _ void, takeSentence_void e x letter]
    exact putField_holds e _ _ _
  · rw [takeListen_some e fs x f given, takeSentence_integer e x f m q number bits hf]
    exact putField_holds e _ _ _
  · obtain ⟨e, before, after⟩ := foldl_field (takeListen_onlyFields fs) xs nodup d x hx
    rw [takeListen_missing e fs x missing] at after
    rw [← fieldValue_congr before]
    exact HoldsField.congr (loseField_holds e x.element) after

end

/-! ## The events of the buses -/

section
variable (s : State)

theorem canRxTimeout_lost (i : Nat) (x : CanDecl) (declared : s.dev.img.canObjs[i]? = some x)
    (receives : x.transmit = false) (here : s.dev.here x.position = true) :
    Becomes (.canRxTimeout i) s (x.fields.foldl (fun d f => loseField f.element d) s.dev) := by
  simp [Becomes, exec, execCanRxTimeout, nextD, declared, receives, here]

theorem canBusOffEntry_off (c : Fin 4) (tec : Byte) (on : (vget s.dev.ser.can c).cfg.enable = true)
    (up : (vget s.dev.ser.can c).busOff = false) : Becomes (.canBusOffEntry c tec) s (busOffEntered c tec s.dev) := by
  simp only [Becomes, exec, execCanBusOffEntry, nextD, on, up, Bool.not_true, Bool.or_false, Bool.false_eq_true,
    if_false]
  rfl

theorem canBusoffRecovery_back (c : Fin 4) (set : (vget s.dev.ser.can c).cfg.autoRecover = true)
    (off : (vget s.dev.ser.can c).busOff = true) : Becomes (.canBusoffRecovery c) s
      (modCan c (fun k => { k with busOff := false, tec := 0, rec_ := 0 }) s.dev) := by
  simp [Becomes, exec, execCanBusoffRecovery, nextD, set, off]

theorem canBusoffRecovery_unset (c : Fin 4) (unset : (vget s.dev.ser.can c).cfg.autoRecover = false) :
    Becomes (.canBusoffRecovery c) s s.dev := by
  simp [Becomes, exec, execCanBusoffRecovery, nextD, unset]

theorem modbusPoll_sent (u : Fin 2) (k : Nat) (x : PollDecl) (declared : s.dev.img.polls[k]? = some x)
    (mode : (vget s.dev.ser.uart u).mode = 1) (own : x.uart = u.val) (here : s.dev.here x.position = true)
    (idle : (vget s.dev.ser.uart u).awaiting = none) (runs : s.dev.stopped = false) (active : s.dev.passive = false) :
    Becomes (.modbusPoll u k) s (modbusSent u k x s.dev) := by
  simp [Becomes, exec, execModbusPoll, nextD, declared, mode, own, here, idle, runs, active, modbusSent]

theorem modbusPoll_silent (u : Fin 2) (k : Nat) (h : s.dev.stopped = true ∨ s.dev.passive = true) :
    Becomes (.modbusPoll u k) s s.dev := by
  simp only [Becomes, exec, execModbusPoll, nextD]
  split
  · rw [if_pos]
    obtain h | h := h <;> simp [h]
  · rfl

/-- The CRC of a reply holds (log entry 25). -/
def ReplyCrc (data : Bytes) : Prop :=
  4 ≤ data.length ∧ getLe data (data.length - 2) 2 = (modbusCrc (data.take (data.length - 2))).toNat

theorem replyCrc_iff (data : Bytes) : (data.length < 4 || getLe data (data.length - 2) 2 !=
    (modbusCrc (data.take (data.length - 2))).toNat) = true ↔ ¬ ReplyCrc data := by
  simp only [ReplyCrc, Bool.or_eq_true, decide_eq_true_eq, bne_iff_ne]
  omega

theorem modbusReply_good (u : Fin 2) (data : Bytes) (k : Nat) (x : PollDecl)
    (waits : (vget s.dev.ser.uart u).awaiting = some k) (declared : s.dev.img.polls[k]? = some x)
    (crc : ReplyCrc data) (ok : replyOk x data = true) :
    Becomes (.modbusReply u data 0) s (takeRegs x data (pollEnded u s.dev)) := by
  have crcHolds := mt (replyCrc_iff data).mp (not_not.mpr crc)
  simp only [Becomes, exec, execModbusReply, nextD, waits, Option.bind_some, declared, bne_self_eq_false,
    Bool.false_eq_true, if_false, ok, if_true, pollEnded, if_neg crcHolds]

theorem modbusReply_bad (u : Fin 2) (data : Bytes) (err : Fin 4) (k : Nat) (x : PollDecl)
    (waits : (vget s.dev.ser.uart u).awaiting = some k) (declared : s.dev.img.polls[k]? = some x)
    (bad : err ≠ 0 ∨ ¬ ReplyCrc data) :
    Becomes (.modbusReply u data err) s
      (uartError u (if err = 0 then 4 else err.val) (loseRegs x (pollEnded u s.dev))) := by
  simp only [Becomes, exec, execModbusReply, nextD, waits, Option.bind_some, declared]
  by_cases line : err = 0
  · have crc := bad.resolve_left (not_not.mpr line)
    subst line
    simp only [bne_self_eq_false, Bool.false_eq_true, if_false, if_true, if_pos ((replyCrc_iff data).mpr crc), pollEnded]
  · simp only [bne_iff_ne, ne_eq, line, not_false_eq_true, if_true, if_false, pollEnded]

theorem modbusReplyTimeout_lost (u : Fin 2) (k : Nat) (x : PollDecl)
    (waits : (vget s.dev.ser.uart u).awaiting = some k) (declared : s.dev.img.polls[k]? = some x) :
    Becomes (.modbusReplyTimeout u) s (loseRegs x (uartError u 6 (pollEnded u s.dev))) := by
  have image : (uartError u 6 (pollEnded u s.dev)).img = s.dev.img := by
    rw [Dev.img, uartError_prog]
    rfl
  have declared' : (uartError u 6 (modUart u (fun y => { y with awaiting := none }) s.dev)).img.polls[k]? = some x := by
    rw [← declared, ← image]
    rfl
  simp only [Becomes, exec, execModbusReplyTimeout, nextD, waits, declared', pollEnded]

theorem listenerSentence_bad (u : Fin 2) (data : Bytes) (err : Fin 4) (mode : (vget s.dev.ser.uart u).mode = 2)
    (bad : err ≠ 0 ∨ sentenceBody data = none) :
    Becomes (.listenerSentenceReceived u data err) s (uartError u (if err = 0 then 5 else err.val) s.dev) := by
  by_cases line : err = 0
  · have unread := bad.resolve_left (not_not.mpr line)
    simp [Becomes, exec, execListenerSentenceReceived, nextD, mode, line, unread]
  · simp [Becomes, exec, execListenerSentenceReceived, nextD, mode, line]

theorem listenerSentence_good (u : Fin 2) (data body : Bytes) (mode : (vget s.dev.ser.uart u).mode = 2)
    (given : sentenceBody data = some body) :
    Becomes (.listenerSentenceReceived u data 0) s
      ((s.dev.img.listens.filter fun x => s.dev.here x.position && x.matches_ u (lget (splitFields body) 0)).foldl
        (takeListen (splitFields body)) s.dev) := by
  simp only [Becomes, exec, execListenerSentenceReceived, nextD, mode, given, bne_self_eq_false, Bool.false_eq_true,
    if_false]
  rfl

theorem listenerFieldTimeout_lost (k : Nat) (x : ListenDecl) (declared : s.dev.img.listens[k]? = some x)
    (here : s.dev.here x.position = true) (mode : (vget s.dev.ser.uart x.uart).mode = 2) :
    Becomes (.listenerFieldTimeout k) s (loseField x.element s.dev) := by
  simp [Becomes, exec, execListenerFieldTimeout, nextD, declared, here, mode]

end

/-! ## The configuration commands -/

theorem canTests_controller (p : Bytes) (pass : Claims.Pass (canTests p)) : byteAt p 0 < 4 := by
  have range := (firstFail_eq_none _).mp pass
  simp [canTests] at range
  omega

theorem uartTests_uart (p : Bytes) (pass : Claims.Pass (uartTests p)) : byteAt p 0 < 2 ∧ 1200 ≤ getLe p 4 4 := by
  have range := (firstFail_eq_none _).mp pass
  simp [uartTests] at range
  omega

/-- The rate that a UART sets lies within 1 % of BAUD (log entry 27). -/
theorem rate_within (baud n : Nat) (h : 1200 ≤ baud) :
    99 * baud ≤ 100 * ((baud * 99 + 99) / 100 + n % (baud * 101 / 100 - (baud * 99 + 99) / 100 + 1)) ∧
    100 * ((baud * 99 + 99) / 100 + n % (baud * 101 / 100 - (baud * 99 + 99) / 100 + 1)) ≤ 101 * baud := by
  have within : n % (baud * 101 / 100 - (baud * 99 + 99) / 100 + 1) < _ := Nat.mod_lt n (Nat.succ_pos _)
  omega

/-- CAN_CONFIG answers with the state of the controller that rejoins the bus (R381). -/
theorem canConfig_answers (s : State) (o : Origin) (p : Bytes) (waits : Waits s o 0x0704 p)
    (active : s.dev.passive = false) (present : byteAt p 0 < s.dev.nCan) (pass : Claims.Pass (canTests p)) :
    Goes (.canConfig o) s fun t =>
      let y := { vget s.dev.ser.can (byteAt p 0) with cfg := canCfgOf p, busOff := false, tec := 0, rec_ := 0 }
      vget t.dev.ser.can (byteAt p 0) = y ∧ Answers t o stOk (canStatus y) ∧ t.dev.pwr.confDirty = true := by
  have command : exec (.canConfig o) s = execCanConfig o s := rfl
  rw [execCanConfig] at command
  obtain ⟨m, t, run, done⟩ := runCmd_answers command waits (by decide)
    (fun m => decide_eq_false fun absent => absurd present (Nat.not_lt.mpr absent.2)) (fun m => pass_roleTest active pass)
  obtain ⟨⟨m', ht⟩, answer⟩ := done _ _ rfl (forward_mbx _ _ _)
  have status : vget (forward 0x0704 p (canApply p { s.dev with mbx := m })).ser.can (byteAt p 0) =
      { vget s.dev.ser.can (byteAt p 0) with cfg := canCfgOf p, busOff := false, tec := 0, rec_ := 0 } := by
    rw [forward_ser]
    exact vget_vmod_same _ _ _ (canTests_controller p pass)
  rw [status] at answer
  exact ⟨t, run, by rw [ht]; exact status, answer, by rw [ht]; exact congrArg Pwr.confDirty (forward_pwr _ _ _)⟩

/-- UART_CONFIG answers with the rate and with the errors counted before (R382). -/
theorem uartConfig_answers (s : State) (o : Origin) (p : Bytes) (waits : Waits s o 0x0705 p)
    (active : s.dev.passive = false) (pass : Claims.Pass (uartTests p)) :
    Goes (.uartConfig o) s fun t =>
      let y := vget t.dev.ser.uart (byteAt p 0)
      (∃ rate, Answers t o stOk (leBytes 4 rate ++ leBytes 4 (vget s.dev.ser.uart (byteAt p 0)).errors) ∧
        99 * getLe p 4 4 ≤ 100 * rate ∧ 100 * rate ≤ 101 * getLe p 4 4) ∧
      y.mode = byteAt p 1 ∧ y.baud = getLe p 4 4 ∧ y.respTimeout = getLe p 8 2 ∧ y.errors = 0 ∧ y.awaiting = none ∧
      t.dev.pwr.confDirty = true := by
  obtain ⟨own, slowest⟩ := uartTests_uart p pass
  have command : exec (.uartConfig o) s = execUartConfig o s := rfl
  rw [execUartConfig] at command
  obtain ⟨m, t, run, done⟩ := runCmd_answers command waits (by decide) (fun m => rfl) (fun m => pass_roleTest active pass)
  obtain ⟨⟨m', ht⟩, answer⟩ := done _ _ rfl (forward_mbx 0x0705 p (uartApply p { s.dev with mbx := m }))
  have ser : t.dev.ser = (uartApply p s.dev).ser := by
    rw [ht]
    exact forward_ser 0x0705 p (uartApply p { s.dev with mbx := m })
  have pwr : t.dev.pwr = (uartApply p s.dev).pwr := by
    rw [ht]
    exact forward_pwr 0x0705 p (uartApply p { s.dev with mbx := m })
  refine ⟨t, run, ⟨_, answer, rate_within _ _ slowest⟩, ?_⟩
  rw [ser, pwr, uartApply, confChanged_ser, modUart_uart _ ⟨byteAt p 0, own⟩]
  exact ⟨rfl, rfl, rfl, rfl, rfl, rfl⟩

/-! ## The obligation -/

/-- Settles O41: each event's completion is the device that the lemmas above describe. -/
theorem canAndUartFields : Obligations.CanAndUartFields := by
  unfold Obligations.CanAndUartFields
  intro s
  dsimp only
  refine ⟨fun c id ext fd data => ⟨fun on up format nodup => ?frame, fun off => ?ignored⟩,
    fun i x declared receives here => ?rxTimeout, fun c tec on up => ?busOff,
    fun c => ⟨fun set off => ?recovery, fun unset => ?noRecovery⟩,
    fun u k x declared => ⟨fun mode own here idle runs active => ?poll, fun silent => ?noPoll⟩,
    fun u data err k x waits declared => ⟨fun line crc ok reads nodup => ?reply, fun bad => ?badReply, ?replyTimeout⟩,
    fun u data err mode => ⟨fun bad => ?badSentence, fun body line given nodup => ?sentence⟩,
    fun k x declared here mode => ?fieldTimeout, fun o p waits active present pass => ?canConfig,
    fun o p waits active pass => ?uartConfig⟩
  case frame =>
    exact goes_of_becomes (canFrameReceived_taken c id ext fd data s on up format)
      ⟨fun f hf => takeFields_holds data _ nodup s.dev f hf,
        (foldl_onlyFields (takeField_onlyFields data) _ s.dev).other⟩
  case ignored => exact canFrameReceived_ignored c id ext fd data s off
  case rxTimeout =>
    exact goes_of_becomes (canRxTimeout_lost s i x declared receives here) fun f hf =>
      foldl_loseField_holds _ _ s.dev _ (List.mem_map_of_mem hf)
  case busOff =>
    exact goes_of_becomes (canBusOffEntry_off s c tec on up)
      ⟨busOffEntered_can c tec s.dev, busOffEntered_raised c tec s.dev, busOffEntered_holds c tec s.dev⟩
  case recovery =>
    exact goes_of_becomes (canBusoffRecovery_back s c set off) (vget_vmod_same _ _ _ c.isLt)
  case noRecovery => exact canBusoffRecovery_unset s c unset
  case poll =>
    refine goes_of_becomes (modbusPoll_sent s u k x declared mode own here idle runs active)
      ⟨?_, ⟨_, modbusSent_out s.dev u k x⟩, fun reads => ?_⟩
    · exact (congrArg (vget ·.uart u) (modbusSent_ser s.dev u k x)).trans (modUart_uart s.dev u _)
    · rw [← pollRequest_read s.dev x reads]
      exact modbusSent_out s.dev u k x
  case noPoll => exact modbusPoll_silent s u k silent
  case reply =>
    subst line
    refine goes_of_becomes (modbusReply_good s u data k x waits declared crc ok) ⟨?_, fun i r hr => ?_⟩
    · rw [(takeRegs_onlyFields _ x data reads).ser]
      exact modUart_uart s.dev u _
    · exact takeRegs_holds _ x data reads nodup i r hr
  case badReply =>
    have lost := pollLost_uartError_last s.dev u x (if err = 0 then 4 else err.val)
    exact goes_of_becomes (modbusReply_bad s u data err k x waits declared bad) ⟨lost.uart, lost.raised, lost.regs⟩
  case replyTimeout =>
    have lost := pollLost_uartError_first s.dev u x 6
    exact goes_of_becomes (modbusReplyTimeout_lost s u k x waits declared) ⟨lost.uart, lost.raised, lost.regs⟩
  case badSentence =>
    refine goes_of_becomes (listenerSentence_bad s u data err mode bad) ⟨?_, uartError_raised s.dev u _⟩
    rw [uartError_uart]
  case sentence =>
    subst line
    exact goes_of_becomes (listenerSentence_good s u data body mode given) fun x hx =>
      takeListens_holds s.dev _ _ nodup x hx
  case fieldTimeout =>
    exact goes_of_becomes (listenerFieldTimeout_lost s k x declared here mode) (loseField_holds s.dev x.element)
  case canConfig => exact canConfig_answers s o p waits active present pass
  case uartConfig => exact uartConfig_answers s o p waits active pass

end Sys2Proof.Machine
end

section
/-!
PROOF. The addressed memories keep their canonical form over every step (R437, R501, R531, R562, R602). One lemma for
each operation that writes a memory, in the order of the model's files, then the shapes of a command, then the commands:
those that write a memory by the lemma of their operation, every other because its next state has the memories as they
were.
-/

namespace Sys2Proof.Machine

open Sys2Proof

/-! ## Writes to one memory -/

theorem memsWf_iff (m : Mems) : m.wf = true ↔ Memory.wf 0 m.bufs = true ∧ Memory.wf 0 m.storeA = true ∧
    Memory.wf 0 m.storeB = true ∧ Memory.wf flashFill m.flash = true ∧ Memory.wf 0 m.fuse = true ∧
    Memory.wf 0 m.otp = true ∧ Memory.wf 0 m.shown = true ∧ Memory.wf 0 m.drawing = true := by
  simp [Mems.wf, and_assoc]

theorem nil_wf (fill : Byte) : Memory.wf fill [] = true := rfl

section
variable {m : Mems} (h : m.wf = true)
include h

theorem writeBufs_wf (a : Nat) (data : Bytes) : Mems.wf { m with bufs := Memory.writeN 0 m.bufs a data } = true := by
  rw [memsWf_iff] at h ⊢
  exact ⟨writeN_wf 0 data _ a h.1, h.2⟩

theorem storeWrite_wf (a : Nat) (data : Bytes) : (storeWrite a data m).wf = true := by
  rw [memsWf_iff] at h ⊢
  obtain ⟨bufs, storeA, storeB, rest⟩ := h
  exact ⟨bufs, writeN_wf 0 data _ a storeA, writeN_wf 0 data _ a storeB, rest⟩

theorem otpWriteBytes_wf (a : Nat) (data : Bytes) : (otpWriteBytes a data m).wf = true := by
  rw [memsWf_iff] at h ⊢
  obtain ⟨bufs, storeA, storeB, flash, fuse, otp, frames⟩ := h
  exact ⟨bufs, storeA, storeB, flash, fuse, writeN_wf 0 data _ a otp, frames⟩

theorem writeDrawing_wf (a : Nat) (data : Bytes) :
    Mems.wf { m with drawing := Memory.writeN 0 m.drawing a data } = true := by
  rw [memsWf_iff] at h ⊢
  obtain ⟨bufs, storeA, storeB, flash, fuse, otp, shown, drawing⟩ := h
  exact ⟨bufs, storeA, storeB, flash, fuse, otp, shown, writeN_wf 0 data _ a drawing⟩

/-- The shown buffer takes new content: that of the drawing buffer, or of a boot frame. -/
theorem replaceShown_wf (new : Memory) (hn : Memory.wf 0 new = true) : Mems.wf { m with shown := new } = true := by
  rw [memsWf_iff] at h ⊢
  obtain ⟨bufs, storeA, storeB, flash, fuse, otp, shown, drawing⟩ := h
  exact ⟨bufs, storeA, storeB, flash, fuse, otp, hn, drawing⟩

/-- What a reset clears (R557, R602). -/
theorem clearAtReset_wf (kept : Bool) : Mems.wf { m with
    bufs := [], shown := [], drawing := [], storeA := if kept then m.storeA else [],
    storeB := if kept then m.storeB else [] } = true := by
  rw [memsWf_iff] at h ⊢
  obtain ⟨_, storeA, storeB, flash, fuse, otp, _, _⟩ := h
  cases kept with
  | false => exact ⟨nil_wf 0, nil_wf 0, nil_wf 0, flash, fuse, otp, nil_wf 0, nil_wf 0⟩
  | true => exact ⟨nil_wf 0, storeA, storeB, flash, fuse, otp, nil_wf 0, nil_wf 0⟩

/-! ## The operations -/

omit h in
theorem ite_wf (c : Prop) [Decidable c] {a b : Dev × Mems} (ha : a.2.wf = true) (hb : b.2.wf = true) :
    (if c then a else b).2.wf = true := by
  split
  · exact ha
  · exact hb

variable (d : Dev)

theorem finish_wf (o j st payload) : (finish o j st payload m d).2.wf = true := by
  cases o with
  | ch n => exact writeBufs_wf h _ _
  | net =>
    simp only [finish]
    split <;> exact h

theorem complete_wf (o k) : (complete o k m d).2.wf = true := by
  unfold complete
  split
  · exact h
  · split
    · exact finish_wf h _ _ _ _ _
    · exact ite_wf _ (finish_wf h _ _ _ _ _) h
    · exact ite_wf _ h (finish_wf h _ _ _ _ _)
    · exact h

theorem exchangeFrames_wf : (exchangeFrames m d).2.1.wf = true :=
  replaceShown_wf h _ ((memsWf_iff m).mp h).2.2.2.2.2.2.2

theorem doExchange_wf : (doExchange m d).2.wf = true := by
  simp only [doExchange]
  repeat' split
  · exact h
  · exact h
  · exact exchangeFrames_wf h d

theorem leaveShowing_wf : (leaveShowing m d).2.wf = true :=
  ite_wf _ (doExchange_wf h d) h

theorem drawBytes_wf (off data) : (drawBytes off data m d).2.wf = true := writeDrawing_wf h off data

theorem railFault_wf (pos neg kind mag) : (railFault pos neg kind mag m d).2.wf = true := by
  simp only [railFault]
  exact ite_wf _ h (leaveShowing_wf h d)

theorem frameStart_wf : (frameStart m d).2.wf = true := by
  have exchanged := doExchange_wf h d
  simp only [frameStart]
  refine ite_wf _ h ?_
  split
  · exact exchanged
  · exact exchanged

theorem panelPfw_wf : (panelPfw m d).2.wf = true := by
  unfold panelPfw
  split
  · exact h
  · exact leaveShowing_wf h d

theorem writeReg_wf (pcie off data) : (writeReg pcie off data m d).2.wf = true :=
  ite_wf _ (ite_wf _ (writeBufs_wf h off data) h) (ite_wf _ h h)

omit h in
theorem spiWriteWords_wf (ws a) (d : Dev) : ∀ m : Mems, m.wf = true → (spiWriteWords ws a m d).2.wf = true := by
  induction ws generalizing a d with
  | nil => exact fun m h => h
  | cons w ws ih => exact fun m h => ih (a + 4) _ _ (writeReg_wf h d false a w)

theorem spiData_wf (write addr data n extra) : (spiData write addr data n extra m d).2.wf = true := by
  have words := spiWriteWords_wf (chunks 4 (data.take (min n (spiRoom addr) / 4 * 4))) addr d m h
  cases write with
  | false => exact ite_wf _ h (ite_wf _ h h)
  | true => exact ite_wf _ words (ite_wf _ words words)

theorem spiTransaction_wf (mosi extra nRead) : (spiTransaction mosi extra nRead m d).2.wf = true := by
  cases mosi with
  | nil => exact h
  | cons i rest =>
    simp only [spiTransaction]
    repeat' split
    any_goals exact h
    all_goals exact spiData_wf h d _ _ _ _ _

theorem stageWrite_wf (slot off data) : (stageWrite slot off data m d).2.wf = true := storeWrite_wf h _ data

theorem dmaStore_wf (x off data) : (dmaStore x off data m d).2.wf = true :=
  ite_wf _ (stageWrite_wf h d _ _ data) (drawBytes_wf h d _ data)

theorem dmaDone_wf (n data) : (dmaDone n data m d).2.wf = true := by
  simp only [dmaDone]
  split
  · exact h
  · next x rest _ =>
    have moved : (if x.toDevice then dmaStore x 0 data m d
        else (emit (.dmaWrite x.hostAddr.toNat (d.dma n).image) d, m)).2.wf = true :=
      ite_wf _ (dmaStore_wf h d x 0 data) h
    exact ite_wf _ h (ite_wf _ h (ite_wf _ h moved))

theorem dmaFail_wf (n kind addr) : (dmaFail n kind addr m d).2.wf = true := by
  simp only [dmaFail]
  split
  · exact h
  · exact ite_wf _ h (ite_wf _ (dmaStore_wf h _ _ 0 _) h)

theorem spoilWrite_wf (w) : (spoilWrite w m d).2.wf = true := otpWriteBytes_wf h _ _

theorem otpDone_wf (ok) : (otpDone ok m d).2.wf = true := by
  unfold otpDone
  split
  · exact h
  · next w _ => exact ite_wf _ (otpWriteBytes_wf h _ _) (spoilWrite_wf h _ w)

theorem fromFlash_wf (slot i) : (fromFlash slot i m d).2.wf = true :=
  stageWrite_wf h (beginLoad slot (flashImageLen m i) d) slot 0 _

theorem loadAct_wf (p) : (loadAct m d p).1.2.wf = true := by
  simp only [loadAct]
  split
  · exact h
  · exact stageWrite_wf h d _ _ _
  · exact h
  · exact h
  · exact fromFlash_wf h d _ _

theorem bootLoad_wf : (bootLoad m d).2.wf = true := by
  simp only [bootLoad]
  exact ite_wf _ h (ite_wf _ h (fromFlash_wf h d 0 d.pwr.bootImage))

theorem checksDone_wf (map) : (checksDone map m d).2.wf = true := by
  simp only [checksDone]
  split
  · exact h
  · refine ite_wf _ h ?_
    split
    · exact h
    · exact ite_wf _ h (ite_wf _ (bootLoad_wf h _) h)

theorem imagePart_wf (off data last) : (imagePart off data last m d).2.wf = true := by
  simp only [imagePart]
  exact ite_wf _ h (storeWrite_wf h _ data)

theorem loadBootFrame_wf : (loadBootFrame m d).2.wf = true := by
  simp only [loadBootFrame]
  exact ite_wf _ h (replaceShown_wf h _ (writeN_wf 0 _ _ 0 (nil_wf 0)))

theorem resetWith_wf (k) : (resetWith k m d).2.wf = true := by
  have cut : (match (cutFlush d).otp.write with
      | some w => spoilWrite w m (cutFlush d)
      | none => (cutFlush d, m)).2.wf = true := by
    split
    · exact spoilWrite_wf h _ _
    · exact h
  exact clearAtReset_wf cut _

theorem resetDev_wf (k) : (resetDev k m d).2.wf = true := resetWith_wf h _ k

theorem memoryWalk_wf (faults) : (memoryWalk faults m d).2.wf = true := by
  simp only [memoryWalk]
  exact ite_wf _ h (ite_wf _ (resetDev_wf h _ .lockstep) h)

theorem startFirmware_wf (lost copy fallback) : (startFirmware lost m copy fallback d).2.wf = true :=
  loadBootFrame_wf h _

theorem startupReady_wf (lost) : (startupReady lost m d).2.wf = true := by
  simp only [startupReady]
  refine ite_wf _ h ?_
  split
  · exact h
  · exact ite_wf _ (startFirmware_wf h d lost _ _) h

theorem programLoad_wf : (programLoad m d).2.wf = true := by
  simp only [programLoad]
  exact ite_wf _ h (ite_wf _ h (bootLoad_wf h _))

theorem jtagUpdate_wf (i) : (jtagUpdate i m d).2.wf = true := ite_wf _ (resetWith_wf h _ .pin) h

theorem tapReset_wf : (tapReset m d).2.wf = true := ite_wf _ (resetDev_wf h _ .pin) h

theorem pfwFall_wf : (pfwFall m d).2.wf = true := by
  simp only [pfwFall]
  exact ite_wf _ h (panelPfw_wf h _)

end

/-! ## The commands -/

/-- Where the memories before stand in canonical form, those of a next state that an outcome gives do. -/
def KeepsForm (s : State) (o : Host.Outcome State Fault Refusal) : Prop :=
  s.mem.wf = true → ∀ t, o = .next t → t.mem.wf = true

theorem nextM_keepsForm {s : State} {f : Mems → Dev → Dev × Mems}
    (h : s.mem.wf = true → (f s.mem s.dev).2.wf = true) : KeepsForm s (nextM s f) := by
  rintro hs t ⟨⟩
  exact h hs

theorem runCmdM_keepsForm {s : State} {o : Origin} {code : Nat} {absent : Dev → Bytes → Bool}
    {tests : Mems → Dev → Bytes → List (Bool × Half)} {act : Mems → Dev → Bytes → (Dev × Mems) × Reply}
    (h : ∀ m d p, m.wf = true → (act m d p).1.2.wf = true) : KeepsForm s (runCmdM s o code absent tests act) := by
  apply nextM_keepsForm
  intro hs
  split
  · exact hs
  · dsimp only
    split
    · exact hs
    · exact h _ _ _ hs

/-- A command that leaves the memories as they are. -/
theorem becomes_keepsForm {c : Instr} {s : State} (h : ∃ d, Claims.Becomes c s d) : KeepsForm s (exec c s) := by
  obtain ⟨d, becomes⟩ := h
  intro hs t ht
  obtain rfl : { s with dev := d } = t := Host.Outcome.next.inj (becomes.symm.trans ht)
  exact hs

/-- A reset that a condition lets through. -/
theorem resetIf_keepsForm (s : State) (c : Dev → Bool) (k : ResetKind) :
    KeepsForm s (nextM s fun m d => if c d then resetDev k m d else (d, m)) := by
  apply nextM_keepsForm
  intro h
  exact ite_wf _ (resetDev_wf h _ k) h

theorem execPanelFrameWrite_keepsForm (o : Origin) (s : State) : KeepsForm s (execPanelFrameWrite o s) := by
  apply runCmdM_keepsForm
  intro m d p h
  exact writeDrawing_wf h (getLe p 0 2) (p.drop 4)

theorem execPanelFrameCommit_keepsForm (o : Origin) (s : State) : KeepsForm s (execPanelFrameCommit o s) := by
  apply runCmdM_keepsForm
  intro m d p h
  dsimp only
  split
  · exact h
  · exact doExchange_wf h _

/-- Every command; the last arm is every command that writes no memory. -/
theorem exec_keepsForm (c : Instr) (s : State) : KeepsForm s (exec c s) := by
  cases c with
  | mbxCommandComplete o k => exact nextM_keepsForm fun h => complete_wf h _ o k
  | registerWrite off data => exact nextM_keepsForm fun h => writeReg_wf h _ true off data
  | spiTransaction mosi e n => exact nextM_keepsForm fun h => spiTransaction_wf h _ mosi e n
  | dmaDescriptorDone n data => exact nextM_keepsForm fun h => dmaDone_wf h _ n data
  | dmaHalt n kind addr => exact nextM_keepsForm fun h => dmaFail_wf h _ n _ addr
  | panelRailFaultDetect pos neg kind mag => exact nextM_keepsForm fun h => railFault_wf h _ pos neg kind mag
  | panelFrameStart => exact nextM_keepsForm fun h => frameStart_wf h _
  | panelFrameWrite o => exact execPanelFrameWrite_keepsForm o s
  | panelFrameCommit o => exact execPanelFrameCommit_keepsForm o s
  | otpWriteDone ok => exact nextM_keepsForm fun h => otpDone_wf h _ ok
  | programLoad o => exact runCmdM_keepsForm fun m d p h => loadAct_wf h d p
  | placementChecksDone map => exact nextM_keepsForm fun h => checksDone_wf h _ map
  | imageForwardFrame off data last => exact nextM_keepsForm fun h => imagePart_wf h _ off data last
  | powerOnReset | brownoutReset | pinReset | lockstepReset => exact nextM_keepsForm fun h => resetDev_wf h _ _
  | supervisorWdgReset => exact resetIf_keepsForm s (fun d => d.pwr.wdgStage1) _
  | thermalReset => exact resetIf_keepsForm s (fun d => d.pwr.tjCrit) _
  | softResetExecute => exact resetIf_keepsForm s (fun d => d.sys.softReset && !d.softAnswering) _
  | supervisorMemoryWalk faults => exact nextM_keepsForm fun h => memoryWalk_wf h _ faults
  | jtagInstructionUpdate i => exact nextM_keepsForm fun h => jtagUpdate_wf h _ i
  | jtagTapReset => exact nextM_keepsForm fun h => tapReset_wf h _
  | startupFwReady lost => exact nextM_keepsForm fun h => startupReady_wf h _ lost
  | startupProgramLoad => exact nextM_keepsForm fun h => programLoad_wf h _
  | pfwNFall => exact nextM_keepsForm fun h => pfwFall_wf h _
  | _ => exact becomes_keepsForm ⟨_, rfl⟩

/-- Settles O3: an idle step writes no memory, and every command keeps the form. -/
theorem stepKeepsMemoryForm : Obligations.StepKeepsMemoryForm := by
  unfold Obligations.StepKeepsMemoryForm
  intro s t hs h
  unfold step at h
  split at h
  · obtain rfl : s = t := Host.Outcome.next.inj h
    exact hs
  · next c rest _ => exact exec_keepsForm c { s with pending := rest } hs t h

/-- Settles O4: every memory but the fuse block is empty at reset. -/
theorem resetHasMemoryForm : Obligations.ResetHasMemoryForm := by
  unfold Obligations.ResetHasMemoryForm
  decide +kernel

end Sys2Proof.Machine
end

section
/-!
PROOF. Events, the registers at reset, SYS_RESET_CAUSE, and the reach of the host block (R52, R62, R82, R85, R93, R485).
-/

namespace Sys2Proof.Machine

open Sys2Proof Sys2Proof.Claims

/-! ## One occurrence of an event -/

/-- The record that one occurrence leaves (Table 2.27). -/
theorem raise1_rec (n : Nat) (x : Word) (d : Dev) (hn : n < 128) :
    vget (raise1 n x d).evt.recs n = { vget d.evt.recs n with
      saturated := (vget d.evt.recs n).saturated || (vget d.evt.recs n).count = 0xFFFF
      count := satInc (vget d.evt.recs n).count, untrusted := d.rtc.osf, detail := x, stamp := d.rtc.timeWord } := by
  unfold raise1
  dsimp only
  split <;> split <;> split <;> simp [updInt, vget_vset_same _ _ _ hn]

theorem raise1_mask (n : Nat) (x : Word) (d : Dev) : (raise1 n x d).evt.mask = d.evt.mask := by
  unfold raise1
  dsimp only
  split <;> split <;> split <;> simp [updInt]

/-- An event already pending issues no message and holds none back (R85). -/
theorem raise1_again (n : Nat) (x : Word) (d : Dev) (pending : d.evt.pending.getLsbD n = true) :
    (raise1 n x d).out = d.out ∧ (raise1 n x d).host = d.host := by
  unfold raise1
  rw [pending]
  dsimp only [Bool.not_true, Bool.false_and]
  split <;> split <;> simp

/-- Settles O7: the occurrence by the lemmas above, and the raising by its definition. -/
theorem raisingAnEvent : Obligations.RaisingAnEvent := by
  unfold Obligations.RaisingAnEvent
  constructor
  · intro n x d
    have record := raise1_rec n x d n.isLt
    refine ⟨by simp [raise1_pending], ?_, ?_, ?_, raise1_mask n x d, fun pending => ?_⟩
    · rw [record]
    · rw [record]
    · rw [record]
    · obtain ⟨out, host⟩ := raise1_again n x d pending
      exact ⟨out, congrArg HostBlk.pba host⟩
  · intro e x d
    constructor
    · intro room full
      simp [raise, room, full]
    · rintro (full | room)
      · simp [raise, Nat.not_lt.mpr full]
      · simp [raise, room]

/-! ## Resets -/

/-- Settles O6, by evaluating the registers of the reset state. -/
theorem resetRegisters : Obligations.ResetRegisters := by
  unfold Obligations.ResetRegisters
  decide +kernel

theorem freeBytes_sys (n : Nat) (d : Dev) : (freeBytes n d).2.sys = d.sys := by
  induction n generalizing d with
  | zero => rfl
  | succ n ih => exact ih _

theorem spoilWrite_sys (w : OtpWrite) (m : Mems) (d : Dev) : (spoilWrite w m d).1.sys = d.sys := by
  simp only [spoilWrite, spoil, freeBytes_sys]

theorem cutFlush_sys (d : Dev) : (cutFlush d).sys = d.sys := by
  unfold cutFlush
  split
  · rfl
  · exact foldl_proj Dev.sys _ (fun d seg => by dsimp only; split <;> rfl) _ _

theorem resetBlocks_cause (k : ResetKind) (kept : Bool) (d : Dev) :
    (resetBlocks k kept d).sys.cause = d.sys.cause := rfl

theorem resetWith_cause (k : ResetKind) (m : Mems) (d : Dev) : (resetWith k m d).1.sys.cause = d.sys.cause := by
  unfold resetWith
  dsimp only
  split
  · rw [resetBlocks_cause, spoilWrite_sys, cutFlush_sys]
  · rw [resetBlocks_cause, cutFlush_sys]

/-- A reset records its kind in SYS_RESET_CAUSE (R62). -/
theorem resetDev_cause (k : ResetKind) (m : Mems) (d : Dev) : (resetDev k m d).1.sys.cause = causeOf k d.sys.cause :=
  resetWith_cause k m _

/-- A reset that a condition lets through. -/
theorem goes_resetIf {c : Instr} {s : State} {P : State → Prop} (go : Dev → Bool) (k : ResetKind)
    (command : exec c s = nextM s fun m d => if go d then resetDev k m d else (d, m)) (hgo : go s.dev = true)
    (holds : P { s with dev := (resetDev k s.mem s.dev).1, mem := (resetDev k s.mem s.dev).2 }) : Goes c s P :=
  ⟨_, by rw [command, nextM, if_pos hgo], holds⟩

/-- Settles O53: each reset records its kind, and only a power-on reset clears the others. -/
theorem resetCauses : Obligations.ResetCauses := by
  unfold Obligations.ResetCauses
  intro s
  have cause := fun k => resetDev_cause k s.mem s.dev
  refine ⟨⟨_, rfl, congrArg ResetCause.word (cause .por)⟩, ⟨_, rfl, cause .brownout⟩,
    ⟨_, rfl, cause .pin⟩, ⟨_, rfl, cause .lockstep⟩, fun h => ?_, fun h => ?_, fun h h' => ?_⟩
  · exact goes_resetIf (fun d => d.pwr.wdgStage1) .swdg rfl h (cause .swdg)
  · exact goes_resetIf (fun d => d.pwr.tjCrit) .thermal rfl h (cause .thermal)
  · exact goes_resetIf (fun d => d.sys.softReset && !d.softAnswering) .soft rfl (by simp [h, h']) (cause .soft)

end Sys2Proof.Machine
end

section
/-!
PROOF. Accesses of the host stay within the host block and what they address (R52). A transaction over SPI may write any
register that its address names; none of them belongs to the station: its tasks and cells, loop units, field channels,
redundancy and tick.
-/

namespace Sys2Proof.Machine

open Sys2Proof

/-- What the control of the station runs on: the parts that no host access touches. -/
def Dev.station (d : Dev) : Prog × Vector LoopUnit 8 × Dig × Ana × Red × Nat :=
  (d.prog, d.loops, d.dig, d.ana, d.red, d.tick)

section
variable (d : Dev)

theorem station_setEvt (h e) : Dev.station { d with host := h, evt := e } = d.station := rfl

theorem station_setRtc (r) : Dev.station { d with rtc := r } = d.station := rfl

theorem station_setSys (x) : Dev.station { d with sys := x } = d.station := rfl

theorem setChan_station (n f) : (setChan n f d).station = d.station := rfl

theorem ite_station (c : Prop) [Decidable c] {a b : Dev} (ha : a.station = d.station) (hb : b.station = d.station) :
    (if c then a else b).station = d.station := by
  split
  · exact ha
  · exact hb

theorem raise_station (e x) : (raise e x d).station = d.station := by simp [Dev.station]

theorem updInt_station : (updInt d).station = d.station := rfl

theorem msixRelease_station : (msixRelease d).station = d.station :=
  foldl_proj Dev.station _ (fun d n => by split <;> rfl) _ d

theorem msixWrite_station (off v) : (msixWrite off v d).station = d.station :=
  (msixRelease_station _).trans (station_setEvt d _ d.evt)

theorem ring_station (n m) : (ring n m d).station = d.station := by
  simp only [ring]
  split
  · rfl
  · exact raise_station _ _ _
  · rfl

theorem release_station (n) : (release n d).station = d.station := by
  unfold release
  split <;> rfl

theorem doorbell_station (n v m) : (doorbell n v m d).station = d.station := by
  unfold doorbell
  dsimp only
  split <;> split <;> simp only [ring_station, release_station]

theorem msixSend_station (n) : (msixSend n d).station = d.station := by simp [Dev.station]

theorem sendEach_station (fresh : BitVec 128) (l : List Nat) :
    (l.foldl (fun d n => if fresh.getLsbD n then msixSend n d else d) d).station = d.station :=
  foldl_proj Dev.station _ (fun d n => ite_station d _ (msixSend_station d n) rfl) l d

theorem evtMaskWrite_station (k v) : (evtMaskWrite k v d).station = d.station := by
  unfold evtMaskWrite
  dsimp only
  rw [updInt_station, sendEach_station]
  exact station_setEvt d d.host _

theorem evtPendingClear_station (k v) : (evtPendingClear k v d).station = d.station := by
  unfold evtPendingClear
  dsimp only
  rw [updInt_station]
  exact station_setEvt d _ _

theorem evtCtrlWrite_station (v) : (evtCtrlWrite v d).station = d.station := rfl

theorem rtcSetWrite_station (r v) : (rtcSetWrite r v d).station = d.station := by
  unfold rtcSetWrite
  refine ite_station d _ (station_setRtc d _) ?_
  dsimp only
  split <;> exact station_setRtc d _

theorem rtcDiscipline_station (on) : (rtcDiscipline on d).station = d.station := by
  unfold rtcDiscipline
  dsimp only
  split <;> rfl

theorem rtcCommit_station : (rtcCommit d).station = d.station := by
  unfold rtcCommit
  split <;> rfl

theorem rtcCtrlWrite_station (v) : (rtcCtrlWrite v d).station = d.station := by
  unfold rtcCtrlWrite
  rw [rtcDiscipline_station]
  split
  · rfl
  · split
    · exact rtcCommit_station d
    · rfl

theorem rtcTrimWrite_station (v) : (rtcTrimWrite v d).station = d.station := by
  unfold rtcTrimWrite
  split <;> rfl

theorem spiFail_station (kind) : (spiFail kind d).station = d.station := raise_station _ _ _

theorem writeWord_station (pcie off v m) : (writeWord pcie off v m d).station = d.station := by
  unfold writeWord
  refine ite_station d _ (station_setSys d _) (ite_station d _ (station_setSys d _) (ite_station d _ ?mailbox ?_))
  case mailbox =>
    dsimp only
    split
    · exact doorbell_station d _ _ m
    · exact ite_station d _ (setChan_station d _ _) rfl
    · rfl
  refine ite_station d _ (evtPendingClear_station d _ v) (ite_station d _ (evtMaskWrite_station d _ v) ?_)
  refine ite_station d _ (evtCtrlWrite_station d v) ?_
  refine ite_station d _ (ite_station d _ (station_setRtc d _) rfl) (ite_station d _ (rtcSetWrite_station d 0 _) ?_)
  refine ite_station d _ (rtcSetWrite_station d 1 _) (ite_station d _ (rtcSetWrite_station d 2 _) ?_)
  refine ite_station d _ (rtcCtrlWrite_station d _) (ite_station d _ (rtcTrimWrite_station d v) ?_)
  exact ite_station d _ (msixWrite_station d off v) rfl

end

/-! ## SPI transactions -/

section
variable (d : Dev) (m : Mems)

/-- The memories but for the mailbox buffers. -/
def Mems.beyondBufs (m : Mems) : Mems := { m with bufs := [] }

/-- A device and its memories after an access of the host: the station, and every memory but the mailbox buffers, are as
before. -/
structure Contained (r : Dev × Mems) : Prop where
  station : r.1.station = d.station
  mem : r.2.beyondBufs = m.beyondBufs

/-- An access that leaves the memories as they are. -/
theorem contained_of_station {e : Dev} (h : e.station = d.station) : Contained d m (e, m) := ⟨h, rfl⟩

theorem contained_ite (c : Prop) [Decidable c] {a b : Dev × Mems} (ha : Contained d m a) (hb : Contained d m b) :
    Contained d m (if c then a else b) := by
  split
  · exact ha
  · exact hb

theorem writeReg_contained (pcie off data) : Contained d m (writeReg pcie off data m d) :=
  contained_ite d m _ (contained_ite d m _ ⟨rfl, rfl⟩ ⟨rfl, rfl⟩)
    (contained_ite d m _ (contained_of_station d m (writeWord_station d pcie off _ m)) ⟨rfl, rfl⟩)

theorem spiWriteWords_contained (ws a) : Contained d m (spiWriteWords ws a m d) := by
  induction ws generalizing a m d with
  | nil => exact ⟨rfl, rfl⟩
  | cons w ws ih =>
    have first := writeReg_contained d m false a w
    have rest := ih (writeReg false a w m d).1 (writeReg false a w m d).2 (a + 4)
    exact ⟨rest.station.trans first.station, rest.mem.trans first.mem⟩

theorem bufByte_station (off) : (bufByte off m d).2.station = d.station := by
  unfold bufByte
  split <;> rfl

theorem spiBytes_station (n off) : (spiBytes n off m d).2.station = d.station := by
  induction n generalizing off d with
  | zero => rfl
  | succ n ih =>
    simp only [spiBytes, ih]
    split
    · exact bufByte_station d m off
    · rfl

/-- The end of a transfer, good or failed (R58), changes the ERR bit and the events. -/
theorem spiEnd_contained (beyond : Prop) [Decidable beyond] (part : Bool) {r : Dev × Mems} (h : Contained d m r) :
    Contained d m
      (if beyond then (spiFail 5 r.1, r.2) else if part then (spiFail 4 r.1, r.2) else (spiOk r.1, r.2)) :=
  contained_ite d m _ ⟨(spiFail_station _ 5).trans h.station, h.mem⟩
    (contained_ite d m _ ⟨(spiFail_station _ 4).trans h.station, h.mem⟩ ⟨h.station, h.mem⟩)

theorem spiData_contained (write addr data n extra) : Contained d m (spiData write addr data n extra m d) := by
  apply spiEnd_contained d m
  cases write with
  | false => exact contained_of_station d m (spiBytes_station d m _ addr)
  | true => exact spiWriteWords_contained d m _ addr

theorem spiTransaction_contained (mosi extra nRead) : Contained d m (spiTransaction mosi extra nRead m d) := by
  cases mosi with
  | nil => exact ⟨rfl, rfl⟩
  | cons i rest =>
    have failed := fun kind => contained_of_station d m (spiFail_station d kind)
    have flown : (if i = 3 then emit (.spiMiso (List.replicate nRead 0xFF#8)) d else d).station = d.station :=
      ite_station d _ rfl rfl
    have failedLate := fun kind => contained_of_station d m ((spiFail_station _ kind).trans flown)
    refine contained_ite d m _ ⟨rfl, rfl⟩ (contained_ite d m _ (failed 1) (contained_ite d m _ (failed 4) ?_))
    refine contained_ite d m _ (failedLate 2) (contained_ite d m _ (failedLate 3) ?_)
    exact contained_ite d m _ (spiData_contained d m true _ _ _ extra)
      (contained_ite d m _ (failed 4) (spiData_contained d m false _ _ _ extra))

end

/-! ## The PCIe endpoint -/

/-- The device but for the host block, the events, their log and what has been sent. -/
def Dev.beyondHost (d : Dev) : Dev := { d with host := {}, evt := {}, hist := {}, out := [] }

theorem raise_beyondHost (e : Ev) (x : Nat) (d : Dev) : (raise e x d).beyondHost = d.beyondHost := by
  simp [Dev.beyondHost]

theorem msixRelease_beyondHost (d : Dev) : (msixRelease d).beyondHost = d.beyondHost :=
  foldl_proj Dev.beyondHost _ (fun d n => by split <;> rfl) _ d

theorem pcieLink_beyondHost (up : Bool) (speed : BitVec 3) (width : BitVec 4) (d : Dev) :
    (pcieLink up speed width d).beyondHost = d.beyondHost := by
  unfold pcieLink
  split
  · rfl
  · split
    · exact (msixRelease_beyondHost _).trans (raise_beyondHost _ _ _)
    · exact raise_beyondHost _ _ _

/-- A loss or return of the host changes the host block, the events and their log, and no memory (R52). -/
theorem hostLoss_next (s : State) (c : Instr) (hc : (∃ up speed width, c = .pcieLinkTransition up speed width) ∨
    c = .pciePerst ∨ ∃ b, c = .pciePowerStateChange b) :
    ∃ d, Claims.Becomes c s d ∧ d.beyondHost = s.dev.beyondHost := by
  obtain ⟨up, speed, width, rfl⟩ | rfl | ⟨b, rfl⟩ := hc
  · exact ⟨_, rfl, pcieLink_beyondHost up speed width s.dev⟩
  · exact ⟨_, rfl, pcieLink_beyondHost false 0 0 s.dev⟩
  · exact ⟨_, rfl, msixRelease_beyondHost _⟩

theorem station_of_beyondHost {d e : Dev} (h : e.beyondHost = d.beyondHost) : e.station = d.station :=
  (congrArg Dev.station h :)

/-- Settles O14: an SPI transaction by what a register write reaches, the others by what raising an event reaches. -/
theorem hostLossIsContained : Obligations.HostLossIsContained := by
  unfold Obligations.HostLossIsContained
  intro s t c hc ht
  by_cases spi : ∃ tx e n, c = .spiTransaction tx e n
  · obtain ⟨tx, e, n, rfl⟩ := spi
    obtain rfl : { s with dev := _, mem := _ } = t := Host.Outcome.next.inj ht
    obtain ⟨station, mem⟩ := spiTransaction_contained s.dev s.mem tx e n
    simp only [Dev.station, Prod.mk.injEq] at station
    obtain ⟨prog, loops, dig, ana, red, tick⟩ := station
    have memory := congrArg (fun m : Mems => { m with bufs := s.mem.bufs }) mem
    exact ⟨prog, loops, dig, ana, red, tick, memory, fun other => absurd rfl (other tx e n)⟩
  · obtain ⟨d, becomes, beyond⟩ := hostLoss_next s c (hc.imp_right (·.imp_right (·.resolve_right spi)))
    obtain rfl : { s with dev := d } = t := Host.Outcome.next.inj (becomes.symm.trans ht)
    have station := station_of_beyondHost beyond
    simp only [Dev.station, Prod.mk.injEq] at station
    obtain ⟨prog, loops, dig, ana, red, tick⟩ := station
    refine ⟨prog, loops, dig, ana, red, tick, rfl, fun _ => ?_⟩
    simp only [Dev.beyondHost, Dev.mk.injEq] at beyond
    obtain ⟨sys, mbx, -, -, -, -, -, -, net, ser, gl, -, integ, rtc, -, panel, otp, pwr, -⟩ := beyond
    exact ⟨sys, mbx, net, ser, gl, integ, rtc, panel, otp, pwr, rfl⟩

end Sys2Proof.Machine
end

section
/-!
PROOF. The mailbox handshake (R67 to R78, R602, R604): a channel that takes a command, a command that completes and a
command from the network, each by one equation, then the rows of the handshake.
-/

namespace Sys2Proof.Machine

open Sys2Proof Sys2Proof.Claims

/-! ## A channel takes a command -/

/-- The channel of an IDLE or DONE channel's RING: it takes a copy of its command buffer (R67, Table 2.17). -/
def rung (n : Nat) (m : Mems) (c : Chan) : Chan :=
  let h := Memory.readN 0 m.bufs (cmdBuf n) 16
  let payload := Memory.readN 0 m.bufs (cmdBuf n + 16) (min (hdrLength h) 4080)
  let t := acceptTests c.lastSeq h payload
  { c with
    state := .busy, tag := BitVec.ofNat 8 (hdrTag h), result := 0, respLen := 0
    lastSeq := if !(t == some stBadLength || t == some stCheckFailed) then some (hdrSeq h) else c.lastSeq
    job := some { header := h, payload := payload, resp := t.map (fun st => ⟨st, []⟩), started := t.isSome } }

theorem rung_pass (n : Nat) (m : Mems) (c : Chan) (h p : Bytes) (header : Memory.readN 0 m.bufs (cmdBuf n) 16 = h)
    (payload : Memory.readN 0 m.bufs (cmdBuf n + 16) (min (hdrLength h) 4080) = p)
    (pass : acceptTests c.lastSeq h p = none) : rung n m c = { c with
      state := .busy, tag := BitVec.ofNat 8 (hdrTag h), result := 0, respLen := 0, lastSeq := some (hdrSeq h)
      job := some { header := h, payload := p, resp := none, started := false } } := by
  simp only [rung, header, payload, pass]
  rfl

theorem ring_idle (n : Nat) (m : Mems) (d : Dev) (idle : (vget d.mbx.chans n).state = .idle) :
    ring n m d = setChan n (fun _ => rung n m (vget d.mbx.chans n)) d := by
  simp only [ring, idle]
  rfl

theorem ring_busy (n : Nat) (m : Mems) (d : Dev) (busy : (vget d.mbx.chans n).state = .busy) :
    ring n m d = raise .mbxOverflow n (setChan n (fun c => { c with dbIgnored := true }) d) := by
  simp only [ring, busy]

theorem release_done (n : Nat) (d : Dev) (done : (vget d.mbx.chans n).state = .done) :
    release n d = setChan n (fun c => { c with state := .idle, result := 0, respLen := 0 }) d := by
  simp only [release, done]

theorem vget_setChan (n : Fin 8) (f : Chan → Chan) (d : Dev) :
    vget (setChan n f d).mbx.chans n = f (vget d.mbx.chans n) := vget_vmod_same _ _ _ n.isLt

/-- Checks 1 to 3 of R66 on a command that passes them. -/
theorem acceptTests_pass (last : Option Word) (h p : Bytes) (len : hdrLength h ≤ 4080) (resv : hdrReserved h = 0)
    (crc : hdrCrc h = (mbxCrc h p).toNat) (fresh : last ≠ some (hdrSeq h)) : acceptTests last h p = none := by
  simp [acceptTests, firstFail, Nat.not_lt.mpr len, resv, crc, beq_eq_false_iff_ne.mpr fresh]

/-- Settles O12: the RELEASE leaves the channel IDLE, and the RING of an IDLE channel makes it BUSY. -/
theorem releaseBeforeRing : Obligations.ReleaseBeforeRing := by
  unfold Obligations.ReleaseBeforeRing
  intro n s done
  refine ⟨_, rfl, rfl, ?_⟩
  have idle : (vget (release n s.dev).mbx.chans n).state = .idle := by rw [release_done n _ done, vget_setChan]
  have both : doorbell n (2 + b2n true) s.mem s.dev = ring n s.mem (release n s.dev) := rfl
  dsimp only
  rw [both, ring_idle n _ _ idle, vget_setChan]
  rfl

/-! ## Completion -/

theorem respBytes_length (h : Bytes) (st : Half) (p : Bytes) : (respBytes h st p).length = 16 + p.length := by
  simp [respBytes, leBytes_length]
  omega

/-- Bytes written read back. -/
theorem readN_writeN_same (fill : Byte) (d : Bytes) (m : Memory) (a : Nat) (h : Memory.wf fill m = true) :
    Memory.readN fill (Memory.writeN fill m a d) a d.length = d := by
  induction d generalizing m a with
  | nil => rfl
  | cons b d ih =>
    have first : Memory.read fill (Memory.writeN fill (Memory.write fill m a b) (a + 1) d) a = b := by
      rw [read_writeN_other fill a d _ _ (by omega), read_write_same fill m a b h]
    have rest := ih (Memory.write fill m a b) (a + 1) (write_wf fill m a b h)
    simp only [Memory.readN, Nat.add_assoc, Nat.add_comm 1] at rest
    simp only [Memory.readN, Memory.writeN, List.length_cons, List.range_succ_eq_map, List.map_cons, List.map_map,
      Function.comp_def, Nat.add_zero, Nat.succ_eq_add_one, first, rest]

theorem complete_normal (n : Fin 8) (j : Job) (r : Resp) (m : Mems) (d : Dev) (job : d.job (.ch n) = some j)
    (resp : j.resp = some r) : complete (.ch n) .normal m d =
      (setChan n (fun c => { c with
        state := .done, result := r.status
        respLen := BitVec.ofNat 13 (respBytes j.header r.status r.payload).length, job := none }) (dropWaits (.ch n) d),
       { m with bufs := Memory.writeN 0 m.bufs (respBuf n) (respBytes j.header r.status r.payload) }) := by
  simp only [complete, job, resp, finish]

/-! ## A command from the network -/

/-- The trailer of a network command (R74). -/
def netTrailer (key : Nat) (epoch : Word) : Bytes := leBytes 1 key ++ zeros 3 ++ leBytes 4 epoch.toNat

theorem netTrailer_length (key : Nat) (epoch : Word) : (netTrailer key epoch).length = 8 := by
  simp [netTrailer, leBytes_length, zeros]

theorem netTrailer_key (key : Fin 8) (epoch : Word) : byteAt (netTrailer key epoch) 0 = key := by
  simp [netTrailer, byteAt, leBytes]
  omega

theorem netTrailer_zero (key : Nat) (epoch : Word) : allZero (netTrailer key epoch) 1 3 = true := by
  simp [netTrailer, allZero, slice, zeros, leBytes]

theorem netTrailer_epoch (key : Nat) (epoch : Word) : BitVec.ofNat 32 (getLe (netTrailer key epoch) 4 4) = epoch :=
  ofNat_fromLe_leBytes epoch

/-- A block of a network command: header, payload, trailer and MAC (Table 2.18). -/
structure NetBlock (b h p tr mac : Bytes) : Prop where
  bytes : b = h ++ p ++ tr ++ mac
  header : h.length = 16
  trailer : tr.length = 8
  mac : mac.length = 32

section
variable {b h p tr mac : Bytes} (x : NetBlock b h p tr mac)
include x

theorem NetBlock.length : b.length = p.length + 56 := by
  simp [x.bytes, x.header, x.trailer, x.mac]
  omega

theorem NetBlock.take_header : b.take 16 = h := by
  rw [x.bytes, List.append_assoc, List.append_assoc, List.take_left' x.header]

theorem NetBlock.slice_payload : slice b 16 (b.length - 56) = p := by
  rw [x.length, Nat.add_sub_cancel, x.bytes, List.append_assoc]
  exact slice_mid h p (tr ++ mac) 16 p.length x.header rfl

theorem NetBlock.slice_trailer : slice b (b.length - 40) 8 = tr := by
  have at_ : (h ++ p).length = b.length - 40 := by
    rw [x.length, List.length_append, x.header]
    omega
  have mid := slice_mid (h ++ p) tr mac _ 8 at_ x.trailer
  rwa [← x.bytes] at mid

theorem NetBlock.drop_mac : b.drop (b.length - 32) = mac := by
  have at_ : (h ++ p ++ tr).length = b.length - 32 := by
    rw [x.length, List.length_append, List.length_append, x.header, x.trailer]
    omega
  have rest := List.drop_left' (l₂ := mac) at_
  rwa [← x.bytes] at rest

end

theorem withStation_heard {type : Nat} {data : Bytes} {x : StHeader} (d : Dev) (f : StHeader → Dev)
    (addr : d.net.cfg.ip ≠ 0) (parse : stationParse data = some x) (listed : x.type = type) :
    withStation type data d f = f x := by
  rw [withStation, if_neg addr, parse]
  exact if_pos listed

/-- A command from the network that passes every check joins the queue (R74, R76, R78). -/
theorem netCommand_joins (ip : Word) (port : Nat) (b h p k : Bytes) (key : Fin 8) (d : Dev)
    (block : NetBlock b h p (netTrailer key d.pwr.bootEpoch)
      (hmac k (d.uidBytes ++ h ++ p ++ netTrailer key d.pwr.bootEpoch)))
    (len : hdrLength h = p.length) (short : p.length ≤ 4080) (resv : hdrReserved h = 0)
    (crc : hdrCrc h = (mbxCrc h p).toNat) (installed : d.hmacKey key = some k) (valid : d.pwr.epochValid = true)
    (fresh : seqGreater (hdrSeq h) (vget d.mbx.netSeq key) = true) (room : d.mbx.netQueue.length < 16) :
    netCommand ip port b d = { d with mbx := { d.mbx with
      netSeq := vset d.mbx.netSeq key (hdrSeq h)
      netQueue := d.mbx.netQueue ++ [⟨{ header := h, payload := p }, ip, port, key, d.pwr.bootEpoch⟩] } } := by
  have long : ¬ b.length < 56 := by rw [block.length]; omega
  unfold netCommand
  rw [if_neg long, if_neg (Nat.not_le.mpr room)]
  simp only [block.take_header, block.slice_payload, block.slice_trailer, block.drop_mac, netTrailer_key,
    netTrailer_epoch, netTrailer_zero]
  simp [len, Nat.not_lt.mpr short, resv, crc, installed, valid, fresh]

/-! ## The handshake -/

/-- Settles O11, one row of the handshake at a time. -/
theorem mailboxHandshake : Obligations.MailboxHandshake := by
  unfold Obligations.MailboxHandshake
  intro s
  refine ⟨fun n idle len resv crc fresh => ?ring, fun n busy => ?busy, fun n done => ?release,
    fun n j r job resp short wf => ?complete,
    fun ip port data h p mac k key x ready awake addr parse type own payload hl ml len short resv crc installed hmac
      valid fresh room => ?network⟩
  case ring =>
    refine ⟨_, rfl, ?_⟩
    have pass := acceptTests_pass _ _ _ len resv crc fresh
    dsimp only
    rw [ring_idle n _ _ idle, vget_setChan, rung_pass n _ _ _ _ rfl (by rw [Nat.min_eq_left len]) pass]
    exact ⟨rfl, rfl, rfl, rfl⟩
  case busy =>
    refine ⟨_, rfl, ?_⟩
    have raised := raised_raise .mbxOverflow n (setChan n (fun c => { c with dbIgnored := true }) s.dev) (by decide)
    unfold Raised
    dsimp only
    rw [ring_busy n _ _ busy, raise_mbx, vget_setChan]
    exact ⟨rfl, busy, rfl, raised⟩
  case release =>
    refine ⟨_, rfl, ?_⟩
    have alone : doorbell n (2 + b2n false) s.mem s.dev = release n s.dev := rfl
    dsimp only
    rw [alone, release_done n _ done, vget_setChan]
    exact ⟨rfl, rfl, rfl⟩
  case complete =>
    refine ⟨_, rfl, ?_⟩
    have done := complete_normal n j r s.mem s.dev job resp
    generalize bytes : respBytes j.header r.status r.payload = b at done
    have size : b.length = 16 + r.payload.length := by rw [← bytes, respBytes_length]
    dsimp only
    rw [done, vget_setChan, ← size]
    refine ⟨rfl, rfl, ?length, readN_writeN_same 0 _ _ _ wf, fun a outside => read_writeN_other 0 a _ _ _ outside⟩
    exact (BitVec.toNat_ofNat _ _).trans (Nat.mod_eq_of_lt (by omega))
  case network =>
    have block : NetBlock x.payload h p (netTrailer key s.dev.pwr.bootEpoch) mac :=
      ⟨payload, hl, netTrailer_length _ _, ml⟩
    subst hmac
    have joins := netCommand_joins ip port.toNat x.payload h p k key s.dev block len short resv crc installed valid
      fresh room
    have run : exec (.mailboxCmdReceived ip port data) s =
        .next { s with dev := netCommand ip port.toNat x.payload s.dev } := by
      simp only [exec, execMailboxCmdReceived, nextD, ready, awake, withStation_heard _ _ addr parse type, own]
      rfl
    refine ⟨_, run, ?_⟩
    dsimp only
    rw [joins]
    exact ⟨vget_vset_same _ _ _ key.isLt, rfl⟩

end Sys2Proof.Machine
end

section
/-!
PROOF. The system commands (R88 to R94), which answer at once. First a command whose effect is known, and what a range
of event records holds once each of them has been changed.
-/

namespace Sys2Proof.Machine

open Sys2Proof Sys2Proof.Claims

/-- A command that waits, that its origin may send (R79), whose checks pass and whose effect answers with a payload: it
has answered, and what its effect makes of the device holds, whatever the mailboxes hold. -/
theorem goes_answers {c : Instr} {s : State} {o : Origin} {code : Nat} {p : Bytes} {absent : Dev → Bytes → Bool}
    {tests : Mems → Dev → Bytes → List (Bool × Half)} {act : Mems → Dev → Bytes → Dev × Reply}
    (command : exec c s = runCmd s o code absent tests act) (waits : Waits s o code p)
    (mayCome : (o == .net && (code == 0x0C03 || code / 256 == 0x0D)) = false)
    (present : ∀ m, absent { s.dev with mbx := m } p = false)
    (pass : ∀ m, Claims.Pass (tests s.mem { s.dev with mbx := m } p)) {q : Bytes} {P : Dev → Prop}
    (effect : ∀ m, ∃ e, act s.mem { s.dev with mbx := m } p = (e, .ok q) ∧ e.mbx = m ∧ ∀ m', P { e with mbx := m' }) :
    Goes c s fun t => Answers t o stOk q ∧ P t.dev := by
  obtain ⟨j, job, hc, flags, hs, hr, rfl, awake⟩ := waits
  have begun := startJob_eq o j s.dev
  obtain ⟨e, acts, kept, holds⟩ := effect (startJob o j s.dev).mbx
  rw [← begun] at acts
  have common : Claims.Pass (commonTests o code (absent (startJob o j s.dev) j.payload) j.header (startJob o j s.dev) ++
      tests s.mem (startJob o j s.dev) j.payload) := by
    rw [begun, Claims.Pass, firstFail_eq_none]
    simp only [List.mem_append, or_imp, forall_and]
    exact ⟨by simp [commonTests, flags, present, awake, mayCome], (firstFail_eq_none _).mp (pass _)⟩
  have run := command.trans (runCmd_pass s o code absent tests act j (due_of_job o code j _ job hc hs hr) common)
  rw [acts] at run
  have stands : e.job o = some { j with started := true } :=
    (job_congr o e _ kept).trans (job_setJob o j { j with started := true } _ job)
  refine ⟨_, run, ⟨_, job_respond o _ stOk q e stands rfl hr, rfl⟩, ?_⟩
  have effect_stands := holds (respond o stOk q e).mbx
  rwa [← respond_eq] at effect_stands

/-! ## A range of a group -/

/-- Each entry of a range changed by its place in the range, and no other entry. -/
theorem vget_foldl_vmod {α : Type} {n : Nat} [Inhabited α] (g : Nat → α → α) (first count : Nat)
    (h : first + count ≤ n) (v : Vector α n) (k : Nat) :
    vget ((List.range count).foldl (fun v i => vmod v (first + i) (g i)) v) k =
      if first ≤ k ∧ k < first + count then g (k - first) (vget v k) else vget v k := by
  induction count with
  | zero => rw [if_neg (by omega)]; rfl
  | succ count ih =>
    rw [List.range_succ, List.foldl_append]
    by_cases hk : first + count = k
    · subst hk
      rw [List.foldl_cons, List.foldl_nil, vget_vmod_same _ _ _ (by omega), ih (by omega), if_neg (by omega),
        if_pos (by omega), Nat.add_sub_cancel_left]
    · rw [List.foldl_cons, List.foldl_nil, vget_vmod_other _ _ _ _ hk, ih (by omega)]
      simp only [show first ≤ k ∧ k < first + (count + 1) ↔ first ≤ k ∧ k < first + count by omega]

/-! ## The commands -/

section
variable (s : State) (o : Origin)

theorem getIdentity_answers (waits : Waits s o 0x0100 []) : Goes (.getIdentity o) s fun t =>
    Answers t o stOk (leBytes 8 s.dev.sys.ident.toNat ++ leBytes 16 s.dev.sys.uid.toNat ++
      leBytes 4 s.dev.sys.fwVersion.toNat ++ leBytes 1 s.dev.sys.stackPos.toNat ++ leBytes 1 s.dev.sys.role.code ++
      zeros 2) ∧ True := by
  have command : exec (.getIdentity o) s = execGetIdentity o s := rfl
  exact goes_answers (P := fun _ => True) command waits (Bool.and_false _) (fun _ => rfl) (fun _ => rfl)
    fun _ => ⟨_, rfl, rfl, fun _ => trivial⟩

theorem getStatus_answers (p : Bytes) (waits : Waits s o 0x0101 p) (hp : p = [] ∨ p = leBytes 4 0 ∨ p = leBytes 4 1) :
    Goes (.getStatus o) s fun t => Answers t o stOk (statusPayload s.dev) ∧
      t.dev.sys.checks = if p = leBytes 4 1 then {} else s.dev.sys.checks := by
  have command : exec (.getStatus o) s = execGetStatus o s := rfl
  refine goes_answers (P := fun d => d.sys.checks = if p = leBytes 4 1 then {} else s.dev.sys.checks) command waits
    (Bool.and_false _) (fun _ => rfl) (fun _ => ?pass) fun m => ?effect
  case pass => obtain rfl | rfl | rfl := hp <;> rfl
  case effect => obtain rfl | rfl | rfl := hp <;> exact ⟨_, rfl, rfl, fun _ => rfl⟩

theorem softReset_answers (waits : Waits s o 0x0102 (zeros 4 ++ leBytes 4 0x5AFE0102))
    (still : s.dev.cycleRun = false) :
    Goes (.softReset o) s fun t => Answers t o stOk [] ∧ t.dev.sys.softReset = true := by
  have command : exec (.softReset o) s = execSoftReset o s := rfl
  refine goes_answers (P := fun d => d.sys.softReset = true) command waits (Bool.and_false _) (fun _ => rfl)
    (fun m => ?pass) fun m => ⟨_, rfl, rfl, fun _ => rfl⟩
  have still' : Dev.cycleRun { s.dev with mbx := m } = false := still
  rw [still']
  rfl

/-- The payload of EVENT_CONFIG passes its checks (R93). -/
theorem eventConfig_pass (first : Byte) (flags : Bytes) (some_ : flags ≠ []) (range : first.toNat + flags.length ≤ 128)
    (listed : ∀ f ∈ flags, f.toNat ≤ 3)
    (reserved : ∀ i < flags.length, evReserved (first.toNat + i) = true → flags[i]? = some 0) :
    let p := [first, BitVec.ofNat 8 flags.length, 0, 0] ++ flags
    Claims.Pass
      [ (decide (p.length < 4) || p.length != 4 + byteAt p 1, stBadLength),
        (!allZero p 2 2 || (p.drop 4).any (fun f => decide (3 < f.toNat)), stBadParam),
        (evRangeBad p, stRange),
        ((List.range (p.drop 4).length).any (fun i => evReserved (byteAt p 0 + i) && byteAt (p.drop 4) i != 0),
          stBadParam) ] := by
  have count : flags.length % 256 = flags.length := Nat.mod_eq_of_lt (by omega)
  have nonempty : flags.length ≠ 0 := fun h => some_ (List.eq_nil_of_length_eq_zero h)
  intro p
  rw [Claims.Pass, firstFail_eq_none]
  have flag : ∀ i, byteAt (p.drop 4) i = ((flags[i]?).getD 0).toNat := fun i => rfl
  have byte1 : byteAt p 1 = flags.length := count
  have byte0 : byteAt p 0 = first.toNat := rfl
  have length : p.length = 4 + flags.length := by simp [p]; omega
  have body : p.drop 4 = flags := rfl
  have zero : allZero p 2 2 = true := rfl
  simp only [List.forall_mem_cons, List.not_mem_nil, byte0, byte1, length, zero, evRangeBad, flag]
  refine ⟨?_, ?_, ?_, ?_, by simp⟩
  · simp
  · simpa [body] using listed
  · simp [nonempty, range]
  · rw [body, List.any_eq_false]
    intro i hi
    by_cases hr : evReserved (first.toNat + i) = true
    · simp [reserved i (List.mem_range.mp hi) hr]
    · simp [hr]

/-- The record of an event as EVENT_CONFIG sets it. -/
def configured (flags : Bytes) (i : Nat) (r : EvRec) : EvRec :=
  { r with net := (byteAt flags i).testBit 0, log := (byteAt flags i).testBit 1 }

theorem eventConfig_answers (first : Byte) (flags : Bytes)
    (waits : Waits s o 0x0103 ([first, BitVec.ofNat 8 flags.length, 0, 0] ++ flags)) (some_ : flags ≠ [])
    (range : first.toNat + flags.length ≤ 128) (listed : ∀ f ∈ flags, f.toNat ≤ 3)
    (reserved : ∀ i < flags.length, evReserved (first.toNat + i) = true → flags[i]? = some 0) :
    Goes (.eventConfig o) s fun t => Answers t o stOk [] ∧ t.dev.evt.pending = s.dev.evt.pending ∧
      (∀ i < flags.length,
        (vget t.dev.evt.recs (first.toNat + i)).net = (byteAt flags i).testBit 0 ∧
        (vget t.dev.evt.recs (first.toNat + i)).log = (byteAt flags i).testBit 1) ∧
      (∀ n, n < first.toNat ∨ first.toNat + flags.length ≤ n → vget t.dev.evt.recs n = vget s.dev.evt.recs n) := by
  have command : exec (.eventConfig o) s = execEventConfig o s := rfl
  have recs := vget_foldl_vmod (configured flags) first.toNat flags.length range s.dev.evt.recs
  refine goes_answers (P := fun d => d.evt.pending = s.dev.evt.pending ∧
    (∀ i < flags.length, (vget d.evt.recs (first.toNat + i)).net = (byteAt flags i).testBit 0 ∧
      (vget d.evt.recs (first.toNat + i)).log = (byteAt flags i).testBit 1) ∧
    (∀ n, n < first.toNat ∨ first.toNat + flags.length ≤ n → vget d.evt.recs n = vget s.dev.evt.recs n))
    command waits (Bool.and_false _) (fun _ => rfl)
    (fun _ => eventConfig_pass first flags some_ range listed reserved)
    fun m => ⟨_, rfl, rfl, fun _ => ⟨rfl, fun i hi => ?_, fun n hn => ?_⟩⟩
  · have record := recs (first.toNat + i)
    rw [if_pos (by omega), Nat.add_sub_cancel_left] at record
    exact ⟨congrArg EvRec.net record, congrArg EvRec.log record⟩
  · have record := recs n
    rwa [if_neg (by omega)] at record

/-- The record of an event whose count EVENT_READ clears. -/
def cleared (r : EvRec) : EvRec := { r with count := 0, saturated := false }

theorem eventRead_answers (first count flags : Byte) (waits : Waits s o 0x0104 [first, count, flags, 0])
    (listed : flags.toNat ≤ 1) (some_ : 0 < count.toNat) (range : first.toNat + count.toNat ≤ 128) :
    Goes (.eventRead o) s fun t =>
      Answers t o stOk ((List.range count.toNat).flatMap fun i => evRecord s.dev (first.toNat + i)) ∧
      t.dev.evt.pending = s.dev.evt.pending ∧
      (∀ i < count.toNat, (vget t.dev.evt.recs (first.toNat + i)).count =
        if flags = 1 then 0 else (vget s.dev.evt.recs (first.toNat + i)).count) := by
  have command : exec (.eventRead o) s = execEventRead o s := rfl
  have pass : Claims.Pass [lenIs [first, count, flags, 0] 4,
      (decide (1 < byteAt [first, count, flags, 0] 2) || byteAt [first, count, flags, 0] 3 != 0, stBadParam),
      (evRangeBad [first, count, flags, 0], stRange)] := by
    rw [Claims.Pass, firstFail_eq_none]
    simp [lenIs, byteAt, evRangeBad, listed, range, Nat.pos_iff_ne_zero.mp some_]
  have answer : ∀ m, ((List.range count.toNat).map (first.toNat + ·)).flatMap (evRecord { s.dev with mbx := m }) =
      (List.range count.toNat).flatMap fun i => evRecord s.dev (first.toNat + i) := fun m => List.flatMap_map _ _ _
  have counts : ∀ i < count.toNat, (vget (if flags.toNat.testBit 0 then
        ((List.range count.toNat).map (first.toNat + ·)).foldl (fun v n => vmod v n cleared) s.dev.evt.recs
      else s.dev.evt.recs) (first.toNat + i)).count =
      if flags = 1 then 0 else (vget s.dev.evt.recs (first.toNat + i)).count := fun i hi => by
    obtain rfl | rfl : flags = 0 ∨ flags = 1 := by bv_omega
    · simp
    · have record := vget_foldl_vmod (fun _ => cleared) first.toNat count.toNat range s.dev.evt.recs (first.toNat + i)
      rw [if_pos (by omega)] at record
      rw [if_pos (by decide), if_pos rfl, List.foldl_map, record]
      rfl
  refine goes_answers (P := fun d => d.evt.pending = s.dev.evt.pending ∧
    (∀ i < count.toNat, (vget d.evt.recs (first.toNat + i)).count =
      if flags = 1 then 0 else (vget s.dev.evt.recs (first.toNat + i)).count)) command waits (Bool.and_false _)
    (fun _ => rfl) (fun _ => pass) fun m =>
      ⟨_, Prod.ext rfl (congrArg Reply.ok (answer m)), rfl, fun _ => ⟨rfl, counts⟩⟩

end

/-- Settles O8, one command at a time. -/
theorem systemCommands : Obligations.SystemCommands := by
  unfold Obligations.SystemCommands
  intro s o
  refine ⟨fun waits => ?_, getStatus_answers s o, softReset_answers s o, eventConfig_answers s o,
    eventRead_answers s o⟩
  obtain ⟨t, run, answer, -⟩ := getIdentity_answers s o waits
  exact ⟨t, run, answer⟩

end Sys2Proof.Machine
end

section
/-!
PROOF. The DMA channels (R97 to R100): what queueing descriptors, the end of a descriptor and a halt do to a channel,
then the commands of class 0x0Dxx and the two rows of a running descriptor.
-/

namespace Sys2Proof.Machine

open Sys2Proof Sys2Proof.Claims

/-! ## Channels -/

theorem dma_modDma (n : Fin 4) (f : DmaChan → DmaChan) (d : Dev) : (modDma n f d).dma n = f (d.dma n) :=
  vget_vmod_same _ _ _ n.isLt

/-- Raising an event leaves the DMA channels as they are. -/
theorem dma_raise (e : Ev) (x n : Nat) (d : Dev) : (raise e x d).dma n = d.dma n := by
  obtain ⟨pba, host⟩ := raise_host e x d
  rw [Dev.dma, host]
  rfl

/-- What a halt leaves in its channel (Table 2.14). -/
theorem dma_dmaHalt (n : Fin 4) (kind : Nat) (x : Desc) (addr : DWord) (d : Dev) :
    (dmaHalt n kind x addr d).dma n = { d.dma n with
      state := .halted, errKind := BitVec.ofNat 3 kind, errId := x.id, errAddr := addr, queue := [], image := [] } := by
  rw [dmaHalt, dma_raise, dma_modDma]

theorem dmaStart_empty (n : Fin 4) (d : Dev) (empty : (d.dma n).queue = []) :
    dmaStart n d = modDma n (fun c => { c with state := .idle, image := [] }) d := by
  simp only [dmaStart, empty]

/-- A descriptor that its object still holds starts, and the queue stays. -/
theorem dmaStart_runs (n : Fin 4) (d : Dev) (x : Desc) (rest : List Desc) (queue : (d.dma n).queue = x :: rest)
    (held : x.objOffset.toNat + x.length.toNat ≤ objectSize x.object.toNat x.objIndex.toNat d) :
    ((dmaStart n d).dma n).queue = x :: rest ∧ ((dmaStart n d).dma n).state = .running := by
  simp only [dmaStart, queue, if_neg (Nat.not_lt.mpr held), dma_modDma]
  exact ⟨trivial, trivial⟩

/-! ## DMA_SUBMIT -/

/-- What the tests of DMA_SUBMIT leave true of a payload (R98). -/
theorem submitTests_pass (d : Dev) (p : Bytes) (pass : Claims.Pass (submitTests d p)) :
    byteAt p 0 < 4 ∧ byteAt p 1 ≠ 0 ∧ ∀ b ∈ descBytes p,
      (parseDesc b).objOffset.toNat + (parseDesc b).length.toNat ≤
        objectSize (parseDesc b).object.toNat (parseDesc b).objIndex.toNat d := by
  have tests := (firstFail_eq_none _).mp pass
  have channel := tests (dmaRange p) (by simp [submitTests])
  have count := tests (byteAt p 1 == 0 || decide (64 < byteAt p 1), stRange) (by simp [submitTests])
  have ends := tests ((descBytes p).any (descRangeBad d), stRange) (by simp [submitTests])
  simp only [dmaRange, decide_eq_false_iff_not, Bool.or_eq_false_iff, beq_eq_false_iff_ne] at channel count
  refine ⟨by omega, count.1, fun b hb => ?_⟩
  have fits := List.any_eq_false.mp ends b hb
  simp only [descRangeBad, Bool.or_eq_true, decide_eq_true_eq, not_or, Nat.not_lt] at fits
  exact fits.2

theorem dmaStart_mbx (n : Nat) (d : Dev) : (dmaStart n d).mbx = d.mbx := by
  unfold dmaStart
  split
  · rfl
  · split
    · exact raise_mbx _ _ _
    · rfl

theorem dmaSubmit_mbx (p : Bytes) (d : Dev) : (dmaSubmit p d).1.mbx = d.mbx := by
  unfold dmaSubmit
  dsimp only
  split
  · exact dmaStart_mbx _ _
  · rfl

/-- A submission queues its descriptors, and an idle channel with an empty queue runs (R98). -/
theorem dmaSubmit_dma (n : Fin 4) (p : Bytes) (d : Dev) (pass : Claims.Pass (submitTests d p)) (hn : byteAt p 0 = n)
    (empty : (d.dma n).state = .idle → (d.dma n).queue = []) :
    ((dmaSubmit p d).1.dma n).queue = (d.dma n).queue ++ (descBytes p).map parseDesc ∧
      ((d.dma n).state = .idle → ((dmaSubmit p d).1.dma n).state = .running) := by
  obtain ⟨-, count, fits⟩ := submitTests_pass d p pass
  obtain ⟨b, rest, descs⟩ : ∃ b rest, descBytes p = b :: rest := List.exists_cons_of_ne_nil (by simp [descBytes, count])
  simp only [dmaSubmit, hn]
  by_cases idle : (d.dma n).state = .idle
  · have queue : ((modDma n (fun c => { c with queue := c.queue ++ (descBytes p).map parseDesc }) d).dma n).queue =
        parseDesc b :: rest.map parseDesc := by rw [dma_modDma, empty idle, descs]; rfl
    obtain ⟨queued, runs⟩ := dmaStart_runs n _ _ _ queue (fits b (by rw [descs]; exact List.mem_cons_self))
    rw [if_pos (by simp [idle]), empty idle]
    exact ⟨queued.trans (by rw [descs]; rfl), fun _ => runs⟩
  · rw [if_neg (by simp [idle]), dma_modDma]
    exact ⟨rfl, fun h => absurd h idle⟩

/-! ## DMA_STATUS and DMA_ABORT -/

/-- What CLEAR_HALT does to a channel (R99). -/
def dmaClear (n : Nat) (clear : Bool) (d : Dev) : Dev :=
  if clear && (d.dma n).state == .halted then modDma n (fun c => { c with state := .idle, errKind := 0 }) d else d

theorem dmaClear_mbx (n : Nat) (clear : Bool) (d : Dev) : (dmaClear n clear d).mbx = d.mbx := by
  unfold dmaClear
  split <;> rfl

theorem dma_dmaClear (n : Fin 4) (clear : Bool) (d : Dev) : (dmaClear n clear d).dma n =
    if clear && (d.dma n).state == .halted then { d.dma n with state := .idle, errKind := 0 } else d.dma n := by
  unfold dmaClear
  split
  · exact dma_modDma _ _ _
  · rfl

/-- An abort of a running channel answers how many descriptors it removes (R100). -/
theorem dmaAbort_running (p : Bytes) (d : Dev) (running : (d.dma (byteAt p 0)).state = .running) :
    ∃ e, dmaAbort p d =
      (modDma (byteAt p 0) (fun c => { c with state := .idle, queue := [], image := [] }) e,
       .ok (leBytes 2 (d.dma (byteAt p 0)).queue.length ++ zeros 2)) ∧ e.mbx = d.mbx := by
  unfold dmaAbort
  rw [if_neg (by simp [running])]
  refine ⟨_, rfl, ?_⟩
  split
  · rfl
  · split
    · split
      · rfl
      · exact modPanel_mbx _ _
    · dsimp only
      split <;> rfl

/-! ## The running descriptor -/

/-- A device-to-host descriptor, the only one of its channel, completes (R97). -/
theorem dmaDone_last (n : Fin 4) (x : Desc) (data : Bytes) (m : Mems) (d : Dev) (queue : (d.dma n).queue = [x])
    (running : (d.dma n).state = .running) (may : d.pcieMayWrite = true) (toHost : x.toDevice = false)
    (object : x.object ≠ 4) (quiet : x.event = false) :
    dmaDone n data m d = (modDma n (fun c => { c with state := .idle, image := [] })
      (modDma n (fun c => { c with doneCount := c.doneCount + 1, lastId := x.id, queue := [], image := [] })
        (emit (.dmaWrite x.hostAddr.toNat (d.dma n).image) d)), m) := by
  have unlocked : d.objLocked x = false := by
    rw [Dev.objLocked, beq_eq_false_iff_ne.mpr object, Bool.false_and]
  simp only [dmaDone, queue]
  rw [if_neg (by simp [running, may, unlocked]), if_neg (by simp [toHost]), if_neg (by simp [toHost])]
  simp only [toHost, quiet, raiseIf, Bool.false_eq_true, if_false]
  exact Prod.ext (dmaStart_empty n _ (by rw [dma_modDma])) rfl

/-- A running descriptor that fails halts its channel, whatever it had moved by then (R97). -/
theorem dmaFail_halts (n : Fin 4) (x : Desc) (rest : List Desc) (kind : Nat) (addr : DWord) (m : Mems) (d : Dev)
    (queue : (d.dma n).queue = x :: rest) (running : (d.dma n).state = .running) (kind0 : kind ≠ 0) (kind7 : kind ≠ 7) :
    ∃ e, (dmaFail n kind addr m d).1 = dmaHalt n kind x addr e := by
  simp only [dmaFail, queue]
  rw [if_neg (by simp [running, kind0, kind7])]
  split
  · exact ⟨_, rfl⟩
  · exact ⟨_, rfl⟩

/-! ## The commands -/

/-- The first byte of a payload that names a DMA channel. -/
theorem channelByte (ch : Fin 4) : (BitVec.ofNat 8 ch.val).toNat = ch := by
  rw [BitVec.toNat_ofNat]
  exact Nat.mod_eq_of_lt (by omega)

/-- What DMA_SUBMIT answers (R98): the queue's new length and the entries left. -/
def submitAnswer (p : Bytes) (d : Dev) : Bytes :=
  let k := ((modDma (byteAt p 0) (fun c => { c with queue := c.queue ++ (descBytes p).map parseDesc }) d).dma
    (byteAt p 0)).queue.length
  leBytes 1 k ++ leBytes 1 (64 - k) ++ zeros 2

section
variable (s : State)

theorem dmaSubmit_queues (n : Fin 8) (p : Bytes) (waits : Waits s (.ch n) 0x0D00 p)
    (pass : Claims.Pass (submitTests s.dev p))
    (empty : (s.dev.dma (byteAt p 0)).state = .idle → (s.dev.dma (byteAt p 0)).queue = []) :
    Goes (.dmaSubmit (.ch n)) s fun t =>
      (t.dev.dma (byteAt p 0)).queue = (s.dev.dma (byteAt p 0)).queue ++ (descBytes p).map parseDesc ∧
      ((s.dev.dma (byteAt p 0)).state = .idle → (t.dev.dma (byteAt p 0)).state = .running) := by
  have command : exec (.dmaSubmit (.ch n)) s = execDmaSubmit (.ch n) s := rfl
  have channel := (submitTests_pass s.dev p pass).1
  have effect : ∀ m, dmaSubmit p { s.dev with mbx := m } =
      ((dmaSubmit p { s.dev with mbx := m }).1, .ok (submitAnswer p s.dev)) := fun _ => rfl
  obtain ⟨t, run, -, queued⟩ := goes_answers (q := submitAnswer p s.dev) (P := fun d =>
    (d.dma (byteAt p 0)).queue = (s.dev.dma (byteAt p 0)).queue ++ (descBytes p).map parseDesc ∧
      ((s.dev.dma (byteAt p 0)).state = .idle → (d.dma (byteAt p 0)).state = .running))
    command waits rfl (fun _ => rfl) (fun _ => pass) fun m =>
      ⟨_, effect m, dmaSubmit_mbx p _, fun _ => dmaSubmit_dma ⟨_, channel⟩ p { s.dev with mbx := m } pass rfl empty⟩
  exact ⟨t, run, queued⟩

theorem dmaStatus_answers (n : Fin 8) (ch : Fin 4) (clear : Bool)
    (waits : Waits s (.ch n) 0x0D01 [BitVec.ofNat 8 ch.val, if clear then 1 else 0, 0, 0]) :
    Goes (.dmaStatus (.ch n)) s fun t => Answers t (.ch n) stOk ((dmaRegs (s.dev.dma ch)).flatMap (leBytes 4)) ∧
      t.dev.dma ch = (dmaClear ch clear s.dev).dma ch := by
  have command : exec (.dmaStatus (.ch n)) s = execDmaStatus (.ch n) s := rfl
  generalize payload : [BitVec.ofNat 8 ch.val, if clear then 1 else 0, 0, 0] = p at waits
  have channel : byteAt p 0 = ch := by rw [← payload]; exact channelByte ch
  have flag : byteAt p 1 = b2n clear := by rw [← payload]; cases clear <;> rfl
  have bit : (byteAt p 1).testBit 0 = clear := by rw [flag]; cases clear <;> rfl
  have pass : Claims.Pass [lenIs p 4, resv p [(2, 2)], (byteAt p 1 / 2 != 0, stBadParam), dmaRange p] := by
    have small : byteAt p 1 / 2 = 0 := by rw [flag]; cases clear <;> rfl
    rw [Claims.Pass, firstFail_eq_none]
    simp only [List.forall_mem_cons, dmaRange, channel, small]
    subst payload
    exact ⟨rfl, rfl, rfl, decide_eq_false (by omega), by simp⟩
  refine goes_answers (P := fun d => d.dma ch = (dmaClear ch clear s.dev).dma ch) command waits rfl
    (fun _ => rfl) (fun _ => pass) fun m =>
      ⟨dmaClear ch clear { s.dev with mbx := m }, ?acts, dmaClear_mbx _ _ _, fun m' => ?holds⟩
  case acts =>
    show (dmaClear (byteAt p 0) ((byteAt p 1).testBit 0) _,
      Reply.ok ((dmaRegs (s.dev.dma (byteAt p 0))).flatMap (leBytes 4))) = _
    rw [channel, bit]
  case holds =>
    rw [dma_dmaClear]
    exact dma_dmaClear ch clear { s.dev with mbx := m }

theorem dmaAbort_answers (n : Fin 8) (ch : Fin 4) (waits : Waits s (.ch n) 0x0D02 [BitVec.ofNat 8 ch.val, 0, 0, 0])
    (running : (s.dev.dma ch).state = .running) :
    Goes (.dmaAbort (.ch n)) s fun t =>
      Answers t (.ch n) stOk (leBytes 2 (s.dev.dma ch).queue.length ++ zeros 2) ∧
      (t.dev.dma ch).state = .idle ∧ (t.dev.dma ch).queue = [] := by
  have command : exec (.dmaAbort (.ch n)) s = execDmaAbort (.ch n) s := rfl
  generalize payload : [BitVec.ofNat 8 ch.val, 0, 0, 0] = p at waits
  have channel : byteAt p 0 = ch := by rw [← payload]; exact channelByte ch
  have pass : Claims.Pass [lenIs p 4, resv p [(1, 3)], dmaRange p] := by
    rw [Claims.Pass, firstFail_eq_none]
    simp only [List.forall_mem_cons, dmaRange, channel]
    subst payload
    exact ⟨rfl, rfl, decide_eq_false (by omega), by simp⟩
  refine goes_answers (P := fun d => (d.dma ch).state = .idle ∧ (d.dma ch).queue = []) command waits rfl
    (fun _ => rfl) (fun _ => pass) fun m => ?effect
  obtain ⟨e, abort, kept⟩ := dmaAbort_running p { s.dev with mbx := m } (by rw [channel]; exact running)
  rw [channel] at abort
  refine ⟨_, abort, kept, fun m' => ?_⟩
  have stopped := dma_modDma ch (fun c => { c with state := .idle, queue := [], image := [] }) e
  exact ⟨congrArg DmaChan.state stopped, congrArg DmaChan.queue stopped⟩

theorem dmaDescriptorDone_last (n : Fin 4) (x : Desc) (data : Bytes) (queue : (s.dev.dma n).queue = [x])
    (running : (s.dev.dma n).state = .running) (may : s.dev.pcieMayWrite = true) (toHost : x.toDevice = false)
    (object : x.object ≠ 4) (quiet : x.event = false) :
    Goes (.dmaDescriptorDone n data) s fun t =>
      t.dev.out = s.dev.out ++ [.dmaWrite x.hostAddr.toNat (s.dev.dma n).image] ∧
      (t.dev.dma n).state = .idle ∧ (t.dev.dma n).lastId = x.id ∧
      (t.dev.dma n).doneCount = (s.dev.dma n).doneCount + 1 := by
  have done : exec (.dmaDescriptorDone n data) s = nextM s (dmaDone n data) := rfl
  rw [nextM, dmaDone_last n x data s.mem s.dev queue running may toHost object quiet] at done
  refine ⟨_, done, rfl, ?_⟩
  dsimp only
  rw [dma_modDma, dma_modDma]
  exact ⟨rfl, rfl, rfl⟩

theorem dmaHalt_halts (n : Fin 4) (x : Desc) (rest : List Desc) (kind : BitVec 3) (addr : DWord)
    (queue : (s.dev.dma n).queue = x :: rest) (running : (s.dev.dma n).state = .running)
    (kind0 : kind ≠ 0) (kind7 : kind ≠ 7) :
    Goes (.dmaHalt n kind addr) s fun t =>
      (t.dev.dma n).state = .halted ∧ (t.dev.dma n).queue = [] ∧ (t.dev.dma n).errKind = kind ∧
      (t.dev.dma n).errId = x.id ∧ (t.dev.dma n).errAddr = addr ∧
      Raised t .dmaError (n.val + 256 * kind.toNat) := by
  have fails : exec (.dmaHalt n kind addr) s = nextM s (dmaFail n kind.toNat addr) := rfl
  obtain ⟨e, halt⟩ := dmaFail_halts n x rest kind.toNat addr s.mem s.dev queue running (by bv_omega) (by bv_omega)
  refine ⟨_, fails, ?_⟩
  simp only
  rw [halt, dma_dmaHalt, BitVec.ofNat_toNat, BitVec.setWidth_eq]
  exact ⟨rfl, rfl, rfl, rfl, rfl, raised_raise .dmaError _ _ (by decide)⟩

end

/-- Settles O10, one command and one row of a descriptor at a time. -/
theorem dmaChannels : Obligations.DmaChannels := by
  unfold Obligations.DmaChannels
  intro s
  refine ⟨dmaSubmit_queues s, fun n ch clear waits => ?_, dmaAbort_answers s, dmaDescriptorDone_last s,
    dmaHalt_halts s⟩
  obtain ⟨t, run, answer, channel⟩ := dmaStatus_answers s n ch clear waits
  rw [dma_dmaClear] at channel
  refine ⟨t, run, answer, fun cleared (halted : (s.dev.dma ch).state = .halted) => ?_,
    fun (other : (s.dev.dma ch).state ≠ .halted) => ?_⟩
  · rw [if_pos (by simp [cleared, halted])] at channel
    exact ⟨congrArg DmaChan.state channel, congrArg DmaChan.errKind channel⟩
  · rwa [if_neg (by simp [other])] at channel

end Sys2Proof.Machine
end

section
/-!
PROOF. The rules of the cell machine (chapter 03): a device with one of its cells replaced, and what the operations of
the cell machine make of it; how a row runs; and what the reading of an operand leaves of the cell.
-/

namespace Sys2Proof.Machine

open Sys2Proof Sys2Proof.Claims

/-! ## A device with one cell replaced -/

section
variable (d : Dev) (c : Fin 256) (x y : Cell)

@[simp] theorem cell_withCell : (withCell d c x).cell c = x := by
  simp [withCell, Dev.cell, vget]

@[simp] theorem withCell_withCell : withCell (withCell d c x) c y = withCell d c y := by
  simp [withCell]

theorem withCell_cell : withCell d c (d.cell c) = d := by
  simp [withCell, Dev.cell, vget]

theorem modCell_eq (f : Cell → Cell) : modCell c f d = withCell d c (f (d.cell c)) := by
  have inside : d.prog.cells.setIfInBounds c (f (d.cell c)) = d.prog.cells.set c (f (d.cell c)) :=
    Vector.toArray_inj.mp (by simp [Array.setIfInBounds])
  simp only [modCell, modProg, withCell, vmod, vset]
  exact congrArg (fun cells => { d with prog := { d.prog with cells := cells } }) inside

@[simp] theorem modCell_withCell (f : Cell → Cell) : modCell c f (withCell d c x) = withCell d c (f x) := by
  rw [modCell_eq, cell_withCell, withCell_withCell]

/-- A cell with another speculation record. -/
def Cell.withSpec (x : Cell) (r : SpecRec) : Cell := { x with exec := { x.exec with spec := r } }

theorem modSpec_eq (f : SpecRec → SpecRec) :
    modSpec c f d = withCell d c ((d.cell c).withSpec (f (d.cell c).exec.spec)) := modCell_eq d c _

@[simp] theorem modSpec_withCell (f : SpecRec → SpecRec) :
    modSpec c f (withCell d c x) = withCell d c (x.withSpec (f x.exec.spec)) := modCell_withCell d c x _

theorem setArithOpt_eq (el : Option Nat) :
    setArithOpt c el d = withCell d c ((d.cell c).withSpec (arithMark el (d.cell c).exec.spec)) := by
  cases el with
  | none => exact (withCell_cell d c).symm
  | some e =>
    rw [setArithOpt, setArith, modSpec_eq]
    refine congrArg (fun r => withCell d c ((d.cell c).withSpec r)) ?_
    simp only [arithMark]
    split <;> rfl

theorem arithW_eq :
    arithW c d = withCell d c ((d.cell c).withSpec (arithMark (d.cell c).mark (d.cell c).exec.spec)) :=
  setArithOpt_eq d c _

theorem signature_eq (kind : Nat) (o : Opd) (result : Bool) :
    ∃ sp, signature c kind o result d = withCell d c ((d.cell c).withSpec sp) := by
  have one (f : SpecRec → SpecRec) : ∃ sp, modSpec c f d = withCell d c ((d.cell c).withSpec sp) :=
    ⟨_, modSpec_eq d c f⟩
  have two (f g : SpecRec → SpecRec) :
      ∃ sp, modSpec c f (modSpec c g d) = withCell d c ((d.cell c).withSpec sp) :=
    ⟨_, by rw [modSpec_eq d c g, modSpec_withCell]; rfl⟩
  have added (full : Prop) [Decidable full] (f g : SpecRec → SpecRec) :
      ∃ sp, (if full then modSpec c f d else modSpec c g d) = withCell d c ((d.cell c).withSpec sp) := by
    split <;> exact one _
  unfold signature
  dsimp only
  split
  · split
    · exact added _ _ _
    · exact two _ _
  · exact added _ _ _
  · exact added _ _ _
  · exact ⟨_, (withCell_cell d c).symm⟩
end

/-! ## A row at its instruction -/

section
variable {c : Fin 256} {op : Nat} {s : State} {command : Instr} {sem : IWord → Dev → Dev}

/-- A row whose cell stands at its instruction, with no fault of the silicon, carries the instruction out. -/
theorem cellRow_becomes (at_ : AtInstr s c op) (row : exec command s = cellRow op c .none s sem) :
    Becomes command s (sem (s.dev.cellWord c) s.dev) := by
  obtain ⟨running, isOp, mod, branch⟩ := at_
  simp [Becomes, row, cellRow, nextD, siliconFault, storeFault, running, isOp, mod, branch]

/-- An instruction that goes on, by what it makes of the device and of its cell. -/
theorem cellStep_becomes {d : Dev} {x : Cell} (at_ : AtInstr s c op)
    (row : exec command s = cellStep op c .none s sem)
    (effect : sem (s.dev.cellWord c) s.dev = withCell d c x) :
    Becomes command s (withCell d c (stepped x)) := by
  have run := cellRow_becomes at_ row
  rwa [effect, advance, modCell_withCell] at run

end

/-! ## Reading an operand -/

section
variable (c : Fin 256) (i : IWord) (d : Dev)

/-- A cell after the reading of an operand: the working values that it read and its speculation record. -/
def Cell.asRead (x : Cell) (reads : List WRead) (r : SpecRec) : Cell :=
  { x with exec := { x.exec with wreads := reads, spec := r } }

theorem readStored_cell (id : Word) (v : TV) : (readStored id v d).2.cell c = d.cell c := by
  simp only [readStored, readTV]
  split <;> rfl

theorem readElem_cell (space el : Nat) : ∃ reads r, (readElem c space el d).2.cell c = (d.cell c).asRead reads r := by
  have kept : ∃ reads r, d.cell c = (d.cell c).asRead reads r := ⟨_, _, rfl⟩
  have noted (e : Dev) (w : WRead) (same : e.cell c = d.cell c) : ∃ reads r,
      (modExec c (fun x => { x with wreads := x.wreads ++ [w] }) e).cell c = (d.cell c).asRead reads r :=
    ⟨_, _, by rw [modExec, modCell_eq, cell_withCell, same]; rfl⟩
  unfold readElem
  dsimp only
  split
  · split
    · rw [readStored_cell]; exact kept
    · rw [modSpec_eq, cell_withCell]; exact ⟨_, _, rfl⟩
  · split
    · exact kept
    · split
      · split
        · exact kept
        · rw [readStored_cell]; exact kept
      · split
        · exact noted d _ rfl
        · exact noted _ _ (readStored_cell c d _ _)

/-- Every reading of an operand that follows goes through readElem. -/
theorem readBit_cell : ∃ reads r, (readBit c i d).2.2.cell c = (d.cell c).asRead reads r := by
  have kept : ∃ reads r, d.cell c = (d.cell c).asRead reads r := ⟨_, _, rfl⟩
  obtain ⟨reads, r, element⟩ := readElem_cell c d i.space (i.index / 32)
  unfold readBit
  dsimp only
  split
  · exact kept
  split
  · exact kept
  split
  · exact kept
  dsimp only
  split
  · rw [modSpec_eq, cell_withCell, element]
    exact ⟨_, _, rfl⟩
  · exact ⟨_, _, element⟩

theorem readBitN_cell : ∃ reads r, (readBitN c i d).2.2.cell c = (d.cell c).asRead reads r := readBit_cell c i d

theorem readWord_cell : ∃ reads r, (readWord c i d).2.cell c = (d.cell c).asRead reads r := by
  have kept : ∃ reads r, d.cell c = (d.cell c).asRead reads r := ⟨_, _, rfl⟩
  unfold readWord
  split
  · exact kept
  split
  · exact kept
  split
  · exact kept
  exact readElem_cell c d i.space i.index

end

end Sys2Proof.Machine
end

section
/-!
PROOF. The instructions of the cell machine (Tables 3.4 to 3.9): one lemma for each operation that instructions share,
then the instructions.
-/

namespace Sys2Proof.Machine

open Sys2Proof Sys2Proof.Claims

/-! ## Bit instructions (Table 3.5) -/

section
variable (c : Fin 256) (i : IWord) (d : Dev)

/-- A, O and X combine the bit with the accumulator as it was before the operand was read. -/
theorem combine_eq (g : Bool → Bool → Bool) {b : Bool} {q : Byte} {e : Dev} (read : readBitN c i d = (b, q, e)) :
    combine c g i d = withCell e c { e.cell c with lb := g (d.cell c).lb b, lbq := qMerge (d.cell c).lbq q } := by
  obtain ⟨reads, r, kept⟩ := readBitN_cell c i d
  rw [read] at kept
  rw [combine, read]
  dsimp only at kept ⊢
  rw [setLB, modCell_eq, kept]
  rfl

/-- The element with one bit replaced (R112). -/
theorem getLsbD_replaced (v : Word) (k : Nat) (bit : Bool) (n : Nat) (hn : n < 32) :
    (if bit then v ||| 1#32 <<< k else v &&& ~~~(1#32 <<< k)).getLsbD n = if n = k then bit else v.getLsbD n := by
  cases bit
  · simp only [Bool.false_eq_true, if_false, BitVec.getLsbD_and, BitVec.getLsbD_not, BitVec.getLsbD_shiftLeft,
      BitVec.getLsbD_one, hn]
    grind
  · simp only [if_true, BitVec.getLsbD_or, BitVec.getLsbD_shiftLeft, BitVec.getLsbD_one, hn]
    grind

theorem writeBit_eq (bit : Bool) (q : Byte) {o : Opd} {e : Dev} (read : readElem c i.space (i.index / 32) d = (o, e)) :
    ∃ v, writeBit c i bit q d = withCell e c { e.cell c with exec := { (e.cell c).exec with
        writes := (d.cell c).exec.writes ++ [⟨ekey i.space (i.index / 32), v, q⟩] } } ∧
      ∀ n < 32, v.getLsbD n = if n = i.index % 32 then bit else o.value.getLsbD n := by
  obtain ⟨reads, r, kept⟩ := readElem_cell c d i.space (i.index / 32)
  rw [read] at kept
  dsimp only at kept
  refine ⟨_, ?_, getLsbD_replaced o.value (i.index % 32) bit⟩
  rw [writeBit, read]
  dsimp only
  rw [writeElem, modExec, modCell_eq, kept]
  rfl

theorem semSet_low (low : (d.cell c).lb = false) : semSet c i d = withCell d c (d.cell c) := by
  rw [semSet, if_neg (by simp [low]), withCell_cell]

theorem semRst_low (low : (d.cell c).lb = false) : semRst c i d = withCell d c (d.cell c) := by
  rw [semRst, if_neg (by simp [low]), withCell_cell]

theorem closeBranch_cons (b : Bool) (q : Byte) (k : BrKind) (l : List BrEntry) (x : Cell)
    (top : x.stack = ⟨b, q, k⟩ :: l) : closeBranch x = { x with
      lb := k.apply b x.lb, lbq := qMerge q x.lbq, stack := l } := by
  rw [closeBranch, top]

end

/-- Settles O16, one instruction at a time. -/
theorem bitInstructions : Obligations.BitInstructions := by
  unfold Obligations.BitInstructions
  intro s c
  refine ⟨fun here => cellStep_becomes here rfl (modCell_eq _ c _),
    fun here => cellStep_becomes here rfl (combine_eq c _ _ _ rfl),
    fun here => cellStep_becomes here rfl (combine_eq c _ _ _ rfl),
    fun here => cellStep_becomes here rfl (combine_eq c _ _ _ rfl),
    fun here => cellStep_becomes here rfl (modCell_eq _ c _), fun here => cellStep_becomes here rfl (modCell_eq _ c _),
    fun here => cellStep_becomes here rfl (modCell_eq _ c _), fun b q k l here top => ?_,
    fun here => cellStep_becomes here rfl (modCell_eq _ c _), fun here o d read => ?_, fun here high o d read => ?_,
    fun here high o d read => ?_, fun here low => cellStep_becomes here rfl (semSet_low c _ _ low),
    fun here low => cellStep_becomes here rfl (semRst_low c _ _ low)⟩
  case refine_1 => -- BC
    have closed := (modCell_eq s.dev c closeBranch).trans
      (congrArg (withCell s.dev c) (closeBranch_cons b q k l _ top))
    cases k <;> exact cellStep_becomes here rfl closed
  case refine_2 => -- ASN
    obtain ⟨v, written, bits⟩ := writeBit_eq c _ s.dev _ _ read
    exact ⟨v, cellStep_becomes here rfl written, bits⟩
  case refine_3 => -- SET
    obtain ⟨v, written, bits⟩ := writeBit_eq c _ s.dev true (s.dev.cell c).lbq read
    exact ⟨v, cellStep_becomes here rfl ((if_pos high).trans written), bits⟩
  case refine_4 => -- RST
    obtain ⟨v, written, bits⟩ := writeBit_eq c _ s.dev false (s.dev.cell c).lbq read
    exact ⟨v, cellStep_becomes here rfl ((if_pos high).trans written), bits⟩

/-! ## Edge memories, timers and counters -/

section
variable {c : Fin 256} {i : IWord} {d : Dev}

theorem prevUsed_eq (r : EdgeRec) {mode : Nat} (lb : Bool) (listed : mode ≤ 2) :
    prevUsed r mode lb = if r.fresh then (if mode = 0 then lb else decide (mode = 2)) else r.prev := by
  unfold prevUsed
  interval_cases mode <;> rfl

theorem edgeOp_eq (g : Bool → Bool → Bool) {e0 : EdgeRec} {mode : Nat} (held : mget d.prog.edges i.index = some e0)
    (declared : ((d.prog.image.getD {}).stateOf spE i.index).map (fun (y : SDecl) => y.mode) = some mode) :
    edgeOp c g i d = withCell d c { d.cell c with
      lb := g (d.cell c).lb (prevUsed ((mget (d.cell c).exec.edges i.index).getD e0) mode (d.cell c).lb)
      exec := { (d.cell c).exec with
        edges := mput (d.cell c).exec.edges i.index { prev := (d.cell c).lb, fresh := false } } } := by
  rw [edgeOp, declared, Dev.edgeOf, mgetD, held]
  dsimp only [Option.getD]
  rw [modExec, modCell_eq d, modCell_withCell]

theorem timerOp_eq (kind : Nat) {r : TimerRec} (held : mget d.prog.timers i.index = some r) {et : Nat} {q run : Bool}
    (computes : timerCalc kind r (if r.fresh then 0 else ((d.cellTask c).tau - r.tauLast).toNat)
      ((d.cell c).w.toNat * baseUs i.mod) (d.cell c).lb = (et, q, run)) :
    timerOp kind c i d = withCell d c { d.cell c with
      lb := q, lbq := qMerge (d.cell c).lbq (d.cell c).wq
      exec := { (d.cell c).exec with
        timers := mput (d.cell c).exec.timers i.index
          ⟨BitVec.ofNat 64 et, (d.cellTask c).tau, (d.cell c).lb, q, run, false, BitVec.ofNat 2 kind,
            BitVec.ofNat 2 i.mod⟩
        spec := arithMark (d.cell c).mark (d.cell c).exec.spec } } := by
  rw [timerOp, mgetD, held]
  dsimp only [Option.getD]
  rw [computes]
  dsimp only
  rw [modExec, modCell_eq d, arithW_eq, cell_withCell, withCell_withCell, modCell_withCell]
  rfl

end

/-- Settles O17: one edge memory operation under both instructions. -/
theorem edgeInstructions : Obligations.EdgeInstructions := by
  unfold Obligations.EdgeInstructions
  intro s c e0 mode
  dsimp only
  intro held listed declared
  rw [← prevUsed_eq _ _ listed]
  exact ⟨fun here => cellStep_becomes here rfl (edgeOp_eq _ held declared),
    fun here => cellStep_becomes here rfl (edgeOp_eq _ held declared)⟩

/-- Settles O18: the cases of R120, each a branch of the timer's calculation. -/
theorem timerInstructions : Obligations.TimerInstructions := by
  unfold Obligations.TimerInstructions
  intro s c r
  dsimp only
  intro held
  rw [← baseUs]
  refine ⟨fun here => ?ton, fun here => ?tof, fun here => ?tp⟩
  case ton =>
    have ton {et q run} := fun computes =>
      cellStep_becomes (command := .cellTon c .none) here rfl
        (timerOp_eq (et := et) (q := q) (run := run) 0 held computes)
    exact ⟨fun low => ton (by simp [timerCalc, low]), fun high rise => ton (by rw [timerCalc, high, rise]; rfl),
      fun high on => ton (by simp [timerCalc, high, on])⟩
  case tof =>
    have tof {et q run} := fun computes =>
      cellStep_becomes (command := .cellTof c .none) here rfl
        (timerOp_eq (et := et) (q := q) (run := run) 1 held computes)
    exact ⟨fun high => tof (by simp [timerCalc, high]), fun low fall => tof (by simp [timerCalc, low, fall]),
      fun low off timing => tof (by simp [timerCalc, low, off, timing]),
      fun low off idle => tof (by simp [timerCalc, low, off, idle])⟩
  case tp =>
    have tp {et q run} := fun computes =>
      cellStep_becomes (command := .cellTp c .none) here rfl
        (timerOp_eq (et := et) (q := q) (run := run) 2 held computes)
    exact ⟨fun timing => tp (by simp [timerCalc, timing]),
      fun idle high rise => tp (by simp [timerCalc, idle, high, rise]),
      fun idle high on => tp (by simp [timerCalc, idle, high, on]), fun idle low => tp (by simp [timerCalc, idle, low])⟩

section
variable {c : Fin 256} {i : IWord} {d : Dev}

/-- The record that a counter instruction starts from (R126). -/
theorem countBase_eq {r0 : CtrRec} {n : Nat} (held : mget d.prog.counters n = some r0) :
    d.countBase c n = { (mget (d.cell c).exec.counters n).getD r0 with fresh := r0.fresh } := by
  rw [Dev.countBase, Dev.counterOf, mgetD, held]
  rfl

/-- A journal entry of a counter, FRESH cleared (R125), and a speculation record. -/
def Cell.counted (x : Cell) (n : Nat) (r : CtrRec) (sp : SpecRec) : Cell :=
  { x with exec := { x.exec with counters := mput x.exec.counters n { r with fresh := false }, spec := sp } }

theorem putCounter_eq (n : Nat) (r : CtrRec) :
    putCounter c n r d = withCell d c ((d.cell c).counted n r (d.cell c).exec.spec) := modCell_eq d c _

theorem arithW_putCounter (n : Nat) (r : CtrRec) : arithW c (putCounter c n r d) =
    withCell d c ((d.cell c).counted n r (arithMark (d.cell c).mark (d.cell c).exec.spec)) := by
  rw [arithW_eq, putCounter_eq, cell_withCell, withCell_withCell]
  rfl

/-- An input rises where it was not the previous input, which a fresh record takes for the input itself. -/
theorem rise_eq (lb fresh prev : Bool) : (lb && !(if fresh then lb else prev)) = (lb && !fresh && !prev) := by
  revert lb fresh prev
  decide

theorem semCtu_eq : semCtu c i d =
    let x := d.cell c
    let r := d.countBase c i.index
    let up := x.lb && !r.fresh && !r.cuPrev
    let cv := if up && r.cv != 0x7FFFFFFF then r.cv + 1 else r.cv
    let qu := decide (x.w.toInt ≤ cv.toInt)
    withCell d c { x.counted i.index { r with cv := cv, cuPrev := x.lb, qu := qu } (arithMark x.mark x.exec.spec) with
      lb := qu, lbq := qMerge x.lbq x.wq, ovf := x.ovf || (up && r.cv == 0x7FFFFFFF) } := by
  simp only [semCtu, counterOp, countUp, if_true, rise_eq, arithW_putCounter, modCell_withCell]
  rfl

theorem semCtd_eq : semCtd c i d =
    let x := d.cell c
    let r := d.countBase c i.index
    let down := x.lb && !r.fresh && !r.cdPrev
    let cv := if down && r.cv != 0x80000000 then r.cv - 1 else r.cv
    let qd := decide (cv.toInt ≤ 0)
    withCell d c { x.counted i.index { r with cv := cv, cdPrev := x.lb, qd := qd } (arithMark x.mark x.exec.spec) with
      lb := qd, lbq := qMerge x.lbq x.wq, ovf := x.ovf || (down && r.cv == 0x80000000) } := by
  simp only [semCtd, counterOp, countDown, Bool.false_eq_true, if_false, rise_eq, arithW_putCounter, modCell_withCell]
  rfl

end

/-- Settles O19, one instruction at a time, each from the record that R126 gives it. -/
theorem counterInstructions : Obligations.CounterInstructions := by
  unfold Obligations.CounterInstructions
  intro s c r0 x n r up down cvU cvD journal sp held
  have base : r = s.dev.countBase c n := (countBase_eq held).symm
  clear_value r
  subst base
  exact ⟨fun here => cellStep_becomes here rfl semCtu_eq, fun here => cellStep_becomes here rfl semCtd_eq,
    fun here => cellStep_becomes here rfl (putCounter_eq _ _),
    fun here => cellStep_becomes here rfl (arithW_putCounter _ _)⟩

/-! ## Word instructions (Table 3.9) -/

section
variable {c : Fin 256} {i : IWord} {d e : Dev} {o : Opd}

theorem satWord_eq (n : Int) : satWord n =
    (BitVec.ofInt 32 (max (-(2 ^ 31)) (min (2 ^ 31 - 1) n)), decide (n < -(2 ^ 31) ∨ 2 ^ 31 - 1 < n)) := by
  have clamp : clampInt (-(2 ^ 31)) (2 ^ 31 - 1) n = max (-(2 ^ 31)) (min (2 ^ 31 - 1) n) := by
    unfold clampInt
    split_ifs <;> omega
  exact congrArg (fun y => (BitVec.ofInt 32 y, decide (n < -(2 ^ 31) ∨ 2 ^ 31 - 1 < n))) clamp

/-- The rounding of R128: half away from zero. -/
theorem rnd_eq (n : Int) : rnd 16 n = n.sign * ((n.natAbs + 2 ^ 15) / 2 ^ 16 : Nat) := by
  have half : (0 : Int) < 2 ^ 16 := by decide
  rw [rnd, divNearest, if_neg (by omega)]
  rcases lt_trichotomy n 0 with neg | rfl | pos
  · rw [if_neg (by omega), Int.sign_eq_neg_one_of_neg neg]
    omega
  · rfl
  · rw [if_pos (by omega), Int.sign_eq_one_of_pos pos]
    omega

/-- The accumulators are as they were before the operand was read. -/
theorem regs_of_readWord (read : readWord c i d = (o, e)) :
    (e.cell c).w = (d.cell c).w ∧ (e.cell c).wq = (d.cell c).wq ∧ (e.cell c).sat = (d.cell c).sat ∧
      (e.cell c).mark = (d.cell c).mark := by
  obtain ⟨reads, r, kept⟩ := readWord_cell c i d
  rw [read] at kept
  simp only [kept, Cell.asRead, and_self]

theorem semLdw_eq (read : readWord c i d = (o, e)) :
    semLdw c i d = withCell e c { e.cell c with w := o.value, wq := o.quality, mark := o.prov } := by
  rw [semLdw, read]
  exact modCell_eq e c _

theorem semMovw_met (met : i.mod = 0 ∨ (d.cell c).lb = true) :
    semMovw c i d = withCell d c { d.cell c with exec := { (d.cell c).exec with
      writes := (d.cell c).exec.writes ++ [⟨ekey i.space i.index, (d.cell c).w, (d.cell c).wq⟩]
      spec := arithMark (d.cell c).mark (d.cell c).exec.spec } } := by
  have go : (i.mod.testBit 0 && !(d.cell c).lb) = false := by
    rcases met with mod | high
    · rw [mod]; rfl
    · rw [high]; exact Bool.and_false _
  rw [semMovw, go, arithW_eq]
  exact modCell_withCell d c _ _

theorem semMovw_unmet (mod : i.mod = 1) (low : (d.cell c).lb = false) :
    semMovw c i d = withCell d c ((d.cell c).withSpec (arithMark (d.cell c).mark (d.cell c).exec.spec)) := by
  rw [semMovw, mod, low, ← arithW_eq]
  rfl

theorem compareOp_eq (read : readWord c i d = (o, e)) :
    ∃ sp, compareOp c i d = withCell e c { (e.cell c).withSpec sp with
      lb := compareKind i.mod (d.cell c).w o.value, lbq := qMerge (d.cell c).wq o.quality } := by
  obtain ⟨w, wq, -, -⟩ := regs_of_readWord read
  obtain ⟨sp, signed⟩ := signature_eq e c i.mod o (compareKind i.mod (e.cell c).w o.value)
  refine ⟨sp, ?_⟩
  rw [compareOp, read]
  dsimp only
  rw [signed, setLB, modCell_withCell, w, wq]

/-- A saturating operation, by its exact result n. -/
theorem arithOp_eq (g : IWord → Int → Int → Int) (read : readWord c i d = (o, e)) (n : Int)
    (exact_ : g i (d.cell c).w.toInt o.value.toInt = n) :
    arithOp c g i d = withCell e c {
      (e.cell c).withSpec (arithMark o.prov (arithMark (d.cell c).mark (e.cell c).exec.spec)) with
      w := BitVec.ofInt 32 (max (-(2 ^ 31)) (min (2 ^ 31 - 1) n)), wq := qMerge (d.cell c).wq o.quality
      sat := (d.cell c).sat || decide (n < -(2 ^ 31) ∨ 2 ^ 31 - 1 < n) } := by
  obtain ⟨w, wq, sat, mark⟩ := regs_of_readWord read
  rw [arithOp, read]
  dsimp only
  rw [w, exact_, satWord_eq, arithW_eq, setArithOpt_eq, cell_withCell, withCell_withCell, modCell_withCell, mark, ← sat,
    ← wq]
  rfl

end

/-- Settles O20, one instruction at a time; the comparisons by the order of signed words. -/
theorem wordInstructions : Obligations.WordInstructions := by
  unfold Obligations.WordInstructions
  intro s c o d
  dsimp only
  refine ⟨fun here read => cellStep_becomes here rfl (semLdw_eq read),
    fun here met => cellStep_becomes here rfl (semMovw_met met),
    fun here mod low => ⟨_, cellStep_becomes here rfl (semMovw_unmet mod low)⟩,
    fun read => ⟨fun here => ?cmp, fun here => ?cmpi,
      fun here => cellStep_becomes here rfl (arithOp_eq _ read _ rfl),
      fun here => cellStep_becomes here rfl (arithOp_eq _ read _ rfl), fun here plain => ?mul, fun here qf => ?mulQf⟩,
    fun a b => ?order⟩
  case cmp =>
    obtain ⟨sp, compared⟩ := compareOp_eq read
    exact ⟨_, cellStep_becomes here rfl compared⟩
  case cmpi =>
    obtain ⟨sp, compared⟩ := compareOp_eq read
    exact ⟨_, cellStep_becomes here rfl compared⟩
  case mul =>
    exact cellStep_becomes here rfl (arithOp_eq _ read _ (if_neg (by rw [Nat.testBit_lt_two_pow plain]; decide)))
  case mulQf =>
    have mode : (s.dev.cellWord c).mod = 2 ∨ (s.dev.cellWord c).mod = 3 := by
      obtain ⟨-, isMul, assigned, -⟩ := here
      rw [IWord.modBad, isMul] at assigned
      have : ¬ 3 < (s.dev.cellWord c).mod := of_decide_eq_false assigned
      omega
    refine cellStep_becomes here rfl (arithOp_eq _ read _ ?_)
    rw [if_pos (by rcases mode with h | h <;> rw [h] <;> decide), rnd_eq]
  case order =>
    simp only [compareKind, BitVec.toInt_inj, BitVec.slt, BitVec.sle, gt_iff_lt, ge_iff_le, ne_eq, and_self]

/-! ## Quality, flags and jumps -/

theorem qMerge_eq (a b : Byte) : qMerge a b = if a.toNat ≤ b.toNat then b else a := by
  unfold qMerge
  rcases lt_trichotomy a.toNat b.toNat with less | same | more
  · rw [if_pos less, if_pos less.le]
  · rw [if_neg (by omega), if_pos same.le, BitVec.eq_of_toNat_eq same]
  · rw [if_neg (by omega), if_neg (by omega)]

theorem qUsable_eq (q : Byte) : qUsable q = !q.getLsbD 7 := rfl

section
variable {c : Fin 256} {i : IWord} {d : Dev}

theorem semQual_test (b : Bool) (mode : i.mod = if b then 1 else 0) : semQual c i d =
    withCell d c { d.cell c with lb := qUsable (if b then (d.cell c).lbq else (d.cell c).wq), lbq := qGOOD } := by
  rw [semQual, mode]
  cases b <;> exact modCell_eq d c _

theorem semQual_take (mode : i.mod = 2) : semQual c i d =
    withCell d c { (d.cell c).withSpec (arithMark (d.cell c).mark (d.cell c).exec.spec) with
      w := (d.cell c).wq.setWidth 32, wq := qGOOD } := by
  rw [semQual, mode, arithW_eq]
  exact modCell_withCell d c _ _

theorem semQual_merge (mode : i.mod = 3) : semQual c i d =
    withCell d c { (d.cell c).withSpec (arithMark (d.cell c).mark (d.cell c).exec.spec) with
      wq := qMerge (d.cell c).wq (BitVec.ofNat 8 i.index) } := by
  rw [semQual, mode, arithW_eq]
  exact modCell_withCell d c _ _

/-- FLG loads OVF or SAT, and leaves it where CLR is not set (R131). -/
theorem semFlg_eq (ovf clear : Bool) (mode : i.mod = (if ovf then 1 else 0) + if clear then 2 else 0) :
    semFlg c i d = withCell d c { d.cell c with
      lb := if ovf then (d.cell c).ovf else (d.cell c).sat, lbq := qGOOD
      sat := if !ovf && clear then false else (d.cell c).sat
      ovf := if ovf && clear then false else (d.cell c).ovf } := by
  have sel : i.mod.testBit 0 = ovf := by rw [mode]; clear mode; decide +revert
  have clr : i.mod.testBit 1 = clear := by rw [mode]; clear mode sel; decide +revert
  rw [semFlg, sel, clr, modCell_eq]
  cases clear
  · simp
  · cases ovf <;> simp

theorem semJmp_eq (mode : i.mod ≤ 2) (target : i.index < 2048) : semJmp c i d =
    withCell d c { d.cell c with pos :=
      if i.mod = 0 ∧ (d.cell c).lb = true ∨ i.mod = 1 ∧ (d.cell c).lb = false ∨ i.mod = 2 then i.index
      else (d.cell c).pos + 1 } := by
  have taken (lb : Bool) : (if i.mod = 0 then lb else if i.mod = 1 then !lb else true) =
      decide (i.mod = 0 ∧ lb = true ∨ i.mod = 1 ∧ lb = false ∨ i.mod = 2) := by
    obtain mod | mod | mod : i.mod = 0 ∨ i.mod = 1 ∨ i.mod = 2 := by omega
    · simp [mod]
    · simp [mod]
    · simp [mod]
  simp only [semJmp, taken, decide_eq_true_eq, Nat.mod_eq_of_lt target]
  split
  · exact modCell_eq d c _
  · exact modCell_eq d c _

end

/-- Settles O21, one instruction and one mode at a time. -/
theorem qualityFlagsAndJumps : Obligations.QualityFlagsAndJumps := by
  unfold Obligations.QualityFlagsAndJumps
  refine ⟨qMerge_eq, fun s c => ⟨fun here => ?qual, fun here => ?flg, fun here target => ?jmp, fun here => ?nop⟩⟩
  case qual =>
    exact ⟨fun mode => cellStep_becomes here rfl (semQual_test false mode),
      fun mode => cellStep_becomes here rfl (semQual_test true mode),
      fun mode => cellStep_becomes here rfl (semQual_take mode),
      fun mode => cellStep_becomes here rfl (semQual_merge mode)⟩
  case flg =>
    exact ⟨fun mode => cellStep_becomes here rfl (semFlg_eq false false mode),
      fun mode => cellStep_becomes here rfl (semFlg_eq true false mode),
      fun mode => cellStep_becomes here rfl (semFlg_eq false true mode),
      fun mode => cellStep_becomes here rfl (semFlg_eq true true mode)⟩
  case jmp =>
    have listed : (s.dev.cellWord c).mod ≤ 2 := by
      obtain ⟨-, isJmp, assigned, -⟩ := here
      rw [IWord.modBad, isJmp] at assigned
      exact Nat.le_of_not_lt (of_decide_eq_false assigned)
    exact semJmp_eq listed target ▸ cellRow_becomes here rfl
  case nop => exact cellStep_becomes here rfl (withCell_cell s.dev c).symm

end Sys2Proof.Machine
end

section
/-!
PROOF. A block's start, its END and an illegal instruction (R101, R133, R138, R149, R207).
-/

namespace Sys2Proof.Machine

open Sys2Proof Sys2Proof.Claims

/-! ## What the shared operations leave of the program and the events -/

/-- The device but for its field channels. -/
def Dev.beyondField (d : Dev) : Dev := { d with dig := {}, ana := {} }

theorem settleDo_beyondField (j : Nat) (d : Dev) : (settleDo j d).beyondField = d.beyondField := rfl

theorem settleAo_beyondField (j : Nat) (d : Dev) : (settleAo j d).beyondField = d.beyondField := rfl

/-- The demands of the field channels change the field channels alone (R287, R320). -/
theorem settleAll_beyondField (d : Dev) : (settleAll d).beyondField = d.beyondField := by
  rw [settleAll, foldl_proj Dev.beyondField _ fun d j => settleAo_beyondField j d]
  exact foldl_proj Dev.beyondField _ (fun d j => settleDo_beyondField j d) _ d

theorem settleAll_prog (d : Dev) : (settleAll d).prog = d.prog := (congrArg Dev.prog (settleAll_beyondField d) :)
theorem settleAll_evt (d : Dev) : (settleAll d).evt = d.evt := (congrArg Dev.evt (settleAll_beyondField d) :)

theorem glSend_prog (onP : Bool) (cls type dst : Nat) (payload : Bytes) (d : Dev) :
    (glSend onP cls type dst payload d).prog = d.prog :=
  (congrArg Dev.prog (glSend_unsent onP cls type dst payload d) :)

theorem glSend_evt (onP : Bool) (cls type dst : Nat) (payload : Bytes) (d : Dev) :
    (glSend onP cls type dst payload d).evt = d.evt := (congrArg Dev.evt (glSend_unsent onP cls type dst payload d) :)

theorem withdraw_unsent (d : Dev) : (withdraw d).unsent = d.unsent := by
  unfold withdraw
  split
  · rfl
  · exact stationTo_unsent _ _ _ _

theorem sendStatus_unsent (d : Dev) : (sendStatus d).unsent = d.unsent := by
  unfold sendStatus
  split
  · exact glSend_unsent _ _ _ _ _ d
  · rfl

theorem respond_prog (o : Origin) (st : Half) (p : Bytes) (d : Dev) : (respond o st p d).prog = d.prog := by
  rw [respond_eq]

theorem respond_evt (o : Origin) (st : Half) (p : Bytes) (d : Dev) : (respond o st p d).evt = d.evt := by
  rw [respond_eq]

theorem shadowEnd_prog (state : Nat) (d : Dev) : (shadowEnd state d).prog = d.prog := by
  unfold shadowEnd
  split <;> rfl

theorem shadowEnd_evt (state : Nat) (d : Dev) : (shadowEnd state d).evt = d.evt := by
  unfold shadowEnd
  split <;> rfl

theorem cell_modCell (k : Nat) (c : Fin 256) (f : Cell → Cell) (d : Dev) :
    (modCell k f d).cell c = if k = c then f (d.cell c) else d.cell c := by
  split
  · next h => subst h; exact vget_vmod_same _ _ _ c.isLt
  · next h => exact vget_vmod_other _ _ _ _ h

theorem task_modTask (t : Nat) (f : Task → Task) (d : Dev) (h : t < 8) : (modTask t f d).task t = f (d.task t) :=
  vget_vmod_same _ _ _ h

theorem cell_dropCycle (t : Nat) (c : Fin 256) (d : Dev) :
    (dropCycle t d).cell c = if (d.cell c).running && (d.cell c).task == t then haltCell (d.cell c) else d.cell c := by
  simp [dropCycle, modTask, modProg, Dev.cell, vget]

/-! ## BLOCK_START -/

theorem beginBlock_cell (c : Fin 256) (t b : Nat) (k : Fin 256) (d : Dev) :
    (beginBlock c t b d).cell k = if c = k then enterBlock t b (d.cell k) else d.cell k := by
  have entered : (beginBlock c t b d).cell k = (modCell c (enterBlock t b) d).cell k := by
    unfold beginBlock
    dsimp only
    split <;> rfl
  rw [entered, cell_modCell]
  simp only [Fin.val_inj]

theorem blockStart_enters {s : State} {c : Fin 256} {t b : Nat} (idle : (s.dev.cell c).running = false)
    (sound : (s.dev.cell c).failed = false) (level : (s.dev.cell c).level = .ok)
    (noGap : s.dev.prog.swap.inGap = false) (next : s.dev.nextBlock c = some (t, b)) :
    Becomes (.blockStart c) s (beginBlock c t b s.dev) := by
  have row : exec (.blockStart c) s = execBlockStart c s := rfl
  simp [Becomes, row, execBlockStart, nextD, idle, sound, level, noGap, next]

/-! ## END -/

section
variable (inputs snap : Map TV) (im : Image)

theorem judgeRun_exec (lower : Map Run) (b : Nat) (r : Run) : (judgeRun inputs snap im lower b r).exec = r.exec := by
  unfold judgeRun
  dsimp only
  (repeat' split) <;> rfl

/-- An execution that read nothing that can still change stays as it is. -/
theorem judgeRun_settled (lower : Map Run) (b : Nat) (e : Exec) (quals : e.spec.quals = []) (reads : e.wreads = []) :
    judgeRun inputs snap im lower b { exec := e } = { exec := e } := by
  simp [judgeRun, quals, reads]

theorem mget_append {α : Type} (m m' : Map α) (k : Nat) : mget (m ++ m') k = (mget m k).or (mget m' k) := by
  simp [mget, List.find?_append, Option.map_or]

/-- A judged execution stays in its place. -/
theorem mget_judgeAll_done (l : Map Run) (done : Map Run) (k : Nat) (r : Run) (h : mget done k = some r) :
    mget (judgeAll inputs snap im done l) k = some r := by
  induction l generalizing done with
  | nil => exact h
  | cons e l ih => exact ih _ (by rw [mget_append, h]; rfl)

/-- The judgement of a cycle judges each of its executions, with the lower blocks as they stand by then. -/
theorem mget_judgeAll (l : Map Run) (done : Map Run) (k : Nat) (r : Run) (fresh : mget done k = none)
    (h : mget l k = some r) :
    ∃ lower, mget (judgeAll inputs snap im done l) k = some (judgeRun inputs snap im lower k r) := by
  induction l generalizing done with
  | nil => cases h
  | cons e l ih =>
    obtain ⟨j, x⟩ := e
    rw [mget_cons] at h
    split at h
    · next same =>
      cases h
      subst same
      exact ⟨done, mget_judgeAll_done _ _ _ l _ _ _ (by rw [mget_append, fresh, Option.none_or, mget_cons, if_pos rfl])⟩
    · next other =>
      exact ih _ (by rw [mget_append, fresh, Option.none_or, mget_cons, if_neg other]; rfl) h

end

theorem sendWorking_prog (t : Nat) (r : Run) (d : Dev) : (sendWorking t r d).prog = d.prog := by
  unfold sendWorking
  split
  · rfl
  · exact glSend_prog _ _ _ _ _ d

section
variable (t : Nat) (d : Dev)

/-- Of the program, the judgement of a cycle changes the tasks alone. -/
theorem settle_prog : (settle t d).prog = { d.prog with tasks := (settle t d).prog.tasks } := by
  unfold settle
  dsimp only
  rw [foldl_proj Dev.prog _ (fun d r => sendWorking_prog t r d)]
  rfl

theorem settle_runs (h : t < 8) : ((settle t d).task t).runs =
    judgeAll (d.task t).inputs (d.task t).snap (d.prog.image.getD {}) [] (d.task t).runs := by
  rw [Dev.task]
  unfold settle
  dsimp only
  rw [foldl_proj Dev.prog _ (fun d r => sendWorking_prog t r d)]
  exact (congrArg Task.runs (task_modTask t _ _ h)).trans (congrArg Task.runs (task_modTask t _ d h))

end

/-- What an execution read that another execution or a late input may still change (R158, R160). -/
def Dev.endsProvisional (d : Dev) (c : Nat) : Bool :=
  let x := d.cell c
  !x.exec.spec.quals.isEmpty || x.exec.wreads.any (fun w => (workingFor (d.task x.task).runs x.block w.key).2)

/-- The device in which an execution stands finished among those of its cycle, before that cycle is judged. -/
def Dev.ended (d : Dev) (c : Nat) : Dev :=
  let x := d.cell c
  let r : Run := { exec := x.exec, provisional := d.endsProvisional c }
  sendWorking x.task r (modCell c haltCell (modStats x.task
    (fun y => { y with provisional := satPlus y.provisional (b2n (d.endsProvisional c)) })
    (modTask x.task (fun k => { k with runs := mput k.runs x.block r }) d)))

theorem semEnd_eq (c : Nat) (i : IWord) (d : Dev) : semEnd c i d = settle (d.cell c).task (d.ended c) := rfl

theorem ended_prog (c : Nat) (d : Dev) :
    (d.ended c).prog = { d.prog with tasks := (d.ended c).prog.tasks, cells := vmod d.prog.cells c haltCell } := by
  unfold Dev.ended
  dsimp only
  rw [sendWorking_prog]
  rfl

theorem ended_runs (c : Nat) (d : Dev) (h : (d.cell c).task < 8) : ((d.ended c).task (d.cell c).task).runs =
    mput (d.task (d.cell c).task).runs (d.cell c).block
      { exec := (d.cell c).exec, provisional := d.endsProvisional c } := by
  rw [Dev.task, Dev.ended, sendWorking_prog]
  exact (congrArg Task.runs (task_modTask _ _ _ h)).trans (congrArg Task.runs (task_modTask _ _ d h))

/-- END ends the execution, and the cycle's judgement leaves it in its place (R133, R158). -/
theorem semEnd_run (c : Nat) (i : IWord) (d : Dev) (h : (d.cell c).task < 8) :
    ∃ r, mget ((semEnd c i d).task (d.cell c).task).runs (d.cell c).block = some r ∧ r.exec = (d.cell c).exec ∧
      ((d.cell c).exec.spec.quals = [] → (d.cell c).exec.wreads = [] → r = { exec := (d.cell c).exec }) := by
  rw [semEnd_eq, settle_runs _ _ h, ended_runs c d h]
  obtain ⟨lower, judged⟩ := mget_judgeAll ((d.ended c).task (d.cell c).task).inputs
    ((d.ended c).task (d.cell c).task).snap ((d.ended c).prog.image.getD {})
    (mput (d.task (d.cell c).task).runs (d.cell c).block
      { exec := (d.cell c).exec, provisional := d.endsProvisional c }) [] _ _ rfl
    (by rw [mget_mput, if_pos rfl])
  refine ⟨_, judged, judgeRun_exec .., fun quals reads => ?_⟩
  have settled : d.endsProvisional c = false := by simp [Dev.endsProvisional, quals, reads]
  rw [settled]
  exact judgeRun_settled _ _ _ _ _ _ quals reads

theorem semEnd_prog (c : Nat) (i : IWord) (d : Dev) : (semEnd c i d).prog =
    { d.prog with tasks := (semEnd c i d).prog.tasks, cells := vmod d.prog.cells c haltCell } := by
  rw [semEnd_eq]
  exact (settle_prog _ _).trans (by rw [ended_prog])

/-! ## The ladder of a fault -/

/-- A cell stands still without a result, and DUALRAIL_ERROR is pending with a detail word. -/
structure Faulted (c : Fin 256) (x : Nat) (d : Dev) : Prop where
  still : (d.cell c).running = false
  dropped : (d.cell c).exec = {}
  pending : d.evt.pending.getLsbD Ev.dualrailError.num = true
  detail : (vget d.evt.recs Ev.dualrailError.num).detail = BitVec.ofNat 32 x

/-- A change of a cell that leaves it, where it stood still without a result, like that. -/
def StaysStill (f : Cell → Cell) : Prop :=
  ∀ x, x.running = false → x.exec = {} → (f x).running = false ∧ (f x).exec = {}

section
variable {c : Fin 256} {x : Nat} {d e : Dev}

theorem Faulted.congr (h : Faulted c x d) (cells : e.prog.cells = d.prog.cells) (evt : e.evt = d.evt) :
    Faulted c x e := by
  have cell : e.cell c = d.cell c := congrArg (vget · c.val) cells
  exact ⟨cell ▸ h.still, cell ▸ h.dropped, evt ▸ h.pending, evt ▸ h.detail⟩

theorem Faulted.congr_prog (h : Faulted c x d) (prog : e.prog = d.prog) (evt : e.evt = d.evt) : Faulted c x e :=
  h.congr (congrArg Prog.cells prog) evt

theorem Faulted.of_unsent (h : Faulted c x d) (same : e.unsent = d.unsent) : Faulted c x e :=
  h.congr_prog (congrArg Dev.prog same :) (congrArg Dev.evt same :)

theorem Faulted.ite {p : Prop} [Decidable p] (hd : Faulted c x d) (he : Faulted c x e) :
    Faulted c x (if p then d else e) := by
  split <;> assumption

theorem Faulted.foldl {α : Type} {f : Dev → α → Dev} (step : ∀ d a, Faulted c x d → Faulted c x (f d a)) (l : List α)
    (h : Faulted c x d) : Faulted c x (l.foldl f d) :=
  List.foldlRecOn l f (motive := Faulted c x) h fun d hd a _ => step d a hd

theorem Faulted.raise (h : Faulted c x d) (e : Ev) (other : e.num ≠ Ev.dualrailError.num) (y : Nat) :
    Faulted c x (raise e y d) := by
  have once (n : Nat) (hn : n < 128) (ne : n ≠ Ev.dualrailError.num) (y : Word) {d : Dev} (h : Faulted c x d) :
      Faulted c x (raise1 n y d) := by
    have cell : (raise1 n y d).cell c = d.cell c := by rw [Dev.cell, raise1_prog]; rfl
    refine ⟨cell ▸ h.still, cell ▸ h.dropped, ?_, ?_⟩
    · rw [raise1_pending, BitVec.getLsbD_or, h.pending, Bool.true_or]
    · rw [raise1_detail n _ y d hn, if_neg ne, h.detail]
  unfold Machine.raise
  dsimp only
  split
  · exact once 122 (by decide) (by decide) _ (once _ e.num_lt other _ h)
  · exact once _ e.num_lt other _ h

theorem Faulted.modCell (h : Faulted c x d) (k : Nat) {f : Cell → Cell} (keeps : StaysStill f) :
    Faulted c x (modCell k f d) := by
  obtain ⟨still, dropped⟩ := keeps _ h.still h.dropped
  refine ⟨?_, ?_, h.pending, h.detail⟩
  · rw [cell_modCell]
    split
    · exact still
    · exact h.still
  · rw [cell_modCell]
    split
    · exact dropped
    · exact h.dropped

theorem staysStill_haltCell : StaysStill haltCell := fun _ _ _ => ⟨rfl, rfl⟩

theorem Faulted.stopTask (h : Faulted c x d) (t : Nat) : Faulted c x (stopTask t d) := by
  have dropped : Faulted c x (dropCycle t d) := by
    refine ⟨?_, ?_, h.pending, h.detail⟩
    · rw [cell_dropCycle, h.still]; exact h.still
    · rw [cell_dropCycle, h.still]; exact h.dropped
  exact dropped.congr rfl rfl

theorem Faulted.stopTasks (h : Faulted c x d) : Faulted c x (stopTasks d) := by
  have stopped := Faulted.foldl (fun _ t h => h.stopTask t) (List.range 8) h
  exact Faulted.foldl (fun d w h => h.congr_prog (respond_prog ..) (respond_evt ..)) _ (stopped.congr rfl rfl)

theorem Faulted.settleAll (h : Faulted c x d) : Faulted c x (settleAll d) :=
  h.congr_prog (settleAll_prog d) (settleAll_evt d)

theorem Faulted.shadowEnd (h : Faulted c x d) (state : Nat) : Faulted c x (shadowEnd state d) :=
  h.congr_prog (shadowEnd_prog state d) (shadowEnd_evt state d)

/-- What a fence and the station safe state have in common: every task stops, the outputs go safe, and the device
withdraws. -/
theorem Faulted.standDown (h : Faulted c x d) (r : Prog → Nat) :
    Faulted c x (Machine.shadowEnd 5 (withdraw (Machine.settleAll
      (modProg (fun p => { p with reaction := r p }) (Machine.stopTasks d))))) := by
  refine Faulted.shadowEnd (Faulted.of_unsent (Faulted.settleAll ?_) (withdraw_unsent _)) 5
  exact h.stopTasks.congr rfl rfl

theorem Faulted.fence (h : Faulted c x d) (cause : Nat) : Faulted c x (fence cause d) := by
  unfold Machine.fence
  split
  · exact h
  · refine Faulted.raise ?_ _ (by decide) _
    have down := fun s p r => Faulted.standDown (d := { d with sys := s, pwr := p, red := r }) (h.congr rfl rfl)
      (fun p => max p.reaction 1)
    exact Faulted.ite ((down _ _ _).of_unsent (glSend_unsent ..)) (down _ _ _)

theorem Faulted.enterSafe (h : Faulted c x d) : Faulted c x (enterSafe d) := by
  unfold Machine.enterSafe
  split
  · exact h
  · refine Faulted.of_unsent (Faulted.standDown ?_ fun _ => 3) (sendStatus_unsent _)
    exact h.congr rfl rfl

theorem Faulted.ladderL2 (h : Faulted c x d) : Faulted c x (ladderL2 d) := by
  unfold Machine.ladderL2
  split
  · refine Faulted.shadowEnd ?_ 5
    exact h.congr rfl rfl
  split
  · exact h.fence 3
  · exact h.enterSafe

theorem redoBlock_cells (t b : Nat) (d : Dev) : (redoBlock t b d).prog.cells = d.prog.cells := by
  unfold redoBlock
  split <;> rfl

theorem redoBlock_evt (t b : Nat) (d : Dev) : (redoBlock t b d).evt = d.evt := by
  unfold redoBlock
  split <;> rfl

theorem redoBlock_mig (t b : Nat) (d : Dev) : (redoBlock t b d).prog.mig = d.prog.mig := by
  unfold redoBlock
  split <;> rfl

/-- Level L1 once the source has stopped. -/
theorem Faulted.ladderL1 {k : Nat} (h : Faulted c x (stopSource k d)) (cause : Nat) (spare : Option Nat) :
    Faulted c x (ladderL1 k cause spare d) := by
  have level (v : CellLevel) : StaysStill fun x => { x with level := v } := fun _ still dropped => ⟨still, dropped⟩
  unfold Machine.ladderL1
  dsimp only
  split
  · exact h.modCell k (level .ok)
  split
  · split
    · refine Faulted.modCell ?_ k (level .l1queued)
      exact h.congr rfl rfl
    · exact h.ladderL2
  split
  · split
    · refine Faulted.raise ?_ _ (by decide) _
      exact h.congr rfl rfl
    · exact h.ladderL2
  · exact h.ladderL2

/-- The source of a fault keeps the other cells as they are and stops its own. -/
theorem stopSource_faulted {k : Nat}
    (h : Faulted c x (Machine.modCell k (fun y => { haltCell y with failed := true, level := .l1 }) d)) :
    Faulted c x (stopSource k d) :=
  Faulted.foldl (fun _ _ h => h.congr (redoBlock_cells ..) (redoBlock_evt ..)) _ h

theorem faulted_of_halt (f : Cell → Cell) (halts : ∀ y, (f y).running = false ∧ (f y).exec = {})
    (pending : d.evt.pending.getLsbD Ev.dualrailError.num = true)
    (detail : (vget d.evt.recs Ev.dualrailError.num).detail = BitVec.ofNat 32 x) :
    Faulted c x (Machine.modCell c f d) := by
  obtain ⟨still, dropped⟩ := halts (d.cell c)
  have cell : (Machine.modCell c f d).cell c = f (d.cell c) := by rw [cell_modCell, if_pos rfl]
  exact ⟨cell ▸ still, cell ▸ dropped, pending, detail⟩

/-- A fault of a cell outside the domain of a migration stops its block without a result, at whichever level of the
ladder (R207, R208). -/
theorem cellFault_faulted (spare : Option Nat) (free : d.inMigDomain c = false)
    (pending : d.evt.pending.getLsbD Ev.dualrailError.num = true)
    (detail : (vget d.evt.recs Ev.dualrailError.num).detail = BitVec.ofNat 32 x) :
    Faulted c x (cellFault c spare d) := by
  unfold cellFault
  dsimp only
  have free' (t b : Nat) : (redoBlock t b d).inMigDomain c = false := by
    rw [Dev.inMigDomain, redoBlock_mig]; exact free
  have halted (t b : Nat) (f : Cell → Cell) (halts : ∀ y, (f y).running = false ∧ (f y).exec = {}) :
      Faulted c x (Machine.modCell c f (redoBlock t b d)) :=
    faulted_of_halt f halts (by rw [redoBlock_evt]; exact pending) (by rw [redoBlock_evt]; exact detail)
  rw [if_neg (by rw [free']; decide)]
  split
  · exact (stopSource_faulted (halted _ _ _ fun _ => ⟨rfl, rfl⟩)).ladderL1 1 spare
  split
  · exact (stopSource_faulted (Faulted.modCell (halted _ _ haltCell fun _ => ⟨rfl, rfl⟩) _ fun _ _ _ =>
      ⟨rfl, rfl⟩)).ladderL1 1 spare
  · exact halted _ _ _ fun _ => ⟨rfl, rfl⟩

end

/-- The row of an illegal instruction, on a word that is one (R138). -/
theorem illegalInstruction_faults {s : State} {c : Fin 256} {w : Word} (spare : Option (Fin 256))
    (running : (s.dev.cell c).running = true)
    (illegal : opListed (decodeWord w).op = false ∨ (decodeWord w).modBad = true ∨
      branchBad (s.dev.cell c) (decodeWord w).op = true) :
    Becomes (.illegalInstruction c w spare) s (cellFault c (spare.map (·.val))
      (raise .dualrailError (cellDetail c 3 (s.dev.cell c).block) s.dev)) := by
  have row : exec (.illegalInstruction c w spare) s = execIllegalInstruction c w spare s := rfl
  have bad : (!opListed (decodeWord w).op || (decodeWord w).modBad || branchBad (s.dev.cell c) (decodeWord w).op) =
      true := by
    rcases illegal with h | h | h <;> simp [h]
  simp [Becomes, row, execIllegalInstruction, nextD, running, bad]

/-- Settles O22: a block's start and its END by what they make of the cell and the cycle, an illegal instruction through
the ladder. -/
theorem blockExecution : Obligations.BlockExecution := by
  unfold Obligations.BlockExecution
  intro s c
  refine ⟨fun t b idle sound level noGap next => ?start, fun here task => ?ends,
    fun w spare running block free illegal => ?illegal⟩
  case start =>
    refine goes_of_becomes (blockStart_enters idle sound level noGap next) ?_
    dsimp only
    rw [beginBlock_cell, if_pos rfl]
    exact ⟨rfl, rfl, rfl, rfl, rfl, rfl, rfl, rfl, rfl, rfl, rfl, rfl, rfl, fun k other => by
      rw [beginBlock_cell, if_neg (Ne.symm other)]⟩
  case ends =>
    refine goes_of_becomes (cellRow_becomes here rfl) ?_
    dsimp only
    have cell : (semEnd c (s.dev.cellWord c) s.dev).cell c = haltCell (s.dev.cell c) := by
      rw [Dev.cell, semEnd_prog]
      exact vget_vmod_same _ _ _ c.isLt
    rw [cell, semEnd_prog]
    exact ⟨rfl, rfl, semEnd_run c _ s.dev task, rfl, rfl, rfl, rfl⟩
  case illegal =>
    have detail : cellDetail c 3 (s.dev.cell c).block = c.val + 512 * 3 + 32768 + 65536 * (s.dev.cell c).block := by
      rw [cellDetail, Nat.mod_eq_of_lt block]
    refine goes_of_becomes (illegalInstruction_faults spare running illegal) ?_
    rw [detail]
    obtain ⟨pending, word⟩ := raised_raise .dualrailError
      (c.val + 512 * 3 + 32768 + 65536 * (s.dev.cell c).block) s.dev (by decide)
    have faulted := cellFault_faulted (c := c) (spare.map (·.val)) (by rw [Dev.inMigDomain, raise_prog]; exact free)
      pending word
    exact ⟨faulted.still, faulted.dropped, faulted.pending, faulted.detail⟩

end Sys2Proof.Machine
end

section
/-!
PROOF. The sends and the journals of a commit leave the program as it is.
-/

namespace Sys2Proof.Machine

open Sys2Proof Sys2Proof.Claims

/-! ## What a commit delivers and publishes leaves the program as it is -/

section
variable (d : Dev)

@[simp] theorem prog_ite (c : Prop) [Decidable c] (d e : Dev) :
    (if c then d else e).prog = if c then d.prog else e.prog := apply_ite Dev.prog c d e

@[simp] theorem foldl_prog {α : Type} (f : Dev → α → Dev) (h : ∀ d x, (f d x).prog = d.prog) (l : List α) (d : Dev) :
    (l.foldl f d).prog = d.prog := foldl_proj Dev.prog f h l d

theorem foldl_snd_prog {α β : Type} (f : β × Dev → α → β × Dev) (h : ∀ a x, (f a x).2.prog = a.2.prog) (l : List α)
    (a : β × Dev) : (l.foldl f a).2.prog = a.2.prog := foldl_proj (fun a : β × Dev => a.2.prog) f h l a

/-! ### The field outputs -/

@[simp] theorem countCheck_prog (p : CheckPath) : (countCheck p d).prog = d.prog := rfl

@[simp] theorem commitDos_prog (t : Nat) : (commitDos t d).prog = d.prog := by
  unfold commitDos
  rw [foldl_prog]
  · rfl
  · intro d j
    split <;> simp

@[simp] theorem commitAos_prog (t : Nat) : (commitAos t d).prog = d.prog := by
  unfold commitAos
  rw [foldl_prog]
  · rfl
  · intro d j
    split <;> simp

@[simp] theorem wdgCommit_prog (t : Nat) (stale : Bool) : (wdgCommit t stale d).prog = d.prog := by
  simp only [wdgCommit]
  (repeat' split) <;> simp [wdgRun]

@[simp] theorem commitToField_prog (t : Nat) (stale : Bool) : (commitToField t stale d).prog = d.prog := by
  simp [commitToField, settleAll_prog]

/-! ### The history and the panel -/

@[simp] theorem historyCommit_prog (t : Nat) : (historyCommit t d).prog = d.prog := by
  unfold historyCommit
  split <;> simp

@[simp] theorem panelGo_prog : (panelGo d).prog = d.prog := by
  unfold panelGo
  (repeat' split) <;> simp [railsUp, setBand, discharge, startPass]

@[simp] theorem panelCommit_prog (t : Nat) (m : Mems) : (panelCommit t m d).prog = d.prog := by
  unfold panelCommit
  split <;> simp [markPending]

/-! ### Messages -/

@[simp] theorem stationTo_prog (dst : Word) (type : Nat) (payload : Bytes) : (stationTo dst type payload d).prog =
    d.prog :=
  (congrArg Dev.prog (stationTo_unsent dst type payload d) :)

@[simp] theorem stationAuth_prog (dst : Word) (type key : Nat) (epoch : Word) (payload : Bytes) :
    (stationAuth dst type key epoch payload d).prog = d.prog := by
  unfold stationAuth
  split <;> simp

@[simp] theorem pairSend_prog (type : Nat) (payload : Bytes) : (pairSend type payload d).prog = d.prog := by
  simp [pairSend, glSendLong, glSend_prog]

@[simp] theorem sendSubscribe_prog (i : Nat) : (sendSubscribe i d).prog = d.prog := by
  unfold sendSubscribe
  dsimp only
  split <;> simp [modSub]

@[simp] theorem senderChanged_prog (pid : Word) (old : Option Nat) : (senderChanged pid old d).prog = d.prog := by
  unfold senderChanged
  dsimp only
  split
  · rfl
  · refine foldl_prog _ (fun d i => ?_) _ d
    split <;> simp [modSub]

@[simp] theorem partnerLost_prog (k cause : Nat) : (partnerLost k cause d).prog = d.prog := by
  simp [partnerLost, modPartner]

@[simp] theorem publishSets_prog (t : Nat) : (publishSets t d).prog = d.prog := by
  simp [publishSets, countUnacked, sendSet, modPartner]

@[simp] theorem openQuotient_prog (a b : Int) : (openQuotient a b d).2.prog = d.prog := by
  simp only [openQuotient]
  split <;> rfl

@[simp] theorem bindText_prog (im : Image) (b : SentBind) (v : TV) : (bindText im b v d).2.prog = d.prog := by
  simp only [bindText]
  (repeat' split) <;> simp

@[simp] theorem sentence_prog (im : Image) (k : Task) (x : SentDecl) : (sentence im k x d).2.prog = d.prog := by
  simp only [sentence]
  rw [foldl_snd_prog]
  simp

@[simp] theorem sendSentences_prog (t : Nat) : (sendSentences t d).prog = d.prog := by
  simp [sendSentences]

@[simp] theorem busNumber_prog (analogue signed : Bool) (n : Nat) (v : Word) :
    (busNumber analogue signed n v d).2.prog = d.prog := by
  simp only [busNumber]
  (repeat' split) <;> simp [freshNat]

@[simp] theorem canData_prog (x : CanDecl) : (canData x d).2.prog = d.prog := by
  unfold canData
  rw [foldl_snd_prog]
  simp

@[simp] theorem sendCan_prog (t : Nat) : (sendCan t d).prog = d.prog := by
  simp [sendCan]

@[simp] theorem sendPublications_prog (t : Nat) : (sendPublications t d).prog = d.prog := by
  simp [sendPublications, glSend_prog]

@[simp] theorem sendShadowInput_prog (t : Nat) : (sendShadowInput t d).prog = d.prog := by
  simp [sendShadowInput]

@[simp] theorem firnSend_prog (type : Nat) (body : Bytes) : (firnSend type body d).prog = d.prog := by
  simp [firnSend]

@[simp] theorem pumpPass_prog (im : Image) (n : Nat) : (pumpPass im n d).prog = d.prog := by
  induction n generalizing d with
  | zero => rfl
  | succ n ih =>
    unfold pumpPass
    (repeat' split) <;> simp [ih, sendSegment]

@[simp] theorem startPassSend_prog : (startPassSend d).prog = d.prog := by
  unfold startPassSend
  split <;> simp

@[simp] theorem sendDelta_prog (t : Nat) (final : Bool) : (sendDelta t final d).prog = d.prog := by
  unfold sendDelta
  split <;> simp [backlogTest, gapEvent]

end

end Sys2Proof.Machine
end

section
/-!
PROOF. The commit point and the publish (R107, R116, R147, R162, R180, R225, Tables 4.4 and 4.6).
-/

namespace Sys2Proof.Machine

open Sys2Proof Sys2Proof.Claims

/-! ## The records and the values of a commit -/

/-- The journals of a cycle's executions become the records (Table 4.6, action 1). -/
theorem commitJournals_prog (t : Nat) (d : Dev) : (commitJournals t d).prog = { d.prog with
    timers := (d.task t).runs.foldl (fun m e => mputAll m e.2.exec.timers) d.prog.timers
    counters := (d.task t).runs.foldl (fun m e => mputAll m e.2.exec.counters) d.prog.counters
    edges := (d.task t).runs.foldl (fun m e => mputAll m e.2.exec.edges) d.prog.edges } := by
  unfold commitJournals
  generalize (d.task t).runs = runs
  induction runs generalizing d with
  | nil => rfl
  | cons e runs ih => exact ih _

section
variable (im : Image) (seq : Byte)

/-- An element takes a VALUE and a quality, with the SEQ of the commit. -/
def commitVal (m : Map TV) (key : Nat) (v : Word × Byte) : Map TV :=
  mput m key (mkTV (im.idOf (keySpace key) (keyEl key)) v.1 v.2 seq)

/-- A produced element keeps VALUE and quality as a reader passes them on, and takes the SEQ of the commit. -/
def restampVal (m : Map TV) (key : Nat) : Map TV :=
  match mget m key with
  | some v =>
    let a := tvAccept (im.idOf (keySpace key) (keyEl key)) v
    commitVal im seq m key (a.value, a.quality)
  | none => m

/-- A force of a Q element of the task is applied to it (R225). -/
def forceVal (t : Nat) (m : Map TV) (f : Force) : Map TV :=
  if f.space == spQ && (im.writerOf (ekey spQ f.element)).all (fun w => w == t) then
    commitVal im seq m (ekey spQ f.element)
      (forced f ((mgetD m (ekey spQ f.element) {}).value, (mgetD m (ekey spQ f.element) {}).quality))
  else m

theorem mget_commitVal (m : Map TV) (j k : Nat) (v : Word × Byte) : mget (commitVal im seq m j v) k =
    if j = k then some (mkTV (im.idOf (keySpace j) (keyEl j)) v.1 v.2 seq) else mget m k := mget_mput ..

theorem mget_restampVal_other (m : Map TV) {j k : Nat} (h : j ≠ k) : mget (restampVal im seq m j) k = mget m k := by
  unfold restampVal
  split
  · rw [mget_commitVal, if_neg h]
  · rfl

theorem mget_restampVals_other (l : List Nat) (m : Map TV) (k : Nat) (h : k ∉ l) :
    mget (l.foldl (restampVal im seq) m) k = mget m k := by
  induction l generalizing m with
  | nil => rfl
  | cons j l ih =>
    obtain ⟨other, rest⟩ := not_or.mp (List.mem_cons.not.mp h)
    rw [List.foldl_cons, ih _ rest, mget_restampVal_other im seq m (Ne.symm other)]

/-- Each element of the list is stamped once. -/
theorem mget_restampVals (l : List Nat) (m : Map TV) (k : Nat) (v : TV) (once : l.Nodup) (h : k ∈ l)
    (held : mget m k = some v) :
    let a := tvAccept (im.idOf (keySpace k) (keyEl k)) v
    mget (l.foldl (restampVal im seq) m) k = some (mkTV (im.idOf (keySpace k) (keyEl k)) a.value a.quality seq) := by
  induction l generalizing m with
  | nil => cases h
  | cons j l ih =>
    obtain ⟨fresh, once⟩ := List.nodup_cons.mp once
    rw [List.foldl_cons]
    by_cases same : j = k
    · subst same
      rw [mget_restampVals_other im seq l _ j fresh, restampVal, held]
      exact (mget_commitVal ..).trans (if_pos rfl)
    · exact ih _ once ((List.mem_cons.mp h).resolve_left (Ne.symm same))
        (by rw [mget_restampVal_other im seq m same, held])

theorem mget_commitVals (f : Nat → Word × Byte) (l : List Nat) (m : Map TV) (k : Nat) :
    mget (l.foldl (fun m key => commitVal im seq m key (f key)) m) k =
      if k ∈ l then some (mkTV (im.idOf (keySpace k) (keyEl k)) (f k).1 (f k).2 seq) else mget m k := by
  induction l generalizing m with
  | nil => rfl
  | cons j l ih =>
    rw [List.foldl_cons, ih, mget_commitVal]
    by_cases later : k ∈ l
    · simp [later]
    · by_cases same : j = k
      · simp [same]
      · simp [later, same, Ne.symm same]

theorem mget_forceVals (t : Nat) (fs : List Force) (m : Map TV) (k : Nat)
    (free : ∀ f ∈ fs, f.space = spQ → ekey spQ f.element ≠ k) : mget (fs.foldl (forceVal im seq t) m) k = mget m k := by
  induction fs generalizing m with
  | nil => rfl
  | cons f fs ih =>
    rw [List.foldl_cons, ih _ fun g hg => free g (List.mem_cons_of_mem f hg), forceVal]
    split
    · next held =>
      rw [Bool.and_eq_true, beq_iff_eq] at held
      rw [mget_commitVal, if_neg (free f List.mem_cons_self held.1)]
    · rfl

end

/-- A fold whose steps change the committed values alone. -/
theorem foldl_vals {α : Type} (f : Dev → α → Dev) (g : Map TV → α → Map TV)
    (step : ∀ d x, (f d x).prog = { d.prog with vals := g d.prog.vals x }) (l : List α) (d : Dev) :
    (l.foldl f d).prog = { d.prog with vals := l.foldl g d.prog.vals } := by
  induction l generalizing d with
  | nil => rfl
  | cons x l ih => rw [List.foldl_cons, ih, step, List.foldl_cons]

/-- The values of a commit: what its blocks produce, what they wrote, then the forces of Q (Table 4.6, action 2). -/
theorem commitValues_prog (t : Nat) (d : Dev) :
    let k := d.task t
    let im := d.prog.image.getD {}
    let seq : Byte := k.counter.setWidth 8
    (commitValues t d).prog = { d.prog with
      vals := d.prog.forces.foldl (forceVal im seq t)
        ((k.writes.map (·.key)).dedup.foldl (fun m key => commitVal im seq m key (confirmedQ k key))
          ((im.producedBy t).foldl (restampVal im seq) d.prog.vals)) } := by
  intro k im seq
  unfold commitValues
  refine (foldl_vals _ (forceVal im seq t) (fun d f => ?forces) _ _).trans ?_
  case forces =>
    unfold forceVal
    dsimp only
    split <;> rfl
  rw [foldl_vals _ (fun m key => commitVal im seq m key (confirmedQ k key)) fun d key => rfl,
    foldl_vals _ (restampVal im seq) fun d key => ?produced]
  case produced =>
    unfold restampVal
    cases mget d.prog.vals key <;> rfl

/-! ## The commit of a task -/

/-- What a commit leaves of a program once its values stand: the tasks, the records and the values. -/
def Prog.cycle (p : Prog) : Vector Task 8 × Map TimerRec × Map CtrRec × Map EdgeRec × Map TV :=
  (p.tasks, p.timers, p.counters, p.edges, p.vals)

/-- A task k has committed: its counter and statistics, its state of Table 4.4, and the records and values of p. -/
structure Committed (t : Nat) (k : Task) (p : Prog) (st : TState) (d : Dev) : Prop where
  state : (d.task t).st = st
  counter : (d.task t).counter = k.counter + 1
  overruns : (d.task t).overruns = 0
  commits : (d.task t).stats.commits = k.stats.commits + 1
  timers : d.prog.timers = p.timers
  counters : d.prog.counters = p.counters
  edges : d.prog.edges = p.edges
  vals : d.prog.vals = p.vals

section
variable {t : Nat} {k : Task} {p : Prog} {st : TState} {d e : Dev}

theorem Committed.congr (h : Committed t k p st d) (same : e.prog.cycle = d.prog.cycle) : Committed t k p st e := by
  simp only [Prog.cycle, Prod.mk.injEq] at same
  obtain ⟨tasks, timers, counters, edges, vals⟩ := same
  have task : e.task t = d.task t := congrArg (vget · t) tasks
  exact ⟨task ▸ h.state, task ▸ h.counter, task ▸ h.overruns, task ▸ h.commits, timers.trans h.timers,
    counters.trans h.counters, edges.trans h.edges, vals.trans h.vals⟩

theorem Committed.congr_prog (h : Committed t k p st d) (same : e.prog = d.prog) : Committed t k p st e :=
  h.congr (congrArg Prog.cycle same)

/-- A change of the task that leaves its counter and statistics as they are. -/
theorem Committed.modTask (h : Committed t k p st d) (ht : t < 8) (f : Task → Task)
    (counter : ∀ k, (f k).counter = k.counter) (overruns : ∀ k, (f k).overruns = k.overruns)
    (stats : ∀ k, (f k).stats = k.stats) {st' : TState} (state : ∀ k, k.st = st → (f k).st = st') :
    Committed t k p st' (modTask t f d) := by
  have task := task_modTask t f d ht
  exact ⟨task ▸ state _ h.state, task ▸ (counter _).trans h.counter, task ▸ (overruns _).trans h.overruns,
    task ▸ (congrArg TaskStats.commits (stats _)).trans h.commits, h.timers, h.counters, h.edges, h.vals⟩

theorem commitInputs_cycle (t : Nat) (d : Dev) : (commitInputs t d).prog.cycle = d.prog.cycle :=
  foldl_proj (fun d : Dev => d.prog.cycle) _ (fun d el => by split <;> rfl) _ d

/-- The counter and the statistics of a commit (R147, Table 4.11). -/
theorem committed_commitStats (ht : t < 8) (d : Dev) (same : d.prog.cycle = p.cycle) :
    Committed t (vget p.tasks t) p (vget p.tasks t).st (commitStats t d) := by
  simp only [Prog.cycle, Prod.mk.injEq] at same
  obtain ⟨tasks, timers, counters, edges, vals⟩ := same
  rw [show vget p.tasks t = d.task t from congrArg (vget · t) tasks.symm]
  refine ⟨?state, ?counter, ?overruns, ?commits, timers, counters, edges, vals⟩
  all_goals
    unfold commitStats
    rw [task_modTask t _ d ht]

@[simp] theorem releaseTask_prog (t : Nat) (d : Dev) : (releaseTask t d).prog = d.prog := by
  simp [releaseTask, modTake]

/-- The commit of a task: its journals and values as committed, its counter and statistics, and the state PUBLISH. -/
theorem commitTask_committed (ht : t < 8) (m : Mems) (d : Dev) :
    Committed t (d.task t) (commitValues t (commitJournals t d)).prog .publish (commitTask t m d) := by
  unfold commitTask
  extract_lets keys full d1 d2 d3 d4 d5 d6 d7 d8 d9
  have tasks : d1.prog.tasks = d.prog.tasks := by
    simp only [d1, commitValues_prog, commitJournals_prog]
  have field : d2.prog = d1.prog := by simp [d2]
  have inputs : (commitInputs t d4).prog.cycle = d1.prog.cycle :=
    (commitInputs_cycle t d4).trans (congrArg Prog.cycle field)
  have stats : Committed t (d.task t) d1.prog (d.task t).st d5 := by
    have done := committed_commitStats ht (commitInputs t d4) inputs
    rwa [tasks] at done
  have panel : Committed t (d.task t) d1.prog (d.task t).st d6 := stats.congr_prog (by simp [d6])
  have pend : Committed t (d.task t) d1.prog (d.task t).st d7 := panel.congr rfl
  have published : Committed t (d.task t) d1.prog .publish d8 :=
    pend.modTask ht (fun k => { k with st := .publish, toPublish := full }) (fun _ => rfl) (fun _ => rfl)
      (fun _ => rfl) (fun _ _ => rfl)
  have released : Committed t (d.task t) d1.prog .publish d9 := published.congr_prog (by simp [d9, modTake])
  split
  · refine Committed.congr_prog ?_ (settleAll_prog _)
    exact released.modTask ht (fun k => { k with stoppedSafe := true }) (fun _ => rfl) (fun _ => rfl)
      (fun _ => rfl) (fun _ h => h)
  · exact released

end

/-- The row of a commit point at which the cycle commits (R162). -/
theorem commitPoint_commits {s : State} {n : Fin 8} (ready : (s.dev.task n).st = .ready)
    (point : s.dev.tick = (s.dev.task n).t0 + (s.dev.task n).cfg.offset) (noGap : s.dev.prog.swap.inGap = false)
    (alone : s.dev.inStack = false) : Becomes (.commitPoint n) s (commitTask n s.mem s.dev) := by
  have row : exec (.commitPoint n) s = execCommitPoint n s := rfl
  simp [Becomes, row, execCommitPoint, nextR, ready, ← point, noGap, alone]

/-- The values that stand after a commit, for an element that no force of Q holds. -/
theorem mget_commitValues (t : Nat) (d : Dev) (key : Nat)
    (free : ∀ f ∈ d.prog.forces, f.space = spQ → ekey spQ f.element ≠ key) :
    let k := d.task t
    let im := d.prog.image.getD {}
    let seq : Byte := k.counter.setWidth 8
    mget (commitValues t d).prog.vals key =
      if key ∈ k.writes.map (·.key) then
        some (mkTV (im.idOf (keySpace key) (keyEl key)) (confirmedQ k key).1 (confirmedQ k key).2 seq)
      else mget ((im.producedBy t).foldl (restampVal im seq) d.prog.vals) key := by
  dsimp only
  rw [commitValues_prog]
  dsimp only
  rw [mget_forceVals _ _ _ _ _ _ free, mget_commitVals]
  simp only [List.mem_dedup]

/-- Journals change the records alone. -/
theorem commitJournals_task (t u : Nat) (d : Dev) : (commitJournals t d).task u = d.task u :=
  (congrArg (fun p : Prog => vget p.tasks u) (commitJournals_prog t d) :)

section
variable {t : Nat} {d : Dev} {key : Nat}

/-- The value that a commit gives an element that the cycle wrote (R107, Table 4.6). -/
theorem mget_commit_written (free : ∀ f ∈ d.prog.forces, f.space = spQ → ekey spQ f.element ≠ key) {w : Write}
    (last : ((d.task t).writes.filter fun x => x.key == key).getLast? = some w) :
    ∃ v, mget (commitValues t (commitJournals t d)).prog.vals key = some v ∧ v.value = w.value ∧
      v.seq = (d.task t).counter.setWidth 8 ∧
      v.quality = qMergeAll (((d.task t).writes.filter fun x => x.key == key).map (·.quality)) := by
  have wrote : key ∈ (d.task t).writes.map (·.key) := by
    obtain ⟨mem, same⟩ := List.mem_filter.mp (List.mem_of_getLast? last)
    exact List.mem_map.mpr ⟨w, mem, beq_iff_eq.mp same⟩
  have value : confirmedQ (d.task t) key =
      (w.value, qMergeAll (((d.task t).writes.filter fun x => x.key == key).map (·.quality))) := by
    unfold Task.writes at last
    simp only [confirmedQ, last]
    rfl
  have held := mget_commitValues t (commitJournals t d) key (by rw [commitJournals_prog]; exact free)
  dsimp only at held
  rw [commitJournals_task, if_pos wrote, value] at held
  exact ⟨_, held, rfl, rfl, rfl⟩

/-- What a commit leaves of an element that the cycle did not write: as it was, or with a new SEQ where its task
produces it (log entry 113). -/
theorem mget_commit_unwritten (free : ∀ f ∈ d.prog.forces, f.space = spQ → ekey spQ f.element ≠ key)
    (unwritten : key ∉ (d.task t).writes.map (·.key)) :
    let im := d.prog.image.getD {}
    let left := mget (commitValues t (commitJournals t d)).prog.vals key
    (key ∉ im.producedBy t → left = mget d.prog.vals key) ∧
    (key ∈ im.producedBy t → ∀ v, mget d.prog.vals key = some v →
      let a := tvAccept (im.idOf (keySpace key) (keyEl key)) v
      left = some (mkTV (im.idOf (keySpace key) (keyEl key)) a.value a.quality ((d.task t).counter.setWidth 8))) := by
  have held := mget_commitValues t (commitJournals t d) key (by rw [commitJournals_prog]; exact free)
  dsimp only at held ⊢
  rw [commitJournals_task, if_neg unwritten, commitJournals_prog] at held
  rw [held]
  exact ⟨fun other => mget_restampVals_other _ _ _ _ _ other,
    fun produced v stands => mget_restampVals _ _ _ _ _ v (List.nodup_dedup _) produced stands⟩

end

/-! ## The publish -/

/-- The sends of a publish leave the program as it is: a publish is a change of the task and a waiting CYCLE_STOP. -/
theorem publish_sends {t : Nat} {d : Dev} (st : (d.task t).st = .publish) :
    ∃ e, e.prog = d.prog ∧
      publish t d = stopCheck t (modTask t (fun k => { k with st := .wait, toPublish := false }) e) := by
  unfold publish
  simp only [st, bne_self_eq_false, Bool.false_eq_true, if_false]
  exact ⟨_, by simp, rfl⟩

theorem stopCheck_none {t : Nat} {d : Dev} (go : (d.task t).stopReq = none) : stopCheck t d = d := by
  simp [stopCheck, go]

theorem task_congr {d e : Dev} (same : e.prog = d.prog) (t : Nat) : e.task t = d.task t :=
  congrArg (fun p : Prog => vget p.tasks t) same

theorem stopAnswer_tasks {d : Dev} (waiters : d.prog.stopWaiters = []) : (stopAnswer d).prog.tasks = d.prog.tasks := by
  simp [stopAnswer, waiters, modProg]

/-- A waiting CYCLE_STOP takes effect (R180), with no host command left to answer. -/
theorem task_stopCheck {t : Nat} {d : Dev} {safe : Bool} (ht : t < 8) (stop : (d.task t).stopReq = some safe)
    (waiters : d.prog.stopWaiters = []) : (stopCheck t d).task t =
      { (dropCycle t d).task t with st := .stopped, stopReq := none, toPublish := false, stoppedSafe := safe } := by
  unfold stopCheck
  simp only [stop]
  generalize stopped : modTask t (fun k => { k with stoppedSafe := safe }) (stopTask t d) = e
  have settled : (if safe then settleAll e else e).prog = e.prog := by simp [settleAll_prog]
  have answered := stopAnswer_tasks (d := if safe then settleAll e else e) (by rw [settled, ← stopped]; exact waiters)
  calc (stopAnswer (if safe then settleAll e else e)).task t
      = e.task t := congrArg (vget · t) (answered.trans (congrArg Prog.tasks settled))
    _ = _ := by rw [← stopped, task_modTask t _ _ ht, stopTask, task_modTask t _ _ ht]

theorem publish_waits {s : State} {n : Fin 8} (st : (s.dev.task n).st = .publish) (go : (s.dev.task n).stopReq = none) :
    ∃ d, Becomes (.publishSets n) s d ∧ (d.task n).st = .wait ∧ (d.task n).toPublish = false ∧
      (d.task n).counter = (s.dev.task n).counter := by
  obtain ⟨e, prog, sends⟩ := publish_sends st
  have task := task_modTask n (fun k => { k with st := .wait, toPublish := false }) e n.isLt
  rw [task_congr prog] at task
  have row : Becomes (.publishSets n) s (publish n s.dev) := rfl
  rw [sends, stopCheck_none ((congrArg Task.stopReq task).trans go)] at row
  exact ⟨_, row, (congrArg Task.st task :), (congrArg Task.toPublish task :), (congrArg Task.counter task :)⟩

theorem publish_stops {s : State} {n : Fin 8} {safe : Bool} (st : (s.dev.task n).st = .publish)
    (stop : (s.dev.task n).stopReq = some safe) (waiters : s.dev.prog.stopWaiters = []) :
    ∃ d, Becomes (.publishSets n) s d ∧ (d.task n).st = .stopped ∧ (d.task n).stoppedSafe = safe ∧
      (d.task n).stopReq = none := by
  obtain ⟨e, prog, sends⟩ := publish_sends st
  have task := task_modTask n (fun k => { k with st := .wait, toPublish := false }) e n.isLt
  rw [task_congr prog] at task
  have row : Becomes (.publishSets n) s (publish n s.dev) := rfl
  rw [sends] at row
  have stopped := task_stopCheck n.isLt ((congrArg Task.stopReq task).trans stop)
    ((congrArg Prog.stopWaiters prog : _).trans waiters)
  exact ⟨_, row, (congrArg Task.st stopped :), (congrArg Task.stoppedSafe stopped :), (congrArg Task.stopReq stopped :)⟩

/-! ## The commit point and the publish -/

/-- Settles O26: a commit is its records, its values and its statistics (commitTask_committed); an element has the value
of its last write, or what the restamp of its producers leaves; a publish is a change of the task and a waiting
CYCLE_STOP (log entry 113 for the new SEQ of an element that the cycle did not write). -/
theorem commitAndPublish : Obligations.CommitAndPublish := by
  unfold Obligations.CommitAndPublish
  intro s n
  dsimp only
  refine ⟨fun ready point noGap alone => ?commit, fun st go => ?waits, fun safe st stop waiters => ?stops⟩
  case waits =>
    obtain ⟨d, row, holds⟩ := publish_waits st go
    exact goes_of_becomes row holds
  case stops =>
    obtain ⟨d, row, holds⟩ := publish_stops st stop waiters
    exact goes_of_becomes row holds
  case commit =>
    refine goes_of_becomes (commitPoint_commits ready point noGap alone) ?_
    obtain ⟨state, counter, overruns, commits, timers, counters, edges, vals⟩ :=
      commitTask_committed n.isLt s.mem s.dev
    rw [commitValues_prog, commitJournals_prog] at timers counters edges
    refine ⟨state, counter, overruns, commits, timers, counters, edges, fun key free => ?_⟩
    simp only [vals]
    refine ⟨fun w last => mget_commit_written free last, fun silent => ?_⟩
    have unwritten : key ∉ (s.dev.task n).writes.map (·.key) := by
      simp only [Task.writes, List.mem_map, List.mem_flatMap]
      rintro ⟨w, ⟨e, run, wrote⟩, same⟩
      exact silent e run w wrote same
    obtain ⟨other, produced⟩ := mget_commit_unwritten free unwritten
    exact ⟨other, fun mine v stands => ⟨_, produced mine v stands, rfl, rfl, rfl⟩⟩

end Sys2Proof.Machine
end

section
/-!
PROOF. The end of a cycle's confirmation (R150, R158, R174 to R176, R184, R185): what a fault and an overrun make of the
task, then the confirmation, the confirm limit and the lateness limit.
-/

namespace Sys2Proof.Machine

open Sys2Proof Sys2Proof.Claims

/-! ## A task after the shared operations -/

theorem task_raise (e : Ev) (x t : Nat) (d : Dev) : (raise e x d).task t = d.task t := task_congr (raise_prog e x d) t

theorem task_modStats (t : Nat) (f : TaskStats → TaskStats) (d : Dev) (h : t < 8) :
    (modStats t f d).task t = { d.task t with stats := f (d.task t).stats } := task_modTask t _ d h

theorem task_dropCycle (t : Nat) (d : Dev) (h : t < 8) :
    (dropCycle t d).task t = { d.task t with runs := [], reexecFrom := none } := task_modTask t _ d h

theorem reportConfirm_prog (t : Nat) (d : Dev) : (reportConfirm t d).prog = d.prog := by
  unfold reportConfirm
  split
  · rfl
  · split
    · rfl
    · exact glSend_prog ..

/-- An event that is pending stays so when another one is raised. -/
theorem pending_raise {n : Nat} {d : Dev} (h : d.evt.pending.getLsbD n = true) (e : Ev) (x : Nat) :
    (raise e x d).evt.pending.getLsbD n = true := by
  unfold raise
  dsimp only
  split <;> simp [raise1_pending, h]

/-! ## A task fault and an overrun -/

/-- Nothing but its overruns holds a task: no CYCLE_STOP waits for it and no fault is queued, it reacts to a fault with
nothing, and no reaction runs. -/
structure Dev.Quiet (d : Dev) (t : Nat) : Prop where
  noStop : (d.task t).stopReq = none
  noQueue : d.prog.migQueue = []
  ownReaction : (d.task t).cfg.reaction = 0
  reaction : d.prog.reaction = 0

/-- A fault with reaction 0 ends the cycle without its results, and the task waits for its next instant (R176). -/
theorem taskFault_waits {n : Fin 8} {d : Dev} (quiet : d.Quiet n) (cause : Nat) :
    taskFault n cause d = raise (.taskFault n) (cause + 256 * ((d.task n).counter.toNat % 2 ^ 24))
      (modTask n (fun k => { k with st := .wait, overruns := 0 })
        (modStats n (fun x => { x with faults := satPlus x.faults 1 }) (dropCycle n d))) := by
  have noReaction : d.reactionOf n = 0 := by simp [Dev.reactionOf, quiet.ownReaction, quiet.reaction]
  have calm (e : Dev) (empty : e.prog.migQueue = []) : escalateQueued n e = e := by simp [escalateQueued, empty]
  unfold taskFault
  simp only [noReaction, n.isLt, dite_true, if_true, runReaction, Nat.mul_zero, Nat.add_zero]
  rw [calm, stopCheck_none]
  · rw [task_raise, task_modTask _ _ _ n.isLt, task_modStats _ _ _ n.isLt, task_dropCycle _ _ n.isLt]
    exact quiet.noStop
  · rw [raise_prog]
    exact quiet.noQueue

/-- What a fault with reaction 0 leaves of its task. -/
theorem task_taskFault {n : Fin 8} {d : Dev} (quiet : d.Quiet n) (cause : Nat) :
    (taskFault n cause d).task n = { d.task n with
      st := .wait, overruns := 0, runs := [], reexecFrom := none
      stats := { (d.task n).stats with faults := satPlus (d.task n).stats.faults 1 } } := by
  rw [taskFault_waits quiet, task_raise, task_modTask _ _ _ n.isLt, task_modStats _ _ _ n.isLt,
    task_dropCycle _ _ n.isLt]

theorem raised_taskFault {n : Fin 8} {d : Dev} (quiet : d.Quiet n) (cause : Nat) (s : State) :
    Raised { s with dev := taskFault n cause d } (.taskFault n)
      (cause + 256 * ((d.task n).counter.toNat % 2 ^ 24)) := by
  rw [taskFault_waits quiet]
  exact raised_raise _ _ _ (by simp only [Ev.num]; omega)

theorem pending_taskFault {n : Fin 8} {d : Dev} (quiet : d.Quiet n) (cause : Nat) {i : Nat}
    (h : d.evt.pending.getLsbD i = true) : (taskFault n cause d).evt.pending.getLsbD i = true := by
  rw [taskFault_waits quiet]
  refine pending_raise ?_ _ _
  exact h

/-- A task that overruns is LATE, and TASKn_OVERRUN is raised with its count (R174, R184). -/
def Dev.overran (d : Dev) (n : Fin 8) : Dev :=
  raise (.taskOverrun n) ((d.task n).counter.toNat % 2 ^ 24 + 2 ^ 24 * min 15 ((d.task n).overruns + 1))
    (modTask n (fun k => { k with
      st := .late, overruns := (d.task n).overruns + 1
      stats := { k.stats with overruns := satPlus k.stats.overruns 1 } }) d)

theorem overrun_eq (n : Fin 8) (d : Dev) : overrun n d =
    if (d.task n).cfg.ovrN < (d.task n).overruns + 1 then
      taskFault n (1 + 2 * b2n ((d.task n).cfg.maxLate == 0)) (d.overran n)
    else d.overran n := by
  simp only [overrun, n.isLt, dite_true]
  rfl

theorem task_overran (n : Fin 8) (d : Dev) : (d.overran n).task n = { d.task n with
    st := .late, overruns := (d.task n).overruns + 1
    stats := { (d.task n).stats with overruns := satPlus (d.task n).stats.overruns 1 } } := by
  rw [Dev.overran, task_raise, task_modTask _ _ _ n.isLt]

theorem raised_overran (n : Fin 8) (d : Dev) (s : State) : Raised { s with dev := d.overran n } (.taskOverrun n)
    ((d.task n).counter.toNat % 2 ^ 24 + 2 ^ 24 * min 15 ((d.task n).overruns + 1)) :=
  raised_raise _ _ _ (by simp only [Ev.num]; omega)

theorem Dev.Quiet.overran {n : Fin 8} {d : Dev} (quiet : d.Quiet n) : (d.overran n).Quiet n := by
  obtain ⟨queue, reaction⟩ : (d.overran n).prog.migQueue = d.prog.migQueue ∧
      (d.overran n).prog.reaction = d.prog.reaction := by
    rw [Dev.overran, raise_prog]
    exact ⟨rfl, rfl⟩
  refine ⟨?_, queue.trans quiet.noQueue, ?_, reaction.trans quiet.reaction⟩
  · rw [task_overran]; exact quiet.noStop
  · rw [task_overran]; exact quiet.ownReaction

/-! ## The rows of a cycle's end -/

/-- The time from the first re-execution of a cycle to its confirmation, 0 where there was none (Table 4.11). -/
def Task.reexecTime (k : Task) (at_ : Nat) : Nat :=
  match k.reexecFrom with
  | some f => at_ - (f - k.t0) * tickUnits
  | none => 0

/-- The task READY with its time of confirmation, and the time since its first re-execution counted (Table 4.11). -/
def Task.confirms (at_ redo : Nat) (k : Task) : Task :=
  { k with
    st := .ready, confirmedAt := some at_
    stats := { k.stats with reexecMax := BitVec.ofNat 32 (max k.stats.reexecMax.toNat redo) } }

/-- The task in WAIT after a cycle that confirmed late, and its lateness counted (Table 4.11). -/
def Task.confirmsLate (late : Nat) (k : Task) : Task :=
  { k with st := .wait, stats := { k.stats with lateMax := BitVec.ofNat 32 (max k.stats.lateMax.toNat late) } }

section
variable {s : State} {n : Fin 8}

/-- A cycle in EXECUTE that confirms by its confirm limit is READY (R150). -/
theorem cycleConfirmed_ready {at_ : Nat} (now : at_ / 500 + (s.dev.task n).t0 = s.dev.tick)
    (all : s.dev.allConfirmed n = true) (st : (s.dev.task n).st = .execute)
    (inTime : at_ ≤ 500 * (s.dev.task n).cfg.offset - 100) :
    Becomes (.cycleConfirmed n at_) s
      (reportConfirm n (l0Done n (modTask n (Task.confirms at_ ((s.dev.task n).reexecTime at_)) s.dev))) := by
  have row : exec (.cycleConfirmed n at_) s = execCycleConfirmed n at_ s := rfl
  have early : ¬ (s.dev.task n).confirmLimit < at_ := by simp only [Task.confirmLimit, tickUnits]; omega
  simp only [Becomes, row, execCycleConfirmed, nextD, Task.reexecTime, tickUnits, now, all, st, early,
    bne_self_eq_false, Bool.not_true, Bool.or_false, Bool.false_eq_true, if_false]
  rfl

theorem task_cycleConfirmed (at_ redo : Nat) (d : Dev) :
    (reportConfirm n (l0Done n (modTask n (Task.confirms at_ redo) d))).task n = (d.task n).confirms at_ redo :=
  (task_congr (reportConfirm_prog _ _) _).trans (task_modTask n (Task.confirms at_ redo) d n.isLt)

/-- A LATE cycle that confirms before its lateness limit waits for its next instant, its results discarded (R175). -/
theorem cycleConfirmed_discards {at_ : Nat} (now : at_ / 500 + (s.dev.task n).t0 = s.dev.tick)
    (all : s.dev.allConfirmed n = true) (st : (s.dev.task n).st = .late)
    (before : s.dev.tick < (s.dev.task n).latenessTick) (go : (s.dev.task n).stopReq = none) :
    ∃ late, Becomes (.cycleConfirmed n at_) s (dropCycle n (modTask n (Task.confirmsLate late) s.dev)) := by
  have row : exec (.cycleConfirmed n at_) s = execCycleConfirmed n at_ s := rfl
  let late := at_ - (s.dev.task n).cfg.offset * 500
  have discards : Becomes (.cycleConfirmed n at_) s
      (stopCheck n (dropCycle n (modTask n (Task.confirmsLate late) s.dev))) := by
    simp only [Becomes, row, execCycleConfirmed, nextD, tickUnits, now, all, st, before, bne_self_eq_false,
      Bool.not_true, Bool.or_false, Bool.false_eq_true, if_false, if_true]
    rfl
  rw [stopCheck_none] at discards
  · exact ⟨late, discards⟩
  · rw [task_dropCycle _ _ n.isLt, task_modTask _ _ _ n.isLt]
    exact go

/-- A cycle still in EXECUTE at its confirm limit overruns (R174). -/
theorem confirmLimit_overruns (limit : s.dev.tick + 1 = (s.dev.task n).t0 + (s.dev.task n).cfg.offset)
    (st : (s.dev.task n).st = .execute) (alone : s.dev.inStack = false) :
    Becomes (.confirmLimit n) s (overrun n s.dev) := by
  have row : exec (.confirmLimit n) s = execConfirmLimit n s := rfl
  simp [Becomes, row, execConfirmLimit, nextD, limit, st, alone]

/-- A LATE cycle faults at its lateness limit (R175, R176). -/
theorem latenessLimit_faults (st : (s.dev.task n).st = .late) (limit : (s.dev.task n).latenessTick ≤ s.dev.tick) :
    Becomes (.latenessLimit n) s
      (taskFault n 2 (modStats n (fun x => { x with lateMax := 0xFFFFFFFF }) s.dev)) := by
  have row : exec (.latenessLimit n) s = execLatenessLimit n s := rfl
  simp [Becomes, row, execLatenessLimit, nextD, st, Nat.not_lt.mpr limit]

end

/-- Settles O25, one row of a cycle's end at a time. -/
theorem confirmationAndOverrun : Obligations.ConfirmationAndOverrun := by
  unfold Obligations.ConfirmationAndOverrun
  intro s n
  dsimp only
  refine ⟨fun at_ now all st inTime => ?ready, fun at_ now all st before go => ?discards,
    fun limit st alone within => ?overruns, fun limit st alone beyond quiet => ?faults, fun st limit quiet => ?lateness⟩
  case ready =>
    refine goes_of_becomes (cycleConfirmed_ready now all st inTime) ?_
    dsimp only
    rw [task_cycleConfirmed]
    exact ⟨rfl, rfl, rfl, rfl⟩
  case discards =>
    obtain ⟨late, row⟩ := cycleConfirmed_discards now all st before go
    refine goes_of_becomes row ?_
    dsimp only
    rw [task_dropCycle _ _ n.isLt, task_modTask _ _ _ n.isLt]
    exact ⟨rfl, rfl, rfl⟩
  case overruns =>
    refine goes_of_becomes (confirmLimit_overruns limit st alone) ?_
    rw [overrun_eq, if_neg (Nat.not_lt.mpr within)]
    dsimp only
    rw [task_overran]
    exact ⟨rfl, rfl, rfl, raised_overran n s.dev s⟩
  case faults =>
    obtain ⟨noStop, noQueue, ownReaction, reaction⟩ := quiet
    have quiet : (s.dev.overran n).Quiet n := Dev.Quiet.overran ⟨noStop, noQueue, ownReaction, reaction⟩
    have cause : 1 + 2 * b2n ((s.dev.task n).cfg.maxLate == 0) = if (s.dev.task n).cfg.maxLate = 0 then 3 else 1 := by
      split <;> simp [b2n, *]
    refine goes_of_becomes (confirmLimit_overruns limit st alone) ?_
    rw [overrun_eq, if_pos beyond, cause]
    have raised := raised_taskFault quiet (if (s.dev.task n).cfg.maxLate = 0 then 3 else 1) s
    dsimp only
    rw [task_taskFault quiet]
    rw [task_overran] at raised ⊢
    refine ⟨rfl, rfl, rfl, rfl, ?_, raised⟩
    exact pending_taskFault quiet _ (raised_overran n s.dev s).1
  case lateness =>
    obtain ⟨noStop, noQueue, ownReaction, reaction⟩ := quiet
    have task := task_modStats n (fun x => { x with lateMax := 0xFFFFFFFF }) s.dev n.isLt
    have quiet : (modStats n (fun x => { x with lateMax := 0xFFFFFFFF }) s.dev).Quiet n :=
      ⟨task ▸ noStop, noQueue, task ▸ ownReaction, reaction⟩
    refine goes_of_becomes (latenessLimit_faults st limit) ?_
    have raised := raised_taskFault quiet 2 s
    dsimp only
    rw [task_taskFault quiet]
    rw [task] at raised ⊢
    exact ⟨rfl, rfl, rfl, raised⟩

end Sys2Proof.Machine
end

section
/-!
PROOF. The commands of tasks (R146, R178 to R182): a command that has begun, whatever it replies; then what TASK_CONFIG,
CYCLE_START, CYCLE_STOP, TASK_STATS and INPUT_POLICY make of the device.
-/

namespace Sys2Proof.Machine

open Sys2Proof Sys2Proof.Claims

/-! ## A command that has begun -/

/-- A command that waits, that its origin may send (R79) and whose checks pass has begun, and its effect and its reply
follow on the device as it was but for the mailboxes. -/
theorem runCmd_begins {c : Instr} {s : State} {o : Origin} {code : Nat} {p : Bytes} {absent : Dev → Bytes → Bool}
    {tests : Mems → Dev → Bytes → List (Bool × Half)} {act : Mems → Dev → Bytes → Dev × Reply}
    (command : exec c s = runCmd s o code absent tests act) (waits : Waits s o code p)
    (mayCome : (o == .net && (code == 0x0C03 || code / 256 == 0x0D)) = false)
    (present : ∀ m, absent { s.dev with mbx := m } p = false)
    (pass : ∀ m, Claims.Pass (tests s.mem { s.dev with mbx := m } p)) :
    ∃ m, Working { s with dev := { s.dev with mbx := m } } o ∧
      Becomes c s (reply o (act s.mem { s.dev with mbx := m } p).2 (act s.mem { s.dev with mbx := m } p).1) := by
  obtain ⟨j, job, hc, flags, hs, hr, rfl, awake⟩ := waits
  have begun := startJob_eq o j s.dev
  have common : Claims.Pass (commonTests o code (absent (startJob o j s.dev) j.payload) j.header (startJob o j s.dev) ++
      tests s.mem (startJob o j s.dev) j.payload) := by
    rw [begun, Claims.Pass, firstFail_eq_none]
    simp only [List.mem_append, or_imp, forall_and]
    exact ⟨by simp [commonTests, flags, present, awake, mayCome], (firstFail_eq_none _).mp (pass _)⟩
  have run := command.trans (runCmd_pass s o code absent tests act j (due_of_job o code j _ job hc hs hr) common)
  refine ⟨(startJob o j s.dev).mbx, ?_⟩
  rw [← begun]
  exact ⟨⟨_, job_setJob o j { j with started := true } _ job, rfl, hr⟩, run⟩

/-- A command that has begun and has no response yet takes the one that it is given. -/
theorem answers_respond {s : State} {o : Origin} {d : Dev} (working : Working { s with dev := d } o) (st : Half)
    (p : Bytes) : Answers { s with dev := respond o st p d } o st p := by
  obtain ⟨j, job, started, waiting⟩ := working
  exact ⟨_, job_respond o j st p d job started waiting, rfl⟩

theorem working_congr {s : State} {o : Origin} {d e : Dev} (working : Working { s with dev := d } o)
    (same : e.mbx = d.mbx) : Working { s with dev := e } o := by
  obtain ⟨j, job, holds⟩ := working
  exact ⟨j, (job_congr o e d same).trans job, holds⟩

/-- The device may be given commands of programs and tasks (check 7). -/
theorem progClass_passes {d : Dev} (master : d.master = true) (active : d.passive = false) (free : d.stopped = false) :
    (progClass d).1 = false := by
  simp [progClass, master, active, free]

theorem mem_maskTasks (m t : Nat) : t ∈ maskTasks m ↔ t < 8 ∧ m.testBit t = true := by
  simp [maskTasks]

/-- The first byte of a payload that names a task. -/
theorem taskByte (k : Fin 8) : (BitVec.ofNat 8 k.val).toNat = k := by
  rw [BitVec.toNat_ofNat]
  exact Nat.mod_eq_of_lt (by omega)

theorem task_modTask_other (t u : Nat) (f : Task → Task) (d : Dev) (h : t ≠ u) : (modTask t f d).task u = d.task u :=
  vget_vmod_other _ _ _ _ h

theorem forward_prog (code : Nat) (payload : Bytes) (d : Dev) : (forward code payload d).prog = d.prog :=
  (congrArg Dev.prog (forward_unsent code payload d) :)

/-! ## TASK_CONFIG -/

/-- The tests of TASK_CONFIG leave the number of a task (R178). -/
theorem taskCfgTests_task (d : Dev) (p : Bytes) (pass : Claims.Pass (taskCfgTests d p)) : byteAt p 0 < 8 := by
  have range := (firstFail_eq_none _).mp pass
    (decide (7 < byteAt p 0 ∨ 15 < (taskCfgOf p).ovrN) || timingBad (byteAt p 0) (taskCfgOf p), stRange)
    (by simp [taskCfgTests])
  simp only [Bool.or_eq_false_iff, decide_eq_false_iff_not] at range
  omega

theorem taskConfig_answers {s : State} {o : Origin} {p : Bytes} (waits : Waits s o 0x0300 p)
    (pass : Claims.Pass (taskCfgTests s.dev p)) :
    Goes (.taskConfig o) s fun t => Answers t o stOk [] ∧
      (t.dev.task (byteAt p 0)).cfg = taskCfgOf p ∧ t.dev.pwr.confDirty = true ∧
      ∀ k : Fin 8, k.val ≠ byteAt p 0 → t.dev.task k = s.dev.task k := by
  have command : exec (.taskConfig o) s = execTaskConfig o s := rfl
  refine goes_answers (P := fun d => (d.task (byteAt p 0)).cfg = taskCfgOf p ∧ d.pwr.confDirty = true ∧
      ∀ k : Fin 8, k.val ≠ byteAt p 0 → d.task k = s.dev.task k) command waits (Bool.and_false _) (fun _ => rfl)
    (fun _ => pass) fun m => ⟨_, rfl, forward_mbx _ _ _, fun m' => ?_⟩
  have tasks (u : Nat) : Dev.task { forward 0x0300 p (taskCfgApply p { s.dev with mbx := m }) with mbx := m' } u =
      (modTask (byteAt p 0) (fun k => { k with cfg := taskCfgOf p }) s.dev).task u := task_congr (forward_prog _ _ _) u
  have saved := forward_pwr 0x0300 p (taskCfgApply p { s.dev with mbx := m })
  refine ⟨?_, congrArg Pwr.confDirty saved, fun k other => ?_⟩
  · rw [tasks, task_modTask _ _ _ (taskCfgTests_task s.dev p pass)]
  · rw [tasks, task_modTask_other _ _ _ _ (Ne.symm other)]

/-! ## CYCLE_START -/

section
variable (t : Nat) (d : Dev)

/-- A first instant is an instant of its task (R146). -/
theorem firstInstant_instant :
    ∃ n, d.firstInstant t = d.prog.origin + (d.task t).cfg.phase + n * (d.task t).cfg.period := by
  unfold Dev.firstInstant
  dsimp only
  split
  · exact ⟨0, by omega⟩
  · exact ⟨_, rfl⟩

/-- A first instant is at least 1 ms ahead (R179). -/
theorem firstInstant_ahead (period : 0 < (d.task t).cfg.period) : d.tick + 20 ≤ d.firstInstant t := by
  unfold Dev.firstInstant
  dsimp only
  generalize d.prog.origin + (d.task t).cfg.phase = base
  generalize (d.task t).cfg.period = c at period
  split
  · omega
  · have whole := Nat.div_add_mod' (d.tick + 20 - base + c - 1) c
    have rest := Nat.mod_lt (d.tick + 20 - base + c - 1) period
    omega

/-- The device but for its partner inputs and its timers. -/
def Dev.beyondInputs : Dev := { d with prog := { d.prog with partnerIn := [], timers := [] } }

/-- A task that starts at an instant (R179). -/
def Task.starts (t0 : Nat) (k : Task) : Task :=
  { k with st := .starting, firstT0 := t0, overruns := 0, stopReq := none, stoppedSafe := false, runs := [] }

/-- Beyond partner inputs and timers, a start changes its task alone. -/
theorem startTask_beyondInputs :
    (startTask t d).beyondInputs = (modTask t (Task.starts (d.firstInstant t)) d).beyondInputs := by
  let e := ((d.prog.image.getD {}).ownedInputs t).foldl (fun d el => modPIn el (fun p => { p with
    taken := none, lastConfirmed := none, received := false, staleRun := 0, lastEffective := none
    takesSince := if 2 ≤ p.takesSince then 2 else 0 }) d) d
  have inputs : e.beyondInputs = d.beyondInputs := foldl_proj Dev.beyondInputs _ (fun _ _ => by rfl) _ d
  calc (startTask t d).beyondInputs
      = modTask t (Task.starts (e.beyondInputs.firstInstant t)) e.beyondInputs := rfl
    _ = modTask t (Task.starts (d.beyondInputs.firstInstant t)) d.beyondInputs := by rw [inputs]

theorem startTask_mbx : (startTask t d).mbx = d.mbx := (congrArg Dev.mbx (startTask_beyondInputs t d) :)

theorem task_startTask {k : Nat} (hk : k < 8) : (startTask t d).task k =
    if t = k then (d.task k).starts (d.firstInstant k) else d.task k := by
  have task : (startTask t d).task k = (modTask t (Task.starts (d.firstInstant t)) d).task k :=
    (congrArg (fun e : Dev => e.task k) (startTask_beyondInputs t d) :)
  rw [task]
  split
  · next same =>
    subst same
    exact task_modTask _ _ _ hk
  · next other => exact task_modTask_other _ _ _ _ other

/-- A start moves no first instant: it leaves the tick, the tick origin and the configurations. -/
theorem firstInstant_startTask {k : Nat} (hk : k < 8) : (startTask t d).firstInstant k = d.firstInstant k := by
  have cfg : ((startTask t d).task k).cfg = (d.task k).cfg := by
    rw [task_startTask t d hk]
    split <;> rfl
  have tick : (startTask t d).tick = d.tick := (congrArg Dev.tick (startTask_beyondInputs t d) :)
  have origin : (startTask t d).prog.origin = d.prog.origin :=
    (congrArg (fun e : Dev => e.prog.origin) (startTask_beyondInputs t d) :)
  simp only [Dev.firstInstant, cfg, tick, origin]

end

/-- Tasks that start together start each at its own first instant, and the others stay as they are. -/
theorem task_foldl_startTask (l : List Nat) (d : Dev) {k : Nat} (hk : k < 8) :
    (l.foldl (fun d t => startTask t d) d).task k =
      if k ∈ l then (d.task k).starts (d.firstInstant k) else d.task k := by
  induction l generalizing d with
  | nil => rfl
  | cons t l ih =>
    rw [List.foldl_cons, ih, firstInstant_startTask t d hk, task_startTask t d hk]
    by_cases same : t = k
    · simp [same, Task.starts]
    · simp [same, Ne.symm same]

/-- What CYCLE_START answers (R179): the first instants of the tasks that it selects. -/
def startAnswer (mask : Nat) (d : Dev) : Bytes :=
  (List.range 8).flatMap fun k => leBytes 8 (if mask.testBit k then d.firstInstant k else 0)

theorem startReply_startTasks (mask : Nat) (d : Dev) :
    startReply (maskTasks mask) ((maskTasks mask).foldl (fun d t => startTask t d) d) = startAnswer mask d := by
  refine List.flatMap_congr fun k hk => ?_
  rw [List.mem_range] at hk
  rw [task_foldl_startTask _ _ hk]
  by_cases selected : mask.testBit k = true
  · simp [mem_maskTasks, hk, selected, Task.starts]
  · simp [mem_maskTasks, selected]

theorem cycleStart_answers {s : State} {o : Origin} {p : Bytes} {b : List Budget} (waits : Waits s o 0x0301 p)
    (pass : Claims.Pass (startTests b s.dev p)) :
    Goes (.cycleStart o b) s fun t => Answers t o stOk (startAnswer (byteAt p 0) s.dev) ∧
      ∀ k : Fin 8, t.dev.task k =
        if (byteAt p 0).testBit k then (s.dev.task k).starts (s.dev.firstInstant k) else s.dev.task k := by
  have command : exec (.cycleStart o b) s = execCycleStart o b s := rfl
  refine goes_answers (P := fun d => ∀ k : Fin 8, d.task k =
      if (byteAt p 0).testBit k then (s.dev.task k).starts (s.dev.firstInstant k) else s.dev.task k)
    command waits (Bool.and_false _) (fun _ => rfl) (fun _ => pass) fun m =>
      ⟨_, Prod.ext rfl (congrArg Reply.ok (startReply_startTasks _ _)),
        foldl_proj Dev.mbx _ (fun d t => startTask_mbx t d) _ _, fun m' k => ?_⟩
  have started := task_foldl_startTask (maskTasks (byteAt p 0)) { s.dev with mbx := m } k.isLt
  simp only [mem_maskTasks, k.isLt, true_and] at started
  exact started

/-! ## CYCLE_STOP -/

/-- CYCLE_STOP stops the tasks that it selects and then waits for them (R180). -/
theorem cycleStop_waits {s : State} {o : Origin} {mask : Byte} {safe : Bool}
    (waits : Waits s o 0x0302 [mask, if safe then 1 else 0, 0, 0]) (master : s.dev.master = true)
    (active : s.dev.passive = false) (free : s.dev.stopped = false) :
    ∃ d, d.prog = s.dev.prog ∧ Working { s with dev := d } o ∧ Becomes (.cycleStop o) s
      (stopAnswer (modProg (fun x => { x with stopWaiters := x.stopWaiters ++ [(o, mask)] })
        ((maskTasks mask.toNat).foldl (fun d t => stopSelected safe t d) d))) := by
  have command : exec (.cycleStop o) s = execCycleStop o s := rfl
  generalize payload : [mask, if safe then 1 else 0, 0, 0] = p at waits
  have byte0 : byteAt p 0 = mask.toNat := by rw [← payload]; rfl
  have byte1 : byteAt p 1 = b2n safe := by rw [← payload]; cases safe <;> rfl
  have mode : (b2n safe == 1) = safe := by cases safe <;> rfl
  have pass (m) : Claims.Pass [progClass { s.dev with mbx := m }, lenIs p 4, resv p [(2, 2)],
      (decide (1 < byteAt p 1), stBadParam)] := by
    have small : ¬ 1 < byteAt p 1 := by rw [byte1]; cases safe <;> decide
    rw [Claims.Pass, firstFail_eq_none]
    simp only [List.forall_mem_cons, small]
    subst payload
    exact ⟨progClass_passes master active free, rfl, rfl, rfl, by simp⟩
  obtain ⟨m, working, run⟩ := runCmd_begins command waits (Bool.and_false _) (fun _ => rfl) pass
  simp only [byte0, byte1, mode, reply, BitVec.ofNat_toNat, BitVec.setWidth_eq] at run
  exact ⟨{ s.dev with mbx := m }, rfl, working, run⟩

/-- Tasks that are STOPPED have nothing to stop. -/
theorem foldl_stopSelected_stopped (l : List Nat) (d : Dev) (stopped : ∀ t ∈ l, (d.task t).st = .stopped) :
    l.foldl (fun d t => stopSelected false t d) d = d := by
  induction l with
  | nil => rfl
  | cons t l ih =>
    obtain ⟨first, rest⟩ := List.forall_mem_cons.mp stopped
    have same : stopSelected false t d = d := by simp [stopSelected, first]
    rw [List.foldl_cons, same, ih rest]

/-- A task in a cycle takes note of the CYCLE_STOP (R180). -/
theorem stopSelected_execute {t : Nat} {d : Dev} (st : (d.task t).st = .execute) (safe : Bool) :
    stopSelected safe t d = modTask t (fun k => { k with stopReq := some safe }) d := by
  simp [stopSelected, st]

/-- A CYCLE_STOP that joins no other is answered at once where its tasks are STOPPED. -/
theorem stopAnswer_answers {d : Dev} {o : Origin} {mask : Byte} (noWaiter : d.prog.stopWaiters = [])
    (stopped : ∀ t < 8, mask.getLsbD t = true → (d.task t).st = .stopped) :
    stopAnswer (modProg (fun x => { x with stopWaiters := x.stopWaiters ++ [(o, mask)] }) d) =
      respond o stOk [] (modProg (fun x => { x with stopWaiters := [] }) d) := by
  have done : (List.range 8).all (fun t => !mask.getLsbD t || (d.task t).st == .stopped) = true := by
    rw [List.all_eq_true]
    intro t ht
    cases selected : mask.getLsbD t
    · rfl
    · simp [stopped t (List.mem_range.mp ht) selected]
  unfold Dev.task at done
  simp [stopAnswer, modProg, Dev.task, noWaiter, done]

/-- It waits where one of them is not. -/
theorem stopAnswer_waits {d : Dev} {o : Origin} {mask : Byte} (noWaiter : d.prog.stopWaiters = []) {t : Nat}
    (ht : t < 8) (selected : mask.getLsbD t = true) (runs : (d.task t).st ≠ .stopped) :
    stopAnswer (modProg (fun x => { x with stopWaiters := x.stopWaiters ++ [(o, mask)] }) d) =
      modProg (fun x => { x with stopWaiters := [(o, mask)] }) d := by
  have undone : (List.range 8).all (fun t => !mask.getLsbD t || (d.task t).st == .stopped) = false := by
    rw [List.all_eq_false]
    exact ⟨t, List.mem_range.mpr ht, by simp [selected, runs]⟩
  unfold Dev.task at undone
  simp [stopAnswer, modProg, Dev.task, noWaiter, undone]

theorem cycleStop_answers {s : State} {o : Origin} {mask : Byte} (waits : Waits s o 0x0302 [mask, 0, 0, 0])
    (master : s.dev.master = true) (active : s.dev.passive = false) (free : s.dev.stopped = false)
    (noWaiter : s.dev.prog.stopWaiters = [])
    (stopped : ∀ k < 8, mask.getLsbD k = true → (s.dev.task k).st = .stopped) :
    Goes (.cycleStop o) s fun u => Answers u o stOk [] ∧ u.dev.prog.tasks = s.dev.prog.tasks := by
  obtain ⟨d, prog, working, run⟩ := cycleStop_waits (safe := false) waits master active free
  have still : ∀ t < 8, mask.getLsbD t = true → (d.task t).st = .stopped := fun t ht selected => by
    rw [task_congr prog]
    exact stopped t ht selected
  rw [foldl_stopSelected_stopped _ _ fun t selected => ((mem_maskTasks _ _).mp selected).elim (still t),
    stopAnswer_answers (by rw [prog, noWaiter]) still] at run
  have begun := working_congr (e := modProg (fun x => { x with stopWaiters := [] }) d) working rfl
  refine goes_of_becomes run ⟨answers_respond begun stOk [], ?_⟩
  dsimp only
  rw [respond_prog, modProg_prog, prog]

/-- The mask of one task selects that task alone. -/
theorem maskTasks_one (k : Fin 8) : maskTasks (2 ^ k.val) = [k.val] := by
  revert k
  decide

theorem taskMask (k : Fin 8) : (BitVec.ofNat 8 (2 ^ k.val)).toNat = 2 ^ k.val := by
  revert k
  decide

theorem cycleStop_works {s : State} {o : Origin} {k : Fin 8} {mode : Bool}
    (waits : Waits s o 0x0302 [BitVec.ofNat 8 (2 ^ k.val), if mode then 1 else 0, 0, 0])
    (master : s.dev.master = true) (active : s.dev.passive = false) (free : s.dev.stopped = false)
    (noWaiter : s.dev.prog.stopWaiters = []) (st : (s.dev.task k).st = .execute) :
    Goes (.cycleStop o) s fun u =>
      Working u o ∧ (u.dev.task k).stopReq = some mode ∧ (u.dev.task k).st = .execute := by
  obtain ⟨d, prog, working, run⟩ := cycleStop_waits waits master active free
  rw [← task_congr prog] at st
  have task := task_modTask k (fun x => { x with stopReq := some mode }) d k.isLt
  have runs := (congrArg Task.st task).trans st
  have selected : (BitVec.ofNat 8 (2 ^ k.val)).getLsbD k = true := by
    rw [BitVec.getLsbD, taskMask, Nat.testBit_two_pow_self]
  rw [taskMask, maskTasks_one, List.foldl_cons, List.foldl_nil, stopSelected_execute st,
    stopAnswer_waits (by rw [modTask, modProg_prog, prog, noWaiter]) k.isLt selected
      (ne_of_eq_of_ne runs (by decide))] at run
  exact goes_of_becomes run ⟨working_congr working rfl, congrArg Task.stopReq task, runs⟩

/-! ## TASK_STATS -/

/-- What CLEAR does to the statistics of a task (R181). -/
def statsClear (t : Nat) (clear : Bool) (d : Dev) : Dev :=
  if clear then modStats t (fun x => { commits := x.commits }) d else d

theorem task_statsClear (k : Fin 8) (clear : Bool) (d : Dev) : (statsClear k clear d).task k =
    if clear then { d.task k with stats := { commits := (d.task k).stats.commits } } else d.task k := by
  cases clear
  · rfl
  · exact task_modStats k (fun x => { commits := x.commits }) d k.isLt

theorem taskStats_answers {s : State} {o : Origin} {k : Fin 8} {clear : Bool}
    (waits : Waits s o 0x0303 [BitVec.ofNat 8 k.val, if clear then 1 else 0, 0, 0])
    (master : s.dev.master = true) (active : s.dev.passive = false) (free : s.dev.stopped = false) :
    Goes (.taskStats o) s fun u => Answers u o stOk (statsBytes (s.dev.task k)) ∧
      u.dev.task k = (statsClear k clear s.dev).task k := by
  have command : exec (.taskStats o) s = execTaskStats o s := rfl
  generalize payload : [BitVec.ofNat 8 k.val, if clear then 1 else 0, 0, 0] = p at waits
  have task : byteAt p 0 = k := by rw [← payload]; exact taskByte k
  have flag : byteAt p 1 = b2n clear := by rw [← payload]; cases clear <;> rfl
  have bit : (byteAt p 1).testBit 0 = clear := by rw [flag]; cases clear <;> rfl
  have pass (m) : Claims.Pass [progClass { s.dev with mbx := m }, lenIs p 4, resv p [(2, 2)],
      (byteAt p 1 / 2 != 0, stBadParam), (decide (7 < byteAt p 0), stRange)] := by
    have small : byteAt p 1 / 2 = 0 := by rw [flag]; cases clear <;> rfl
    rw [Claims.Pass, firstFail_eq_none]
    simp only [List.forall_mem_cons, task, small]
    subst payload
    exact ⟨progClass_passes master active free, rfl, rfl, rfl, decide_eq_false (by omega), by simp⟩
  refine goes_answers (P := fun d => d.task k = (statsClear k clear s.dev).task k) command waits (Bool.and_false _)
    (fun _ => rfl) pass fun m => ⟨statsClear k clear { s.dev with mbx := m }, ?acts, ?kept, fun m' => ?holds⟩
  case acts =>
    show (statsClear (byteAt p 0) ((byteAt p 1).testBit 0) _, Reply.ok (statsBytes (s.dev.task (byteAt p 0)))) = _
    rw [task, bit]
  case kept => cases clear <;> rfl
  case holds => cases clear <;> rfl

/-! ## INPUT_POLICY -/

theorem partner_modPIn (el k : Nat) (f : PInput → PInput) (d : Dev) :
    (modPIn el f d).partner k = if el = k then f (d.partner k) else d.partner k := by
  simp only [Dev.partner, modPIn, modProg_prog, mget_mput]
  split
  · next same => rw [same, Option.getD_some]
  · rfl

/-- The policies of a list of entries staged, each for its element. -/
def stagePolicies (l : List (Nat × Policy)) (d : Dev) : Dev :=
  l.foldl (fun d e => modPIn e.1 (fun x => { x with staged := some e.2 }) d) d

theorem partner_stagePolicies_other (l : List (Nat × Policy)) (d : Dev) (k : Nat) (h : k ∉ l.map (·.1)) :
    (stagePolicies l d).partner k = d.partner k := by
  induction l generalizing d with
  | nil => rfl
  | cons e l ih =>
    rw [List.map_cons, List.mem_cons, not_or] at h
    exact (ih _ h.2).trans ((partner_modPIn ..).trans (if_neg (Ne.symm h.1)))

/-- An entry changes of its element the staged policy alone (R182). -/
theorem partner_stagePolicies (l : List (Nat × Policy)) (nodup : (l.map (·.1)).Nodup) (d : Dev) (e : Nat × Policy)
    (he : e ∈ l) : (stagePolicies l d).partner e.1 = { d.partner e.1 with staged := some e.2 } := by
  induction l generalizing d with
  | nil => exact absurd he List.not_mem_nil
  | cons x l ih =>
    rw [List.map_cons, List.nodup_cons] at nodup
    obtain ⟨new, nodup⟩ := nodup
    obtain rfl | later := List.mem_cons.mp he
    · exact (partner_stagePolicies_other l _ _ new).trans ((partner_modPIn ..).trans (if_pos rfl))
    · have other : x.1 ≠ e.1 := fun same => new (same ▸ List.mem_map_of_mem later)
      have first : (modPIn x.1 (fun y => { y with staged := some x.2 }) d).partner e.1 = d.partner e.1 :=
        (partner_modPIn ..).trans (if_neg other)
      exact (ih nodup _ later).trans (by rw [first])

theorem stagePolicies_mbx (l : List (Nat × Policy)) (d : Dev) : (stagePolicies l d).mbx = d.mbx :=
  foldl_proj Dev.mbx _ (fun _ _ => by rfl) l d

theorem inputPolicy_answers {s : State} {o : Origin} {p : Bytes} (waits : Waits s o 0x0304 p)
    (pass : Claims.Pass (policyTests s.dev p)) (nodup : ((policyEntries p).map (·.1)).Nodup) :
    Goes (.inputPolicy o) s fun u => Answers u o stOk [] ∧ ∀ e ∈ policyEntries p,
      (u.dev.partner e.1).staged = some e.2 ∧ (u.dev.partner e.1).policy = (s.dev.partner e.1).policy := by
  have command : exec (.inputPolicy o) s = execInputPolicy o s := rfl
  refine goes_answers (P := fun d => ∀ e ∈ policyEntries p,
      (d.partner e.1).staged = some e.2 ∧ (d.partner e.1).policy = (s.dev.partner e.1).policy) command waits
    (Bool.and_false _) (fun _ => rfl) (fun _ => pass) fun m =>
      ⟨_, rfl, (forward_mbx _ _ _).trans (stagePolicies_mbx _ _), fun m' e he => ?_⟩
  have staged := partner_stagePolicies (policyEntries p) nodup { s.dev with mbx := m } e he
  have forwarded : Dev.partner { forward 0x0304 p (policyApply p { s.dev with mbx := m }) with mbx := m' } e.1 =
      (stagePolicies (policyEntries p) { s.dev with mbx := m }).partner e.1 :=
    congrArg (fun x : Prog => (mget x.partnerIn e.1).getD {}) (forward_prog _ _ _)
  rw [forwarded, staged]
  exact ⟨rfl, rfl⟩

/-! ## The commands of tasks -/

/-- Settles O23, one command at a time. -/
theorem taskCommands : Obligations.TaskCommands := by
  unfold Obligations.TaskCommands
  intro s o p
  refine ⟨taskConfig_answers, fun b waits pass => ?start,
    fun mask waits master active free => cycleStop_answers waits master active free,
    fun k mode waits master active free => cycleStop_works waits master active free,
    fun k clear waits master active free => ?stats, inputPolicy_answers⟩
  case start =>
    obtain ⟨t, run, answer, tasks⟩ := cycleStart_answers waits pass
    refine ⟨t, run, ?_, fun k => ⟨fun selected => ?_, fun other => ?_⟩⟩
    · have instants : startAnswer (byteAt p 0) s.dev = (List.range 8).flatMap fun k =>
          leBytes 8 (if (byteAt p 0).testBit k then (t.dev.task k).firstT0 else 0) := by
        refine List.flatMap_congr fun k hk => ?_
        have task := tasks ⟨k, List.mem_range.mp hk⟩
        by_cases selected : (byteAt p 0).testBit k = true
        · rw [if_pos selected] at task ⊢
          rw [if_pos selected, task]
          rfl
        · rw [if_neg selected, if_neg selected]
      exact instants ▸ answer
    · have task := (tasks k).trans (if_pos selected)
      rw [task]
      exact ⟨rfl, fun period => ⟨firstInstant_ahead k s.dev period, firstInstant_instant k s.dev⟩⟩
    · exact (tasks k).trans (if_neg (by simp [other]))
  case stats =>
    obtain ⟨t, run, answer, task⟩ := taskStats_answers waits master active free
    rw [task_statsClear] at task
    refine ⟨t, run, answer, ?_, fun cleared => ?_, fun kept => ?_⟩
    · rw [task]
      cases clear <;> rfl
    · rw [task, if_pos cleared]
    · rw [task, kept]
      rfl

end Sys2Proof.Machine
end

section
/-!
PROOF. The commands of values, forces, reports and staged records (R212, R214, R223 to R227): what each makes of the
program's part, and for WRITE_VALUES the values that its application leaves.
-/

namespace Sys2Proof.Machine

open Sys2Proof Sys2Proof.Claims

/-! ## WRITE_VALUES -/

section
variable {α β : Type} (key : α → Nat) (val : α → β)

theorem mget_mputs_other (l : List α) (m : Map β) (k : Nat) (other : ∀ x ∈ l, key x ≠ k) :
    mget (l.foldl (fun m x => mput m (key x) (val x)) m) k = mget m k := by
  induction l generalizing m with
  | nil => rfl
  | cons x l ih =>
    obtain ⟨first, rest⟩ := List.forall_mem_cons.mp other
    rw [List.foldl_cons, ih _ rest, mget_mput, if_neg first]

/-- An entry that is alone in naming its key leaves its value there. -/
theorem mget_mputs_once (l : List α) (m : Map β) (e : α) (he : e ∈ l)
    (once : (l.filter fun x => key x == key e).length = 1) :
    mget (l.foldl (fun m x => mput m (key x) (val x)) m) (key e) = some (val e) := by
  induction l generalizing m with
  | nil => cases he
  | cons x l ih =>
    rw [List.foldl_cons]
    by_cases same : key x = key e
    · rw [List.filter_cons_of_pos (by simp [same]), List.length_cons, Nat.add_eq_right, List.length_eq_zero_iff,
        List.filter_eq_nil_iff] at once
      have others : ∀ y ∈ l, key y ≠ key e := fun y hy same => once y hy (by simp [same])
      obtain rfl := (List.mem_cons.mp he).resolve_right fun later => others e later rfl
      rw [mget_mputs_other key val l _ _ others, mget_mput, if_pos rfl]
    · rw [List.filter_cons_of_neg (by simp [same])] at once
      exact ih _ ((List.mem_cons.mp he).resolve_left fun h => same (h ▸ rfl)) once

end

theorem writeValues_works {s : State} {o : Origin} {p : Bytes} (waits : Waits s o 0x0203 p)
    (pass : Claims.Pass (writeTests s.dev p)) :
    Goes (.writeValues o) s fun u => Working u o ∧ u.dev.prog.vals = s.dev.prog.vals ∧
      u.dev.prog.writePend = some ⟨byteAt p 0, writeEntries p, some o, false⟩ := by
  have command : exec (.writeValues o) s = execWriteValues o s := rfl
  obtain ⟨m, working, run⟩ := runCmd_begins command waits (Bool.and_false _) (fun _ => rfl) fun _ => pass
  exact goes_of_becomes run ⟨working_congr working rfl, rfl, rfl⟩

/-- An entry of WRITE_VALUES as the tagged value of its element (R212). -/
def writtenVal (im : Image) (seq : Byte) (e : Nat × Nat × Byte × Word) : TV :=
  mkTV (im.idOf e.1 e.2.1) e.2.2.2 e.2.2.1 seq

/-- The values of a device with the entries of WRITE_VALUES written. -/
def Dev.writtenVals (d : Dev) (w : WritePend) : Map TV :=
  w.entries.foldl (fun m e => mput m (ekey e.1 e.2.1)
    (writtenVal (d.prog.image.getD {}) ((d.task w.task).counter.setWidth 8) e)) d.prog.vals

/-- The application writes the entries and leaves nothing pending; of the program's part it changes no more. -/
theorem writeValuesApply_prog {s : State} {w : WritePend} (pend : s.dev.prog.writePend = some w)
    (now : w.due = true ∨ (s.dev.task w.task).st = .stopped) :
    Goes .writeValuesApply s fun u =>
      u.dev.prog = { s.dev.prog with vals := s.dev.writtenVals w, writePend := none } := by
  have row : exec .writeValuesApply s = execWriteValuesApply s := rfl
  have go : (!w.due && !!(s.dev.task w.task).st.running) = false := by
    obtain due | stopped := now
    · rw [due]; rfl
    · rw [stopped]; exact Bool.and_false _
  rw [execWriteValuesApply, nextD, pend] at row
  dsimp only at row
  rw [go, if_neg Bool.false_ne_true] at row
  have responded (x : Waiter) (st : Half) (p : Bytes) (d : Dev) : (respondTo x st p d).prog = d.prog := by
    cases x with
    | none => rfl
    | some o => exact respond_prog o st p d
  refine ⟨_, row, (responded ..).trans (congrArg (fun p : Prog => { p with writePend := none }) (foldl_vals _
    (fun m e => mput m (ekey e.1 e.2.1) (writtenVal (s.dev.prog.image.getD {}) _ e)) (fun d e => ?_) w.entries s.dev))⟩
  obtain ⟨space, element, quality, value⟩ := e
  dsimp only
  split
  · next k => subst k; rfl
  · rfl

theorem writeValuesApply_writes {s : State} {w : WritePend} (pend : s.dev.prog.writePend = some w)
    (now : w.due = true ∨ (s.dev.task w.task).st = .stopped) :
    Goes .writeValuesApply s fun u => u.dev.prog.writePend = none ∧
      ∀ e ∈ w.entries, (w.entries.filter fun x => ekey x.1 x.2.1 == ekey e.1 e.2.1).length = 1 →
        ∃ v, mget u.dev.prog.vals (ekey e.1 e.2.1) = some v ∧ v.value = e.2.2.2 ∧ v.quality = e.2.2.1 ∧
          v.seq = (s.dev.task w.task).counter.setWidth 8 := by
  obtain ⟨u, run, prog⟩ := writeValuesApply_prog pend now
  refine ⟨u, run, by rw [prog], fun e he once => ?_⟩
  have written := mget_mputs_once (fun e : Nat × Nat × Byte × Word => ekey e.1 e.2.1)
    (writtenVal (s.dev.prog.image.getD {}) ((s.dev.task w.task).counter.setWidth 8)) w.entries s.dev.prog.vals e he once
  rw [prog]
  exact ⟨_, written, rfl, rfl, rfl⟩

/-! ## READ_VALUES -/

theorem readValues_answers {s : State} {o : Origin} {sp : Byte} {el : Half}
    (waits : Waits s o 0x0204 ([1, 0, 0, 0] ++ [sp, 0] ++ leBytes 2 el.toNat)) (master : s.dev.master = true)
    (space : sp.toNat ∈ [1, 2, 6, 7]) (range : el.toNat < (s.dev.prog.image.getD {}).sizeOf sp.toNat) :
    Goes (.readValues o) s fun u =>
      Answers u o stOk (leBytes 8 s.dev.tick ++ tvBytes (mgetD s.dev.prog.vals (ekey sp.toNat el.toNat) {})) ∧
        u.dev.prog = s.dev.prog := by
  have command : exec (.readValues o) s = execReadValues o s := rfl
  generalize payload : [1, 0, 0, 0] ++ [sp, 0] ++ leBytes 2 el.toNat = p at waits
  have length : p.length = 8 := by rw [← payload]; rfl
  have count : getLe p 0 2 = 1 := by rw [← payload]; rfl
  have entries : readEntries p = [(sp.toNat, el.toNat)] := by
    have element : getLe p 6 2 = el.toNat := by
      rw [← payload]
      exact (fromLe_leBytes 2 el.toNat).trans (Nat.mod_eq_of_lt el.isLt)
    have first : byteAt p 4 = sp.toNat := by rw [← payload]; rfl
    simp [readEntries, count, element, first]
  have notI : (sp.toNat != spI) = true := by
    simp only [List.mem_cons, List.not_mem_nil, or_false] at space
    simp [spI]; omega
  refine goes_answers (P := fun d => d.prog = s.dev.prog) command waits (Bool.and_false _) (fun _ => rfl) (fun m => ?pass)
    fun m => ⟨{ s.dev with mbx := m }, ?acts, rfl, fun _ => rfl⟩
  case pass =>
    rw [Claims.Pass, firstFail_eq_none]
    simp only [List.forall_mem_cons, entries, count, length]
    refine ⟨by simp [Dev.master] at master ⊢; exact master, rfl, ?_, rfl, ?_, ?_, by simp⟩
    · rw [← payload]; rfl
    · simp only [List.mem_cons, List.not_mem_nil, or_false] at space
      rcases space with h | h | h | h <;> rw [h] <;> rfl
    · simpa using range
  case acts =>
    dsimp only
    rw [entries, List.foldl_cons, List.foldl_nil]
    simp [readOne, notI]

/-! ## FORCE -/

theorem force_answers {s : State} {o : Origin} {p : Bytes} (waits : Waits s o 0x0205 p)
    (pass : Claims.Pass (forceTests s.dev p)) :
    Goes (.force o) s fun u =>
      u.dev.prog.forces = (forceEntries p).foldl forceStep s.dev.prog.forces ∧ u.dev.prog.forces.length ≤ 256 ∧
      Answers u o stOk (leBytes 2 u.dev.prog.forces.length ++ zeros 2) := by
  have command : exec (.force o) s = execForce o s := rfl
  have room := (firstFail_eq_none _).mp pass
    (decide (256 < ((forceEntries p).foldl forceStep s.dev.prog.forces).length), stRange) (by simp [forceTests])
  rw [decide_eq_false_iff_not, Nat.not_lt] at room
  obtain ⟨u, run, answer, forces⟩ := goes_answers
    (P := fun d => d.prog.forces = (forceEntries p).foldl forceStep s.dev.prog.forces)
    (q := leBytes 2 ((forceEntries p).foldl forceStep s.dev.prog.forces).length ++ zeros 2) command waits
    (Bool.and_false _) (fun _ => rfl) (fun _ => pass) fun m =>
      ⟨modProg (fun x => { x with forces := (forceEntries p).foldl forceStep x.forces }) { s.dev with mbx := m },
        rfl, rfl, fun _ => rfl⟩
  exact ⟨u, run, forces, forces ▸ room, forces ▸ answer⟩

/-! ## PLACEMENT_REPORT -/

theorem placementReport_answers {s : State} {o : Origin} (waits : Waits s o 0x0206 [0, 0, 0, 0])
    (master : s.dev.master = true) :
    Goes (.placementReport o) s fun u => Answers u o stOk (reportSummary s.dev) ∧ u.dev.prog = s.dev.prog := by
  have command : exec (.placementReport o) s = execPlacementReport o s := rfl
  refine goes_answers (P := fun d => d.prog = s.dev.prog) command waits (Bool.and_false _) (fun _ => rfl) (fun m => ?_)
    fun m => ⟨_, rfl, rfl, fun _ => rfl⟩
  have master' : Dev.master { s.dev with mbx := m } = true := master
  rw [master']
  rfl

/-! ## STAGE_CONFIG -/

theorem stageConfig_discards {s : State} {o : Origin} (waits : Waits s o 0x0208 [2, 0, 0, 0, 0, 0, 0, 0])
    (pass : Claims.Pass (stageTests s.dev [2, 0, 0, 0, 0, 0, 0, 0])) :
    Goes (.stageConfig o) s fun u => u.dev.prog.stagedRecs = [] ∧ Answers u o stOk (zeros 4) := by
  have command : exec (.stageConfig o) s = execStageConfig o s := rfl
  obtain ⟨u, run, answer, dropped⟩ := goes_answers (P := fun d => d.prog.stagedRecs = []) (q := zeros 4) command waits
    (Bool.and_false _) (fun _ => rfl) (fun _ => pass) fun m => ⟨_, rfl, rfl, fun _ => rfl⟩
  exact ⟨u, run, dropped, answer⟩

theorem stageConfig_stages {s : State} {o : Origin} {p : Bytes} (waits : Waits s o 0x0208 p)
    (pass : Claims.Pass (stageTests s.dev p)) (write : byteAt p 0 = 0) :
    Goes (.stageConfig o) s fun u =>
      u.dev.prog.vals = s.dev.prog.vals ∧ u.dev.prog.stagedRecs = stageRecord p s.dev.prog.stagedRecs ∧
      Answers u o stOk (leBytes 1 u.dev.prog.stagedRecs.length ++ zeros 3) := by
  have command : exec (.stageConfig o) s = execStageConfig o s := rfl
  obtain ⟨u, run, answer, vals, staged⟩ := goes_answers
    (P := fun d => d.prog.vals = s.dev.prog.vals ∧ d.prog.stagedRecs = stageRecord p s.dev.prog.stagedRecs)
    (q := leBytes 1 (stageRecord p s.dev.prog.stagedRecs).length ++ zeros 3) command waits (Bool.and_false _)
    (fun _ => rfl) (fun _ => pass) fun m =>
      ⟨modProg (fun x => { x with stagedRecs := stageRecord p x.stagedRecs }) { s.dev with mbx := m },
        by rw [write]; rfl, rfl, fun _ => ⟨rfl, rfl⟩⟩
  exact ⟨u, run, vals, staged, staged ▸ answer⟩

/-- Settles O27, one command at a time. -/
theorem valueCommands : Obligations.ValueCommands := by
  unfold Obligations.ValueCommands
  intro s o p
  exact ⟨writeValues_works, fun w => writeValuesApply_writes, fun sp el => readValues_answers, force_answers,
    placementReport_answers, stageConfig_discards, stageConfig_stages⟩

end Sys2Proof.Machine
end

section
/-!
PROOF. Frames (R5): what a command leaves as it is. `Writes ps d e` says that at most the parts ps differ between two
devices; one lemma per operation says which parts it may write, and its proof follows the operation's definition from the
last step to the first.
-/

namespace Sys2Proof.Machine

open Sys2Proof Sys2Proof.Claims

/-! ## Parts of two states -/

/-- The rest of the program, field by field. -/
theorem same_restOfProgram {s t : State} : Part.restOfProgram.same s t ↔
    t.dev.prog.origin = s.dev.prog.origin ∧ t.dev.prog.writePend = s.dev.prog.writePend ∧
    t.dev.prog.stagedRecs = s.dev.prog.stagedRecs ∧ t.dev.prog.recCommitWaiter = s.dev.prog.recCommitWaiter ∧
    t.dev.prog.mig = s.dev.prog.mig ∧ t.dev.prog.migQueue = s.dev.prog.migQueue ∧
    t.dev.prog.swap = s.dev.prog.swap ∧ t.dev.prog.report = s.dev.prog.report ∧
    t.dev.prog.speed = s.dev.prog.speed ∧ t.dev.prog.stopWaiters = s.dev.prog.stopWaiters ∧
    t.dev.prog.partnerStale = s.dev.prog.partnerStale ∧ t.dev.prog.reaction = s.dev.prog.reaction := by
  obtain ⟨⟨_, _, _, _, ⟨⟩⟩⟩ := t
  simp only [Part.same, Prog.mk.injEq, true_and]

theorem same_refl (p : Part) (s : State) : p.same s s := by
  cases p with
  | restOfProgram | journals | inputs | program | store | frames => simp [Part.same]
  | _ => exact rfl

theorem same_trans {p : Part} {s t u : State} (h : p.same s t) (h' : p.same t u) : p.same s u := by
  cases p with
  | restOfProgram => rw [same_restOfProgram] at *; grind
  | journals | inputs | program | store | frames => simp only [Part.same] at *; grind
  | _ => exact Eq.trans h' h

theorem same_symm {p : Part} {s t : State} (h : p.same s t) : p.same t s := by
  cases p with
  | restOfProgram => rw [same_restOfProgram] at *; grind
  | journals | inputs | program | store | frames => simp only [Part.same] at *; grind
  | _ => exact Eq.symm h

/-- From a device to another, at most the parts listed have been written. -/
def Writes (ps : List Part) (d e : Dev) : Prop := ∀ p, p ∉ ps → p.same { dev := d } { dev := e }

section
variable {ps ws : List Part} {d e f : Dev}

theorem Writes.refl : Writes ps d d := fun p _ => same_refl p _

theorem Writes.trans (h : Writes ps d e) (h' : Writes ps e f) : Writes ps d f :=
  fun p hp => same_trans (h p hp) (h' p hp)

theorem Writes.symm (h : Writes ps d e) : Writes ps e d := fun p hp => same_symm (h p hp)

/-- A step that writes no more than the parts listed. -/
theorem Writes.then (h : Writes ps d e) (hs : ws ⊆ ps) (h' : Writes ws e f) : Writes ps d f :=
  h.trans fun p hp => h' p fun hw => hp (hs hw)

theorem Writes.ite {c : Prop} [Decidable c] (h : Writes ps d e) (h' : Writes ps d f) :
    Writes ps d (if c then e else f) := by
  split
  · exact h
  · exact h'

/-- A step that is taken under a condition. -/
theorem Writes.when {c : Prop} [Decidable c] (step : Writes ps e f) (h : Writes ps d e) :
    Writes ps d (if c then f else e) :=
  .ite (h.trans step) h

/-- A step that is left out under a condition. -/
theorem Writes.unless {c : Prop} [Decidable c] (step : Writes ps e f) (h : Writes ps d e) :
    Writes ps d (if c then e else f) :=
  .ite h (h.trans step)

theorem Writes.foldl {α : Type} {l : List α} {g : Dev → α → Dev} (h : Writes ps d e)
    (step : ∀ d a, Writes ps d (g d a)) : Writes ps d (l.foldl g e) :=
  List.foldlRecOn l g (motive := Writes ps d) h fun _ hd a _ => hd.trans (step _ a)

theorem Writes.foldl_fst {α β : Type} {l : List α} {g : Dev × β → α → Dev × β} {a : Dev × β} (h : Writes ps d a.1)
    (step : ∀ b x, Writes ps b.1 (g b x).1) : Writes ps d (l.foldl g a).1 :=
  List.foldlRecOn l g (motive := fun b => Writes ps d b.1) h fun _ hd x _ => hd.trans (step _ x)

theorem Writes.foldl_snd {α β : Type} {l : List α} {g : β × Dev → α → β × Dev} {a : β × Dev} (h : Writes ps d a.2)
    (step : ∀ b x, Writes ps b.2 (g b x).2) : Writes ps d (l.foldl g a).2 :=
  List.foldlRecOn l g (motive := fun b => Writes ps d b.2) h fun _ hd x _ => hd.trans (step _ x)

/-! ## One part written -/

/-- A step that leaves alike every part but one. -/
theorem Writes.part (h : Writes ps d e) {w : Part} (hs : w ∈ ps)
    (h' : ∀ p, p ≠ w → p.same { dev := e } { dev := f }) : Writes ps d f :=
  h.trans fun p hp => h' p fun same => hp (same ▸ hs)

theorem Writes.setSys {x} (h : Writes ps d e) (hs : .sys ∈ ps := by decide) : Writes ps d { e with sys := x } :=
  h.part hs fun p hp => by cases p <;> simp_all [Part.same]

theorem Writes.setMbx {x} (h : Writes ps d e) (hs : .mailbox ∈ ps := by decide) : Writes ps d { e with mbx := x } :=
  h.part hs fun p hp => by cases p <;> simp_all [Part.same]

theorem Writes.setEvt {x} (h : Writes ps d e) (hs : .events ∈ ps := by decide) : Writes ps d { e with evt := x } :=
  h.part hs fun p hp => by cases p <;> simp_all [Part.same]

theorem Writes.setHost {x} (h : Writes ps d e) (hs : .host ∈ ps := by decide) : Writes ps d { e with host := x } :=
  h.part hs fun p hp => by cases p <;> simp_all [Part.same]

theorem Writes.setLoops {x} (h : Writes ps d e) (hs : .loops ∈ ps := by decide) : Writes ps d { e with loops := x } :=
  h.part hs fun p hp => by cases p <;> simp_all [Part.same]

theorem Writes.setDig {x} (h : Writes ps d e) (hs : .digital ∈ ps := by decide) : Writes ps d { e with dig := x } :=
  h.part hs fun p hp => by cases p <;> simp_all [Part.same]

theorem Writes.setAna {x} (h : Writes ps d e) (hs : .analog ∈ ps := by decide) : Writes ps d { e with ana := x } :=
  h.part hs fun p hp => by cases p <;> simp_all [Part.same]

theorem Writes.setNet {x} (h : Writes ps d e) (hs : .network ∈ ps := by decide) : Writes ps d { e with net := x } :=
  h.part hs fun p hp => by cases p <;> simp_all [Part.same]

theorem Writes.setSer {x} (h : Writes ps d e) (hs : .serial ∈ ps := by decide) : Writes ps d { e with ser := x } :=
  h.part hs fun p hp => by cases p <;> simp_all [Part.same]

theorem Writes.setGl {x} (h : Writes ps d e) (hs : .gligil ∈ ps := by decide) : Writes ps d { e with gl := x } :=
  h.part hs fun p hp => by cases p <;> simp_all [Part.same]

theorem Writes.setRed {x} (h : Writes ps d e) (hs : .pair ∈ ps := by decide) : Writes ps d { e with red := x } :=
  h.part hs fun p hp => by cases p <;> simp_all [Part.same]

theorem Writes.setInteg {x} (h : Writes ps d e) (hs : .integrity ∈ ps := by decide) : Writes ps d { e with integ := x } :=
  h.part hs fun p hp => by cases p <;> simp_all [Part.same]

theorem Writes.setRtc {x} (h : Writes ps d e) (hs : .rtc ∈ ps := by decide) : Writes ps d { e with rtc := x } :=
  h.part hs fun p hp => by cases p <;> simp_all [Part.same]

theorem Writes.setHist {x} (h : Writes ps d e) (hs : .history ∈ ps := by decide) : Writes ps d { e with hist := x } :=
  h.part hs fun p hp => by cases p <;> simp_all [Part.same]

theorem Writes.setPanel {x} (h : Writes ps d e) (hs : .panel ∈ ps := by decide) : Writes ps d { e with panel := x } :=
  h.part hs fun p hp => by cases p <;> simp_all [Part.same]

theorem Writes.setOtp {x} (h : Writes ps d e) (hs : .otp ∈ ps := by decide) : Writes ps d { e with otp := x } :=
  h.part hs fun p hp => by cases p <;> simp_all [Part.same]

theorem Writes.setPwr {x} (h : Writes ps d e) (hs : .power ∈ ps := by decide) : Writes ps d { e with pwr := x } :=
  h.part hs fun p hp => by cases p <;> simp_all [Part.same]

theorem Writes.setTick {x} (h : Writes ps d e) (hs : .tick ∈ ps := by decide) : Writes ps d { e with tick := x } :=
  h.part hs fun p hp => by cases p <;> simp_all [Part.same]

theorem Writes.setOut {x} (h : Writes ps d e) (hs : .sent ∈ ps := by decide) : Writes ps d { e with out := x } :=
  h.part hs fun p hp => by cases p <;> simp_all [Part.same]

/-- The model's count of free values is no part. -/
theorem Writes.setFree {x} (h : Writes ps d e) : Writes ps d { e with free := x } :=
  h.trans fun p _ => by cases p <;> simp [Part.same]

end

/-! ## One part of the program written -/

/-- The program with one of its parts forgotten: what a change of that part leaves alike. -/
def Prog.but (w : Part) (x : Prog) : Prog :=
  match w with
  | .tasks => { x with tasks := Vector.replicate 8 {} }
  | .cells => { x with cells := Vector.replicate 256 {} }
  | .values => { x with vals := [] }
  | .journals => { x with timers := [], counters := [], edges := [] }
  | .inputs => { x with partnerIn := [], fieldIn := [] }
  | .forces => { x with forces := [] }
  | .program => { x with
      image := none, activeSlot := false, slots := Vector.replicate 2 {}, map := none, load := {}, checking := none }
  | .restOfProgram => { x with
      origin := 0, writePend := none, stagedRecs := [], recCommitWaiter := none, mig := {}, migQueue := [],
      swap := {}, report := {}, speed := Vector.replicate 32 {}, stopWaiters := [], partnerStale := [],
      reaction := 0 }
  | _ => x

theorem Prog.but_same {w : Part} {d : Dev} {x : Prog} (only : x.but w = d.prog.but w) (p : Part) (hp : p ≠ w) :
    p.same { dev := d } { dev := { d with prog := x } } := by
  cases w with
  | tasks | cells | values | journals | inputs | forces | program | restOfProgram =>
    simp only [Prog.but, Prog.mk.injEq] at only
    cases p with
    | restOfProgram => rw [same_restOfProgram]; simp_all
    | _ => simp_all [Part.same]
  | _ =>
    obtain rfl : x = d.prog := only
    exact same_refl p _

theorem Writes.modProg {ps : List Part} {d e : Dev} {g : Prog → Prog} (w : Part) (h : Writes ps d e)
    (hs : w ∈ ps := by decide) (only : ∀ x, (g x).but w = x.but w := by intro; rfl) :
    Writes ps d (modProg g e) :=
  h.part hs (Prog.but_same (only e.prog))

/-! ## Several parts of the program written -/

/-- The program with several of its parts forgotten. -/
def Prog.butAll (ws : List Part) (x : Prog) : Prog := ws.foldr Prog.but x

theorem Writes.but {w : Part} {d : Dev} : Writes [w] d { d with prog := d.prog.but w } :=
  .part .refl List.mem_cons_self (Prog.but_same (by cases w <;> rfl))

theorem Writes.butAll (ws : List Part) {d : Dev} : Writes ws d { d with prog := d.prog.butAll ws } := by
  induction ws with
  | nil => exact .refl
  | cons w ws ih =>
    have forgotten : Writes (w :: ws) d { d with prog := d.prog.butAll ws } := .then .refl (List.subset_cons_self _ _) ih
    exact forgotten.then (List.cons_subset_cons w (List.nil_subset _)) .but

theorem Writes.modProgs {ps : List Part} {d e : Dev} {g : Prog → Prog} (ws : List Part) (h : Writes ps d e)
    (hs : ws ⊆ ps := by decide) (only : ∀ x, (g x).butAll ws = x.butAll ws := by intro; rfl) :
    Writes ps d (Machine.modProg g e) :=
  h.then hs (.trans (.butAll ws) (only e.prog ▸ (Writes.butAll ws (d := Machine.modProg g e)).symm))

theorem Writes.setProg {ps : List Part} {d e : Dev} {x : Prog} (h : Writes ps d e)
    (hs : [.tasks, .cells, .values, .journals, .inputs, .forces, .program, .restOfProgram] ⊆ ps := by decide) :
    Writes ps d { e with prog := x } :=
  h.then hs fun p hp => by cases p <;> simp_all [Part.same]

/-! ## What keeps its parts -/

section
variable {ps : List Part} {d e : Dev}

/-- The parts of the program. -/
def progParts : List Part :=
  [.tasks, .cells, .values, .journals, .inputs, .forces, .program, .restOfProgram]

theorem Writes.prog (h : Writes ps d e) (none : ∀ p ∈ progParts, p ∉ ps := by decide) : e.prog = d.prog := by
  have same (p : Part) (hp : p ∈ progParts) := h p (none p hp)
  simp only [progParts, List.forall_mem_cons] at same
  obtain ⟨tasks, cells, values, ⟨timers, counters, edges⟩, ⟨partners, fields⟩, forces,
    ⟨image, slot, slots, map, load, checking⟩, rest, -⟩ := same
  dsimp only [Part.same] at *
  rw [rest, tasks, cells, values, timers, counters, edges, partners, fields, forces, image, slot, slots, map, load,
    checking]

end

end Sys2Proof.Machine
end

section
/-!
PROOF. Frames: the operations that the families share, the mailboxes, messages and the field channels.
-/

namespace Sys2Proof.Machine

open Sys2Proof Sys2Proof.Claims

section
variable {ps : List Part} {d e : Dev}

/-! ### Machine/Ops -/

theorem Writes.countCheck {p} (h : Writes ps d e) (hs : .sys ∈ ps := by decide) : Writes ps d (countCheck p e) :=
  .setSys h hs

theorem Writes.freshNat (h : Writes ps d e) : Writes ps d (freshNat e).2 := .setFree h

theorem Writes.freshInt (h : Writes ps d e) : Writes ps d (freshInt e).2 := .setFree h

theorem Writes.freshBool (h : Writes ps d e) : Writes ps d (freshBool e).2 := .setFree h

theorem Writes.emit {o} (h : Writes ps d e) (hs : .sent ∈ ps := by decide) : Writes ps d (emit o e) := .setOut h hs

theorem Writes.emitAll {l} (h : Writes ps d e) (hs : .sent ∈ ps := by decide) : Writes ps d (emitAll l e) :=
  .setOut h hs

theorem Writes.updInt (h : Writes ps d e) (hs : .events ∈ ps := by decide) : Writes ps d (updInt e) := .setEvt h hs

theorem Writes.msixSend {n} (h : Writes ps d e) (hs : [.host, .sent] ⊆ ps := by decide) :
    Writes ps d (msixSend n e) :=
  h.then hs (.ite (.emit .refl) (.setHost .refl))

theorem Writes.markDirty {n} (h : Writes ps d e) (hs : .history ∈ ps := by decide) : Writes ps d (markDirty n e) :=
  .ite h (.setHist h hs)

theorem Writes.logOccurrence {n x} (h : Writes ps d e) (hs : [.history] ⊆ ps := by decide) :
    Writes ps d (logOccurrence n x e) := by
  refine h.then hs ?_
  have appended (d : Dev) (log : LogEntry) (a b : Nat) : Writes [.history] d (if d.hist.log.length < 4096 then
      Machine.markDirty a (Machine.markDirty b { d with hist := { d.hist with log := d.hist.log ++ [log] } })
      else Machine.markDirty a { d with hist := { d.hist with dropped := satInc d.hist.dropped } }) :=
    .ite (.markDirty (.markDirty (.setHist .refl))) (.markDirty (.setHist .refl))
  unfold Machine.logOccurrence
  dsimp only
  split
  · exact appended _ _ _ _
  · exact .ite (.markDirty (.setHist .refl)) (appended _ _ _ _)

theorem Writes.raise1 {n x} (h : Writes ps d e) (hs : raised ⊆ ps := by decide) : Writes ps d (raise1 n x e) :=
  h.then hs (.when (.logOccurrence .refl) (.when (.setEvt .refl) (.updInt (.when (.msixSend .refl) (.setEvt .refl)))))

theorem Writes.raise {v x} (h : Writes ps d e) (hs : raised ⊆ ps := by decide) : Writes ps d (raise v x e) :=
  .when (.raise1 .refl hs) (.raise1 h hs)

theorem Writes.raiseIf {c v x} (h : Writes ps d e) (hs : raised ⊆ ps := by decide) : Writes ps d (raiseIf c v x e) :=
  .when (.raise .refl hs) h

/-! ### Machine/Wire -/

theorem Writes.stationSend {dst port type data} (h : Writes ps d e) (hs : [.network, .sent] ⊆ ps := by decide) :
    Writes ps d (stationSend dst port type data e) :=
  h.then hs (.ite .refl (.emit (.setNet .refl)))

theorem Writes.stationTo {dst type data} (h : Writes ps d e) (hs : [.network, .sent] ⊆ ps := by decide) :
    Writes ps d (stationTo dst type data e) := .stationSend h hs

theorem Writes.countDiscard (h : Writes ps d e) (hs : .network ∈ ps := by decide) : Writes ps d (countDiscard e) :=
  .setNet h hs

theorem Writes.withStation {type data g} (step : ∀ x, Writes ps d (g x)) (h : Writes ps d e)
    (hs : .network ∈ ps := by decide) : Writes ps d (withStation type data e g) := by
  unfold Machine.withStation
  split
  · exact h
  · split
    · exact .ite (step _) (.countDiscard h hs)
    · exact .countDiscard h hs

/-! ### Machine/Mailbox -/

theorem Writes.setChan {n g} (h : Writes ps d e) (hs : .mailbox ∈ ps := by decide) : Writes ps d (setChan n g e) :=
  .setMbx h hs

theorem Writes.startJob {o j} (h : Writes ps d e) (hs : .mailbox ∈ ps := by decide) : Writes ps d (startJob o j e) := by
  rw [startJob_eq]
  exact .setMbx h hs

theorem Writes.respond {o st p} (h : Writes ps d e) (hs : .mailbox ∈ ps := by decide) :
    Writes ps d (respond o st p e) := by
  rw [respond_eq]
  exact .setMbx h hs

theorem Writes.respondTo {w st p} (h : Writes ps d e) (hs : .mailbox ∈ ps := by decide) :
    Writes ps d (respondTo w st p e) := by
  cases w with
  | none => exact h
  | some o => exact .respond h hs

theorem Writes.reply {o r} (h : Writes ps d e) (hs : .mailbox ∈ ps := by decide) : Writes ps d (reply o r e) := by
  cases r with
  | ok p => exact .respond h hs
  | fail st => exact .respond h hs
  | later => exact h

/-! ### Machine/Pair -/

theorem Writes.confChanged (h : Writes ps d e) (hs : .power ∈ ps := by decide) : Writes ps d (confChanged e) :=
  .setPwr h hs

theorem Writes.glSend {onP cls type dst data} (h : Writes ps d e) (hs : [.gligil, .sent] ⊆ ps := by decide) :
    Writes ps d (glSend onP cls type dst data e) :=
  have numbered : Writes [.gligil, .sent] e _ := .when (.setGl .refl) (.setGl .refl)
  h.then hs (.ite .refl (.ite (.emit numbered) (.ite (.emit numbered) (.emitAll numbered))))

theorem Writes.glSendLong {onP cls type dst data} (h : Writes ps d e) (hs : [.gligil, .sent] ⊆ ps := by decide) :
    Writes ps d (glSendLong onP cls type dst data e) :=
  .foldl h fun _ _ => .glSend .refl hs

theorem Writes.stationAuth {dst type key epoch data} (h : Writes ps d e) (hs : [.network, .sent] ⊆ ps := by decide) :
    Writes ps d (stationAuth dst type key epoch data e) := by
  unfold Machine.stationAuth
  split
  · exact h
  · exact .stationTo h hs

/-- What a message of the device writes. -/
def messages : List Part := [.network, .gligil, .sent]

theorem Writes.pairSend {type data} (h : Writes ps d e) (hs : messages ⊆ ps := by decide) :
    Writes ps d (pairSend type data e) :=
  h.then hs (.ite (.stationAuth .refl) (.glSendLong .refl))

theorem Writes.forward {code data} (h : Writes ps d e) (hs : messages ⊆ ps := by decide) :
    Writes ps d (forward code data e) :=
  .when (.pairSend .refl hs) h

theorem Writes.sendStatus (h : Writes ps d e) (hs : [.gligil, .sent] ⊆ ps := by decide) :
    Writes ps d (sendStatus e) :=
  .when (.glSend .refl hs) h

/-! ### Machine/Field -/

theorem Writes.modDi {i g} (h : Writes ps d e) (hs : .digital ∈ ps := by decide) : Writes ps d (modDi i g e) :=
  .setDig h hs

theorem Writes.modDo {j g} (h : Writes ps d e) (hs : .digital ∈ ps := by decide) : Writes ps d (modDo j g e) :=
  .setDig h hs

theorem Writes.modGrp {n g} (h : Writes ps d e) (hs : .digital ∈ ps := by decide) : Writes ps d (modGrp n g e) :=
  .setDig h hs

theorem Writes.modWdg {g} (h : Writes ps d e) (hs : .digital ∈ ps := by decide) : Writes ps d (modWdg g e) :=
  .setDig h hs

theorem Writes.modTrip {g} (h : Writes ps d e) (hs : .digital ∈ ps := by decide) : Writes ps d (modTrip g e) :=
  .setDig h hs

theorem Writes.settleDo {j} (h : Writes ps d e) (hs : .digital ∈ ps := by decide) : Writes ps d (settleDo j e) :=
  .modDo (.modDo h hs) hs

theorem Writes.settleAo {j} (h : Writes ps d e) (hs : .analog ∈ ps := by decide) : Writes ps d (settleAo j e) :=
  .setAna (.setAna h hs) hs

theorem Writes.settleDos (h : Writes ps d e) (hs : .digital ∈ ps := by decide) : Writes ps d (settleDos e) :=
  .foldl h fun _ _ => .settleDo .refl hs

theorem Writes.settleAll (h : Writes ps d e) (hs : [.digital, .analog] ⊆ ps := by decide) :
    Writes ps d (settleAll e) :=
  h.then hs (.foldl (.settleDos .refl) fun _ _ => .settleAo .refl)

theorem Writes.inputSeq {el} (h : Writes ps d e) : Writes ps d (inputSeq el e).2 := by
  unfold Machine.inputSeq
  split
  · exact h
  · exact .freshNat h

/-! ### Machine/Digital -/

theorem Writes.updSupply (h : Writes ps d e) (hs : raised ++ [.digital] ⊆ ps := by decide) :
    Writes ps d (updSupply e) :=
  h.then hs (.foldl .refl fun _ _ => .ite .refl (.raise (.when (.foldl .refl fun _ _ => .modDi .refl) (.setDig .refl))))

theorem Writes.wdgRun (h : Writes ps d e) (hs : .digital ∈ ps := by decide) : Writes ps d (wdgRun e) := .modWdg h hs

theorem Writes.wdgCommit {t stale} (h : Writes ps d e) (hs : raised ++ [.digital] ⊆ ps := by decide) :
    Writes ps d (wdgCommit t stale e) := by
  refine h.then hs (.ite .refl (.ite (.modWdg .refl) ?_))
  dsimp only
  split
  · exact .ite (.raise (.modWdg (.modWdg (.modWdg .refl)))) (.wdgRun (.modWdg (.modWdg .refl)))
  · exact .ite (.modWdg (.modWdg .refl)) (.when (.wdgRun (.raise .refl)) (.modWdg (.modWdg .refl)))
  · exact .modWdg (.modWdg .refl)

theorem Writes.doNewCfg (h : Writes ps d e) (hs : .digital ∈ ps := by decide) : Writes ps d (doNewCfg e) :=
  .setDig h hs

theorem Writes.commitDos {t} (h : Writes ps d e) (hs : [.sys, .digital] ⊆ ps := by decide) :
    Writes ps d (commitDos t e) := by
  refine h.then hs (.foldl (.modTrip (.doNewCfg .refl)) fun d j => ?_)
  split
  · exact .refl
  · exact .modDo .refl
  · exact .modDo (.unless (.countCheck .refl) .refl)

theorem Writes.diCfgApply {p} (h : Writes ps d e) (hs : raised ++ [.digital, .power] ⊆ ps := by decide) :
    Writes ps d (diCfgApply p e) :=
  h.then hs (.confChanged (.updSupply (.when (.setDig .refl) (.foldl .refl fun _ _ => .modDi .refl))))

theorem Writes.whenNoTask {g : Dev → Dev} (step : ∀ d, Writes ps d (g d)) (h : Writes ps d e) :
    Writes ps d (whenNoTask g e) :=
  .unless (step _) h

theorem Writes.doCfgApply {p} (h : Writes ps d e) (hs : [.digital, .power] ⊆ ps := by decide) :
    Writes ps d (doCfgApply p e) :=
  h.then hs (.confChanged (.whenNoTask (fun _ => .settleDos (.doNewCfg .refl))
    (.when (.foldl .refl fun _ _ => .modGrp .refl) (.foldl .refl fun _ _ => .modDo .refl))))

theorem Writes.wdgCfgApply {p} (h : Writes ps d e) (hs : [.digital, .power] ⊆ ps := by decide) :
    Writes ps d (wdgCfgApply p e) :=
  h.then hs (.confChanged (.modWdg .refl))

theorem Writes.tripApply {c} (h : Writes ps d e) (hs : raised ++ [.digital, .power] ⊆ ps := by decide) :
    Writes ps d (tripApply c e) :=
  h.then hs (.confChanged (.raise (.settleDos (.modTrip .refl))))

/-! ### Machine/Analog -/

theorem Writes.modAi {i g} (h : Writes ps d e) (hs : .analog ∈ ps := by decide) : Writes ps d (modAi i g e) :=
  .setAna h hs

theorem Writes.modAo {j g} (h : Writes ps d e) (hs : .analog ∈ ps := by decide) : Writes ps d (modAo j g e) :=
  .setAna h hs

theorem Writes.aoNewCfg (h : Writes ps d e) (hs : .analog ∈ ps := by decide) : Writes ps d (aoNewCfg e) :=
  .setAna h hs

theorem Writes.commitAos {t} (h : Writes ps d e) (hs : [.sys, .analog] ⊆ ps := by decide) :
    Writes ps d (commitAos t e) := by
  refine h.then hs (.foldl (.aoNewCfg .refl) fun d j => ?_)
  split
  · exact .refl
  · exact .modAo .refl
  · exact .modAo (.unless (.countCheck .refl) .refl)

theorem Writes.commitToField {t stale} (h : Writes ps d e)
    (hs : raised ++ [.sys, .digital, .analog] ⊆ ps := by decide) : Writes ps d (commitToField t stale e) :=
  h.then hs (.when (.settleAll (.wdgCommit (.commitAos (.commitDos .refl)))) .refl)

theorem Writes.aiCfgApply {p} (h : Writes ps d e) (hs : [.analog, .power] ⊆ ps := by decide) :
    Writes ps d (aiCfgApply p e) :=
  h.then hs (.confChanged (.foldl .refl fun _ _ => .modAi .refl))

theorem Writes.aoCfgApply {p} (h : Writes ps d e) (hs : [.digital, .analog, .power] ⊆ ps := by decide) :
    Writes ps d (aoCfgApply p e) :=
  h.then hs (.confChanged (.whenNoTask (fun _ => .settleAll (.aoNewCfg .refl)) (.foldl .refl fun _ _ => .modAo .refl)))

end
end Sys2Proof.Machine
end

section
/-!
PROOF. Frames: the history, the panel, and how the device stops and recovers.
-/

namespace Sys2Proof.Machine

open Sys2Proof Sys2Proof.Claims

section
variable {ps : List Part} {d e : Dev}

/-! ### Machine/History -/

theorem Writes.modHist {g} (h : Writes ps d e) (hs : .history ∈ ps := by decide) : Writes ps d (modHist g e) :=
  .setHist h hs

theorem Writes.startFlush {kind} (h : Writes ps d e) (hs : .history ∈ ps := by decide) :
    Writes ps d (startFlush kind e) := .modHist h hs

theorem Writes.cutFlush (h : Writes ps d e) (hs : .history ∈ ps := by decide) : Writes ps d (cutFlush e) := by
  unfold Machine.cutFlush
  split
  · exact h
  · exact .foldl (.modHist h hs) fun _ _ => .when (.modHist .refl hs) (.freshBool .refl)

theorem Writes.historyCommit {t} (h : Writes ps d e) (hs : .history ∈ ps := by decide) :
    Writes ps d (historyCommit t e) := by
  unfold Machine.historyCommit
  split
  · exact h
  · exact .foldl (.foldl h fun _ _ => .ite .refl (.when (.markDirty .refl hs) (.modHist .refl hs)))
      fun _ _ => .ite .refl (.when (.markDirty .refl hs) (.modHist .refl hs))

theorem Writes.rebindAll {im} (h : Writes ps d e) (hs : .history ∈ ps := by decide) : Writes ps d (rebindAll im e) :=
  .modHist h hs

/-! ### Machine/Panel -/

theorem Writes.modPanel {g} (h : Writes ps d e) (hs : .panel ∈ ps := by decide) : Writes ps d (modPanel g e) :=
  .setPanel h hs

theorem Writes.setBand {n} (h : Writes ps d e) (hs : .panel ∈ ps := by decide) : Writes ps d (setBand n e) :=
  .modPanel h hs

theorem Writes.railsUp (h : Writes ps d e) (hs : .panel ∈ ps := by decide) : Writes ps d (railsUp e) :=
  .modPanel (.setBand h hs) hs

theorem Writes.discharge {c} (h : Writes ps d e) (hs : .panel ∈ ps := by decide) : Writes ps d (discharge c e) :=
  .modPanel h hs

theorem Writes.startPass {k} (h : Writes ps d e) (hs : .panel ∈ ps := by decide) : Writes ps d (startPass k e) :=
  .modPanel h hs

theorem Writes.panelGo (h : Writes ps d e) (hs : .panel ∈ ps := by decide) : Writes ps d (panelGo e) := by
  unfold Machine.panelGo
  split
  · exact .when (.railsUp .refl hs) h
  · split
    · exact .discharge h hs
    · split
      · split
        · exact .startPass h hs
        · exact h
      · exact h
  · exact h

theorem Writes.markPending {mask} (h : Writes ps d e) (hs : .panel ∈ ps := by decide) :
    Writes ps d (markPending mask e) :=
  .when (.panelGo (.modPanel .refl hs) hs) h

theorem Writes.loseRow (h : Writes ps d e) (hs : .panel ∈ ps := by decide) : Writes ps d (loseRow e) := by
  unfold Machine.loseRow
  split
  · exact .unless (.modPanel .refl hs) h
  · exact h

theorem Writes.doExchange {m} (h : Writes ps d e) (hs : [.mailbox, .panel] ⊆ ps := by decide) :
    Writes ps d (doExchange m e).1 := by
  refine h.then hs ?_
  unfold Machine.doExchange
  split
  · exact .refl
  · split
    · exact .refl
    · exact .panelGo (.markPending (.respond (.modPanel (.modPanel .refl))))

theorem Writes.leaveShowing {m} (h : Writes ps d e) (hs : [.mailbox, .panel] ⊆ ps := by decide) :
    Writes ps d (leaveShowing m e).1 := by
  unfold Machine.leaveShowing
  split
  · exact .doExchange h hs
  · exact h

theorem Writes.panelCommit {t m} (h : Writes ps d e) (hs : .panel ∈ ps := by decide) :
    Writes ps d (panelCommit t m e) := by
  unfold Machine.panelCommit
  split
  · exact h
  · exact .unless (.unless (.markPending (.modPanel .refl hs) hs) .refl) h

theorem Writes.panelSwap {m old} (h : Writes ps d e) (hs : .panel ∈ ps := by decide) :
    Writes ps d (panelSwap m old e) := .modPanel h hs

theorem Writes.panelResume (h : Writes ps d e) (hs : .panel ∈ ps := by decide) : Writes ps d (panelResume e) :=
  .when (.railsUp (.modPanel .refl hs) hs) h

theorem Writes.panelPfw {m} (h : Writes ps d e) (hs : [.mailbox, .panel] ⊆ ps := by decide) :
    Writes ps d (panelPfw m e).1 := by
  refine h.then hs ?_
  unfold Machine.panelPfw
  split
  · exact .refl
  · refine .discharge (.modPanel (.respondTo ?_))
    split
    · exact .leaveShowing .refl
    · exact .ite (.modPanel (.leaveShowing .refl)) (.ite (.modPanel (.modPanel (.leaveShowing .refl)))
        (.loseRow (.modPanel (.leaveShowing .refl))))

/-! ### Machine/Recovery -/

theorem Writes.modTask {t g} (h : Writes ps d e) (hs : .tasks ∈ ps := by decide) : Writes ps d (modTask t g e) :=
  .modProg .tasks h hs

theorem Writes.modCell {c g} (h : Writes ps d e) (hs : .cells ∈ ps := by decide) : Writes ps d (modCell c g e) :=
  .modProg .cells h hs

theorem Writes.modStats {t g} (h : Writes ps d e) (hs : .tasks ∈ ps := by decide) : Writes ps d (modStats t g e) :=
  .modTask h hs

/-- What stopping tasks writes. -/
def stopped : List Part := [.mailbox, .tasks, .cells, .restOfProgram]

theorem Writes.dropCycle {t} (h : Writes ps d e) (hs : [.tasks, .cells] ⊆ ps := by decide) :
    Writes ps d (dropCycle t e) :=
  h.then hs (.modProg .cells (.modTask .refl))

theorem Writes.stopAnswer (h : Writes ps d e) (hs : [.mailbox, .restOfProgram] ⊆ ps := by decide) :
    Writes ps d (stopAnswer e) :=
  h.then hs (.foldl (.modProg .restOfProgram .refl) fun _ _ => .respond .refl)

theorem Writes.stopTask {t} (h : Writes ps d e) (hs : [.tasks, .cells] ⊆ ps := by decide) :
    Writes ps d (stopTask t e) :=
  h.then hs (.modTask (.dropCycle .refl))

theorem Writes.stopCheck {t} (h : Writes ps d e) (hs : stopped ++ [.digital, .analog] ⊆ ps := by decide) :
    Writes ps d (stopCheck t e) := by
  refine h.then hs ?_
  unfold Machine.stopCheck
  split
  · exact .refl
  · exact .stopAnswer (.when (.settleAll .refl) (.modTask (.stopTask .refl)))

theorem Writes.stopTasks (h : Writes ps d e) (hs : stopped ⊆ ps := by decide) : Writes ps d (stopTasks e) :=
  h.then hs (.stopAnswer (.foldl .refl fun _ _ => .stopTask .refl))

theorem Writes.withdraw (h : Writes ps d e) (hs : [.network, .sent] ⊆ ps := by decide) : Writes ps d (withdraw e) :=
  h.then hs (.unless (.stationTo (.setNet .refl)) .refl)

theorem Writes.shadowEnd {n} (h : Writes ps d e) (hs : .pair ∈ ps := by decide) : Writes ps d (shadowEnd n e) :=
  .when (.setRed .refl hs) h

/-- What a fence writes. -/
def fenced : List Part := raised ++ stopped ++ [.sys, .digital, .analog, .network, .gligil, .pair, .power]

theorem Writes.fence {cause} (h : Writes ps d e) (hs : fenced ⊆ ps := by decide) : Writes ps d (fence cause e) :=
  h.then hs (.unless (.raise (.when (.glSend .refl) (.shadowEnd (.withdraw (.settleAll (.modProg .restOfProgram
    (.stopTasks (.setRed (.setPwr (.setSys .refl)))))))))) .refl)

/-- What the station safe state writes. -/
def safed : List Part := stopped ++ [.sys, .digital, .analog, .network, .gligil, .pair, .sent]

theorem Writes.enterSafe (h : Writes ps d e) (hs : safed ⊆ ps := by decide) : Writes ps d (enterSafe e) :=
  h.then hs (.unless (.sendStatus (.shadowEnd (.withdraw (.settleAll (.modProg .restOfProgram
    (.stopTasks (.setSys .refl))))))) .refl)

theorem Writes.standbyFaulty (h : Writes ps d e) (hs : .pair ∈ ps := by decide) : Writes ps d (standbyFaulty e) :=
  .shadowEnd (.setRed h hs) hs

theorem Writes.ladderL2 (h : Writes ps d e) (hs : fenced ⊆ ps := by decide) : Writes ps d (ladderL2 e) :=
  h.then hs (.ite (.standbyFaulty .refl) (.ite (.fence .refl) (.enterSafe .refl)))

theorem Writes.runReaction {r} (h : Writes ps d e) (hs : fenced ⊆ ps := by decide) : Writes ps d (runReaction r e) := by
  refine h.then hs ?_
  unfold Machine.runReaction
  split
  · exact .fence .refl
  · exact .fence .refl
  · exact .enterSafe .refl
  · exact .refl

theorem Writes.redoBlock {t b} (h : Writes ps d e) (hs : .tasks ∈ ps := by decide) : Writes ps d (redoBlock t b e) :=
  .when (.modTask .refl hs) h

theorem Writes.startMigration {src tgt cause} (h : Writes ps d e) (hs : raised ++ [.restOfProgram] ⊆ ps := by decide) :
    Writes ps d (startMigration src tgt cause e) :=
  h.then hs (.raise (.modProg .restOfProgram .refl))

theorem Writes.stopSource {c} (h : Writes ps d e) (hs : [.tasks, .cells] ⊆ ps := by decide) :
    Writes ps d (stopSource c e) :=
  h.then hs (.foldl (.modCell .refl) fun _ _ => .redoBlock .refl)

theorem Writes.abortMigration (h : Writes ps d e) (hs : raised ++ [.restOfProgram] ⊆ ps := by decide) :
    Writes ps d (abortMigration e) :=
  h.then hs (.unless (.raise (.modProg .restOfProgram .refl)) .refl)

theorem Writes.ladderL1 {c cause spare} (h : Writes ps d e) (hs : fenced ⊆ ps := by decide) :
    Writes ps d (ladderL1 c cause spare e) := by
  refine h.then hs ?_
  refine .trans (.stopSource .refl) (.ite (.modCell .refl) (.ite (.ite (.modCell (.modProg .restOfProgram .refl))
    (.ladderL2 .refl)) ?_))
  split
  · exact .ite (.startMigration .refl) (.ladderL2 .refl)
  · exact .ladderL2 .refl

theorem Writes.nextQueued {spare} (h : Writes ps d e) (hs : fenced ⊆ ps := by decide) :
    Writes ps d (nextQueued spare e) := by
  refine h.then hs ?_
  unfold Machine.nextQueued
  split
  · exact .refl
  · exact .unless (.ladderL1 (.modProg .restOfProgram .refl)) .refl

theorem Writes.escalateQueued {t} (h : Writes ps d e) (hs : fenced ⊆ ps := by decide) :
    Writes ps d (escalateQueued t e) :=
  h.then hs (.when (.ladderL2 (.modProg .restOfProgram .refl)) .refl)

theorem Writes.taskFault {t cause} (h : Writes ps d e) (hs : fenced ⊆ ps := by decide) :
    Writes ps d (taskFault t cause e) := by
  refine h.then hs (.stopCheck (.escalateQueued (.runReaction ?_)))
  split
  · exact .raise (.modTask (.modStats (.dropCycle .refl)))
  · exact .modTask (.modStats (.dropCycle .refl))

theorem Writes.cellFault {c spare} (h : Writes ps d e) (hs : fenced ⊆ ps := by decide) :
    Writes ps d (cellFault c spare e) := by
  refine h.then hs (.trans (.redoBlock .refl) (.ite (.ladderL2 (.abortMigration (.modCell .refl)))
    (.ite (.ladderL1 .refl) ?_)))
  split
  · exact .ladderL1 (.modCell .refl)
  · exact .modCell .refl

theorem Writes.modInteg {g} (h : Writes ps d e) (hs : .integrity ∈ ps := by decide) : Writes ps d (modInteg g e) :=
  .setInteg h hs

theorem Writes.hardError {mem index bank row column} (h : Writes ps d e)
    (hs : raised ++ [.integrity] ⊆ ps := by decide) : Writes ps d (hardError mem index bank row column e) :=
  h.then hs (.trans (.modInteg .refl) (.ite (.modInteg .refl) (.ite .refl (.raise (.modInteg .refl)))))

theorem Writes.correctByte {mem addr rows macros copyB f} (h : Writes ps d e)
    (hs : raised ++ [.integrity] ⊆ ps := by decide) : Writes ps d (correctByte mem addr rows macros copyB f e).2 :=
  h.then hs (.when (.hardError .refl) (.modInteg .refl))

theorem Writes.privLost {a outcome diverged} (h : Writes ps d e) (hs : raised ⊆ ps := by decide) :
    Writes ps d (privLost a outcome diverged e) := .raise h hs

theorem Writes.privFixed {a copyB source} (h : Writes ps d e) (hs : raised ⊆ ps := by decide) :
    Writes ps d (privFixed a copyB source e) := .raise h hs

theorem Writes.gapEvent {kind counter} (h : Writes ps d e) (hs : raised ⊆ ps := by decide) :
    Writes ps d (gapEvent kind counter e) := .raise h hs

theorem Writes.privUncorrectable {a diverged} (h : Writes ps d e)
    (hs : fenced ++ [.program] ⊆ ps := by decide) : Writes ps d (privUncorrectable a diverged e) := by
  refine h.then hs ?_
  unfold Machine.privUncorrectable
  dsimp only
  split
  · exact .privFixed .refl
  · exact .ite (.standbyFaulty (.privLost .refl)) (.ite (.enterSafe (.privLost .refl)) (.privFixed .refl))
  · exact .gapEvent (.privLost (.setRed .refl))
  · exact .ite (.ladderL2 (.privLost .refl)) (.privLost (.modProg .program .refl))

theorem Writes.privByte {source a f} (h : Writes ps d e) (hs : fenced ++ [.program, .integrity] ⊆ ps := by decide) :
    Writes ps d (privByte source a f e).2 := by
  refine h.then hs ?_
  unfold Machine.privByte
  split
  · exact .refl
  · split
    · exact .privUncorrectable .refl
    · split
      · split
        · exact .privUncorrectable .refl
        · exact .refl
      · exact .privFixed (.correctByte .refl)

theorem Writes.logFunctional {x r a} (h : Writes ps d e) (hs : .integrity ∈ ps := by decide) :
    Writes ps d (logFunctional x r a e) := .modInteg h hs

theorem Writes.storeRead {a f} (h : Writes ps d e) (hs : fenced ++ [.program, .integrity] ⊆ ps := by decide) :
    Writes ps d (storeRead a f e) :=
  h.then hs (.unless (.logFunctional .refl) (.privByte .refl))

theorem Writes.cellParity {mem c x y} (h : Writes ps d e) (hs : raised ++ [.integrity] ⊆ ps := by decide) :
    Writes ps d (cellParity mem c x y e) :=
  h.then hs (.trans (.logFunctional (.freshNat (.freshNat .refl))) (.ite (.hardError .refl) (.modInteg .refl)))

end
end Sys2Proof.Machine
end

section
/-!
PROOF. Frames: the cell machine, its instructions, and the rows of the recovery ladder.
-/

namespace Sys2Proof.Machine

open Sys2Proof Sys2Proof.Claims

section
variable {ps : List Part} {d e : Dev}

/-! ### Machine/Operands -/

theorem Writes.modExec {c g} (h : Writes ps d e) (hs : .cells ∈ ps := by decide) : Writes ps d (modExec c g e) :=
  .modCell h hs

theorem Writes.modSpec {c g} (h : Writes ps d e) (hs : .cells ∈ ps := by decide) : Writes ps d (modSpec c g e) :=
  .modExec h hs

theorem Writes.readStored {id v} (h : Writes ps d e) (hs : .sys ∈ ps := by decide) :
    Writes ps d (readStored id v e).2 :=
  .unless (.countCheck .refl hs) h

/-- What an instruction of a cell writes while it reads its operand: the cell, and the count of failing CHECKs. -/
def instrParts : List Part := [.sys, .cells]

theorem Writes.readElem {c space el} (h : Writes ps d e) (hs : instrParts ⊆ ps := by decide) :
    Writes ps d (readElem c space el e).2 := by
  refine h.then hs ?_
  unfold Machine.readElem
  dsimp only
  split
  · split
    · exact .readStored .refl
    · exact .modSpec .refl
  split
  · exact .refl
  split
  · split
    · exact .refl
    · exact .readStored .refl
  · refine .modExec ?_
    split
    · exact .refl
    · exact .readStored .refl

theorem Writes.readBit {c i} (h : Writes ps d e) (hs : instrParts ⊆ ps := by decide) :
    Writes ps d (readBit c i e).2.2 := by
  refine h.then hs ?_
  unfold Machine.readBit
  split
  · exact .refl
  split
  · exact .refl
  split
  · exact .refl
  · dsimp only
    split
    · exact .modSpec (.readElem .refl)
    · exact .readElem .refl

theorem Writes.readBitN {c i} (h : Writes ps d e) (hs : instrParts ⊆ ps := by decide) :
    Writes ps d (readBitN c i e).2.2 := .readBit h hs

theorem Writes.readWord {c i} (h : Writes ps d e) (hs : instrParts ⊆ ps := by decide) :
    Writes ps d (readWord c i e).2 := by
  unfold Machine.readWord
  split
  · exact h
  split
  · exact h
  split
  · exact h
  · exact .readElem h hs

theorem Writes.writeElem {c space el v q} (h : Writes ps d e) (hs : .cells ∈ ps := by decide) :
    Writes ps d (writeElem c space el v q e) := .modExec h hs

theorem Writes.writeBit {c i b q} (h : Writes ps d e) (hs : instrParts ⊆ ps := by decide) :
    Writes ps d (writeBit c i b q e) :=
  h.then hs (.writeElem (.readElem .refl))

theorem Writes.setArith {c el} (h : Writes ps d e) (hs : .cells ∈ ps := by decide) : Writes ps d (setArith c el e) :=
  .modSpec h hs

theorem Writes.setArithOpt {c el} (h : Writes ps d e) (hs : .cells ∈ ps := by decide) :
    Writes ps d (setArithOpt c el e) := by
  cases el with
  | none => exact h
  | some el => exact .setArith h hs

theorem Writes.arithW {c} (h : Writes ps d e) (hs : .cells ∈ ps := by decide) : Writes ps d (arithW c e) :=
  .setArithOpt h hs

theorem Writes.signature {c kind o r} (h : Writes ps d e) (hs : .cells ∈ ps := by decide) :
    Writes ps d (signature c kind o r e) := by
  unfold Machine.signature
  dsimp only
  split
  · exact .ite (.ite (.setArith h hs) (.modSpec h hs)) (.setArith (.setArith h hs) hs)
  · exact .ite (.setArith h hs) (.modSpec h hs)
  · exact .ite (.setArith h hs) (.modSpec h hs)
  · exact h

/-! ### Machine/CellFam -/

theorem Writes.advance {c} (h : Writes ps d e) (hs : .cells ∈ ps := by decide) : Writes ps d (advance c e) :=
  .modCell h hs

/-- What a fault of the silicon under an instruction writes. -/
def siliconParts : List Part := fenced ++ [.journals, .integrity]

theorem siliconFault_writes {c i f} (h : siliconFault c i f d = some e) : Writes siliconParts d e := by
  unfold siliconFault at h
  cases f with
  | none | storeByte => cases h
  | codeword =>
    cases h
    exact .cellFault (.raise .refl)
  | parityInstr =>
    cases h
    exact .cellFault (.cellParity .refl)
  | residue =>
    dsimp only at h
    split at h
    · cases h
      exact .cellFault (.raise .refl)
    · cases h
  | parityValue =>
    dsimp only at h
    split at h
    · cases h
      exact .cellFault (.cellParity (.countCheck .refl))
    · cases h
  | parityRecord =>
    dsimp only at h
    split at h
    · cases h
      exact .cellFault (.cellParity (.modProg .journals .refl))
    split at h
    · cases h
      exact .cellFault (.cellParity (.modProg .journals .refl))
    split at h
    · cases h
      exact .cellFault (.cellParity (.modProg .journals .refl))
    · cases h

/-- What a row of the cell machine writes, whatever the silicon does. -/
def cellParts : List Part := siliconParts ++ [.program]

theorem Writes.storeFault {i f} (h : Writes ps d e) (hs : cellParts ⊆ ps := by decide) :
    Writes ps d (storeFault i f e) := by
  refine h.then hs ?_
  unfold Machine.storeFault
  split
  · exact .when (.storeRead .refl) .refl
  · exact .refl

theorem Writes.setLB {c b q} (h : Writes ps d e) (hs : .cells ∈ ps := by decide) : Writes ps d (setLB c b q e) :=
  .modCell h hs

theorem Writes.combine {c g i} (h : Writes ps d e) (hs : instrParts ⊆ ps := by decide) :
    Writes ps d (combine c g i e) :=
  h.then hs (.setLB (.readBitN .refl))

theorem Writes.semLd {c i} (h : Writes ps d e) (hs : instrParts ⊆ ps := by decide) : Writes ps d (semLd c i e) :=
  h.then hs (.setLB (.readBitN .refl))

theorem Writes.openBranch {c k} (h : Writes ps d e) (hs : .cells ∈ ps := by decide) :
    Writes ps d (openBranch c k e) := .modCell h hs

theorem Writes.semAsn {c i} (h : Writes ps d e) (hs : instrParts ⊆ ps := by decide) : Writes ps d (semAsn c i e) :=
  .writeBit h hs

theorem Writes.semSet {c i} (h : Writes ps d e) (hs : instrParts ⊆ ps := by decide) : Writes ps d (semSet c i e) :=
  .when (.writeBit .refl hs) h

theorem Writes.semRst {c i} (h : Writes ps d e) (hs : instrParts ⊆ ps := by decide) : Writes ps d (semRst c i e) :=
  .when (.writeBit .refl hs) h

theorem Writes.edgeOp {c g i} (h : Writes ps d e) (hs : .cells ∈ ps := by decide) : Writes ps d (edgeOp c g i e) :=
  .modCell (.modExec h hs) hs

theorem Writes.timerOp {kind c i} (h : Writes ps d e) (hs : .cells ∈ ps := by decide) :
    Writes ps d (timerOp kind c i e) :=
  .modCell (.arithW (.modExec h hs) hs) hs

theorem Writes.putCounter {c n r} (h : Writes ps d e) (hs : .cells ∈ ps := by decide) :
    Writes ps d (putCounter c n r e) := .modExec h hs

theorem Writes.counterOp {up c i} (h : Writes ps d e) (hs : .cells ∈ ps := by decide) :
    Writes ps d (counterOp up c i e) :=
  .modCell (.arithW (.putCounter h hs) hs) hs

theorem Writes.semCld {c i} (h : Writes ps d e) (hs : .cells ∈ ps := by decide) : Writes ps d (semCld c i e) :=
  .arithW (.putCounter h hs) hs

theorem Writes.semLdw {c i} (h : Writes ps d e) (hs : instrParts ⊆ ps := by decide) : Writes ps d (semLdw c i e) :=
  h.then hs (.modCell (.readWord .refl))

theorem Writes.semMovw {c i} (h : Writes ps d e) (hs : .cells ∈ ps := by decide) : Writes ps d (semMovw c i e) :=
  .unless (.writeElem .refl hs) (.arithW h hs)

theorem Writes.compareOp {c i} (h : Writes ps d e) (hs : instrParts ⊆ ps := by decide) :
    Writes ps d (compareOp c i e) :=
  h.then hs (.setLB (.signature (.readWord .refl)))

theorem Writes.arithOp {c g i} (h : Writes ps d e) (hs : instrParts ⊆ ps := by decide) :
    Writes ps d (arithOp c g i e) :=
  h.then hs (.modCell (.setArithOpt (.arithW (.readWord .refl))))

theorem Writes.semQual {c i} (h : Writes ps d e) (hs : .cells ∈ ps := by decide) : Writes ps d (semQual c i e) := by
  unfold Machine.semQual
  split
  · exact .setLB h hs
  · exact .setLB h hs
  · exact .modCell (.arithW h hs) hs
  · exact .modCell (.arithW h hs) hs

theorem Writes.semFlg {c i} (h : Writes ps d e) (hs : .cells ∈ ps := by decide) : Writes ps d (semFlg c i e) :=
  .modCell h hs

theorem Writes.semJmp {c i} (h : Writes ps d e) (hs : .cells ∈ ps := by decide) : Writes ps d (semJmp c i e) :=
  .ite (.modCell h hs) (.advance h hs)

end
end Sys2Proof.Machine
end

section
/-!
PROOF. Frames: a whole block of a cell, its end, and the rows of the ladder.
-/

namespace Sys2Proof.Machine

open Sys2Proof Sys2Proof.Claims

section
variable {ps : List Part} {d e : Dev}

/-- An instruction word other than JMP and END writes its cell and the count of failing CHECKs. -/
theorem Writes.cellSem {c i} (h : Writes ps d e) (hs : instrParts ⊆ ps := by decide) :
    Writes ps d (cellSem c i e) :=
  h.then hs (.ite (.semLd .refl) (.ite (.combine .refl) (.ite (.combine .refl) (.ite (.combine .refl)
    (.ite (.openBranch .refl) (.ite (.openBranch .refl) (.ite (.openBranch .refl) (.ite (.modCell .refl)
    (.ite (.modCell .refl) (.ite (.semAsn .refl) (.ite (.semSet .refl) (.ite (.semRst .refl)
    (.ite (.edgeOp .refl) (.ite (.edgeOp .refl) (.ite (.timerOp .refl) (.ite (.timerOp .refl)
    (.ite (.timerOp .refl) (.ite (.counterOp .refl) (.ite (.counterOp .refl) (.ite (.putCounter .refl)
    (.ite (.semCld .refl) (.ite (.semLdw .refl) (.ite (.semMovw .refl) (.ite (.compareOp .refl)
    (.ite (.compareOp .refl) (.ite (.arithOp .refl) (.ite (.arithOp .refl) (.ite (.arithOp .refl)
    (.ite (.semQual .refl) (.ite (.semFlg .refl) (.ite .refl .refl)))))))))))))))))))))))))))))))

theorem Writes.runWords {c n} (h : Writes ps d e) (hs : instrParts ⊆ ps := by decide) :
    Writes ps d (runWords c n e) := by
  induction n generalizing e with
  | zero => exact h
  | succ n ih =>
    exact .ite h (.ite (ih (h.then hs (.semJmp .refl))) (ih (h.then hs (.advance (.cellSem .refl)))))

theorem Writes.sendWorking {t r} (h : Writes ps d e) (hs : [.gligil, .sent] ⊆ ps := by decide) :
    Writes ps d (sendWorking t r e) :=
  .unless (.glSend .refl hs) h

theorem Writes.settle {t} (h : Writes ps d e) (hs : [.tasks, .gligil, .sent] ⊆ ps := by decide) :
    Writes ps d (settle t e) :=
  h.then hs (.foldl (.modStats (.modTask .refl)) fun _ _ => .sendWorking .refl)

theorem Writes.semEnd {c i} (h : Writes ps d e) (hs : [.tasks, .cells, .gligil, .sent] ⊆ ps := by decide) :
    Writes ps d (semEnd c i e) :=
  h.then hs (.settle (.sendWorking (.modCell (.modStats (.modTask .refl)))))

theorem Writes.beginBlock {c t b} (h : Writes ps d e) (hs : [.tasks, .cells] ⊆ ps := by decide) :
    Writes ps d (beginBlock c t b e) :=
  h.then hs (.ite (.modStats (.modTask (.modCell .refl))) (.modCell .refl))

theorem Writes.migCheck {spare} (h : Writes ps d e) (hs : fenced ⊆ ps := by decide) :
    Writes ps d (migCheck spare e) :=
  h.then hs (.unless (.nextQueued (.modCell (.raise (.modProg .restOfProgram .refl)))) .refl)

end
end Sys2Proof.Machine
end

section
/-!
PROOF. Frames: the loops, the DMA channels, the partners, and the cycle of a task from its instant to its commit.
-/

namespace Sys2Proof.Machine

open Sys2Proof Sys2Proof.Claims

section
variable {ps : List Part} {d e : Dev}

/-! ### Machine/Loop -/

theorem Writes.modSlot {u n g} (h : Writes ps d e) (hs : .loops ∈ ps := by decide) : Writes ps d (modSlot u n g e) :=
  .setLoops h hs

theorem Writes.modTrace {u g} (h : Writes ps d e) (hs : .loops ∈ ps := by decide) : Writes ps d (modTrace u g e) :=
  .setLoops h hs

theorem Writes.shadowWrite {keys} (h : Writes ps d e) (hs : .loops ∈ ps := by decide) :
    Writes ps d (shadowWrite keys e) := .setLoops h hs

theorem Writes.traceDone {u} (h : Writes ps d e) (hs : raised ⊆ ps := by decide) : Writes ps d (traceDone u e) :=
  .raise h hs

theorem Writes.traceCut {u n} (h : Writes ps d e) (hs : raised ++ [.loops] ⊆ ps := by decide) :
    Writes ps d (traceCut u n e) := by
  refine h.then hs (.ite .refl ?_)
  split
  · exact .traceDone (.modTrace .refl)
  · exact .traceDone (.modTrace .refl)
  · exact .refl

theorem Writes.applyCommit {u n} (h : Writes ps d e) (hs : [.loops, .power] ⊆ ps := by decide) :
    Writes ps d (applyCommit u n e) := by
  refine h.then hs ?_
  unfold Machine.applyCommit
  dsimp only
  split
  · exact .refl
  · exact .unless (.confChanged (.modTrace (.modSlot .refl))) .refl

theorem Writes.commitAnswers {u} (h : Writes ps d e) (hs : [.loops, .mailbox] ⊆ ps := by decide) :
    Writes ps d (commitAnswers u e) :=
  h.then hs (.foldl (.setLoops .refl) fun _ _ => .respond .refl)

theorem Writes.settleBound {c} (h : Writes ps d e) (hs : [.digital, .analog] ⊆ ps := by decide) :
    Writes ps d (settleBound c e) := by
  refine h.then hs ?_
  unfold Machine.settleBound
  split
  · exact .settleAo .refl
  · exact .settleDo .refl
  · exact .refl

theorem Writes.loopsFirstCommit (h : Writes ps d e) (hs : .loops ∈ ps := by decide) :
    Writes ps d (loopsFirstCommit e) := .setLoops h hs

theorem Writes.enableSlot {u n c} (h : Writes ps d e) (hs : .loops ∈ ps := by decide) :
    Writes ps d (enableSlot u n c e) := .modSlot h hs

/-- What the change of a loop slot writes. -/
def slotParts : List Part := raised ++ [.mailbox, .loops, .digital, .analog, .power]

theorem Writes.disableSlot {u n c} (h : Writes ps d e) (hs : slotParts ⊆ ps := by decide) :
    Writes ps d (disableSlot u n c e) := by
  refine h.then hs (.commitAnswers (.traceCut (.settleBound (.applyCommit (.modSlot ?_)))))
  split
  · exact .modAo (.modSlot (.inputSeq .refl))
  · exact .modDo (.modSlot (.inputSeq .refl))
  · exact .modSlot (.inputSeq .refl)

theorem Writes.loopCfgApply {p} (h : Writes ps d e) (hs : slotParts ⊆ ps := by decide) :
    Writes ps d (loopCfgApply p e) :=
  h.then hs (.confChanged (.ite (.settleBound (.enableSlot .refl)) (.ite (.disableSlot .refl) (.modSlot .refl))))

theorem Writes.coefMark {p} (h : Writes ps d e) (hs : messages ++ [.loops, .power] ⊆ ps := by decide) :
    Writes ps d (coefMark p e) := by
  refine h.then hs (.forward (.foldl .refl fun d n => .unless (.applyCommit .refl) (.modSlot ?_)))
  split
  · exact .forward .refl
  · exact .refl

/-! ### Machine/Dma -/

theorem Writes.modDma {n g} (h : Writes ps d e) (hs : .host ∈ ps := by decide) : Writes ps d (modDma n g e) :=
  .setHost h hs

theorem Writes.dmaHalt {n kind x addr} (h : Writes ps d e) (hs : raised ⊆ ps := by decide) :
    Writes ps d (dmaHalt n kind x addr e) :=
  h.then hs (.raise (.modDma .refl))

theorem Writes.dmaShrink (h : Writes ps d e) (hs : raised ⊆ ps := by decide) : Writes ps d (dmaShrink e) := by
  refine .foldl h fun d n => ?_
  split
  · exact .dmaHalt .refl hs
  · exact .refl

/-! ### Machine/Partner -/

theorem Writes.modNet {g} (h : Writes ps d e) (hs : .network ∈ ps := by decide) : Writes ps d (modNet g e) :=
  .setNet h hs

theorem Writes.modPartner {k g} (h : Writes ps d e) (hs : .network ∈ ps := by decide) :
    Writes ps d (modPartner k g e) := .modNet h hs

theorem Writes.modSub {i g} (h : Writes ps d e) (hs : .network ∈ ps := by decide) : Writes ps d (modSub i g e) :=
  .modNet h hs

theorem Writes.sendSubscribe {i} (h : Writes ps d e) (hs : [.network, .sent] ⊆ ps := by decide) :
    Writes ps d (sendSubscribe i e) := by
  refine h.then hs ?_
  unfold Machine.sendSubscribe
  dsimp only
  split
  · exact .modSub .refl
  · exact .unless (.stationTo .refl) (.modSub .refl)

theorem Writes.senderChanged {pid old} (h : Writes ps d e) (hs : [.network, .sent] ⊆ ps := by decide) :
    Writes ps d (senderChanged pid old e) := by
  refine h.then hs (.unless (.foldl .refl fun d i => ?_) .refl)
  split
  · exact .refl
  · exact .refl
  · exact .ite (.sendSubscribe .refl) (.modSub .refl)

theorem Writes.partnerLost {k cause} (h : Writes ps d e) (hs : raised ++ [.network] ⊆ ps := by decide) :
    Writes ps d (partnerLost k cause e) :=
  h.then hs (.unless (.senderChanged (.raise (.modNet (.modPartner .refl)))) .refl)

theorem Writes.subscribeAll (h : Writes ps d e) (hs : [.network, .sent] ⊆ ps := by decide) :
    Writes ps d (subscribeAll e) :=
  h.then hs (.foldl (.modNet .refl) fun _ _ => .sendSubscribe .refl)

/-! ### Machine/Tasks -/

theorem Writes.freezeAi {ch bad} (h : Writes ps d e) (hs : raised ++ [.sys] ⊆ ps := by decide) :
    Writes ps d (freezeAi ch bad e).2 := by
  unfold Machine.freezeAi
  dsimp only
  split
  · exact h.then hs (.raise (.countCheck .refl))
  · exact h

theorem Writes.freezeFast {t el ch} (h : Writes ps d e) (hs : .digital ∈ ps := by decide) :
    Writes ps d (freezeFast t el ch e).2 :=
  .when (.modDi .refl hs) h

theorem Writes.freezeSource {t el level badAi} (h : Writes ps d e)
    (hs : raised ++ [.sys, .digital] ⊆ ps := by decide) : Writes ps d (freezeSource t el level badAi e).2 := by
  refine h.then hs ?_
  unfold Machine.freezeSource
  dsimp only
  split
  case h_1 => exact .freshNat (.freshNat .refl)
  case h_7 =>
    split
    · exact .refl
    · split
      · exact .refl
      · split
        case h_3 => exact .freezeAi .refl
        case h_6 => exact .freezeFast .refl
        all_goals exact .refl
  case h_2 =>
    split
    · exact .refl
    · split
      · exact .refl
      · exact .refl
  all_goals exact .refl

theorem Writes.latch {t el v} (h : Writes ps d e) (hs : .tasks ∈ ps := by decide) : Writes ps d (latch t el v e) :=
  .modTask h hs

theorem Writes.modPIn {el g} (h : Writes ps d e) (hs : .inputs ∈ ps := by decide) : Writes ps d (modPIn el g e) :=
  .modProg .inputs h hs

theorem Writes.takeInput {t el v} (h : Writes ps d e) (hs : [.tasks, .inputs] ⊆ ps := by decide) :
    Writes ps d (takeInput t el v e) :=
  h.then hs (.unless (.latch .refl) (.modPIn .refl))

theorem Writes.dropEarly {t owned} (h : Writes ps d e) (hs : .inputs ∈ ps := by decide) :
    Writes ps d (dropEarly t owned e) :=
  .unless (.foldl .refl fun _ _ => .modPIn .refl hs) h

/-- What the start of a cycle writes as it freezes the inputs. -/
def freezeParts : List Part := raised ++ [.sys, .tasks, .inputs, .digital]

theorem Writes.freezeEl {t level badAi owned el} (h : Writes ps d e) (hs : freezeParts ⊆ ps := by decide) :
    Writes ps d (freezeEl t level badAi owned e el) := by
  refine h.then hs ?_
  unfold Machine.freezeEl
  dsimp only
  split
  · exact .refl
  split
  · split
    · exact .modPIn .refl
    · exact .latch (.modPIn .refl)
    · exact .takeInput (.modPIn .refl)
    · exact .latch (.takeInput (.modPIn .refl))
  · exact .latch (.freezeSource .refl)

theorem Writes.setPwrRed {x y} (h : Writes ps d e) (hs : [.pair, .power] ⊆ ps := by decide) :
    Writes ps d { e with pwr := x, red := y } := by
  have put : Writes [.pair, .power] e { e with pwr := x } := .setPwr .refl
  exact h.then hs (put.setRed (x := y))

theorem Writes.overrideK {el v} (h : Writes ps d e) (hs : [.values, .pair, .power] ⊆ ps := by decide) :
    Writes ps d (overrideK el v e) :=
  h.then hs (.trans (.modProg .values .refl) (.setPwrRed .refl))

/-- What the records that a task's cycle takes over write. -/
def recordParts : List Part := [.mailbox, .values, .restOfProgram, .loops, .pair, .power]

theorem Writes.applyRecords {t} (h : Writes ps d e) (hs : recordParts ⊆ ps := by decide) :
    Writes ps d (applyRecords t e) := by
  refine h.then hs ?_
  unfold Machine.applyRecords
  extract_lets im mine now taken rest dropped
  have written : Writes recordParts e taken := by
    refine .foldl .refl fun d r => ?_
    split
    · exact .refl
    · exact .foldl .refl fun _ _ => .shadowWrite (.overrideK .refl)
  clear_value taken
  exact .unless (.ite (.modProg .restOfProgram written) (.respondTo (.modProg .restOfProgram
    (.modProg .restOfProgram written)))) .refl

theorem Writes.applyPolicies {owned} (h : Writes ps d e) (hs : .inputs ∈ ps := by decide) :
    Writes ps d (applyPolicies owned e) :=
  .foldl h fun _ _ => .when (.modPIn .refl hs) .refl

theorem Writes.beginCycle {t level badAi} (h : Writes ps d e)
    (hs : freezeParts ++ recordParts ++ [.cells, .gligil] ⊆ ps := by decide) :
    Writes ps d (beginCycle t level badAi e) :=
  h.then hs (.foldl (.setGl (.modTask (.applyRecords (.applyPolicies (.dropEarly (.dropCycle .refl))))))
    fun _ _ => .freezeEl .refl)

theorem Writes.goStale {t el} (h : Writes ps d e) (hs : [.tasks, .inputs] ⊆ ps := by decide) :
    Writes ps d (goStale t el e) :=
  h.then hs (.unless (.latch .refl) (.modStats (.modTask (.modPIn .refl))))

theorem Writes.countSilent {t stale pid} (h : Writes ps d e)
    (hs : raised ++ [.restOfProgram, .network] ⊆ ps := by decide) : Writes ps d (countSilent t stale pid e) := by
  refine h.then hs (.ite (.modProg .restOfProgram .refl) ?_)
  split
  · exact .partnerLost (.modProg .restOfProgram .refl)
  · exact .modProg .restOfProgram .refl

theorem Writes.l0Done {t} (h : Writes ps d e) (hs : .cells ∈ ps := by decide) : Writes ps d (l0Done t e) :=
  .modProg .cells h hs

theorem Writes.reportConfirm {t} (h : Writes ps d e) (hs : [.gligil, .sent] ⊆ ps := by decide) :
    Writes ps d (reportConfirm t e) :=
  h.then hs (.ite .refl (.ite (.setGl .refl) (.glSend .refl)))

theorem Writes.overrun {t} (h : Writes ps d e) (hs : fenced ⊆ ps := by decide) : Writes ps d (overrun t e) := by
  refine h.then hs ?_
  unfold Machine.overrun
  extract_lets k n counted told
  have written : Writes fenced e counted := .modTask .refl
  refine .when (.taskFault .refl) ?_
  unfold told
  split
  · exact .raise written
  · exact written

theorem Writes.sendDecision {t go} (h : Writes ps d e) (hs : [.gligil, .sent] ⊆ ps := by decide) :
    Writes ps d (sendDecision t go e) := .glSend h hs

theorem Writes.mismatch {context t analogue el} (h : Writes ps d e) (hs : raised ++ [.pair] ⊆ ps := by decide) :
    Writes ps d (mismatch context t analogue el e) :=
  h.then hs (.raise (.setRed .refl))

theorem Writes.modTake {g} (h : Writes ps d e) (hs : .pair ∈ ps := by decide) : Writes ps d (modTake g e) :=
  .setRed h hs

theorem Writes.warmCompare {t} (h : Writes ps d e) (hs : fenced ⊆ ps := by decide) :
    Writes ps d (warmCompare t e) := by
  refine h.then hs (.ite .refl ?_)
  dsimp only
  split
  · exact .modTake .refl
  · exact .ite (.modTake (.mismatch (.modTake .refl)))
      (.when (.enterSafe .refl) (.modTake (.mismatch (.modTake .refl))))

theorem Writes.commitJournals {t} (h : Writes ps d e) (hs : .journals ∈ ps := by decide) :
    Writes ps d (commitJournals t e) :=
  .foldl h fun _ _ => .modProg .journals .refl hs

theorem Writes.commitValues {t} (h : Writes ps d e) (hs : .values ∈ ps := by decide) :
    Writes ps d (commitValues t e) := by
  refine .trans h (.foldl (.foldl (.foldl .refl fun d key => ?_) fun d key => .modProg .values .refl hs)
    fun d f => .when (.modProg .values .refl hs) .refl)
  split
  · exact .modProg .values .refl hs
  · exact .refl

theorem Writes.commitRetentive {t keys} (h : Writes ps d e) (hs : .power ∈ ps := by decide) :
    Writes ps d (commitRetentive t keys e) := .setPwr h hs

theorem Writes.commitStats {t} (h : Writes ps d e) (hs : .tasks ∈ ps := by decide) : Writes ps d (commitStats t e) :=
  .modTask h hs

theorem Writes.commitInputs {t} (h : Writes ps d e) (hs : .inputs ∈ ps := by decide) :
    Writes ps d (commitInputs t e) := by
  refine .foldl h fun d el => ?_
  split
  · exact .modPIn .refl hs
  · exact .refl

theorem Writes.releaseTask {t} (h : Writes ps d e) (hs : raised ++ [.pair] ⊆ ps := by decide) :
    Writes ps d (releaseTask t e) :=
  h.then hs (.unless (.when (.raise (.setRed .refl)) (.modTake .refl)) .refl)

/-- What a commit writes. -/
def commitParts : List Part := raised ++ [.sys, .tasks, .values, .journals, .inputs, .restOfProgram, .loops, .digital,
  .analog, .pair, .panel, .power]

theorem Writes.commitTask {t m} (h : Writes ps d e) (hs : commitParts ⊆ ps := by decide) :
    Writes ps d (commitTask t m e) := by
  refine h.then hs (.when (.settleAll (.modTask .refl)) (.trans (.modTask (.modProg .restOfProgram (.loopsFirstCommit
    (.when (.panelCommit (.historyCommit .refl)) (.commitStats (.commitInputs (.commitRetentive (.shadowWrite
    (.when (.commitToField .refl) (.commitValues (.commitJournals .refl)))))))))))
    (.ite (.releaseTask .refl) (.modTake .refl))))

theorem Writes.abandonCycle {t} (h : Writes ps d e) (hs : stopped ++ [.digital, .analog] ⊆ ps := by decide) :
    Writes ps d (abandonCycle t e) := by
  refine h.then hs ?_
  unfold Machine.abandonCycle
  split
  · exact .stopCheck (.dropCycle (.modTask .refl))
  · exact .stopCheck (.dropCycle (.modTask .refl))
  · exact .stopCheck (.dropCycle (.modTask .refl))
  · exact .refl

theorem Writes.enterHold (h : Writes ps d e) (hs : stopped ++ [.digital, .analog, .power, .history] ⊆ ps := by decide) :
    Writes ps d (enterHold e) :=
  h.then hs (.unless (.startFlush (.setPwr (.foldl .refl fun _ _ => .abandonCycle .refl))) .refl)

theorem Writes.leaveHold (h : Writes ps d e) (hs : .power ∈ ps := by decide) : Writes ps d (leaveHold e) :=
  .when (.setPwr .refl hs) h

theorem Writes.modGl {g} (h : Writes ps d e) (hs : .gligil ∈ ps := by decide) : Writes ps d (modGl g e) :=
  .setGl h hs

end
end Sys2Proof.Machine
end

section
/-!
PROOF. Frames: the lease, the arbiter, and the replication stream of a pair.
-/

namespace Sys2Proof.Machine

open Sys2Proof Sys2Proof.Claims

section
variable {ps : List Part} {d e : Dev}

/-- What a message on the network writes. -/
def netParts : List Part := [.network, .sent]

theorem Writes.announce (h : Writes ps d e) (hs : netParts ⊆ ps := by decide) : Writes ps d (announce e) :=
  .unless (.foldl .refl fun _ _ => .stationTo .refl hs) h

/-! ### Machine/Lease: the device that asks -/

theorem Writes.modLease {g} (h : Writes ps d e) (hs : .pair ∈ ps := by decide) : Writes ps d (modLease g e) :=
  .setRed h hs

theorem Writes.leaseRequest {cold fallback} (h : Writes ps d e) (hs : .pair ∈ ps := by decide) :
    Writes ps d (leaseRequest cold fallback e).2 := .modLease h hs

theorem Writes.toArbiter {type x} (h : Writes ps d e) (hs : netParts ⊆ ps := by decide) :
    Writes ps d (toArbiter type x e) := .stationAuth h hs

/-- What a request of a lease writes. -/
def requestParts : List Part := netParts ++ [.pair]

theorem Writes.sendLeaseReq {cold} (h : Writes ps d e) (hs : requestParts ⊆ ps := by decide) :
    Writes ps d (sendLeaseReq cold e) :=
  h.then hs (.toArbiter (.modLease (.leaseRequest (fallback := false) .refl)))

theorem Writes.requestLease (h : Writes ps d e) (hs : requestParts ⊆ ps := by decide) : Writes ps d (requestLease e) :=
  .when (.sendLeaseReq .refl hs) h

theorem Writes.arbiterAnswer {type ip data g} (step : ∀ x o, Writes ps e (g x o)) (h : Writes ps d e)
    (hs : .network ∈ ps := by decide) : Writes ps d (arbiterAnswer type ip data e g) := by
  refine h.trans (.withStation (fun x => ?_) .refl hs)
  split
  · exact .countDiscard .refl hs
  · split
    · exact .countDiscard .refl hs
    · refine .ite .refl ?_
      split
      · exact step _ _
      · exact .refl

theorem Writes.leaseAck {arbiter x o} (h : Writes ps d e) (hs : .pair ∈ ps := by decide) :
    Writes ps d (leaseAck arbiter x o e) :=
  .unless (.modLease .refl hs) h

theorem Writes.arbiterTest (h : Writes ps d e) (hs : raised ++ [.pair] ⊆ ps := by decide) :
    Writes ps d (arbiterTest e) :=
  h.then hs (.unless (.raise (.modLease .refl)) .refl)

/-! ### Machine/Lease: the arbiter -/

theorem Writes.modArb {n g} (h : Writes ps d e) (hs : .pair ∈ ps := by decide) : Writes ps d (modArb n g e) :=
  .setRed h hs

theorem Writes.arbAnswer {n type r x} (h : Writes ps d e) (hs : netParts ⊆ ps := by decide) :
    Writes ps d (arbAnswer n type r x e) := .stationAuth h hs

theorem Writes.arbDeny {n r reason} (h : Writes ps d e) (hs : requestParts ⊆ ps := by decide) :
    Writes ps d (arbDeny n r reason e) :=
  h.then hs (.arbAnswer (.modArb .refl))

/-- What the arbiter writes as it decides. -/
def arbiterParts : List Part := raised ++ [.network, .pair, .power]

theorem Writes.arbGrant {n r} (h : Writes ps d e) (hs : arbiterParts ⊆ ps := by decide) :
    Writes ps d (arbGrant n r e) :=
  h.then hs (.foldl (.raise (.arbAnswer (.confChanged (.modArb .refl)))) fun _ _ => .arbDeny .refl)

theorem Writes.arbNext {n} (h : Writes ps d e) (hs : arbiterParts ⊆ ps := by decide) : Writes ps d (arbNext n e) := by
  unfold Machine.arbNext
  split
  · exact h
  · exact .when (.arbGrant .refl hs) h

theorem Writes.noteReq {c epoch n} (h : Writes ps d e) (hs : .pair ∈ ps := by decide) :
    Writes ps d (noteReq c epoch n e) := .setRed h hs

theorem Writes.forArbiter {type ip data g} (step : ∀ x key epoch hd f, Writes arbiterParts e f →
      Writes arbiterParts e (g x key epoch hd f)) (h : Writes ps d e) (hs : arbiterParts ⊆ ps := by decide) :
    Writes ps d (forArbiter type ip data e g) := by
  refine h.then hs (.ite .refl (.withStation (fun x => ?_) .refl))
  split
  · exact .raise .refl
  · split
    · exact .countDiscard .refl
    · exact .ite (step _ _ _ _ _ (.noteReq .refl)) .refl

theorem Writes.arbRequest {n x r} (h : Writes ps d e) (hs : arbiterParts ⊆ ps := by decide) :
    Writes ps d (arbRequest n x r e) :=
  h.then hs (.ite (.arbDeny .refl) (.ite (.ite (.arbDeny .refl) (.ite (.arbDeny .refl) (.modArb .refl)))
    (.ite (.arbGrant .refl) (.modArb .refl))))

theorem Writes.arbRenew {n ip x epoch hd} (h : Writes ps d e) (hs : arbiterParts ⊆ ps := by decide) :
    Writes ps d (arbRenew n ip x epoch hd e) := by
  refine h.then hs (.ite (.ite .refl (.arbAnswer (.confChanged (.modArb .refl)))) ?_)
  split
  · exact .ite (.arbAnswer (.modArb .refl)) .refl
  · exact .refl

theorem Writes.fallbackAck {x send} (step : ∀ b f, Writes ps d f → Writes ps d (send b f)) (h : Writes ps d e)
    (hs : .pair ∈ ps := by decide) : Writes ps d (fallbackAck x send e) :=
  .ite h (step _ _ (.modLease h hs))

theorem Writes.arbSet {p} (h : Writes ps d e) (hs : [.pair, .power] ⊆ ps := by decide) : Writes ps d (arbSet p e) :=
  h.then hs (.confChanged (.modArb .refl))

/-! ### Machine/Firn -/

theorem Writes.modFirn {g} (h : Writes ps d e) (hs : .pair ∈ ps := by decide) : Writes ps d (modFirn g e) :=
  .setRed h hs

theorem Writes.modShadow {g} (h : Writes ps d e) (hs : .pair ∈ ps := by decide) : Writes ps d (modShadow g e) :=
  .setRed h hs

theorem Writes.setStandby {st} (h : Writes ps d e) (hs : .pair ∈ ps := by decide) : Writes ps d (setStandby st e) :=
  .setRed h hs

/-- What the replication stream writes. -/
def streamParts : List Part := messages ++ [.pair]

theorem Writes.firnSend {type body} (h : Writes ps d e) (hs : streamParts ⊆ ps := by decide) :
    Writes ps d (firnSend type body e) :=
  h.then hs (.pairSend (.modFirn .refl))

theorem Writes.sendSegment {im off} (h : Writes ps d e) (hs : streamParts ⊆ ps := by decide) :
    Writes ps d (sendSegment im off e) :=
  h.then hs (.ite (.modFirn (.firnSend .refl)) (.modFirn (.firnSend .refl)))

theorem Writes.pumpPass {im n} (h : Writes ps d e) (hs : streamParts ⊆ ps := by decide) :
    Writes ps d (pumpPass im n e) := by
  induction n generalizing e with
  | zero => exact h
  | succ n ih =>
    unfold Machine.pumpPass
    split
    · exact h
    · exact .ite h (ih (.sendSegment h hs))

theorem Writes.startPassSend (h : Writes ps d e) (hs : streamParts ⊆ ps := by decide) :
    Writes ps d (startPassSend e) := by
  refine h.then hs ?_
  unfold Machine.startPassSend
  split
  · exact .refl
  · exact .ite .refl (.pumpPass (.modFirn .refl))

/-- What the replication stream writes where it may raise. -/
def replicaParts : List Part := raised ++ streamParts

theorem Writes.backlogTest (h : Writes ps d e) (hs : replicaParts ⊆ ps := by decide) : Writes ps d (backlogTest e) :=
  h.then hs (.ite .refl (.startPassSend (.gapEvent (.setRed (.modFirn .refl)))))

theorem Writes.sendDelta {t final} (h : Writes ps d e) (hs : replicaParts ⊆ ps := by decide) :
    Writes ps d (sendDelta t final e) := by
  refine h.then hs ?_
  unfold Machine.sendDelta
  split
  · exact .refl
  · exact .ite .refl (.backlogTest (.modFirn (.foldl .refl fun _ _ => .firnSend .refl)))

theorem Writes.sendShadowInput {t} (h : Writes ps d e) (hs : messages ⊆ ps := by decide) :
    Writes ps d (sendShadowInput t e) :=
  .unless (.pairSend .refl hs) h

theorem Writes.pairPayload {type via data g} (step : ∀ p, Writes ps e (g p)) (h : Writes ps d e)
    (hs : .network ∈ ps := by decide) : Writes ps d (pairPayload type via data e g) := by
  refine h.trans ?_
  unfold Machine.pairPayload
  split
  · exact .ite (step _) .refl
  · refine .withStation (fun x => ?_) .refl hs
    split
    · exact .countDiscard .refl hs
    · exact .ite (step _) .refl

theorem Writes.sendFirnAck (h : Writes ps d e) (hs : streamParts ⊆ ps := by decide) : Writes ps d (sendFirnAck e) :=
  h.then hs (.ite .refl (.pairSend (.modFirn .refl)))

theorem Writes.passComplete (h : Writes ps d e) (hs : requestParts ⊆ ps := by decide) : Writes ps d (passComplete e) :=
  h.then hs (.ite .refl (.ite (.requestLease (.setStandby .refl)) (.setStandby (.setRed .refl))))

theorem Writes.applyFrame {f} (h : Writes ps d e) (hs : requestParts ⊆ ps := by decide) :
    Writes ps d (applyFrame f e) := by
  refine h.then hs ?_
  unfold Machine.applyFrame
  dsimp only
  split
  · exact .ite (.modFirn (.setRed .refl)) (.setRed .refl)
  · exact .when (.passComplete .refl) (.modFirn (.setRed .refl))

theorem Writes.drainFrames {n} (h : Writes ps d e) (hs : requestParts ⊆ ps := by decide) :
    Writes ps d (drainFrames n e) := by
  induction n generalizing e with
  | zero => exact h
  | succ n ih =>
    unfold Machine.drainFrames
    dsimp only
    split
    · exact h
    · exact ih (h.then hs (.applyFrame (.modFirn .refl)))

theorem Writes.takeFrame {seq f} (h : Writes ps d e) (hs : streamParts ⊆ ps := by decide) :
    Writes ps d (takeFrame seq f e) :=
  have synced : Writes streamParts e _ := .unless (.modFirn .refl) .refl
  h.then hs (.ite .refl (.ite synced (.when (.sendFirnAck .refl) (.drainFrames (.modFirn synced)))))

theorem Writes.dropRequest (h : Writes ps d e) (hs : .pair ∈ ps := by decide) : Writes ps d (dropRequest e) :=
  .when (.modLease .refl hs) h

theorem Writes.joinStep {t} (h : Writes ps d e) (hs : requestParts ⊆ ps := by decide) : Writes ps d (joinStep t e) :=
  h.then hs (.ite .refl (.when (.requestLease (.setStandby .refl)) (.setRed .refl)))

theorem Writes.shadowMiss {t r cycle} (h : Writes ps d e) (hs : .pair ∈ ps := by decide) :
    Writes ps d (shadowMiss t r cycle e) := .modShadow h hs

/-- What the load of a replica writes. -/
def loadParts : List Part := [.tasks, .values, .journals, .forces, .loops, .power]

theorem Writes.loadReplica {im} (h : Writes ps d e) (hs : loadParts ⊆ ps := by decide) :
    Writes ps d (loadReplica im e) :=
  h.then hs (.shadowWrite (.foldl (.setPwr
    (.modProgs [.tasks, .values, .journals, .forces] .refl)) fun _ _ => .when (.modSlot .refl) .refl))

theorem Writes.shadowReport (h : Writes ps d e) : Writes ps d (shadowReport e).2 := by
  unfold Machine.shadowReport
  dsimp only
  split
  · exact h
  · split
    · exact h
    · exact .freshNat (.freshNat (.freshNat (.freshNat (.freshNat (.freshNat h)))))

end
end Sys2Proof.Machine
end

section
/-!
PROOF. Frames: the placement's speed, the program's load, checks and swap, and what a standby follows.
-/

namespace Sys2Proof.Machine

open Sys2Proof Sys2Proof.Claims

section
variable {ps : List Part} {d e : Dev}

/-! ### Machine/Serial and Machine/Place -/

theorem Writes.modSer {g} (h : Writes ps d e) (hs : .serial ∈ ps := by decide) : Writes ps d (modSer g e) :=
  .setSer h hs

theorem Writes.canApply {p} (h : Writes ps d e) (hs : [.serial, .power] ⊆ ps := by decide) :
    Writes ps d (canApply p e) :=
  h.then hs (.confChanged (.modSer .refl))

theorem Writes.uartApply {p} (h : Writes ps d e) (hs : [.serial, .power] ⊆ ps := by decide) :
    Writes ps d (uartApply p e) :=
  h.then hs (.confChanged (.modSer .refl))

theorem Writes.openQuotient {a b} (h : Writes ps d e) : Writes ps d (openQuotient a b e).2 := by
  unfold Machine.openQuotient
  split
  · exact h
  · exact .freshBool h

theorem Writes.marginPercent {tile} (h : Writes ps d e) : Writes ps d (marginPercent tile e).2 := by
  unfold Machine.marginPercent
  split
  · exact h
  · dsimp only
    split
    · exact .freshInt h
    · exact .openQuotient h

theorem Writes.speedTest {tile} (h : Writes ps d e) (hs : raised ++ [.restOfProgram] ⊆ ps := by decide) :
    Writes ps d (speedTest tile e) := by
  refine h.then hs ?_
  unfold Machine.speedTest
  dsimp only
  split
  · exact .refl
  · exact .ite (.raise (.modProg .restOfProgram (.marginPercent (.freshBool .refl))))
      (.when (.modProg .restOfProgram .refl) .refl)

theorem Writes.speedSample {r} (h : Writes ps d e) (hs : raised ++ [.restOfProgram] ⊆ ps := by decide) :
    Writes ps d (speedSample r e) :=
  .foldl h fun _ _ => .then .refl hs (.speedTest (.modProg .restOfProgram .refl))

theorem Writes.queuedMove {src tgt r} (h : Writes ps d e) (move : queuedMove src tgt e = some r)
    (hs : fenced ⊆ ps := by decide) : Writes ps d r := by
  unfold Machine.queuedMove at move
  split at move
  · cases move
  · split at move
    · cases move
      exact .nextQueued h hs
    · cases move

theorem Writes.revalidate {b move} (h : Writes ps d e) (hs : fenced ++ [.program] ⊆ ps := by decide) :
    Writes ps d (revalidate b move e) := by
  refine h.then hs ?_
  unfold Machine.revalidate
  dsimp only
  split
  · split
    · exact .modProg .program .refl
    · split
      next queued => exact .queuedMove (.modProg .program .refl) queued
      · exact .ite (.modProg .program .refl) (.ite (.startMigration (.modProg .program .refl))
          (.ite (.startMigration (.modProg .program .refl)) (.modProg .program .refl)))
  · exact .refl

/-! ### Machine/Program: the slots -/

theorem Writes.modSlotRec {n g} (h : Writes ps d e) (hs : .program ∈ ps := by decide) :
    Writes ps d (modSlotRec n g e) := .modProg .program h hs

theorem Writes.modLoad {g} (h : Writes ps d e) (hs : .program ∈ ps := by decide) : Writes ps d (modLoad g e) :=
  .modProg .program h hs

theorem Writes.placementEvent {n} (h : Writes ps d e) (hs : raised ⊆ ps := by decide) :
    Writes ps d (placementEvent n e) := .raise h hs

theorem Writes.startChecks {n} (h : Writes ps d e) (hs : .program ∈ ps := by decide) :
    Writes ps d (startChecks n e) := .modSlotRec (.modProg .program h hs) hs

theorem Writes.beginLoad {n len} (h : Writes ps d e) (hs : .program ∈ ps := by decide) :
    Writes ps d (beginLoad n len e) := .modProg .program (.modSlotRec h hs) hs

theorem Writes.endLoad {n} (h : Writes ps d e) (hs : .program ∈ ps := by decide) : Writes ps d (endLoad n e) :=
  .startChecks (.modLoad h hs) hs

theorem Writes.stageWrite {slot off data m} (h : Writes ps d e) (hs : .program ∈ ps := by decide) :
    Writes ps d (stageWrite slot off data m e).1 := .modProg .program h hs

theorem Writes.fromFlash {slot i m} (h : Writes ps d e) (hs : .program ∈ ps := by decide) :
    Writes ps d (fromFlash slot i m e).1 := .endLoad (.stageWrite (slot := slot) (m := m) (.beginLoad h hs) hs) hs

theorem Writes.loadAct {m p} (h : Writes ps d e) (hs : .program ∈ ps := by decide) :
    Writes ps d (loadAct m e p).1.1 := by
  unfold Machine.loadAct
  dsimp only
  split
  · exact .beginLoad h hs
  · exact .stageWrite h hs
  · exact .endLoad h hs
  · exact .modSlotRec (.modLoad h hs) hs
  · exact .fromFlash h hs

/-! ### Machine/Program: the swap -/

theorem Writes.retainAll {im} (h : Writes ps d e) (hs : [.pair, .power] ⊆ ps := by decide) :
    Writes ps d (retainAll im e) := .setPwrRed h hs

theorem Writes.eachSlot {g : Nat → Nat → Dev → Dev} (step : ∀ u n d, Writes ps d (g u n d)) (h : Writes ps d e) :
    Writes ps d (eachSlot g e) :=
  .foldl h fun _ _ => .foldl .refl fun _ _ => step _ _ _

/-- What the installation of an image writes. -/
def installParts : List Part := progParts ++ raised ++ [.loops, .network, .panel]

theorem Writes.install {n im vals timers counters edges fields m} (h : Writes ps d e)
    (hs : installParts ⊆ ps := by decide) : Writes ps d (install n im vals timers counters edges fields m e) :=
  h.then hs (.shadowWrite (.panelSwap (.rebindAll (.subscribeAll (.modNet (.setProg .refl))))))

theorem Writes.swapSlot {im u n} (h : Writes ps d e) (hs : slotParts ⊆ ps := by decide) :
    Writes ps d (swapSlot im u n e) := by
  refine h.then hs ?_
  unfold Machine.swapSlot
  split
  · exact .refl
  · split
    · exact .ite (.modSlot .refl) (.ite (.disableSlot .refl) .refl)
    · exact .ite (.disableSlot .refl) .refl

theorem Writes.restoreSlot {im u n} (h : Writes ps d e) (hs : .loops ∈ ps := by decide) :
    Writes ps d (restoreSlot im u n e) :=
  .ite (.modSlot h hs) (.modSlot h hs)

/-- What a swap writes. -/
def swapParts : List Part := installParts ++ slotParts ++ [.pair]

theorem Writes.swapNow {us m} (h : Writes ps d e) (hs : swapParts ⊆ ps := by decide) : Writes ps d (swapNow us m e) :=
  have installed : Writes swapParts e _ := .install (.unless (.eachSlot (fun _ _ _ => .swapSlot .refl) .refl) .refl)
  h.then hs (.dmaShrink (.retainAll (.modProg .restOfProgram (.when
    (.eachSlot (fun _ _ _ => .restoreSlot .refl) .refl) installed))))

theorem Writes.gapStart (h : Writes ps d e) (hs : stopped ++ [.digital, .analog] ⊆ ps := by decide) :
    Writes ps d (gapStart e) :=
  h.then hs (.ite .refl (.foldl (.modProg .restOfProgram .refl) fun _ _ => .abandonCycle .refl))

theorem Writes.gapEnd {us m} (h : Writes ps d e) (hs : swapParts ++ messages ⊆ ps := by decide) :
    Writes ps d (gapEnd us m e) :=
  h.then hs (.ite .refl (.when (.pairSend .refl) (.raise (.swapNow .refl))))

/-! ### Machine/Program: the checks -/

theorem Writes.spread {b map} (h : Writes ps d e) (hs : [.gligil, .sent] ⊆ ps := by decide) :
    Writes ps d (spread b map e) :=
  have forwarded : Writes [.gligil, .sent] e _ := .when (.foldl .refl fun _ _ => .glSend .refl) .refl
  h.then hs (.ite forwarded (.foldl forwarded fun _ _ => .ite .refl (.glSendLong .refl)))

theorem Writes.bootFault (h : Writes ps d e) (hs : raised ⊆ ps := by decide) : Writes ps d (bootFault e) :=
  .raise h hs

/-- What the start of a program at start-up writes. -/
def startParts : List Part := installParts ++ [.pair, .power]

theorem Writes.startProgram {n m} (h : Writes ps d e) (hs : startParts ⊆ ps := by decide) :
    Writes ps d (startProgram n m e) :=
  have installed : Writes startParts e _ := .eachSlot (fun _ _ _ => .restoreSlot .refl) (.install .refl)
  h.then hs (.setPwr (.ite installed (.raise (.retainAll installed))))

theorem Writes.bootLoad {m} (h : Writes ps d e) (hs : raised ++ [.program, .power] ⊆ ps := by decide) :
    Writes ps d (bootLoad m e).1 := by
  refine h.then hs ?_
  unfold Machine.bootLoad
  dsimp only
  split
  · exact .refl
  split
  · exact .bootFault .refl
  · exact .setPwr (.fromFlash .refl)

theorem Writes.checksDone {map m} (h : Writes ps d e) (hs : startParts ++ [.gligil] ⊆ ps := by decide) :
    Writes ps d (checksDone map m e).1 := by
  refine h.then hs ?_
  unfold Machine.checksDone
  split
  · exact .refl
  split
  · exact .refl
  extract_lets bytes
  split
  extract_lets ok slot cleared loaded told power begun
  have checked : Writes (startParts ++ [.gligil]) e loaded :=
    .when (.modLoad .refl) (.modProg .program (.modSlotRec .refl))
  clear_value loaded
  split
  · have reported : Writes (startParts ++ [.gligil]) e told := .placementEvent checked
    split
    · exact .when (.spread .refl) reported
    · exact reported
  · extract_lets ended
    have reported : Writes (startParts ++ [.gligil]) e ended := .unless (.placementEvent .refl) (.setPwr checked)
    clear_value ended
    split
    · exact .startProgram reported
    split
    · exact .bootLoad reported
    · exact .bootFault (.modProg .program reported)

theorem Writes.placementPart {map own} (h : Writes ps d e) (hs : [.sent, .program, .gligil] ⊆ ps := by decide) :
    Writes ps d (placementPart map own e) :=
  h.then hs (.ite .refl (.glSend (.when (.modProg .program .refl) .refl)))

theorem Writes.imagePart {off data last m} (h : Writes ps d e) (hs : .program ∈ ps := by decide) :
    Writes ps d (imagePart off data last m e).1 := by
  unfold Machine.imagePart
  dsimp only
  split
  · exact h
  · exact .when (.startChecks .refl hs) (.modSlotRec (.when (.modSlotRec .refl hs) h) hs)

/-! ### Machine/PairCmd -/

theorem Writes.followSwap {m} (h : Writes ps d e) (hs : swapParts ++ messages ⊆ ps := by decide) :
    Writes ps d (followSwap m e) :=
  have swapped : Writes (swapParts ++ messages) e _ := .when (.raise (.swapNow (.freshNat .refl))) .refl
  h.then hs (.ite swapped (.sendFirnAck (.modFirn (.setStandby (.shadowEnd (.dropRequest swapped))))))

theorem Writes.pairNotice {n m} (h : Writes ps d e) (hs : swapParts ++ messages ⊆ ps := by decide) :
    Writes ps d (pairNotice n m e) := by
  refine h.then hs (.ite .refl ?_)
  cases n with
  | fence => exact .requestLease .refl
  | swap => exact .ite .refl (.followSwap .refl)

theorem Writes.applyIf {tests} {g : Dev → Dev} (step : Writes ps e (g e)) (h : Writes ps d e) :
    Writes ps d (applyIf tests g e) :=
  .unless step h

theorem Writes.taskCfgApply {p} (h : Writes ps d e) (hs : [.tasks, .power] ⊆ ps := by decide) :
    Writes ps d (taskCfgApply p e) :=
  h.then hs (.confChanged (.modTask .refl))

theorem Writes.policyApply {p} (h : Writes ps d e) (hs : .inputs ∈ ps := by decide) :
    Writes ps d (policyApply p e) :=
  .foldl h fun _ _ => .modPIn .refl hs

/-- What a configuration that the active device forwards writes. -/
def forwardedParts : List Part := slotParts ++ [.tasks, .inputs, .network, .serial, .gligil]

theorem Writes.forwarded {code p} (h : Writes ps d e) (hs : forwardedParts ⊆ ps := by decide) :
    Writes ps d (forwarded code p e) := by
  refine h.then hs ?_
  unfold Machine.forwarded
  split
  · exact .applyIf (.taskCfgApply .refl) .refl
  · exact .applyIf (.policyApply .refl) .refl
  · exact .applyIf (.loopCfgApply .refl) .refl
  · exact .applyIf (.modSlot .refl) .refl
  · exact .applyIf (.coefMark .refl) .refl
  · exact .applyIf (.diCfgApply .refl) .refl
  · exact .applyIf (.doCfgApply .refl) .refl
  · exact .applyIf (.wdgCfgApply .refl) .refl
  · exact .applyIf (.tripApply .refl) .refl
  · exact .applyIf (.aiCfgApply .refl) .refl
  · exact .applyIf (.aoCfgApply .refl) .refl
  · exact .applyIf (.canApply .refl) .refl
  · exact .applyIf (.uartApply .refl) .refl
  · exact .refl

end
end Sys2Proof.Machine
end

section
/-!
PROOF. Frames: the commands of tasks and placement, the settings in the flash, the supplies, the resets and the start-up.
-/

namespace Sys2Proof.Machine

open Sys2Proof Sys2Proof.Claims

section
variable {ps : List Part} {d e : Dev}

/-! ### Machine/TaskCmd -/

theorem Writes.freshTimers {t} (h : Writes ps d e) (hs : .journals ∈ ps := by decide) :
    Writes ps d (freshTimers t e) := .modProg .journals h hs

/-- What the start of a task writes. -/
def startTaskParts : List Part := [.tasks, .journals, .inputs]

theorem Writes.startTask {t} (h : Writes ps d e) (hs : startTaskParts ⊆ ps := by decide) :
    Writes ps d (startTask t e) :=
  h.then hs (.freshTimers (.modTask (.foldl .refl fun _ _ => .modPIn .refl)))

theorem Writes.stopSelected {safe t} (h : Writes ps d e) (hs : stopped ++ [.digital, .analog] ⊆ ps := by decide) :
    Writes ps d (stopSelected safe t e) :=
  have ended : Writes (stopped ++ [.digital, .analog]) e _ := .unless (.stopTask .refl) .refl
  h.then hs (.ite (.modTask .refl) (.when (.settleAll (.modTask .refl)) ended))

theorem Writes.readOne {space el} (h : Writes ps d e) : Writes ps d (readOne space el e).2 := by
  unfold Machine.readOne
  split
  · exact h
  · dsimp only
    split
    · exact h
    · exact .freshNat h

theorem Writes.reportBudget {t} (h : Writes ps d e) : Writes ps d (reportBudget t e).2 := by
  unfold Machine.reportBudget
  dsimp only
  split
  · exact .freshInt h
  · exact .openQuotient h

theorem Writes.reportBlock {b} (h : Writes ps d e) : Writes ps d (reportBlock b e).2 := .openQuotient h

theorem Writes.reportTile {t} (h : Writes ps d e) : Writes ps d (reportTile t e).2 := .marginPercent h

theorem Writes.gather {α : Type} {g : α → Dev → Bytes × Dev} {l : List α} (step : ∀ x d, Writes ps d (g x d).2)
    (h : Writes ps d e) : Writes ps d (gather g l e).2 :=
  .foldl_snd h fun _ _ => step _ _

theorem Writes.reportPage {kind page} (h : Writes ps d e) : Writes ps d (reportPage kind page e).2 := by
  unfold Machine.reportPage
  split
  · exact h
  · exact .gather (fun _ _ => .reportBudget .refl) h
  · exact .gather (fun _ _ => .reportBlock .refl) h
  · exact h
  · exact .gather (fun _ _ => .reportTile .refl) h

/-! ### Machine/Flash -/

theorem Writes.modPwr {g} (h : Writes ps d e) (hs : .power ∈ ps := by decide) : Writes ps d (modPwr g e) :=
  .setPwr h hs

theorem Writes.confSave (h : Writes ps d e) (hs : .power ∈ ps := by decide) : Writes ps d (confSave e) :=
  .unless (.modPwr .refl hs) h

theorem Writes.periodicSnapshot (h : Writes ps d e) (hs : .power ∈ ps := by decide) :
    Writes ps d (periodicSnapshot e) :=
  .unless (.modPwr .refl hs) h

theorem Writes.flashFault (h : Writes ps d e) (hs : raised ⊆ ps := by decide) : Writes ps d (flashFault e) :=
  .raise h hs

theorem Writes.flashDone {k ok} (h : Writes ps d e) (hs : raised ++ [.pair, .power] ⊆ ps := by decide) :
    Writes ps d (flashDone k ok e) := by
  refine h.then hs ?_
  cases k with
  | config =>
    unfold Machine.flashDone
    dsimp only
    split
    · exact .refl
    · exact .ite .refl (.ite (.setRed (.modPwr .refl)) (.flashFault (.modPwr .refl)))
  | snapshot =>
    unfold Machine.flashDone
    dsimp only
    split
    · exact .refl
    · exact .ite .refl (.ite (.modPwr .refl) (.flashFault (.modPwr .refl)))
  | erase => exact .ite .refl (.unless (.flashFault .refl) (.modPwr .refl))

theorem Writes.snapshotDone {ok} (h : Writes ps d e) (hs : raised ++ [.power] ⊆ ps := by decide) :
    Writes ps d (snapshotDone ok e) := by
  refine h.then hs ?_
  unfold Machine.snapshotDone
  split
  · exact .refl
  · split
    · exact .leaveHold (.unless (.ite (.modPwr .refl) (.flashFault .refl)) (.modPwr (.modHist .refl)))
    · exact .leaveHold (.unless (.ite (.modPwr .refl) (.flashFault .refl)) (.modPwr .refl))

theorem Writes.restoreHistory {c por} (h : Writes ps d e) (hs : .history ∈ ps := by decide) :
    Writes ps d (restoreHistory c por e) := .modHist h hs

theorem Writes.takeEpoch (h : Writes ps d e) (hs : raised ++ [.power] ⊆ ps := by decide) :
    Writes ps d (takeEpoch e) := by
  refine h.then hs (.modHist ?_)
  split
  · exact .modPwr .refl
  · exact .raise (.modPwr .refl)

theorem Writes.loadBootFrame {m} (h : Writes ps d e) (hs : .panel ∈ ps := by decide) :
    Writes ps d (loadBootFrame m e).1 := by
  unfold Machine.loadBootFrame
  dsimp only
  split
  · exact h
  · exact .modPanel h hs

/-- What the configuration of a start-up writes. -/
def confParts : List Part := [.tasks, .loops, .digital, .analog, .network, .serial, .pair, .integrity, .rtc, .panel, .power]

theorem Writes.applyConf {c} (h : Writes ps d e) (hs : confParts ⊆ ps := by decide) : Writes ps d (applyConf c e) :=
  h.then hs fun p hp => by cases p <;> simp_all [Part.same, confParts, Machine.applyConf]

/-! ### Machine/Power: the resets -/

theorem Writes.freeBytes {n} (h : Writes ps d e) : Writes ps d (freeBytes n e).2 := by
  induction n generalizing e with
  | zero => exact h
  | succ n ih => exact ih (.freshNat h)

theorem Writes.spoilWrite {w m} (h : Writes ps d e) : Writes ps d (spoilWrite w m e).1 := .freeBytes h

/-- The parts of the device that a reset may write. -/
def resetParts : List Part := progParts ++ [.sys, .mailbox, .events, .host, .history, .loops, .digital, .analog,
  .network, .serial, .gligil, .pair, .integrity, .rtc, .panel, .otp, .power, .tick]

theorem Writes.resetBlocks {k kept} (h : Writes ps d e) (hs : resetParts ⊆ ps := by decide) :
    Writes ps d (resetBlocks k kept e) :=
  h.then hs fun p hp => by cases p <;> simp_all [Part.same, resetParts, progParts, Machine.resetBlocks]

theorem Writes.resetWith {k m} (h : Writes ps d e) (hs : resetParts ⊆ ps := by decide) :
    Writes ps d (resetWith k m e).1 := by
  refine h.then hs ?_
  unfold Machine.resetWith
  dsimp only
  split
  · exact .resetBlocks (.spoilWrite (.cutFlush .refl))
  · exact .resetBlocks (.cutFlush .refl)

theorem Writes.resetDev {k m} (h : Writes ps d e) (hs : resetParts ⊆ ps := by decide) :
    Writes ps d (resetDev k m e).1 :=
  h.then hs (.resetWith (.setSys .refl))

theorem Writes.jtagUpdate {i m} (h : Writes ps d e) (hs : resetParts ⊆ ps := by decide) :
    Writes ps d (jtagUpdate i m e).1 := by
  refine h.then hs ?_
  unfold Machine.jtagUpdate
  dsimp only
  split
  · exact .resetWith (.modPwr .refl)
  · exact .modPwr .refl

theorem Writes.tapReset {m} (h : Writes ps d e) (hs : resetParts ⊆ ps := by decide) :
    Writes ps d (tapReset m e).1 := by
  refine h.then hs ?_
  unfold Machine.tapReset
  dsimp only
  split
  · exact .resetDev (.modPwr .refl)
  · exact .modPwr .refl

theorem Writes.setSysOtp {x y} (h : Writes ps d e) (hs : [.sys, .otp] ⊆ ps := by decide) :
    Writes ps d { e with sys := x, otp := y } := by
  have put : Writes [.sys, .otp] e { e with sys := x } := .setSys .refl
  exact h.then hs (put.setOtp (x := y))

theorem Writes.resetEnd {pos sel m} (h : Writes ps d e) (hs : [.sys, .gligil, .otp, .power] ⊆ ps := by decide) :
    Writes ps d (resetEnd pos sel m e) :=
  h.then hs (.ite .refl (.modGl (.modPwr (.setSysOtp .refl))))

/-! ### Machine/Power: the start-up -/

theorem Writes.openChannels (h : Writes ps d e) (hs : .mailbox ∈ ps := by decide) : Writes ps d (openChannels e) :=
  .foldl h fun _ _ => .setChan .refl hs

/-- What the firmware writes as it answers. -/
def readyParts : List Part := raised ++ [.sys, .mailbox, .power]

theorem Writes.fwReady (h : Writes ps d e) (hs : readyParts ⊆ ps := by decide) : Writes ps d (fwReady e) :=
  h.then hs (.raiseIf (.raise (.openChannels (.modPwr (.setSys .refl)))))

theorem Writes.restoreConf (h : Writes ps d e) (hs : raised ++ [.power] ⊆ ps := by decide) :
    Writes ps d (restoreConf e).2 := by
  refine h.then hs ?_
  unfold Machine.restoreConf
  split
  · exact .modPwr .refl
  · exact .raise .refl

theorem Writes.restoreData (h : Writes ps d e) (hs : .power ∈ ps := by decide) : Writes ps d (restoreData e) := by
  unfold Machine.restoreData
  split
  · exact h
  · split
    · exact .modPwr h hs
    · exact h

theorem Writes.restoreLost {a} (h : Writes ps d e) (hs : raised ++ [.integrity] ⊆ ps := by decide) :
    Writes ps d (restoreLost a e) :=
  h.then hs (.logFunctional (.privLost .refl))

/-- What the records that a start-up loses write. -/
def lossParts : List Part := raised ++ [.integrity, .power]

theorem Writes.loseRecord {im x} (h : Writes ps d e) (hs : lossParts ⊆ ps := by decide) :
    Writes ps d (loseRecord im x e) := by
  refine h.then hs ?_
  cases x with
  | conf | elem | override => exact .restoreLost (.modPwr .refl)

theorem Writes.loseRecords {m lost} (h : Writes ps d e) (hs : lossParts ⊆ ps := by decide) :
    Writes ps d (loseRecords m lost e) :=
  .when (.foldl .refl fun _ _ => .loseRecord .refl hs) h

/-- What the start of the firmware writes. -/
def firmwareParts : List Part := readyParts ++ confParts

theorem Writes.setSysRed {x y} (h : Writes ps d e) (hs : [.sys, .pair] ⊆ ps := by decide) :
    Writes ps d { e with sys := x, red := y } := by
  have put : Writes [.sys, .pair] e { e with sys := x } := .setSys .refl
  exact h.then hs (put.setRed (x := y))

theorem Writes.startFirmware {lost m copy fallback} (h : Writes ps d e) (hs : firmwareParts ⊆ ps := by decide) :
    Writes ps d (startFirmware lost m copy fallback e).1 := by
  refine h.then hs (.panelGo (.fwReady (.loadBootFrame (m := m) (.modPwr (.setSysRed ?_)))))
  split
  · exact .modPwr (.takeEpoch (.modPwr (.restoreHistory (.restoreData (.applyConf (.restoreConf (.loseRecords
      (.when (.raise .refl) (.modPwr (.setSys .refl))))))))))
  · exact .bootFault (.takeEpoch (.modPwr (.restoreHistory (.restoreData (.applyConf (.restoreConf (.loseRecords
      (.when (.raise .refl) (.modPwr (.setSys .refl))))))))))

theorem Writes.startupReady {lost m} (h : Writes ps d e) (hs : firmwareParts ⊆ ps := by decide) :
    Writes ps d (startupReady lost m e).1 := by
  refine h.then hs ?_
  unfold Machine.startupReady
  dsimp only
  split
  · exact .refl
  split
  · exact .fwReady (.setSys .refl)
  split
  · exact .startFirmware .refl
  · exact .fwReady (.setSys (.modPwr (.when (.raise .refl) .refl)))

theorem Writes.programLoad {m} (h : Writes ps d e) (hs : raised ++ [.program, .power] ⊆ ps := by decide) :
    Writes ps d (programLoad m e).1 := by
  refine h.then hs ?_
  unfold Machine.programLoad
  dsimp only
  split
  · exact .refl
  split
  · exact .modPwr (.startChecks (.modPwr .refl))
  · exact .bootLoad (.modProg .program (.modPwr .refl))

theorem Writes.autostart {b} (h : Writes ps d e) (hs : startTaskParts ++ [.power] ⊆ ps := by decide) :
    Writes ps d (autostart b e) :=
  h.then hs (.ite .refl (.ite .refl (.unless (.foldl .refl fun _ _ => .startTask .refl) (.modPwr .refl))))

/-! ### Machine/Power: the supplies and the temperature -/

theorem Writes.wdgStage1 {pair} (h : Writes ps d e) (hs : raised ++ [.power] ⊆ ps := by decide) :
    Writes ps d (wdgStage1 pair e) :=
  h.then hs (.ite .refl (.raise (.modPwr .refl)))

theorem Writes.railWarn {i mv} (h : Writes ps d e) (hs : raised ⊆ ps := by decide) : Writes ps d (railWarn i mv e) :=
  .ite (.raise h hs) (.raise h hs)

theorem Writes.railStep {i mv} (h : Writes ps d e) (hs : raised ++ [.power] ⊆ ps := by decide) :
    Writes ps d (railStep i mv e) :=
  h.then hs (.when (.railWarn .refl) (.modPwr .refl))

theorem Writes.railSample {mv} (h : Writes ps d e) (hs : raised ++ [.power] ⊆ ps := by decide) :
    Writes ps d (railSample mv e) :=
  h.then hs (.ite .refl (.foldl (.modPwr .refl) fun _ _ => .railStep .refl))

theorem Writes.vbatMeasure {v} (h : Writes ps d e) (hs : raised ++ [.power] ⊆ ps := by decide) :
    Writes ps d (vbatMeasure v e) :=
  h.then hs (.ite .refl (.when (.raise .refl) (.modPwr .refl)))

theorem Writes.tjHighStep {detail sum} (h : Writes ps d e) (hs : raised ++ [.power] ⊆ ps := by decide) :
    Writes ps d (tjHighStep detail sum e) :=
  h.then hs (.ite (.when (.raise .refl) (.modPwr .refl)) (.ite (.modPwr .refl) (.modPwr .refl)))

theorem Writes.tjMeasure {sensor temp} (h : Writes ps d e) (hs : fenced ⊆ ps := by decide) :
    Writes ps d (tjMeasure sensor temp e) := by
  refine h.then hs (.ite .refl ?_)
  dsimp only
  split
  · exact .modPwr .refl
  · exact .when (.ladderL2 (.raise (.modPwr .refl))) (.tjHighStep (.modPwr .refl))

/-- What the fall of the supply writes. -/
def pfwParts : List Part := raised ++ stopped ++ [.digital, .analog, .gligil, .panel, .power]

theorem Writes.pfwFall {m} (h : Writes ps d e) (hs : pfwParts ⊆ ps := by decide) : Writes ps d (pfwFall m e).1 := by
  refine h.then hs ?_
  unfold Machine.pfwFall
  split
  · exact .refl
  · exact .sendStatus (.enterHold (.panelPfw (.raise (.modPwr .refl))))

theorem Writes.pfwEnd (h : Writes ps d e) (hs : [.sent, .gligil, .panel, .power] ⊆ ps := by decide) :
    Writes ps d (pfwEnd e) :=
  h.then hs (.ite .refl (.sendStatus (.panelResume (.leaveHold (.modPwr .refl)))))

end
end Sys2Proof.Machine
end

section
/-!
PROOF. Frames: the addressed memories, and the frame of a whole command from what its effect writes.
-/

namespace Sys2Proof.Machine

open Sys2Proof Sys2Proof.Claims

/-! ## The addressed memories -/

/-- From some addressed memories to others, at most the parts listed have been written. -/
def MemWrites (ps : List Part) (m m' : Mems) : Prop := ∀ p, p ∉ ps → p.same { mem := m } { mem := m' }

section
variable {ps ws : List Part} {m m' m'' : Mems}

theorem MemWrites.refl : MemWrites ps m m := fun p _ => same_refl p _

theorem MemWrites.then (h : MemWrites ps m m') (hs : ws ⊆ ps) (h' : MemWrites ws m' m'') : MemWrites ps m m'' :=
  fun p hp => same_trans (h p hp) (h' p fun hw => hp (hs hw))

theorem MemWrites.setStore {a b} (h : MemWrites ps m m') (hs : .store ∈ ps := by decide) :
    MemWrites ps m { m' with storeA := a, storeB := b } :=
  fun p hp => same_trans (h p hp) (by cases p <;> simp_all [Part.same])

theorem MemWrites.setShown {x} (h : MemWrites ps m m') (hs : .frames ∈ ps := by decide) :
    MemWrites ps m { m' with shown := x } :=
  fun p hp => same_trans (h p hp) (by cases p <;> simp_all [Part.same])

theorem MemWrites.setOtp {x} (h : MemWrites ps m m') (hs : .otpBytes ∈ ps := by decide) :
    MemWrites ps m { m' with otp := x } :=
  fun p hp => same_trans (h p hp) (by cases p <;> simp_all [Part.same])

/-! ### Loads and checks of a program -/

theorem MemWrites.stageWrite {slot off data d} (hs : .store ∈ ps := by decide) :
    MemWrites ps m (stageWrite slot off data m d).2 := .setStore .refl hs

theorem MemWrites.fromFlash {slot i d} (hs : .store ∈ ps := by decide) : MemWrites ps m (fromFlash slot i m d).2 :=
  .stageWrite (d := Machine.beginLoad slot (flashImageLen m i) d) hs

theorem MemWrites.loadAct {d p} (hs : .store ∈ ps := by decide) : MemWrites ps m (loadAct m d p).1.2 := by
  unfold Machine.loadAct
  dsimp only
  split
  · exact .refl
  · exact .stageWrite hs
  · exact .refl
  · exact .refl
  · exact .fromFlash hs

theorem MemWrites.bootLoad {d} (hs : .store ∈ ps := by decide) : MemWrites ps m (bootLoad m d).2 := by
  unfold Machine.bootLoad
  dsimp only
  split
  · exact .refl
  split
  · exact .refl
  · exact .fromFlash (slot := 0) (i := d.pwr.bootImage) (d := d) hs

theorem MemWrites.checksDone {map d} (hs : .store ∈ ps := by decide) : MemWrites ps m (checksDone map m d).2 := by
  unfold Machine.checksDone
  split
  · exact .refl
  split
  · exact .refl
  extract_lets bytes
  split
  extract_lets ok slot cleared loaded told power begun
  clear_value loaded
  split
  · exact .refl
  · extract_lets ended
    split
    · exact .refl
    split
    · exact .bootLoad hs
    · exact .refl

theorem MemWrites.imagePart {off data last d} (hs : .store ∈ ps := by decide) :
    MemWrites ps m (imagePart off data last m d).2 := by
  unfold Machine.imagePart
  dsimp only
  split
  · exact .refl
  · exact .setStore .refl hs

theorem MemWrites.programLoad {d} (hs : .store ∈ ps := by decide) : MemWrites ps m (programLoad m d).2 := by
  unfold Machine.programLoad
  dsimp only
  split
  · exact .refl
  split
  · exact .refl
  · exact .bootLoad hs

/-! ### Resets -/

/-- The addressed memories that a reset may write. -/
def resetMems : List Part := [.buffers, .store, .frames, .otpBytes]

theorem MemWrites.resetWith {k d} (hs : resetMems ⊆ ps := by decide) : MemWrites ps m (resetWith k m d).2 := by
  have cleared (m : Mems) (a b : Memory) : MemWrites resetMems m
      { m with bufs := [], shown := [], drawing := [], storeA := a, storeB := b } :=
    fun p hp => by cases p <;> simp_all [Part.same, resetMems]
  refine MemWrites.refl.then hs ?_
  unfold Machine.resetWith
  dsimp only
  refine .then ?_ (List.Subset.refl _) (cleared _ _ _)
  split
  · exact .setOtp .refl
  · exact .refl

theorem MemWrites.resetDev {k d} (hs : resetMems ⊆ ps := by decide) : MemWrites ps m (resetDev k m d).2 :=
  .resetWith hs

theorem MemWrites.jtagUpdate {i d} (hs : resetMems ⊆ ps := by decide) : MemWrites ps m (jtagUpdate i m d).2 := by
  unfold Machine.jtagUpdate
  dsimp only
  split
  · exact .resetWith hs
  · exact .refl

theorem MemWrites.tapReset {d} (hs : resetMems ⊆ ps := by decide) : MemWrites ps m (tapReset m d).2 := by
  unfold Machine.tapReset
  dsimp only
  split
  · exact .resetDev hs
  · exact .refl

/-! ### The frame buffers -/

theorem MemWrites.leaveShowing {d} (hs : .frames ∈ ps := by decide) : MemWrites ps m (leaveShowing m d).2 := by
  unfold Machine.leaveShowing
  split
  · unfold doExchange
    split
    · exact .refl
    split
    · exact .refl
    · exact .setShown .refl hs
  · exact .refl

theorem MemWrites.pfwFall {d} (hs : .frames ∈ ps := by decide) : MemWrites ps m (pfwFall m d).2 := by
  unfold Machine.pfwFall
  split
  · exact .refl
  · unfold panelPfw
    dsimp only
    split
    · exact .refl
    · exact .leaveShowing hs

theorem MemWrites.loadBootFrame {d} (hs : .frames ∈ ps := by decide) : MemWrites ps m (loadBootFrame m d).2 := by
  unfold Machine.loadBootFrame
  dsimp only
  split
  · exact .refl
  · exact .setShown .refl hs

theorem MemWrites.startupReady {lost d} (hs : .frames ∈ ps := by decide) :
    MemWrites ps m (startupReady lost m d).2 := by
  unfold Machine.startupReady
  dsimp only
  split
  · exact .refl
  split
  · exact .refl
  split
  · exact .loadBootFrame hs
  · exact .refl

end

/-! ## A whole command -/

/-- The next state that an outcome is, if it is one, differs in the parts listed at most. -/
def Within (ps : List Part) (s : State) (o : Host.Outcome State Fault Refusal) : Prop :=
  ∀ t, o = .next t → ∀ p, p ∉ ps → p.same s t

theorem same_of_dev_mem {p : Part} {s t : State} (dev : p.same { dev := s.dev } { dev := t.dev })
    (mem : p.same { mem := s.mem } { mem := t.mem }) : p.same s t := by
  cases p with
  | buffers | store | frames | otpBytes | flash | fuses => exact mem
  | _ => exact dev

section
variable {ps : List Part} {s : State}

theorem Within.next {d m} (dev : Writes ps s.dev d) (mem : MemWrites ps s.mem m) :
    Within ps s (.next { s with dev := d, mem := m }) := by
  rintro t ⟨⟩ p hp
  exact same_of_dev_mem (dev p hp) (mem p hp)

theorem Within.nextD {f} (h : Writes ps s.dev (f s.dev)) : Within ps s (nextD s f) := .next h .refl

theorem Within.nextR {f} (h : Writes ps s.dev (f s.mem s.dev)) : Within ps s (nextR s f) := .next h .refl

theorem Within.nextM {f} (dev : Writes ps s.dev (f s.mem s.dev).1) (mem : MemWrites ps s.mem (f s.mem s.dev).2) :
    Within ps s (nextM s f) := .next dev mem

theorem Within.glD {f} (h : Writes ps s.dev (f s.dev)) : Within ps s (glD s f) := .nextD (.when h .refl)

theorem Within.runCmd {o code absent tests act} (hs : .mailbox ∈ ps) (h : ∀ m d p, Writes ps d (act m d p).1) : Within ps s (runCmd s o code absent tests act) := by
  refine .nextR ?_
  split
  · exact .refl
  · dsimp only
    split
    · exact .respond (.startJob .refl hs) hs
    · exact .reply (.trans (.startJob .refl hs) (h _ _ _)) hs

theorem Within.runCmdM {o code absent tests act} (hs : .mailbox ∈ ps) (dev : ∀ m d p, Writes ps d (act m d p).1.1)
    (mem : ∀ m d p, MemWrites ps m (act m d p).1.2) :
    Within ps s (runCmdM s o code absent tests act) := by
  unfold Machine.runCmdM
  refine .nextM ?_ ?_
  · split
    · exact .refl
    · dsimp only
      split
      · exact .respond (.startJob .refl hs) hs
      · exact .reply (.trans (.startJob .refl hs) (dev _ _ _)) hs
  · split
    · exact .refl
    · dsimp only
      split
      · exact .refl
      · exact mem _ _ _

theorem Within.cellRow {op c f sem} (hs : cellParts ⊆ ps) (step : ∀ i d, Writes cellParts d (sem i d)) :
    Within ps s (cellRow op c f s sem) := by
  refine .nextD (Writes.refl.then hs ?_)
  dsimp only
  split
  · exact .refl
  · split
    next fault => exact Writes.refl.then (by decide) (siliconFault_writes fault)
    · exact .when (step _ _) (.storeFault .refl)

theorem Within.cellStep {op c f sem} (hs : cellParts ⊆ ps) (step : ∀ i d, Writes cellParts d (sem i d)) :
    Within ps s (cellStep op c f s sem) :=
  .cellRow hs fun i d => .advance (step i d)

end
end Sys2Proof.Machine
end

section
/-!
PROOF. The frame of the cell, task, program, pair and power commands: each row's effect, followed from its last step to
its first, writes no part that its row does not list.
-/

namespace Sys2Proof.Machine

open Sys2Proof Sys2Proof.Claims

section
variable {ps : List Part} {s : State}

/-! ## Rows that branch -/

theorem Within.stageConfig {o} (hs : [.mailbox, .restOfProgram] ⊆ ps := by decide) :
    Within ps s (execStageConfig o s) := by
  refine .runCmd (hs (by decide)) fun _ d p => Writes.refl.then hs ?_
  dsimp only
  split
  · exact .modProg .restOfProgram .refl
  · split
    · exact .refl
    · exact .modProg .restOfProgram .refl
  · exact .modProg .restOfProgram .refl

theorem Within.migrate {o spare} (hs : raised ++ [.mailbox, .program, .restOfProgram] ⊆ ps := by decide) :
    Within ps s (execMigrate o spare s) := by
  refine .runCmd (hs (by decide)) fun _ d p => Writes.refl.then hs ?_
  dsimp only
  split
  · exact .startMigration .refl
  · exact .modProg .program .refl

theorem Within.progressStall {c spare} (hs : fenced ⊆ ps := by decide) : Within ps s (execProgressStall c spare s) := by
  refine .nextD (Writes.refl.then hs ?_)
  dsimp only
  split
  · split
    · exact .refl
    · split
      · exact .ladderL2 (.abortMigration (.raise .refl))
      · exact .ladderL1 (.raise .refl)
  · exact .refl

theorem Within.blockStart {c} (hs : [.tasks, .cells] ⊆ ps := by decide) : Within ps s (execBlockStart c s) := by
  refine .nextD (Writes.refl.then hs ?_)
  dsimp only
  split
  · exact .refl
  · split
    · exact .beginBlock .refl
    · exact .refl

theorem Within.confirmLimit {t} (hs : fenced ⊆ ps := by decide) : Within ps s (execConfirmLimit t s) := by
  refine .nextD (Writes.refl.then hs (.ite .refl ?_))
  extract_lets decided told
  have written : Writes fenced s.dev told := .when (.sendDecision (.setGl .refl)) .refl
  clear_value told
  split
  · exact .overrun written
  · exact .ite (.overrun written) (.warmCompare written)
  · exact written

theorem Within.inputDeadline {t} (hs : raised ++ [.tasks, .inputs, .restOfProgram, .network, .gligil] ⊆ ps := by decide) :
    Within ps s (execInputDeadline t s) :=
  .nextD (Writes.refl.then hs (.ite .refl (.settle (.foldl (.foldl (.foldl (.modTask .refl) fun _ _ => .goStale .refl)
    fun _ _ => .ite (.modSub .refl) .refl) fun _ _ => .countSilent .refl))))

theorem Within.cycleConfirmed {t at_} (hs : stopped ++ [.sent, .digital, .analog, .gligil] ⊆ ps := by decide) :
    Within ps s (execCycleConfirmed t at_ s) := by
  refine .nextD (Writes.refl.then hs (.ite .refl ?_))
  split
  · exact .ite .refl (.reportConfirm (.l0Done (.modTask .refl)))
  · exact .ite (.stopCheck (.dropCycle (.modTask .refl))) .refl
  · exact .refl

theorem Within.writeValuesApply (hs : recordParts ⊆ ps := by decide) : Within ps s (execWriteValuesApply s) := by
  refine .nextD (Writes.refl.then hs ?_)
  dsimp only
  split
  · exact .refl
  · exact .ite .refl (.respondTo (.shadowWrite (.modProg .restOfProgram (.setPwr (.foldl .refl fun _ _ =>
      .ite (.overrideK .refl) (.modProg .values .refl))))))

/-! ## Rows of the lease -/

theorem Within.leaseReqReceived {ip data} (hs : arbiterParts ⊆ ps := by decide) :
    Within ps s (execLeaseReqReceived ip data s) := by
  refine .nextD (Writes.refl.then hs (.forArbiter (fun x key epoch _ f h => ?_) .refl))
  dsimp only
  split
  · exact .ite (.raise h) (.arbRequest h)
  · exact .stationAuth h

theorem Within.arbiterGrantReady {n} (hs : arbiterParts ⊆ ps := by decide) : Within ps s (execArbiterGrantReady n s) :=
  .nextD (Writes.refl.then hs (.ite .refl (.arbNext (.modArb .refl))))

theorem Within.arbiterQuietEnd {n} (hs : arbiterParts ⊆ ps := by decide) : Within ps s (execArbiterQuietEnd n s) :=
  .nextD (Writes.refl.then hs (.ite .refl (.arbNext (.modArb .refl))))

theorem Within.coldWaitExpiry {n} (hs : arbiterParts ⊆ ps := by decide) : Within ps s (execColdWaitExpiry n s) := by
  refine .nextD (Writes.refl.then hs (.ite .refl ?_))
  split
  · exact .refl
  · exact .ite (.arbGrant .refl) .refl

theorem Within.leaseReleaseReceived {ip data} (hs : arbiterParts ⊆ ps := by decide) :
    Within ps s (execLeaseReleaseReceived ip data s) := by
  refine .nextD (Writes.refl.then hs (.forArbiter (fun x key epoch _ f h => ?_) .refl))
  split
  · exact h
  · exact .ite (.raise h) (.ite h (.arbNext (.modArb h)))

theorem Within.leaseReqPendingExpiry {n cand} (hs : requestParts ⊆ ps := by decide) :
    Within ps s (execLeaseReqPendingExpiry n cand s) := by
  refine .nextD (Writes.refl.then hs ?_)
  split
  · exact .refl
  · exact .ite .refl (.arbDeny (.modArb .refl))

theorem Within.leaseDenyReceived {ip data} (hs : requestParts ⊆ ps := by decide) :
    Within ps s (execLeaseDenyReceived ip data s) :=
  .nextD (Writes.refl.then hs (.arbiterAnswer (fun _ _ => .ite (.modLease .refl) (.ite (.sendLeaseReq (.modLease .refl))
    (.ite (.sendLeaseReq (.modLease .refl)) (.modLease (.modLease .refl))))) .refl))

theorem Within.leaseGrantReceived {ip data} (hs : raised ++ [.sys, .network, .pair, .power] ⊆ ps := by decide) :
    Within ps s (execLeaseGrantReceived ip data s) :=
  .nextD (Writes.refl.then hs (.arbiterAnswer (fun _ _ => .ite .refl (.ite
    (.raise (.shadowEnd (.setRed (.raise (.setSys (.modLease .refl))))))
    (.setPwrRed (.raise (.setSys (.modLease .refl)))))) .refl))

theorem Within.leaseAckReceived {via data} (hs : [.network, .pair] ⊆ ps := by decide) :
    Within ps s (execLeaseAckReceived via data s) := by
  refine .nextD (Writes.refl.then hs ?_)
  cases via with
  | portP =>
    dsimp only
    split
    · split
      · exact .ite (.leaseAck .refl) .refl
      · exact .refl
    · exact .refl
  | net ip =>
    refine .ite (.arbiterAnswer (fun _ _ => .leaseAck .refl) .refl) (.withStation (fun _ => ?_) .refl)
    split
    · exact .countDiscard .refl
    · split
      · exact .ite (.leaseAck .refl) .refl
      · exact .refl

theorem Within.leaseRenewReceived {via data}
    (hs : raised ++ [.network, .gligil, .pair, .power] ⊆ ps := by decide) :
    Within ps s (execLeaseRenewReceived via data s) := by
  refine .nextD (Writes.refl.then hs ?_)
  cases via with
  | portP =>
    dsimp only
    split
    · exact .ite (.fallbackAck (fun _ _ h => .glSend h) .refl) .refl
    · exact .refl
  | net ip =>
    refine .ite (.forArbiter (fun x key epoch _ f h => ?_) .refl) (.ite .refl (.withStation (fun _ => ?_) .refl))
    · split
      · exact .ite (.raise h) (.arbRenew h)
      · exact h
    · split
      · exact .countDiscard .refl
      · split
        · exact .fallbackAck (fun _ _ h => .stationAuth h) .refl
        · exact .countDiscard .refl

/-! ## Rows of the replication stream -/

theorem Within.firnAckReceived {seq st} (hs : streamParts ⊆ ps := by decide) :
    Within ps s (execFirnAckReceived seq st s) :=
  have taken : Writes streamParts s.dev _ := .when (.shadowEnd .refl) (.setRed (.modFirn .refl))
  .nextD (Writes.refl.then hs (.ite .refl (.ite (.startPassSend taken) (.pumpPass taken))))

theorem Within.firnDeltaReceived {via data} (hs : streamParts ⊆ ps := by decide) :
    Within ps s (execFirnDeltaReceived via data s) := by
  refine .nextD (Writes.refl.then hs (.pairPayload (fun p => .ite .refl ?_) .refl))
  split
  · exact .refl
  · exact .takeFrame .refl

theorem Within.firnSegmentReceived {via data} (hs : streamParts ⊆ ps := by decide) :
    Within ps s (execFirnSegmentReceived via data s) :=
  .nextD (Writes.refl.then hs (.pairPayload (fun _ => .ite .refl (.takeFrame .refl)) .refl))

theorem Within.firnGapTimeout (hs : replicaParts ⊆ ps := by decide) : Within ps s (execFirnGapTimeout s) := by
  refine .nextD (Writes.refl.then hs ?_)
  dsimp only
  split
  · exact .refl
  · exact .ite .refl (.sendFirnAck (.gapEvent (.modFirn (.dropRequest (.when (.setStandby (.shadowEnd .refl))
      (.drainFrames (.modFirn .refl)))))))

theorem Within.shapeRecordExchange {up peer} (hs : replicaParts ⊆ ps := by decide) :
    Within ps s (execShapeRecordExchange up peer s) :=
  .nextD (Writes.refl.then hs (.ite .refl (.ite (.shadowEnd (.dropRequest (.setRed .refl)))
    (.ite (.gapEvent (.setRed .refl)) (.when (.sendFirnAck (.setStandby .refl)) (.setRed .refl))))))

theorem Within.shadowInputReceived {t tau cycle inputs delta inTime}
    (hs : raised ++ [.values, .network, .pair] ⊆ ps := by decide) :
    Within ps s (execShadowInputReceived t tau cycle inputs delta inTime s) := by
  refine .nextD (Writes.refl.then hs ?_)
  dsimp only
  split
  · exact .refl
  split
  · exact .refl
  split
  · exact .modShadow .refl
  split
  · exact .joinStep (.modShadow (.modProg .values .refl))
  · exact .when (.standbyFaulty .refl) (.mismatch (.shadowMiss (.modShadow (.modProg .values .refl))))

theorem Within.takeoverLoadDone
    (hs : loadParts ++ [.sent, .restOfProgram, .network, .pair] ⊆ ps := by decide) :
    Within ps s (execTakeoverLoadDone s) := by
  refine .nextD (Writes.refl.then hs ?_)
  dsimp only
  split
  · exact .refl
  · exact .ite .refl (.announce (.ite
      (.setStandby (.foldl (.modProg .restOfProgram (.loadReplica .refl)) fun _ _ => .modTask .refl))
      (.setStandby (.foldl (.modProg .restOfProgram (.loadReplica .refl)) fun _ _ => .modTask .refl))))

theorem Within.switchoverFence (hs : fenced ⊆ ps := by decide) : Within ps s (execSwitchoverFence s) := by
  refine .nextD (Writes.refl.then hs ?_)
  dsimp only
  split
  · exact .refl
  split
  · exact .refl
  · refine .fence ?_
    split
    · exact .when (.sendDelta (.modTask .refl)) .refl
    · exact .refl

end

/-! ## Every row -/

/-- Settles O60, row by row: the parts that the steps of a row write are among those that the row lists. -/
theorem frameOfProgramCommands : Obligations.FrameOfProgramCommands := by
  unfold Obligations.FrameOfProgramCommands
  intro c ps s t row next
  suffices within : Within ps s (exec c s) from within t next
  clear next
  unfold exec
  cases c with
  | programLoad => cases row; exact .runCmdM (by decide) (fun _ _ _ => .loadAct .refl) fun _ _ _ => .loadAct
  | programVerify => cases row; exact .runCmd (by decide) fun _ _ _ => .when (.startChecks .refl) .refl
  | programSwap => cases row; exact .runCmd (by decide) fun _ _ _ => .modProg .restOfProgram (.freshNat .refl)
  | writeValues => cases row; exact .runCmd (by decide) fun _ _ _ => .modProg .restOfProgram .refl
  | stageConfig => cases row; exact .stageConfig
  | readValues => cases row; exact .runCmd (by decide) fun _ _ _ => .foldl_snd .refl fun _ _ => .readOne .refl
  | placementReport => cases row; exact .runCmd (by decide) fun _ _ _ => .reportPage .refl
  | force => cases row; exact .runCmd (by decide) fun _ _ _ => .modProg .forces .refl
  | migrate => cases row; exact .migrate
  | taskConfig => cases row; exact .runCmd (by decide) fun _ _ _ => .forward (.taskCfgApply .refl)
  | cycleStart => cases row; exact .runCmd (by decide) fun _ _ _ => .foldl .refl fun _ _ => .startTask .refl
  | cycleStop =>
    cases row
    exact .runCmd (by decide) fun _ _ _ => .stopAnswer (.modProg .restOfProgram (.foldl .refl fun _ _ => .stopSelected .refl))
  | swapGapStart => cases row; exact .nextD (.gapStart .refl)
  | taskStats => cases row; exact .runCmd (by decide) fun _ _ _ => .when (.modStats .refl) .refl
  | inputPolicy => cases row; exact .runCmd (by decide) fun _ _ _ => .forward (.policyApply .refl)
  | pairConfig => cases row; exact .runCmd (by decide) fun _ _ _ => .confChanged (.setRed .refl)
  | arbiterConfig => cases row; exact .runCmd (by decide) fun _ _ _ => .when (.arbSet .refl) .refl
  | leaseStatus => cases row; exact .runCmd (by decide) fun _ _ _ => .when (.setRed (.modLease .refl)) .refl
  | switchoverRequest | shadowCompareStart => cases row; exact .runCmd (by decide) fun _ _ _ => .setRed .refl
  | shadowCompareStop =>
    cases row
    exact .runCmd (by decide) fun _ _ _ => .shadowReport (.unless (.shadowEnd .refl) .refl)
  | cellLd => cases row; exact .cellStep (by decide) fun _ _ => .semLd .refl
  | cellA | cellO | cellX => cases row; exact .cellStep (by decide) fun _ _ => .combine .refl
  | cellBa | cellBo | cellBx => cases row; exact .cellStep (by decide) fun _ _ => .openBranch .refl
  | cellBc | cellNot => cases row; exact .cellStep (by decide) fun _ _ => .modCell .refl
  | cellAsn => cases row; exact .cellStep (by decide) fun _ _ => .semAsn .refl
  | cellSet => cases row; exact .cellStep (by decide) fun _ _ => .semSet .refl
  | cellRst => cases row; exact .cellStep (by decide) fun _ _ => .semRst .refl
  | cellPedge | cellNedge => cases row; exact .cellStep (by decide) fun _ _ => .edgeOp .refl
  | cellTon | cellTof | cellTp => cases row; exact .cellStep (by decide) fun _ _ => .timerOp .refl
  | cellCtu | cellCtd => cases row; exact .cellStep (by decide) fun _ _ => .counterOp .refl
  | cellCrst => cases row; exact .cellStep (by decide) fun _ _ => .putCounter .refl
  | cellCld => cases row; exact .cellStep (by decide) fun _ _ => .semCld .refl
  | cellLdw => cases row; exact .cellStep (by decide) fun _ _ => .semLdw .refl
  | cellMovw => cases row; exact .cellStep (by decide) fun _ _ => .semMovw .refl
  | cellCmp | cellCmpi => cases row; exact .cellStep (by decide) fun _ _ => .compareOp .refl
  | cellAdd | cellSub | cellMul => cases row; exact .cellStep (by decide) fun _ _ => .arithOp .refl
  | cellQual => cases row; exact .cellStep (by decide) fun _ _ => .semQual .refl
  | cellFlg => cases row; exact .cellStep (by decide) fun _ _ => .semFlg .refl
  | cellJmp => cases row; exact .cellRow (by decide) fun _ _ => .semJmp .refl
  | cellNop => cases row; exact .cellStep (by decide) fun _ _ => .refl
  | cellEnd => cases row; exact .cellRow (by decide) fun _ _ => .semEnd .refl
  | illegalInstruction => cases row; exact .nextD (.ite .refl (.cellFault (.raise .refl)))
  | confirmLimit => cases row; exact .confirmLimit
  | latenessLimit => cases row; exact .nextD (.ite .refl (.taskFault (.modStats .refl)))
  | fenceNoticeReceived => cases row; exact .glD (.ite .refl (.fence .refl))
  | migrationPrepareDone => cases row; exact .nextD (.ite (.migCheck (.modProg .restOfProgram .refl)) .refl)
  | progressStall => cases row; exact .progressStall
  | leaseEnd => cases row; exact .nextD (.ite (.fence .refl) .refl)
  | switchoverFence => cases row; exact .switchoverFence
  | tjMeasure => cases row; exact .nextD (.tjMeasure .refl)
  | blockStart => cases row; exact .blockStart
  | l0ReloadDone => cases row; exact .nextD (.ite .refl (.ite (.modCell (.beginBlock .refl)) (.modCell .refl)))
  | taskInstant =>
    cases row
    exact .nextD (.ite .refl (.ite (.modProg .restOfProgram (.modTask .refl)) (.ite (.modTask .refl)
      (.beginCycle .refl))))
  | inputDeadline => cases row; exact .inputDeadline
  | cycleConfirmed => cases row; exact .cycleConfirmed
  | commitPoint => cases row; exact .nextR (.ite .refl (.ite (.overrun .refl) (.commitTask .refl)))
  | writeValuesApply => cases row; exact .writeValuesApply
  | gligilConfirmFrame => cases row; exact .glD (.ite .refl (.modGl .refl))
  | placementPartFrame => cases row; exact .nextD (.placementPart .refl)
  | imageForwardFrame => cases row; exact .nextM (.imagePart .refl) .imagePart
  | placementChecksDone => cases row; exact .nextM (.checksDone .refl) .checksDone
  | speedMonitorSample => cases row; exact .nextD (.speedSample .refl)
  | mapRevalidation => cases row; exact .nextD (.revalidate .refl)
  | migrationSwitch =>
    cases row
    exact .nextD (.ite .refl (.migCheck (.modProgs [.program, .restOfProgram] .refl)))
  | swapGapEnd => cases row; exact .nextR (.gapEnd .refl)
  | pairNoticeReceived => cases row; exact .nextR (.pairNotice .refl)
  | shapeRecordExchange => cases row; exact .shapeRecordExchange
  | leaseRenewTimer =>
    cases row
    exact .nextD (.ite .refl (.when (.pairSend .refl) (.toArbiter (.leaseRequest (fallback := false) (cold := false)
      (.arbiterTest .refl)))))
  | firnGapTimeout => cases row; exact .firnGapTimeout
  | leaseReqReceived => cases row; exact .leaseReqReceived
  | arbiterGrantReady => cases row; exact .arbiterGrantReady
  | arbiterQuietEnd => cases row; exact .arbiterQuietEnd
  | coldWaitExpiry => cases row; exact .coldWaitExpiry
  | leaseReleaseReceived => cases row; exact .leaseReleaseReceived
  | leaseReqPendingExpiry => cases row; exact .leaseReqPendingExpiry
  | coldLeaseRequest => cases row; exact .nextD (.ite (.sendLeaseReq .refl) .refl)
  | leaseDenyReceived => cases row; exact .leaseDenyReceived
  | fallbackQuietEnd => cases row; exact .nextD (.ite .refl (.requestLease (.modLease .refl)))
  | leaseGrantReceived => cases row; exact .leaseGrantReceived
  | leaseRenewReceived => cases row; exact .leaseRenewReceived
  | leaseAckReceived => cases row; exact .leaseAckReceived
  | leaseLateTimer => cases row; exact .nextD (.ite .refl (.arbiterTest (.raise (.modLease .refl))))
  | fenceLeaseRelease =>
    cases row
    exact .nextD (.ite .refl (.pairSend (.setRed (.toArbiter (.leaseRequest (fallback := false) (cold := false)
      .refl)))))
  | firnDeltaReceived => cases row; exact .firnDeltaReceived
  | firnSegmentReceived => cases row; exact .firnSegmentReceived
  | firnPassStart => cases row; exact .nextD (.startPassSend .refl)
  | firnAckSend => cases row; exact .nextD (.sendFirnAck .refl)
  | firnAckReceived => cases row; exact .firnAckReceived
  | configForwardReceived => cases row; exact .nextD (.ite (.forwarded .refl) .refl)
  | takeoverLoadDone => cases row; exact .takeoverLoadDone
  | shadowInputReceived => cases row; exact .shadowInputReceived
  | shadowCompareTimeout => cases row; exact .nextD (.ite .refl (.shadowEnd .refl))
  | retentiveConfigSave => cases row; exact .nextD (.confSave .refl)
  | retentiveSnapshot => cases row; exact .nextD (.periodicSnapshot .refl)
  | powerOnReset | brownoutReset | pinReset | lockstepReset => cases row; exact .nextM (.resetDev .refl) .resetDev
  | supervisorWdgReset | thermalReset =>
    cases row
    refine .nextM ?_ ?_
    · split
      · exact .resetDev .refl
      · exact .refl
    · split
      · exact .resetDev
      · exact .refl
  | jtagInstructionUpdate => cases row; exact .nextM (.jtagUpdate .refl) .jtagUpdate
  | jtagTapReset => cases row; exact .nextM (.tapReset .refl) .tapReset
  | supervisorWdgStage1 => cases row; exact .nextD (.wdgStage1 .refl)
  | railMonitorSample => cases row; exact .nextD (.railSample .refl)
  | vbatMeasure => cases row; exact .nextD (.vbatMeasure .refl)
  | powerFailSnapshotDone => cases row; exact .nextD (.snapshotDone .refl)
  | pfwNFall => cases row; exact .nextM (.pfwFall .refl) .pfwFall
  | pfwEnd => cases row; exact .nextD (.pfwEnd .refl)
  | startupFwReady => cases row; exact .nextM (.startupReady .refl) .startupReady
  | startupProgramLoad => cases row; exact .nextM (.programLoad .refl) .programLoad
  | autostartTasks => cases row; exact .nextD (.autostart .refl)
  | internalResetEnd => cases row; exact .nextR (.resetEnd .refl)
  | flashOperationDone => cases row; exact .nextD (.flashDone .refl)
  | _ => cases row

end Sys2Proof.Machine
end

section
/-!
PROOF. The load, the checks and the swap of a program (R215 to R222, R228).
-/

namespace Sys2Proof.Machine

open Sys2Proof Sys2Proof.Claims

/-! ## What keeps the events -/

theorem Writes.raised {ps : List Part} {s : State} {d e : Dev} {ev : Ev} {x : Nat} (h : Writes ps d e)
    (was : Raised { s with dev := d } ev x) (none : .events ∉ ps := by decide) : Raised { s with dev := e } ev x := by
  have evt : e.evt = d.evt := h .events none
  unfold Raised
  dsimp only
  rw [evt]
  exact was

/-! ## PROGRAM_LOAD -/

theorem Dev.inactive_lt (d : Dev) : d.inactive < 2 := Nat.lt_succ_of_le (Nat.sub_le 1 _)

/-- A command that writes no addressed memory for the payload that waits, as one that may not write any. -/
theorem runCmdM_eq_runCmd {s : State} {o : Origin} {code : Nat} {absent : Dev → Bytes → Bool}
    {tests : Mems → Dev → Bytes → List (Bool × Half)} {act : Mems → Dev → Bytes → (Dev × Mems) × Reply} {p : Bytes}
    (waits : Waits s o code p) (kept : ∀ d, (act s.mem d p).1.2 = s.mem) :
    runCmdM s o code absent tests act =
      runCmd s o code absent tests fun m d p => ((act m d p).1.1, (act m d p).2) := by
  obtain ⟨j, job, hc, -, hs, hr, rfl, -⟩ := waits
  unfold runCmdM runCmd nextM nextR
  dsimp only
  rw [due_of_job o code j _ job hc hs hr]
  dsimp only
  split
  · rfl
  · rw [kept]

/-- PROGRAM_LOAD with an operation that answers and writes no image bytes. -/
theorem programLoad_answers {s : State} {o : Origin} {p q : Bytes} {g : Dev → Dev} {P : Dev → Prop}
    (waits : Waits s o 0x0200 p) (pass : Claims.Pass (loadTests s.mem s.dev p))
    (act : ∀ d, loadAct s.mem d p = ((g d, s.mem), .ok (loadReply (g d))))
    (effect : ∀ m, loadReply (g { s.dev with mbx := m }) = q ∧ (g { s.dev with mbx := m }).mbx = m ∧
      ∀ m', P { g { s.dev with mbx := m } with mbx := m' }) :
    Goes (.programLoad o) s fun u => (Answers u o stOk q ∧ P u.dev) ∧ u.mem = s.mem := by
  have command : exec (.programLoad o) s = runCmd s o 0x0200 always loadTests fun m d p =>
      ((loadAct m d p).1.1, (loadAct m d p).2) :=
    runCmdM_eq_runCmd waits fun d => by rw [act]
  obtain ⟨u, run, holds⟩ := goes_answers (P := P) (q := q) command waits (Bool.and_false _) (fun _ => rfl)
    (fun _ => pass) fun m => ⟨g { s.dev with mbx := m }, by rw [act, (effect m).1], (effect m).2⟩
  refine ⟨u, run, holds, ?_⟩
  cases run.symm.trans command
  rfl

theorem programLoad_begins {s : State} {o : Origin} {p : Bytes} (waits : Waits s o 0x0200 p)
    (pass : Claims.Pass (loadTests s.mem s.dev p)) (begin_ : byteAt p 0 = 0) :
    Goes (.programLoad o) s fun u => (u.dev.slotRec s.dev.inactive).result = .incomplete ∧
      (u.dev.slotRec s.dev.inactive).length = getLe p 4 4 ∧ u.dev.prog.load.open_ = true ∧
      Answers u o stOk (leBytes 1 1 ++ zeros 3 ++ leBytes 4 0) ∧ u.mem = s.mem := by
  have slot (d : Dev) (len : Nat) : (beginLoad d.inactive len d).slotRec d.inactive =
      { result := .incomplete, length := len } := vget_vmod_same _ _ _ d.inactive_lt
  obtain ⟨u, run, ⟨answer, rec_, open_⟩, mem⟩ := programLoad_answers
    (g := fun d => beginLoad d.inactive (getLe p 4 4) d) (q := leBytes 1 1 ++ zeros 3 ++ leBytes 4 0)
    (P := fun d => d.slotRec s.dev.inactive = { result := .incomplete, length := getLe p 4 4 } ∧
      d.prog.load.open_ = true) waits pass (fun d => by rw [loadAct, begin_]; rfl)
    fun m => ⟨rfl, rfl, fun _ => ⟨slot { s.dev with mbx := m } _, rfl⟩⟩
  exact ⟨u, run, by rw [rec_], by rw [rec_], open_, answer, mem⟩

theorem programLoad_ends {s : State} {o : Origin} {p : Bytes} (waits : Waits s o 0x0200 p)
    (pass : Claims.Pass (loadTests s.mem s.dev p)) (end_ : byteAt p 0 = 2) :
    Goes (.programLoad o) s fun u => u.dev.prog.checking = some s.dev.inactive ∧
      (u.dev.slotRec s.dev.inactive).result = .checking ∧ u.dev.prog.load.open_ = false ∧ u.mem = s.mem := by
  have slot (d : Dev) : ((endLoad d.inactive d).slotRec d.inactive).result = .checking :=
    congrArg Slot.result (vget_vmod_same _ _ _ d.inactive_lt)
  obtain ⟨u, run, ⟨-, checking, result, open_⟩, mem⟩ := programLoad_answers (g := fun d => endLoad d.inactive d)
    (q := loadReply (endLoad s.dev.inactive s.dev))
    (P := fun d => d.prog.checking = some s.dev.inactive ∧ (d.slotRec s.dev.inactive).result = .checking ∧
      d.prog.load.open_ = false) waits pass (fun d => by rw [loadAct, end_]; rfl)
    fun m => ⟨rfl, rfl, fun _ => ⟨rfl, slot { s.dev with mbx := m }, rfl⟩⟩
  exact ⟨u, run, checking, result, open_, mem⟩

/-! ## PROGRAM_VERIFY and the end of the checks -/

theorem programVerify_answers {s : State} {o : Origin} (b : Bool)
    (waits : Waits s o 0x0201 [if b then 1 else 0, 0, 0, 0]) (master : s.dev.master = true)
    (active : s.dev.passive = false) (free : s.dev.stopped = false) :
    Goes (.programVerify o) s fun u => Answers u o stOk (verifyReport (b2n b) 0 s.dev) ∧ u.dev.prog = s.dev.prog := by
  have command : exec (.programVerify o) s = execProgramVerify o s := rfl
  generalize payload : ([if b then 1 else 0, 0, 0, 0] : Bytes) = p at waits
  have length : p.length = 4 := by rw [← payload]; rfl
  have slot : byteAt p 0 = b2n b := by rw [← payload]; cases b <;> rfl
  have flags : byteAt p 1 = 0 := by rw [← payload]; rfl
  have first : getLe p 2 2 = 0 := by rw [← payload]; rfl
  have small : b2n b ≤ 1 := by cases b <;> decide
  refine goes_answers (P := fun d => d.prog = s.dev.prog) command waits (Bool.and_false _) (fun _ => rfl) (fun m => ?_)
    fun m => ⟨{ s.dev with mbx := m }, ?_, rfl, fun _ => rfl⟩
  · have class_ : (progClass { s.dev with mbx := m }).1 = false := progClass_passes master active free
    rw [Claims.Pass, firstFail_eq_none]
    dsimp only
    rw [slot, flags, first]
    simp [class_, lenIs, length, small]
  · dsimp only
    rw [slot, flags, first]
    rfl

/-- The end of the checks outside start-up: the slot has its result, PLACEMENT_DONE is raised, and the image and its map
may go to other devices. -/
theorem checksDone_ends {map : Option PlaceMap} {m : Mems} {d : Dev} {k : Nat} {r : SlotResult} {fs : List Finding}
    (slot : k < 2) (checking : d.prog.checking = some k) (whole : d.stackWhole = true) (run : d.pwr.startCheck = none)
    (result : checkImage (slotImage m d k) map d = (r, fs)) :
    ∃ c e, checksDone map m d = (e, m) ∧ Writes [.gligil, .sent] (placementEvent k c) e ∧
      (c.slotRec k).result = r ∧ (c.slotRec k).findings = fs ∧ c.prog.checking = none := by
  unfold checksDone
  split
  next idle => cases checking.symm.trans idle
  next n checking' =>
    obtain rfl := Option.some.inj (checking'.symm.trans checking)
    rw [if_neg (by rw [whole]; decide)]
    extract_lets bytes
    split
    next res findings result' =>
      obtain ⟨rfl, rfl⟩ := Prod.mk.inj (result'.symm.trans result)
      extract_lets ok recorded cleared loaded told power begun
      have slots : loaded.prog.slots = vmod d.prog.slots n fun s => { s with
          result := res, findings := findings, imageId := w64 (getLe bytes 16 8), map := if ok then map else none } := by
        unfold loaded
        split <;> rfl
      have judged : (loaded.slotRec n).result = res ∧ (loaded.slotRec n).findings = findings := by
        rw [Dev.slotRec, slots, vget_vmod_same _ _ _ slot]
        exact ⟨rfl, rfl⟩
      have unwaited : loaded.prog.checking = none := by
        unfold loaded
        split <;> rfl
      have power : loaded.pwr = d.pwr := by
        unfold loaded
        split <;> rfl
      split
      · refine ⟨loaded, _, rfl, ?_, judged.1, judged.2, unwaited⟩
        split
        · exact .when (.spread .refl) .refl
        · exact .refl
      next kept startUp => cases (power ▸ startUp).symm.trans run

theorem placementChecksDone_reports {s : State} {k : Fin 2} {map : Option PlaceMap} {r : SlotResult} {fs : List Finding}
    (checking : s.dev.prog.checking = some k.val) (whole : s.dev.stackWhole = true)
    (run : s.dev.pwr.startCheck = none) (result : checkImage (slotImage s.mem s.dev k) map s.dev = (r, fs)) :
    Goes (.placementChecksDone map) s fun u =>
      (u.dev.slotRec k).result = r ∧ (u.dev.slotRec k).findings = fs ∧ u.dev.prog.checking = none ∧
      Raised u .placementDone (k.val + 2 * r.code + 65536 * min 0xFFFF fs.length) ∧ u.mem = s.mem := by
  obtain ⟨c, e, ends, spread, rfl, rfl, cleared⟩ := checksDone_ends k.isLt checking whole run result
  have row : exec (.placementChecksDone map) s = .next { s with dev := e, mem := s.mem } := by
    have row : exec (.placementChecksDone map) s = nextM s (checksDone map) := rfl
    rw [row, nextM, ends]
  have prog : e.prog = c.prog := spread.prog.trans (raise_prog _ _ _)
  have raised : Raised { s with dev := placementEvent k c } .placementDone _ := raised_raise _ _ _ (by decide)
  refine ⟨_, row, ?_⟩
  unfold Dev.slotRec
  dsimp only
  rw [prog]
  exact ⟨rfl, rfl, cleared, spread.raised raised, rfl⟩

/-! ## PROGRAM_SWAP -/

/-- The next commit point at least 1 ms ahead is no earlier (R217). -/
theorem le_commitAhead {d : Dev} (periods : ∀ k ∈ d.runningTasks, 0 < (d.task k).cfg.period) :
    d.tick + 20 ≤ d.commitAhead := by
  unfold Dev.commitAhead
  dsimp only
  split
  · exact Nat.le_refl _
  next k first =>
    have period := periods k (List.mem_of_mem_head? first)
    generalize (if (d.task k).st = .starting then (d.task k).firstT0 else (d.task k).t0) + (d.task k).cfg.offset = at_
    split
    next now => simp at now; omega
    next late =>
      generalize (d.task k).cfg.period = n at *
      have enough := Nat.lt_div_mul_add (a := d.tick + 20 - at_ + n - 1) period
      omega

theorem programSwap_schedules {s : State} {o : Origin} {p : Bytes} (waits : Waits s o 0x0202 p)
    (pass : Claims.Pass (swapTests s.dev p)) (periods : ∀ k ∈ s.dev.runningTasks, 0 < (s.dev.task k).cfg.period) :
    Goes (.programSwap o) s fun u => u.dev.prog.swap.pending = true ∧ s.dev.tick + 20 ≤ u.dev.prog.swap.gapStart ∧
      u.dev.prog.image = s.dev.prog.image ∧ u.dev.prog.activeSlot = s.dev.prog.activeSlot := by
  have command : exec (.programSwap o) s = execProgramSwap o s := rfl
  obtain ⟨m, -, run⟩ := runCmd_begins command waits (Bool.and_false _) (fun _ => rfl) fun _ => pass
  refine goes_of_becomes run ?_
  have prog (o : Origin) (q : Bytes) (d : Dev) : (reply o (.ok q) d).prog = d.prog := respond_prog o stOk q d
  dsimp only
  rw [prog]
  exact ⟨rfl, le_commitAhead periods, rfl, rfl⟩

/-! ## The start of the gap -/

/-- A task with a cycle in progress (R218). -/
def Task.inCycle (k : Task) : Bool := k.st == .execute || k.st == .ready || k.st == .late

/-- The tasks whose cycles the gap abandons. -/
def Dev.going (d : Dev) : List Nat := (List.range 8).filter fun t => (d.task t).inCycle

theorem gapStart_begins {d : Dev} (pending : d.prog.swap.pending = true) (due : d.prog.swap.gapStart ≤ d.tick)
    (uncommitted : ∀ t ∈ d.runningTasks, (d.task t).st ≠ .ready) :
    ∃ r, gapStart d = d.going.foldl (fun d t => abandonCycle t d)
      (modProg (fun p => { p with swap := { pending := false, inGap := true }, report := r }) d) := by
  refine ⟨_, if_neg ?_⟩
  have late : ¬ d.tick < d.prog.swap.gapStart := Nat.not_lt.mpr due
  have commits : d.runningTasks.any (fun t => (d.task t).st == .ready &&
      d.tick == (d.task t).t0 + (d.task t).cfg.offset && d.runningTasks.head? == some t) = false := by
    rw [List.any_eq_false]
    intro t running
    simp [uncommitted t running]
  simp only [commits, pending, late]
  decide

theorem swapGapStart_idle {s : State} (pending : s.dev.prog.swap.pending = true)
    (due : s.dev.prog.swap.gapStart ≤ s.dev.tick) (idle : s.dev.runningTasks = []) :
    Goes .swapGapStart s fun u => u.dev.prog.swap.inGap = true ∧ u.dev.prog.image = s.dev.prog.image := by
  have row : exec .swapGapStart s = nextD s gapStart := rfl
  obtain ⟨r, begins⟩ := gapStart_begins pending due (by simp [idle])
  have none_ : s.dev.going = [] := by
    rw [Dev.going, List.filter_eq_nil_iff]
    intro t ht
    have still := List.filter_eq_nil_iff.mp idle t ht
    cases st : (s.dev.task t).st <;> simp_all [Task.inCycle, TState.running]
  rw [nextD, begins, none_] at row
  exact ⟨_, row, rfl, rfl⟩

/-- A task after its cycle in progress, if it has one, is abandoned. -/
def Task.abandoned (k : Task) : Task :=
  if k.inCycle then { k with st := .wait, deadlinePassed := true, runs := [], reexecFrom := none } else k

theorem Task.abandoned_abandoned (k : Task) : k.abandoned.abandoned = k.abandoned := by
  unfold Task.abandoned
  split <;> rfl

theorem Task.abandoned_stopReq (k : Task) : k.abandoned.stopReq = k.stopReq := by
  unfold Task.abandoned
  split <;> rfl

theorem Task.abandoned_counter (k : Task) : k.abandoned.counter = k.counter := by
  unfold Task.abandoned
  split <;> rfl

theorem abandonCycle_idle {t : Nat} {d : Dev} (idle : (d.task t).inCycle = false) : abandonCycle t d = d := by
  unfold abandonCycle
  cases st : (d.task t).st with
  | execute | ready | late => simp [Task.inCycle, st] at idle
  | _ => rfl

theorem abandonCycle_going {t : Nat} {d : Dev} (ht : t < 8) (free : (d.task t).stopReq = none)
    (going : (d.task t).inCycle = true) :
    abandonCycle t d = dropCycle t (modTask t (fun k => { k with st := .wait, deadlinePassed := true }) d) := by
  have quiet : ((dropCycle t (modTask t (fun k => { k with st := .wait, deadlinePassed := true }) d)).task t).stopReq =
      none := by
    rw [task_dropCycle _ _ ht, task_modTask _ _ _ ht]
    exact free
  unfold abandonCycle
  cases st : (d.task t).st with
  | execute | ready | late => exact stopCheck_none quiet
  | _ => simp [Task.inCycle, st] at going

theorem abandonCycle_abandons {t : Nat} {d : Dev} (ht : t < 8) (free : (d.task t).stopReq = none) :
    (abandonCycle t d).prog.swap = d.prog.swap ∧
      ∀ u < 8, (abandonCycle t d).task u = if u = t then (d.task u).abandoned else d.task u := by
  cases going : (d.task t).inCycle with
  | false =>
    rw [abandonCycle_idle going]
    refine ⟨rfl, fun u _ => ?_⟩
    split
    next same => rw [same, Task.abandoned, going]; rfl
    · rfl
  | true =>
    rw [abandonCycle_going ht free going]
    refine ⟨rfl, fun u _ => ?_⟩
    split
    next same =>
      rw [same, task_dropCycle _ _ ht, task_modTask _ _ _ ht, Task.abandoned, going]
      rfl
    next other =>
      exact (task_modTask_other t u _ _ (Ne.symm other)).trans (task_modTask_other t u _ _ (Ne.symm other))

theorem foldl_abandonCycle (l : List Nat) (d : Dev) (tasks : ∀ t ∈ l, t < 8) (free : ∀ j < 8, (d.task j).stopReq = none) :
    (l.foldl (fun d t => abandonCycle t d) d).prog.swap = d.prog.swap ∧
      ∀ u < 8, (l.foldl (fun d t => abandonCycle t d) d).task u =
        if u ∈ l then (d.task u).abandoned else d.task u := by
  induction l generalizing d with
  | nil => exact ⟨rfl, fun u _ => rfl⟩
  | cons t l ih =>
    obtain ⟨first, rest⟩ := List.forall_mem_cons.mp tasks
    obtain ⟨swap, task⟩ := abandonCycle_abandons first (free t first)
    obtain ⟨swap', task'⟩ := ih (abandonCycle t d) rest fun j hj => by
      rw [task j hj]
      split
      · exact (Task.abandoned_stopReq _).trans (free j hj)
      · exact free j hj
    refine ⟨swap'.trans swap, fun u hu => (task' u hu).trans ?_⟩
    rw [task u hu]
    by_cases same : u = t <;> by_cases later : u ∈ l <;> simp [same, later, Task.abandoned_abandoned]

theorem swapGapStart_abandons {s : State} {k : Fin 8} (pending : s.dev.prog.swap.pending = true)
    (due : s.dev.prog.swap.gapStart ≤ s.dev.tick) (execute : (s.dev.task k).st = .execute)
    (free : ∀ j : Fin 8, (s.dev.task j).stopReq = none) (unready : ∀ j : Fin 8, (s.dev.task j).st ≠ .ready) :
    Goes .swapGapStart s fun u => u.dev.prog.swap.inGap = true ∧ (u.dev.task k).st = .wait ∧ (u.dev.task k).runs = [] ∧
      (u.dev.task k).overruns = (s.dev.task k).overruns ∧
      ∀ j : Fin 8, (u.dev.task j).counter = (s.dev.task j).counter := by
  have row : exec .swapGapStart s = nextD s gapStart := rfl
  obtain ⟨r, begins⟩ := gapStart_begins pending due fun t running =>
    unready ⟨t, List.mem_range.mp (List.mem_of_mem_filter running)⟩
  obtain ⟨swap, task⟩ := foldl_abandonCycle s.dev.going
    (modProg (fun p => { p with swap := { pending := false, inGap := true }, report := r }) s.dev)
    (fun t going => List.mem_range.mp (List.mem_of_mem_filter going)) fun j hj => free ⟨j, hj⟩
  have inCycle : (s.dev.task k).inCycle = true := by rw [Task.inCycle, execute]; rfl
  have going : k.val ∈ s.dev.going := List.mem_filter.mpr ⟨List.mem_range.mpr k.isLt, inCycle⟩
  have abandons : (s.dev.task k).abandoned =
      { s.dev.task k with st := .wait, deadlinePassed := true, runs := [], reexecFrom := none } := if_pos inCycle
  rw [nextD, begins] at row
  refine ⟨_, row, congrArg Swap.inGap swap, ?_⟩
  dsimp only
  have still (t : Nat) : (modProg (fun p => { p with swap := { pending := false, inGap := true }, report := r })
      s.dev).task t = s.dev.task t := rfl
  rw [task k k.isLt, if_pos going, still, abandons]
  refine ⟨rfl, rfl, rfl, fun j => ?_⟩
  rw [task j j.isLt, still]
  split
  · exact Task.abandoned_counter _
  · rfl

/-! ## The end of the gap -/

/-- A task after a swap: no executions and no committed image (R218). -/
def Task.swapped (k : Task) : Task := { k with runs := [], committed := none }

theorem install_prog (n : Nat) (im : Image) (vals : Map TV) (timers : Map TimerRec) (counters : Map CtrRec)
    (edges : Map EdgeRec) (fields : Map TV) (m : Mems) (d : Dev) :
    let p := (install n im vals timers counters edges fields m d).prog
    p.activeSlot = decide (n = 1) ∧ p.forces = [] ∧ p.tasks = d.prog.tasks.map Task.swapped := by
  have installed : Writes [.loops, .panel, .history, .network, .sent]
      (modProg (fun p => { p with
        image := some im, activeSlot := decide (n = 1), map := (vget p.slots n).map, vals := vals, timers := timers
        counters := counters, edges := edges, partnerIn := d.newPartners im, fieldIn := fields, forces := []
        stagedRecs := [], partnerStale := [], cells := p.cells.map (fun (c : Cell) => { failed := c.failed })
        tasks := p.tasks.map Task.swapped }) d) (install n im vals timers counters edges fields m d) :=
    .shadowWrite (.panelSwap (.rebindAll (.subscribeAll (.modNet .refl))))
  dsimp only
  rw [installed.prog]
  exact ⟨rfl, rfl, rfl⟩

theorem swapNow_prog (us : Nat) (m : Mems) (d : Dev) :
    let p := (swapNow us m d).prog
    p.swap = {} ∧ p.activeSlot = decide (d.inactive = 1) ∧ p.forces = [] ∧ p.tasks = d.prog.tasks.map Task.swapped := by
  unfold swapNow
  extract_lets n old im forces timers counters edges first slots installed restored after
  have slots_prog : slots.prog = d.prog :=
    (Writes.unless (ps := slotParts) (.eachSlot (fun _ _ _ => .swapSlot .refl) .refl) .refl).prog
  have restored_prog : restored.prog = installed.prog :=
    (Writes.when (ps := [.loops]) (.eachSlot (fun _ _ _ => .restoreSlot .refl) .refl) .refl).prog
  have shrunk : after = _ := (Writes.dmaShrink (ps := raised) .refl).prog
  obtain ⟨active, forces, tasks⟩ := install_prog n im (slots.carryVals old im) timers counters edges
    (slots.carryFields old im) m slots
  rw [shrunk]
  refine ⟨rfl, ?_, ?_, ?_⟩
  · exact (congrArg Prog.activeSlot restored_prog).trans active
  · exact (congrArg Prog.forces restored_prog).trans forces
  · exact (congrArg Prog.tasks restored_prog).trans (tasks.trans (by rw [slots_prog]))

/-- What follows the swap: SWAP_DONE, and the notice to a standby (R411). -/
def swapTold (us : Nat) (x : Dev) : Dev :=
  let d := raise .swapDone (us + 65536 * b2n x.prog.activeSlot) x
  if d.red.cfg.paired && d.sys.role == .active then pairSend 0x4B [1] d else d

theorem gapEnd_swaps {us : Nat} {m : Mems} {d : Dev} (gap : d.prog.swap.inGap = true) (short : us ≤ 2000) :
    gapEnd us m d = swapTold us (swapNow us m d) :=
  if_neg (by simp [gap, short])

theorem swapTold_writes (us : Nat) (x : Dev) :
    Writes messages (raise .swapDone (us + 65536 * b2n x.prog.activeSlot) x) (swapTold us x) :=
  .when (.pairSend .refl) .refl

theorem swapGapEnd_swaps {s : State} (us : Half) (gap : s.dev.prog.swap.inGap = true) (short : us.toNat ≤ 2000) :
    Goes (.swapGapEnd us) s fun u => u.dev.prog.swap.inGap = false ∧
      u.dev.prog.activeSlot = decide (s.dev.inactive = 1) ∧ u.dev.prog.forces = [] ∧
      (∀ j : Fin 8, (u.dev.task j).counter = (s.dev.task j).counter ∧ (u.dev.task j).st = (s.dev.task j).st) ∧
      Raised u .swapDone (us.toNat + 65536 * b2n (decide (s.dev.inactive = 1))) := by
  have row : exec (.swapGapEnd us) s = .next { s with dev := gapEnd us.toNat s.mem s.dev } := rfl
  obtain ⟨swap, active, forces, tasks⟩ := swapNow_prog us.toNat s.mem s.dev
  rw [gapEnd_swaps gap short] at row
  generalize swapNow us.toNat s.mem s.dev = x at row swap active forces tasks
  have told := swapTold_writes us.toNat x
  have prog : (swapTold us.toNat x).prog = x.prog := told.prog.trans (raise_prog ..)
  have raised : Raised { s with dev := swapTold us.toNat x } .swapDone (us.toNat + 65536 * b2n x.prog.activeSlot) :=
    told.raised (raised_raise _ _ _ (by decide))
  rw [active] at raised
  have task (j : Fin 8) : (swapTold us.toNat x).task j = (s.dev.task j).swapped := by
    simp [Dev.task, prog, tasks, vget]
  refine ⟨_, row, ?_⟩
  dsimp only
  rw [prog]
  refine ⟨by rw [swap], active, forces, fun j => ?_, raised⟩
  rw [task]
  exact ⟨rfl, rfl⟩

/-- Settles O28, one step of the load and the swap at a time. -/
theorem loadAndSwap : Obligations.LoadAndSwap := by
  unfold Obligations.LoadAndSwap
  intro s o p
  exact ⟨programLoad_begins, programLoad_ends, programVerify_answers, fun k map r fs => placementChecksDone_reports,
    programSwap_schedules, swapGapStart_idle, fun k => swapGapStart_abandons, swapGapEnd_swaps⟩

end Sys2Proof.Machine
end

section
/-!
PROOF. Speed samples, revalidation, migrations and the recovery ladder (R196 to R207, R226).
-/

namespace Sys2Proof.Machine

open Sys2Proof Sys2Proof.Claims

/-! ## What depends on the map alone -/

theorem Writes.placedOn {ps : List Part} {d e : Dev} (h : Writes ps d e) (c : Nat)
    (none : .sys ∉ ps ∧ .program ∉ ps := by decide) : e.placedOn c = d.placedOn c := by
  obtain ⟨-, -, -, map, -, -⟩ := h .program none.2
  have sys : e.sys = d.sys := h .sys none.1
  unfold Dev.placedOn
  rw [show e.prog.map = d.prog.map from map, sys]

/-! ## Speed samples and revalidation -/

/-- The tests of a tile keep the readings of every tile. -/
theorem speedTest_readings (tile : Nat) (d : Dev) (k : Fin 32) :
    (vget (speedTest tile d).prog.speed k).readings = (vget d.prog.speed k).readings := by
  have armed (v : Vector TileSpeed 32) (b : Bool) :
      (vget (vmod v tile fun x => { x with armed := b }) k).readings = (vget v k).readings := by
    by_cases same : tile = k
    · rw [same, vget_vmod_same _ _ _ k.isLt]
    · rw [vget_vmod_other _ _ _ _ same]
  have drawn (d : Dev) : (marginPercent tile (freshBool d).2).2.prog = d.prog :=
    (Writes.marginPercent (ps := []) (.freshBool .refl)).prog
  unfold speedTest
  dsimp only
  split
  · rfl
  split
  · rw [raise_prog, modProg_prog, drawn]
    exact armed _ _
  split
  · exact armed _ _
  · rfl

/-- A tile takes its reading of a sample and is tested. -/
def sampleTile (r : List Half) (d : Dev) (tile : Nat) : Dev :=
  speedTest tile (modProg (fun p => { p with speed := vmod p.speed tile fun x =>
    { x with readings := (lget r tile :: x.readings).take speedKeep } }) d)

theorem sampleTiles_readings (r : List Half) (d : Dev) (k : Fin 32) (n : Nat) (hn : n ≤ 32) :
    (vget ((List.range n).foldl (sampleTile r) d).prog.speed k).readings =
      if k.val < n then (lget r k :: (vget d.prog.speed k).readings).take speedKeep
      else (vget d.prog.speed k).readings := by
  induction n with
  | zero => rfl
  | succ n ih =>
    have before := ih (by omega)
    rw [List.range_succ, List.foldl_append, List.foldl_cons, List.foldl_nil, sampleTile, speedTest_readings, modProg_prog]
    by_cases same : n = k.val
    · subst same
      rw [vget_vmod_same _ _ _ k.isLt, before, if_neg (Nat.lt_irrefl _), if_pos (Nat.lt_succ_self _)]
    · rw [vget_vmod_other _ _ _ _ same, before]
      simp only [show k.val < n + 1 ↔ k.val < n by omega]

theorem speedMonitorSample_joins {s : State} {r : List Half} (tiles : r.length = 32) :
    Goes (.speedMonitorSample r) s fun u => ∀ k : Fin 32,
      (vget u.dev.prog.speed k).readings = (lget r k :: (vget s.dev.prog.speed k).readings).take 10009 := by
  have row : exec (.speedMonitorSample r) s =
      .next { s with dev := (List.range (min 32 r.length)).foldl (sampleTile r) s.dev } := rfl
  refine ⟨_, row, fun k => ?_⟩
  dsimp only
  rw [tiles, Nat.min_self, sampleTiles_readings r s.dev k _ (Nat.le_refl 32), if_pos (by omega), speedKeep]

theorem mapRevalidation_bounds {s : State} (b : List Budget) {im : Image} {m : PlaceMap}
    (image : s.dev.prog.image = some im) (map : s.dev.prog.map = some m) :
    Goes (.mapRevalidation b none) s fun u => ∃ m', u.dev.prog.map = some m' ∧ m'.blocks = m.blocks ∧
      m'.mapId = m.mapId ∧ ∀ k : Fin 8, vget m'.budgets k = lget b k := by
  have row : exec (.mapRevalidation b none) s = execMapRevalidation b none s := rfl
  rw [execMapRevalidation, nextD, revalidate, image, map] at row
  exact ⟨_, row, _, rfl, rfl, rfl, fun k => by simp [vget]⟩

/-! ## MIGRATE -/

theorem startMigration_prog (src tgt cause : Nat) (d : Dev) :
    (startMigration src tgt cause d).prog =
      { d.prog with mig := { state := .prepare, source := src, target := tgt, cause := cause } } :=
  raise_prog ..

theorem migrate_starts {s : State} {o : Origin} {src spare : Fin 256}
    (waits : Waits s o 0x0207 ([0, BitVec.ofNat 8 s.dev.own] ++ leBytes 2 src ++ zeros 4))
    (pass : Claims.Pass (migrateTests (some spare.val) s.dev
      ([0, BitVec.ofNat 8 s.dev.own] ++ leBytes 2 src ++ zeros 4))) :
    Goes (.migrate o (some spare)) s fun u =>
      u.dev.prog.mig.state = .prepare ∧ u.dev.prog.mig.source = src.val ∧ u.dev.prog.mig.target = spare.val ∧
      u.dev.prog.map = s.dev.prog.map ∧ Raised u .migrationStart (src.val + 256 * spare.val + 65536 * s.dev.own) ∧
      Answers u o stOk (leBytes 1 src ++ leBytes 1 spare ++ zeros 2 ++ leBytes 4 (s.dev.migBound s.dev.own src)) := by
  have command : exec (.migrate o (some spare)) s = execMigrate o (some spare) s := rfl
  generalize payload : [0, BitVec.ofNat 8 s.dev.own] ++ leBytes 2 src ++ zeros 4 = p at waits pass
  have own : s.dev.own < 8 := s.dev.sys.stackPos.isLt
  have byCell : byteAt p 0 = 0 := by rw [← payload]; rfl
  have position : byteAt p 1 = s.dev.own := by
    rw [← payload]
    exact (BitVec.toNat_ofNat _ _).trans (Nat.mod_eq_of_lt (by omega))
  have source (d : Dev) : d.migSource p = src := by
    rw [Dev.migSource, byCell, if_pos rfl, ← payload]
    exact (fromLe_leBytes 2 src).trans (Nat.mod_eq_of_lt (by omega))
  have answers : Goes (.migrate o (some spare)) s fun u =>
      Answers u o stOk (leBytes 1 src ++ leBytes 1 spare ++ zeros 2 ++ leBytes 4 (s.dev.migBound s.dev.own src)) ∧
      u.dev.prog = { s.dev.prog with mig := { state := .prepare, source := src, target := spare, cause := 0 } } ∧
      Raised u .migrationStart (src.val + 256 * spare.val + 65536 * s.dev.own) := by
    refine goes_answers (P := fun d => d.prog = { s.dev.prog with
        mig := { state := .prepare, source := src, target := spare, cause := 0 } } ∧
      Raised { s with dev := d } .migrationStart (src.val + 256 * spare.val + 65536 * s.dev.own)) command waits
      (Bool.and_false _) (fun _ => rfl) (fun _ => pass)
      fun m => ⟨startMigration src spare 0 { s.dev with mbx := m }, ?_, raise_mbx .., fun m' =>
        ⟨startMigration_prog .., raised_raise .migrationStart _ _ (by decide)⟩⟩
    dsimp only
    rw [source, position]
    exact if_pos rfl
  obtain ⟨u, run, answer, prog, raised⟩ := answers
  exact ⟨u, run, by rw [prog], by rw [prog], by rw [prog], by rw [prog], raised, answer⟩

/-! ## The phases of a migration -/

theorem migCheck_placed {spare : Option Nat} {d : Dev} (placed : d.placedOn d.prog.mig.source ≠ []) :
    migCheck spare d = d := by
  have left : (d.placedOn d.prog.mig.source).isEmpty = false := List.isEmpty_eq_false_iff.mpr placed
  unfold migCheck
  exact if_pos (by rw [left, Bool.not_false, Bool.or_true])

theorem migrationPrepareDone_switches {s : State} (prepare : s.dev.prog.mig.state = .prepare)
    (placed : s.dev.placedOn s.dev.prog.mig.source ≠ []) :
    Goes .migrationPrepareDone s fun u =>
      u.dev.prog.mig.state = .switch ∧ u.dev.prog.map = s.dev.prog.map := by
  have row : exec .migrationPrepareDone s = execMigrationPrepareDone s := rfl
  rw [execMigrationPrepareDone, nextD, if_pos prepare, migCheck_placed] at row
  · exact ⟨_, row, rfl, rfl⟩
  · exact placed

/-- The block of a migration, moved with its task (R203). -/
def movedBlock (d : Dev) (t : Nat) (b : PlacedBlock) : PlacedBlock :=
  if b.cell == d.prog.mig.source && b.position == d.sys.stackPos.toNat && d.blockTask b.block == t then
    { b with cell := d.prog.mig.target } else b

/-- The device once the blocks of a task have moved. -/
def movedTask (t : Nat) (d : Dev) : Dev :=
  modProg (fun p => { p with
    map := p.map.map (fun (x : PlaceMap) => { x with blocks := x.blocks.map (movedBlock d t) })
    mig := { p.mig with switched := p.mig.switched ++ [t] } }) d

theorem migrationSwitch_moves {s : State} {k : Fin 8} (switch : s.dev.prog.mig.state = .switch)
    (wait : (s.dev.task k).st = .wait) (tasks : k.val ∈ s.dev.tasksOn s.dev.prog.mig.source) :
    Becomes (.migrationSwitch k none) s (migCheck none (movedTask k s.dev)) := by
  have row : exec (.migrationSwitch k none) s = execMigrationSwitch k none s := rfl
  rw [Becomes, row, execMigrationSwitch, nextD]
  dsimp only
  rw [if_neg]
  · rfl
  · simp [switch, wait, tasks]

/-- With the blocks of the only task on it, a source has no blocks left. -/
theorem placedOn_movedTask {d : Dev} {t : Nat} {m : PlaceMap} (map : d.prog.map = some m)
    (apart : d.prog.mig.source ≠ d.prog.mig.target) (only : d.tasksOn d.prog.mig.source = [t])
    (own : ∀ b ∈ m.blocks, d.blockTask b.block < 8) : (movedTask t d).placedOn d.prog.mig.source = [] := by
  have placed (b : PlacedBlock) (hb : b ∈ m.blocks) (cell : b.cell = d.prog.mig.source)
      (position : b.position = d.sys.stackPos.toNat) : d.blockTask b.block = t := by
    have on : d.blockTask b.block ∈ d.tasksOn d.prog.mig.source := by
      rw [Dev.tasksOn, List.mem_filter, List.mem_range, List.any_eq_true]
      refine ⟨own b hb, b.block, ?_, beq_self_eq_true _⟩
      rw [Dev.placedOn, map]
      exact List.mem_filterMap.mpr ⟨b, hb, by simp [cell, position]⟩
    rw [only] at on
    exact List.mem_singleton.mp on
  rw [Dev.placedOn, movedTask, modProg_prog, map]
  simp only [Option.map_some, Option.getD_some, List.filterMap_map, List.filterMap_eq_nil_iff]
  intro b hb
  by_cases here : b.cell = d.prog.mig.source ∧ b.position = d.sys.stackPos.toNat
  · simp [movedBlock, here, placed b hb here.1 here.2, Ne.symm apart]
  · simp [movedBlock, here]

theorem nextQueued_nil {spare : Option Nat} {d : Dev} (queue : d.prog.migQueue = []) : nextQueued spare d = d := by
  unfold nextQueued
  rw [queue]

/-- The device once a migration has ended (R203): the source is free again, and MIGRATION_DONE is raised. -/
def migEnded (d : Dev) : Dev :=
  modCell d.prog.mig.source (fun x => { x with level := .ok })
    (raise .migrationDone (migDetail d.prog.mig d 0) (modProg (fun p => { p with mig := {} }) d))

theorem migEnded_prog (d : Dev) : (migEnded d).prog = { d.prog with mig := {}, cells := (migEnded d).prog.cells } := by
  simp [migEnded, modCell]

theorem migEnded_writes (d : Dev) : Writes (Claims.raised ++ [.cells, .restOfProgram]) d (migEnded d) :=
  .modCell (.raise (.modProg .restOfProgram .refl))

theorem migCheck_done {spare : Option Nat} {d : Dev} (switch : d.prog.mig.state = .switch)
    (empty : d.placedOn d.prog.mig.source = []) (queue : d.prog.migQueue = []) : migCheck spare d = migEnded d := by
  unfold migCheck
  rw [if_neg (by simp [switch, empty])]
  exact nextQueued_nil ((congrArg Prog.migQueue (migEnded_prog d)).trans queue)

theorem migrationSwitch_done {s : State} {k : Fin 8} {m : PlaceMap} (switch : s.dev.prog.mig.state = .switch)
    (wait : (s.dev.task k).st = .wait) (map : s.dev.prog.map = some m) (queue : s.dev.prog.migQueue = [])
    (apart : s.dev.prog.mig.source ≠ s.dev.prog.mig.target) (only : s.dev.tasksOn s.dev.prog.mig.source = [k.val])
    (own : ∀ b ∈ m.blocks, s.dev.blockTask b.block < 8) :
    Goes (.migrationSwitch k none) s fun u =>
      u.dev.prog.mig.state = .none ∧ u.dev.placedOn s.dev.prog.mig.source = [] ∧
      Raised u .migrationDone (s.dev.prog.mig.source + 256 * s.dev.prog.mig.target + 65536 * s.dev.own) ∧
      ∃ m', u.dev.prog.map = some m' ∧ m'.blocks.length = m.blocks.length := by
  have becomes := migrationSwitch_moves switch wait (by rw [only]; exact List.mem_singleton_self _)
  have empty := placedOn_movedTask map apart only own
  rw [migCheck_done (d := movedTask k s.dev) switch empty queue] at becomes
  refine goes_of_becomes becomes ?_
  have raised := raised_raise .migrationDone (migDetail (movedTask k s.dev).prog.mig (movedTask k s.dev) 0)
    (modProg (fun p => { p with mig := {} }) (movedTask k s.dev)) (by decide)
  have prog := migEnded_prog (movedTask k s.dev)
  dsimp only
  refine ⟨by rw [prog], ?_, raised, ?_⟩
  · exact ((migEnded_writes _).placedOn _).trans empty
  · rw [prog, movedTask, modProg_prog, map]
    exact ⟨_, rfl, List.length_map _⟩

/-! ## The ladder -/

/-- An event raised keeps the record of another one. -/
theorem raised_other {e e' : Ev} {s : State} {d : Dev} {x y : Nat} (h : Raised { s with dev := d } e x)
    (other : e'.num ≠ e.num) (full : e.num ≠ 122) : Raised { s with dev := raise e' y d } e x := by
  obtain ⟨pending, detail⟩ := h
  refine ⟨pending_raise pending e' y, Eq.trans ?_ detail⟩
  have hn := e'.num_lt
  unfold raise
  dsimp only
  split
  · rw [raise1_detail _ _ _ _ (by omega), raise1_detail _ _ _ _ hn, if_neg (Ne.symm full), if_neg other]
  · rw [raise1_detail _ _ _ _ hn, if_neg other]

theorem stopSource_cell (c : Fin 256) (k : Fin 256) (d : Dev) : (stopSource c d).cell k =
    if c = k then { haltCell (d.cell k) with failed := true, level := .l1 } else d.cell k := by
  have cells : (stopSource c d).prog.cells =
      (modCell c (fun x => { haltCell x with failed := true, level := .l1 }) d).prog.cells :=
    foldl_proj (fun d : Dev => d.prog.cells) _ (fun _ _ => redoBlock_cells ..) _ _
  have halted := cell_modCell c k (fun x => { haltCell x with failed := true, level := .l1 }) d
  simp only [Fin.val_inj] at halted
  rw [← halted, Dev.cell, cells]
  rfl

/-- What an L1 entry asks before it begins a migration rests on parts that the stop of its source keeps. -/
theorem Writes.opBusy {ps : List Part} {d e : Dev} (h : Writes ps d e)
    (none : .program ∉ ps ∧ .restOfProgram ∉ ps := by decide) : e.opBusy = d.opBusy := by
  obtain ⟨-, -, -, -, -, checking⟩ := h .program none.1
  obtain ⟨-, pend, recs, waiter, -, -, swap, -⟩ := same_restOfProgram.mp (h .restOfProgram none.2)
  dsimp only at checking pend recs waiter swap
  rw [Dev.opBusy, checking, pend, recs, waiter, swap]
  rfl

theorem Writes.mig {ps : List Part} {d e : Dev} (h : Writes ps d e) (none : .restOfProgram ∉ ps := by decide) :
    e.prog.mig = d.prog.mig := by
  obtain ⟨-, -, -, -, mig, -⟩ := same_restOfProgram.mp (h .restOfProgram none)
  exact mig

theorem Writes.cellOn {ps : List Part} {d e : Dev} (h : Writes ps d e) (c : Nat)
    (none : .sys ∉ ps ∧ .otp ∉ ps := by decide) : e.cellOn c = d.cellOn c := by
  have sys : e.sys = d.sys := h .sys none.1
  have otp : e.otp = d.otp := h .otp none.2
  unfold Dev.cellOn Dev.nCells Dev.field
  rw [sys, otp]

theorem spareOk_stopSource {c spare : Fin 256} {d : Dev} (ok : d.spareOk spare = true) (apart : spare ≠ c) :
    (stopSource c d).spareOk spare = true := by
  have stopped : Writes [.tasks, .cells] d (stopSource c d) := .stopSource .refl
  rw [Dev.spareOk, stopped.cellOn, stopped.placedOn, stopSource_cell, if_neg (Ne.symm apart)]
  exact ok

/-- Level L1 of a cell with blocks, once the engine is free and a spare is left: its migration begins (R204). -/
theorem ladderL1_migrates {c spare : Fin 256} {cause : Nat} {d : Dev} (placed : d.placedOn c ≠ [])
    (free : d.prog.mig.state = .none) (idle : d.opBusy = false) (ok : d.spareOk spare = true) (apart : spare ≠ c) :
    ladderL1 c cause (some spare.val) d = startMigration c spare cause (stopSource c d) := by
  have stopped : Writes [.tasks, .cells] d (stopSource c d) := .stopSource .refl
  have left : ¬ ((stopSource c d).placedOn c).isEmpty = true := by
    rw [stopped.placedOn, List.isEmpty_iff]
    exact placed
  unfold ladderL1
  dsimp only
  rw [if_neg left, stopped.mig, stopped.opBusy, free, idle, if_neg (by decide), spareOk_stopSource ok apart]
  exact if_pos (by simpa [Fin.val_inj] using apart)

/-- PROGRESS_STALL of what a cell runs (R201). -/
def Dev.stalled (d : Dev) (c : Nat) : Dev :=
  raise .progressStall (c + 512 * (d.cell c).task + 65536 * (d.cell c).block) d

theorem Dev.stalled_writes (d : Dev) (c : Nat) : Writes Claims.raised d (d.stalled c) := .raise .refl

theorem progressStall_climbs {s : State} {c spare : Fin 256} (running : (s.dev.cell c).running = true)
    (sound : (s.dev.cell c).failed = false) (outside : s.dev.inMigDomain c = false)
    (block : (s.dev.cell c).block < 65536) :
    Becomes (.progressStall c (some spare)) s (ladderL1 c 2 (some spare.val) (s.dev.stalled c)) := by
  have row : exec (.progressStall c (some spare)) s = execProgressStall c (some spare) s := rfl
  have domain : (s.dev.stalled c).inMigDomain c = false := by
    rw [Dev.inMigDomain, (s.dev.stalled_writes c).prog]
    exact outside
  rw [Becomes, row, execProgressStall, nextD]
  dsimp only
  rw [if_pos running]
  dsimp only
  rw [sound, if_neg Bool.false_ne_true, Nat.mod_eq_of_lt block, ← Dev.stalled, domain]
  rfl

theorem progressStall_migrates {s : State} {c spare : Fin 256} (running : (s.dev.cell c).running = true)
    (sound : (s.dev.cell c).failed = false) (outside : s.dev.inMigDomain c = false)
    (block : (s.dev.cell c).block < 65536) (idle : s.dev.opBusy = false) (free : s.dev.prog.mig.state = .none)
    (placed : s.dev.placedOn c ≠ []) (ok : s.dev.spareOk spare = true) (apart : spare ≠ c) :
    Goes (.progressStall c (some spare)) s fun u =>
      (u.dev.cell c).failed = true ∧ (u.dev.cell c).running = false ∧ u.dev.prog.mig.state = .prepare ∧
      u.dev.prog.mig.source = c.val ∧ u.dev.prog.mig.target = spare.val ∧
      Raised u .progressStall (c.val + 512 * (s.dev.cell c).task + 65536 * (s.dev.cell c).block) := by
  have becomes := progressStall_climbs (spare := spare) running sound outside block
  have told := s.dev.stalled_writes c
  have ok' : (s.dev.stalled c).spareOk spare = true := by
    rw [Dev.spareOk, told.cellOn, told.placedOn, Dev.cell, told.prog]
    exact ok
  rw [ladderL1_migrates (told.placedOn c ▸ placed) (told.mig ▸ free) (told.opBusy.trans idle) ok' apart] at becomes
  have raised : Raised { s with dev := s.dev.stalled c } .progressStall _ := raised_raise _ _ _ (by decide)
  have stopped : Writes [.tasks, .cells] (s.dev.stalled c) (stopSource c (s.dev.stalled c)) := .stopSource .refl
  have kept := stopped.raised raised
  have prog := startMigration_prog c spare 2 (stopSource c (s.dev.stalled c))
  have cell : (startMigration c spare 2 (stopSource c (s.dev.stalled c))).cell c =
      (stopSource c (s.dev.stalled c)).cell c := by rw [Dev.cell, prog]; rfl
  refine goes_of_becomes becomes ?_
  dsimp only
  rw [cell, stopSource_cell, if_pos rfl, prog]
  exact ⟨rfl, rfl, rfl, rfl, rfl, raised_other kept (by decide) (by decide)⟩

theorem l0ReloadDone_begins {s : State} {c : Fin 256} (reload : (s.dev.cell c).level = .l0)
    (ready : s.dev.ready (s.dev.cell c).task (s.dev.cell c).block = true) :
    Goes (.l0ReloadDone c) s fun u =>
      u.dev.cell c = { enterBlock (s.dev.cell c).task (s.dev.cell c).block (s.dev.cell c) with level := .l0run } := by
  have row : exec (.l0ReloadDone c) s = execL0ReloadDone c s := rfl
  rw [execL0ReloadDone, nextD] at row
  dsimp only at row
  rw [if_neg (by rw [reload]; decide), if_pos ready] at row
  refine ⟨_, row, ?_⟩
  dsimp only
  rw [cell_modCell, if_pos rfl, beginBlock_cell, if_pos rfl]

/-- Settles O29, one phase at a time. -/
theorem migrationAndLadder : Obligations.MigrationAndLadder := by
  unfold Obligations.MigrationAndLadder
  intro s o
  refine ⟨fun r => speedMonitorSample_joins, fun b im m => mapRevalidation_bounds b, fun src spare => migrate_starts,
    migrationPrepareDone_switches, fun k m => migrationSwitch_done,
    fun c spare running sound outside _ => progressStall_migrates running sound outside, fun c reload _ ready => ?_⟩
  obtain ⟨u, run, cell⟩ := l0ReloadDone_begins reload ready
  refine ⟨u, run, ?_⟩
  dsimp only
  rw [cell]
  exact ⟨rfl, rfl, rfl, rfl, rfl, rfl, rfl, rfl⟩

end Sys2Proof.Machine
end

section
/-!
PROOF. The sections of a biquad cascade in AUTO (R245, R246): the flags of a computation do not reach its values, and
phase 3 gives each section that is not skipped the states of its own input and output.
-/

namespace Sys2Proof.Machine

open Sys2Proof Sys2Proof.Claims

/-! ## Phase 1 -/

theorem phase1_values (cs : List Section) (ss : List (BitVec 48)) (x : Int) (f g : LFlags) :
    (phase1 cs ss x f).1 = (phase1 cs ss x g).1 := by
  induction cs generalizing ss x f g with
  | nil => rfl
  | cons c cs ih => exact congrArg ((x, _) :: ·) (ih ..)

theorem phase1_length (cs : List Section) (ss : List (BitVec 48)) (x : Int) (f : LFlags) :
    (phase1 cs ss x f).1.length = cs.length := by
  induction cs generalizing ss x f with
  | nil => rfl
  | cons c cs ih => exact congrArg (· + 1) (ih ..)

/-- The cascade's output is that of its last section. -/
theorem phase1_last {cs : List Section} (some_ : cs ≠ []) (ss : List (BitVec 48)) (x : Int) (f : LFlags) (e : Int) :
    ((phase1 cs ss x f).1.getLast?.map (·.2)).getD e = (lget (phase1 cs ss x {}).1 (cs.length - 1)).2 := by
  have within : cs.length - 1 < (phase1 cs ss x {}).1.length := by
    rw [phase1_length]
    exact Nat.sub_one_lt (mt List.length_eq_zero_iff.mp some_)
  rw [phase1_values cs ss x f {}, List.getLast?_eq_getElem?, phase1_length, lget, List.getElem?_eq_getElem within]
  rfl

/-! ## Phase 3 -/

/-- The states that a section's own input and output give it (R245). -/
def statesOf (c : Section) (xy : Int × Int) (s2 : BitVec 48) : BitVec 48 × BitVec 48 :=
  (sectionState c xy.1 xy.2 s2 {}).1

theorem phase3_cons (k : Nat) (skip : Bool) (i : Nat) (c : Section) (cs : List Section) (xy : Int × Int)
    (xs : List (Int × Int)) (f : LFlags) (s1 s2 : Vector (BitVec 48) 8) :
    ∃ f', phase3 k none skip false i (c :: cs) (xy :: xs) f s1 s2 =
      if i = k ∧ skip = true then phase3 k none skip false (i + 1) cs xs f' s1 s2
      else phase3 k none skip false (i + 1) cs xs f' (vset s1 i (statesOf c xy (vget s2 i)).1)
        (vset s2 i (statesOf c xy (vget s2 i)).2) := by
  by_cases skipped : i = k ∧ skip = true
  · exact ⟨f, by simp [phase3, skipped]⟩
  · have goes : (if i = k then skip else false) = false := by simpa using skipped
    simp only [phase3, goes, if_neg Bool.false_ne_true, if_neg skipped, Option.getD_none, ite_self]
    exact ⟨_, rfl⟩

/-- In AUTO phase 3 leaves the states of a skipped integrator section, and gives every other section its own. -/
theorem phase3_states (k : Nat) (skip : Bool) (i : Nat) (cs : List Section) (xs : List (Int × Int)) (f : LFlags)
    (s1 s2 : Vector (BitVec 48) 8) (long : xs.length = cs.length) (fits : i + cs.length ≤ 8) (j : Nat) :
    (vget (phase3 k none skip false i cs xs f s1 s2).1.1 j, vget (phase3 k none skip false i cs xs f s1 s2).1.2 j) =
      if i ≤ j ∧ j < i + cs.length ∧ ¬(j = k ∧ skip = true) then
        statesOf (lget cs (j - i)) (lget xs (j - i)) (vget s2 j)
      else (vget s1 j, vget s2 j) := by
  induction cs generalizing i xs f s1 s2 with
  | nil => rw [if_neg (by simp; omega)]; rfl
  | cons c cs ih =>
    cases xs with
    | nil => cases long
    | cons xy xs =>
      rw [List.length_cons, List.length_cons, Nat.add_right_cancel_iff] at long
      rw [List.length_cons] at fits ⊢
      obtain ⟨f', step⟩ := phase3_cons k skip i c cs xy xs f s1 s2
      have tail (s1 s2) := ih (i + 1) xs f' s1 s2 long (by omega)
      rw [step]
      by_cases here : j = i
      · subst here
        by_cases skipped : j = k ∧ skip = true
        · rw [if_pos skipped, tail, if_neg (by omega), if_neg fun h => h.2.2 skipped]
        · rw [if_neg skipped, tail, if_neg (by omega), if_pos ⟨le_rfl, by omega, skipped⟩,
            vget_vset_same _ _ _ (by omega), vget_vset_same _ _ _ (by omega), Nat.sub_self]
          rfl
      · have shifted (old : BitVec 48 × BitVec 48) :
            (if i + 1 ≤ j ∧ j < i + 1 + cs.length ∧ ¬(j = k ∧ skip = true) then
              statesOf (lget cs (j - (i + 1))) (lget xs (j - (i + 1))) (vget s2 j) else old) =
            if i ≤ j ∧ j < i + (cs.length + 1) ∧ ¬(j = k ∧ skip = true) then
              statesOf (lget (c :: cs) (j - i)) (lget (xy :: xs) (j - i)) (vget s2 j) else old := by
          by_cases above : i + 1 ≤ j
          · rw [show j - i = j - (i + 1) + 1 by omega]
            have range : i + 1 ≤ j ∧ j < i + 1 + cs.length ↔ i ≤ j ∧ j < i + (cs.length + 1) := by omega
            exact if_congr (by rw [← and_assoc, range, and_assoc]) rfl rfl
          · rw [if_neg (by omega), if_neg (by omega)]
        split
        · rw [tail, shifted]
        · rw [tail, vget_vset_other _ _ _ _ (Ne.symm here), vget_vset_other _ _ _ _ (Ne.symm here), shifted]

/-! ## The sample -/

/-- Settles O30: FROZEN is the integrator's skip, and phase 3 skips no other section. -/
theorem integratorFreeze : Obligations.IntegratorFreeze := by
  unfold Obligations.IntegratorFreeze
  intro un n s secs k neg mn mx up dn i atMost8 integ auto free r xy u out x skip
  have some_ : secs ≠ [] := List.ne_nil_of_length_pos (Nat.zero_lt_of_lt integ)
  have frozen : r.1.frozen = intHeld (decide (u < out)) (decide (out < u)) (false, false) x := by
    simp only [r, biquadSample, auto, free, phase1_last some_, phase1_values secs _ _ _ {}, decide_eq_true integ]
    rfl
  obtain ⟨f, phase⟩ : ∃ f, (r.1.s1, r.1.s2) = (phase3 k none r.1.frozen false 0 secs xy f s.s1 s.s2).1 := by
    simp only [r, biquadSample, auto, phase1_values secs _ _ _ {}]
    exact ⟨_, rfl⟩
  have held : r.1.frozen = true ↔ skip := by
    rw [frozen]
    simp [intHeld, skip]
  have states (j : Nat) : (vget r.1.s1 j, vget r.1.s2 j) =
      if j < secs.length ∧ ¬(j = k ∧ skip) then statesOf (lget secs j) (lget xy j) (vget s.s2 j)
      else (vget s.s1 j, vget s.s2 j) := by
    have given := phase3_states k r.1.frozen 0 secs xy f s.s1 s.s2 (phase1_length ..) (by omega) j
    rw [← phase, Nat.zero_add, Nat.sub_zero] at given
    simpa [held] using given
  refine ⟨held, fun skipped => ?_, fun j within goes => ?_⟩
  · have kept := states k
    rw [if_neg (by simp [skipped])] at kept
    exact Prod.mk.inj kept
  · have next := states j
    rw [if_pos ⟨within, by tauto⟩] at next
    exact Prod.mk.inj next

end Sys2Proof.Machine
end

section
/-!
PROOF. A loop sample (R237 to R245, R257, R258): which operations leave every slot and the tick as they are, what a
sample stores in its own slot, and that the unit's other slots keep theirs.
-/

namespace Sys2Proof.Machine

open Sys2Proof Sys2Proof.Claims

/-! ## Devices with the same slots -/

/-- Two devices agree in every loop slot and in the tick. -/
structure SameSlots (d e : Dev) : Prop where
  slot : ∀ u n, e.slot u n = d.slot u n
  tick : e.tick = d.tick

/-- What a change of an entry keeps, the group with that entry changed keeps. -/
theorem vget_vmod_keeps {α β : Type} {n : Nat} [Inhabited α] (p : α → β) (v : Vector α n) (i : Nat) (f : α → α)
    (keeps : ∀ x, p (f x) = p x) (j : Nat) : p (vget (vmod v i f) j) = p (vget v j) := by
  by_cases same : i = j
  · subst same
    by_cases within : i < n
    · rw [vget_vmod_same _ _ _ within, keeps]
    · simp [vmod, vset, vget, Nat.le_of_not_lt within]
  · rw [vget_vmod_other _ _ _ _ same]

theorem slot_modSlot {u n : Nat} (hu : u < 8) (hn : n < 32) (f : LoopSlot → LoopSlot) (d : Dev) (v m : Nat) :
    (modSlot u n f d).slot v m = if u = v ∧ n = m then f (d.slot v m) else d.slot v m := by
  unfold Dev.slot modSlot
  by_cases unit : u = v
  · subst unit
    rw [vget_vmod_same _ _ _ hu]
    by_cases same : n = m
    · subst same
      rw [vget_vmod_same _ _ _ hn, if_pos ⟨rfl, rfl⟩]
    · rw [vget_vmod_other _ _ _ _ same, if_neg (by simp [same])]
  · rw [vget_vmod_other _ _ _ _ unit, if_neg (by simp [unit])]

section
variable {d e f : Dev}

theorem SameSlots.refl (d : Dev) : SameSlots d d := ⟨fun _ _ => rfl, rfl⟩

theorem SameSlots.trans (h : SameSlots d e) (h' : SameSlots e f) : SameSlots d f :=
  ⟨fun u n => (h'.slot u n).trans (h.slot u n), h'.tick.trans h.tick⟩

theorem SameSlots.ite {c : Prop} [Decidable c] (h : SameSlots d e) (h' : SameSlots d f) :
    SameSlots d (if c then e else f) := by
  split
  · exact h
  · exact h'

theorem Writes.sameSlots {ps : List Part} (h : Writes ps d e) (loops : .loops ∉ ps := by decide)
    (tick : .tick ∉ ps := by decide) : SameSlots d e :=
  ⟨fun u n => congrArg (fun v : Vector LoopUnit 8 => vget (vget v u).slots n) (h .loops loops), h .tick tick⟩

theorem SameSlots.modSlot (h : SameSlots d e) {u n : Nat} (hu : u < 8) (hn : n < 32) (x : LoopSlot) :
    SameSlots (Machine.modSlot u n (fun _ => x) d) (Machine.modSlot u n (fun _ => x) e) :=
  ⟨fun v m => by rw [slot_modSlot hu hn, slot_modSlot hu hn, h.slot], h.tick⟩

end

/-! ## What leaves the slots alone -/

section
variable (u n : Nat) (d : Dev)

/-- A change of the units that keeps each unit's slots. -/
theorem modUnit_sameSlots (f : LoopUnit → LoopUnit) (keeps : ∀ x, (f x).slots = x.slots) :
    SameSlots d { d with loops := vmod d.loops u f } :=
  ⟨fun v m => congrArg (vget · m) (vget_vmod_keeps LoopUnit.slots d.loops u f keeps v), rfl⟩

theorem modTrace_sameSlots (f : Trace → Trace) : SameSlots d (modTrace u f d) := modUnit_sameSlots u d _ fun _ => rfl

theorem traceDone_sameSlots : SameSlots d (traceDone u d) := (Writes.traceDone (ps := raised) .refl).sameSlots

theorem commitAnswers_sameSlots : SameSlots d (commitAnswers u d) := by
  refine .trans ?_ (Writes.foldl (ps := [.mailbox]) .refl fun _ _ => .respond .refl).sameSlots
  exact modUnit_sameSlots u d _ fun _ => rfl

theorem settleBound_sameSlots (c : LoopCfg) : SameSlots d (settleBound c d) :=
  (Writes.settleBound (ps := [.digital, .analog]) .refl).sameSlots

theorem inputSeq_sameSlots (el : Option Nat) : SameSlots d (inputSeq el d).2 :=
  (Writes.inputSeq (ps := []) .refl).sameSlots

theorem raiseIf_sameSlots (c : Bool) (e : Ev) (detail : Nat) : SameSlots d (raiseIf c e detail d) :=
  (Writes.raiseIf (ps := raised) .refl).sameSlots

theorem loopInputs_sameSlots (bad : Half) : SameSlots d (loopInputs u n bad d).2 := by
  have checked (e : Ev) (x : Nat) : SameSlots d (raise e x (countCheck .sram d)) :=
    (Writes.raise (ps := .sys :: raised) (.countCheck .refl)).sameSlots
  unfold loopInputs
  dsimp only
  split
  · split
    · exact checked _ _
    · exact .refl d
  · exact .refl d

theorem nodeWord_sameSlots (code : Byte) (ref : Word) (i : LIn) (r : LRec) (s : LoopSlot) :
    SameSlots d (nodeWord code ref i r s d).2 := by
  unfold nodeWord freshInt
  dsimp only
  (repeat' split) <;> exact ⟨fun _ _ => rfl, rfl⟩

theorem traceWords_sameSlots (l : List (Byte × Word)) (i : LIn) (r : LRec) (s : LoopSlot) :
    SameSlots d (traceWords l i r s d).2 := by
  induction l generalizing d with
  | nil => exact .refl d
  | cons c l ih => exact (nodeWord_sameSlots d c.1 c.2 i r s).trans (ih _)

theorem traceSample_sameSlots (i : LIn) (r : LRec) (satOut newly : Bool) :
    SameSlots d (traceSample u n i r satOut newly d) := by
  have counted := modTrace_sameSlots u d fun t => { t with count := t.count + 1 }
  unfold traceSample
  dsimp only
  refine .ite (.refl d) (.ite counted ?_)
  generalize modTrace u _ d = e at counted ⊢
  generalize List.zip _ _ = l
  have recorded (t : Trace) := (counted.trans (traceWords_sameSlots e l i r (e.slot u n))).trans
    (modTrace_sameSlots u _ fun _ => t)
  exact .ite ((recorded _).trans (traceDone_sameSlots u _)) (recorded _)

theorem traceCut_sameSlots : SameSlots d (traceCut u n d) := by
  unfold traceCut
  dsimp only
  refine .ite (.refl d) ?_
  split
  · exact (modTrace_sameSlots u d _).trans (traceDone_sameSlots u _)
  · exact (modTrace_sameSlots u d _).trans (traceDone_sameSlots u _)
  · exact .refl d

end

/-! ## One slot's sample -/

/-- What a sample computes in a slot: the discarded sample of a fault (R258), or that of its active set. -/
def Dev.computed (d : Dev) (u n : Nat) (fault : Option Bool) (i : LIn) (old : LoopSlot) : LoopSlot × LRec :=
  match fault, old.active with
  | some inSet, _ => (faultSample inSet old, {})
  | none, some (.biquad secs k neg mn mx up dn _) =>
    biquadSample (vget d.loops u) n old secs k neg mn mx up dn i (d.boundForce old.cfg)
  | none, some (.hyst lo hi on off mx _) => hystSample d.tick old lo hi on off mx i (d.boundForce old.cfg)
  | none, none => (old, {})

/-- A computed slot with its output value (Table 6.2), as a sample at a tick stores it. -/
def LoopSlot.stored (s : LoopSlot) (i : LIn) (id : Word) (seq : Byte) (tick : Nat) : LoopSlot :=
  { s with
    out := mkTV id s.prev (if s.stopped then qBAD_HARDWARE else loopQuality s.mode s.cfg.badSafe i) seq
    lastTick := some tick }

/-- A sample of a slot with no commit pending changes of the slots its own alone. -/
theorem sampleSlot_stores {u n : Nat} (hu : u < 8) (hn : n < 32) (fault : Option Bool) (bad : Half) (d : Dev)
    (pend : (d.slot u n).commitPend = none) :
    let read := loopInputs u n bad d
    ∃ id seq, SameSlots
      (modSlot u n (fun _ => (read.2.computed u n fault read.1 (d.slot u n)).1.stored read.1 id seq d.tick) d)
      (sampleSlot u n fault bad d) := by
  intro read
  have uncommitted : applyCommit u n d = d := by
    unfold applyCommit
    simp only [pend]
  have before := (loopInputs_sameSlots u n d bad).trans
    (inputSeq_sameSlots read.2 ((read.2.loopDecl u n).map (·.outElement)))
  rw [← before.tick]
  unfold sampleSlot
  rw [uncommitted]
  exact ⟨_, _, .trans (.trans (.trans (.trans
    (before.modSlot hu hn _)
    (raiseIf_sameSlots ..))
    (traceSample_sameSlots ..))
    (.ite (traceCut_sameSlots ..) (.refl _)))
    (settleBound_sameSlots ..)⟩

/-! ## A unit's sample -/

/-- A fold that steps at the items due, where one item alone is due, before the steps and after its own. -/
theorem foldl_only {α β : Type} {due : β → α → Bool} {step : β → α → β} {l : List α} (nodup : l.Nodup) {a : α}
    (mem : a ∈ l) {b : β} (here : due b a = true)
    (others : ∀ x ∈ l, x ≠ a → due b x = false ∧ due (step b a) x = false) :
    l.foldl (fun b x => if due b x then step b x else b) b = step b a := by
  have idle (l : List α) (b : β) (none : ∀ x ∈ l, due b x = false) :
      l.foldl (fun b x => if due b x then step b x else b) b = b := by
    induction l with
    | nil => rfl
    | cons x l ih =>
      rw [List.forall_mem_cons] at none
      rw [List.foldl_cons, none.1, if_neg Bool.false_ne_true, ih none.2]
  obtain ⟨before, after, rfl⟩ := List.append_of_mem mem
  rw [List.nodup_middle, List.nodup_cons, List.mem_append, not_or] at nodup
  obtain ⟨⟨notBefore, notAfter⟩, -⟩ := nodup
  have first (x) (hx : x ∈ before) := others x (by simp [hx]) (ne_of_mem_of_not_mem hx notBefore)
  have last (x) (hx : x ∈ after) := others x (by simp [hx]) (ne_of_mem_of_not_mem hx notAfter)
  rw [List.foldl_append, idle before b fun x hx => (first x hx).1, List.foldl_cons, if_pos here,
    idle after _ fun x hx => (last x hx).2]

/-- Where one slot alone is due, its unit's sample stores what it computes and keeps every other slot (R242). -/
theorem sampleUnit_slots {u : Fin 8} {n : Fin 32} {d : Dev} (faults : List (Fin 32 × Bool)) (bad : Half)
    (loud : d.loopsQuiet = false) (present : u.val < d.nUnits) (due : slotDue d.tick (d.slot u n) = true)
    (pend : (d.slot u n).commitPend = none) (others : ∀ k : Fin 32, k ≠ n → slotDue d.tick (d.slot u k) = false) :
    let fault := (faults.find? (fun f => f.1.val == n.val)).map (·.2)
    let i := (loopInputs u n bad d).1
    (∃ id seq, (sampleUnit u faults bad d).slot u n =
      ((loopInputs u n bad d).2.computed u n fault i (d.slot u n)).1.stored i id seq d.tick) ∧
    ∀ k : Fin 32, k ≠ n → (sampleUnit u faults bad d).slot u k = d.slot u k := by
  intro fault i
  obtain ⟨id, seq, stores⟩ := sampleSlot_stores u.isLt n.isLt fault bad d pend
  have kept (k : Nat) (other : k ≠ n) : (sampleSlot u n fault bad d).slot u k = d.slot u k := by
    rw [stores.slot, slot_modSlot u.isLt n.isLt, if_neg (by simp [Ne.symm other])]
  have still (k : Nat) (hk : k ∈ List.range 32) (other : k ≠ n) : slotDue d.tick (d.slot u k) = false ∧
      slotDue (sampleSlot u n fault bad d).tick ((sampleSlot u n fault bad d).slot u k) = false := by
    have idle := others ⟨k, List.mem_range.mp hk⟩ (by simpa [Fin.ext_iff] using other)
    rw [stores.tick, kept k other]
    exact ⟨idle, idle⟩
  have one := foldl_only (due := fun d n => slotDue d.tick (d.slot u n))
    (step := fun d n => sampleSlot u n ((faults.find? (fun f => f.1.val == n)).map (·.2)) bad d)
    List.nodup_range (List.mem_range.mpr n.isLt) due still
  have answered : SameSlots (sampleSlot u n fault bad d) (sampleUnit u faults bad d) := by
    unfold sampleUnit
    rw [loud, decide_eq_false (Nat.not_le.mpr present), Bool.or_self, if_neg Bool.false_ne_true]
    dsimp only at one ⊢
    rw [one]
    exact commitAnswers_sameSlots u _
  refine ⟨⟨id, seq, ?_⟩, fun k other => ?_⟩
  · rw [answered.slot, stores.slot, slot_modSlot u.isLt n.isLt, if_pos ⟨rfl, rfl⟩]
  · rw [answered.slot, kept k (by simpa [Fin.ext_iff] using other)]

/-! ## The two kinds of sample -/

theorem slotDue_runs {tick : Nat} {s : LoopSlot} (due : slotDue tick s = true) : s.stopped = false := by
  simp only [slotDue, Bool.and_eq_true, Bool.not_eq_true'] at due
  tauto

/-- Without a hardware fault no sample is in mode FAULT (Table 6.2). -/
theorem loopMode_ne_fault (i : LIn) (f : Option Word) : loopMode i f ≠ .fault := by
  unfold loopMode
  (repeat' split) <;> decide

theorem trackFrom_states (set : CoefSet) (out : Int) (s : LoopSlot) :
    ∃ s1 s2, trackFrom set out s = { s with s1 := s1, s2 := s2 } := by
  unfold trackFrom
  split
  · split
    · exact ⟨_, _, rfl⟩
    · exact ⟨_, _, rfl⟩
  · exact ⟨_, _, rfl⟩

/-- Without a parity error in the set a discarded sample differs from one with it in the states alone. -/
theorem faultSample_states (s : LoopSlot) :
    ∃ x, faultSample false s = faultSample true x ∧ ∃ s1 s2, x = { s with s1 := s1, s2 := s2 } := by
  refine ⟨_, rfl, ?_⟩
  split
  · split
    · exact trackFrom_states _ _ (zeroStates s)
    · exact ⟨_, _, rfl⟩
  · exact ⟨_, _, rfl⟩

/-- A discarded sample keeps the previous output and counts its fault; with a parity error in the active set it also
keeps the states (R258). -/
theorem faultSample_eq (inSet : Bool) (s : LoopSlot) :
    ∃ s1 s2, faultSample inSet s = { s with
        s1 := s1, s2 := s2, hw := true, faults := s.faults + 1, stopped := decide (3 ≤ s.faults + 1), frozen := false
        raised := false, lowered := false, mode := if 3 ≤ s.faults + 1 then .stopped else .fault } ∧
      (inSet = true → s1 = s.s1 ∧ s2 = s.s2) := by
  cases inSet with
  | true => exact ⟨s.s1, s.s2, rfl, fun _ => ⟨rfl, rfl⟩⟩
  | false =>
    obtain ⟨_, same, s1, s2, rfl⟩ := faultSample_states s
    exact ⟨s1, s2, same, fun no => absurd no Bool.false_ne_true⟩

/-- Settles O32: the one slot due stores what it computes, and the others keep theirs. -/
theorem loopSample : Obligations.LoopSample := by
  unfold Obligations.LoopSample
  intro s u n bad x only
  refine ⟨fun faults quiet => ⟨_, rfl, ?quiet⟩, fun loud present ⟨due, pend, others⟩ => ⟨?biquad, fun inSet => ?fault⟩⟩
  case quiet =>
    dsimp only
    rw [sampleUnit, quiet, Bool.true_or, if_pos rfl]
  case biquad =>
    intro i secs k neg mn mx up dn sp active inputs
    obtain ⟨⟨id, seq, own⟩, rest⟩ := sampleUnit_slots [] bad loud present due pend others
    have computed : s.dev.computed u n none i x =
        biquadSample (vget s.dev.loops u) n x secs k neg mn mx up dn i (s.dev.boundForce x.cfg) := by
      unfold Dev.computed
      rw [active]
    rw [inputs, List.find?_nil, Option.map_none, computed] at own
    refine ⟨_, rfl, ?_⟩
    dsimp only
    rw [own]
    refine ⟨rfl, rfl, rfl, rfl, ?_, rest⟩
    have runs : ¬x.stopped = true := by simp [slotDue_runs due]
    refine (show _ = loopQuality (loopMode i (s.dev.boundForce x.cfg)) x.cfg.badSafe i from if_neg runs).trans ?_
    cases mode : loopMode i (s.dev.boundForce x.cfg) with
    | fault => exact absurd mode (loopMode_ne_fault _ _)
    | _ => rfl
  case fault =>
    obtain ⟨⟨id, seq, own⟩, rest⟩ := sampleUnit_slots [(n, inSet)] bad loud present due pend others
    obtain ⟨s1, s2, discarded, kept⟩ := faultSample_eq inSet x
    have found : [(n, inSet)].find? (fun f => f.1.val == n.val) = some (n, inSet) := by simp
    have computed (d : Dev) (i : LIn) : d.computed u n (some inSet) i x = (faultSample inSet x, {}) := rfl
    rw [found, Option.map_some, computed, discarded] at own
    refine ⟨_, rfl, ?_⟩
    dsimp only
    rw [own]
    refine ⟨rfl, rfl, rfl, rfl, decide_eq_true_iff, ?_, kept, rest⟩
    by_cases third : 3 ≤ x.faults + 1
    · simp [LoopSlot.stored, mkTV, third, qBAD_HARDWARE]
    · simp [LoopSlot.stored, mkTV, third, loopQuality, qHELD]

end Sys2Proof.Machine
end

section
/-!
PROOF. The commands of the loop units (R255, R265, R267): LOOP_CONFIG that disables a slot also answers each
LOOP_COEFF_COMMIT of its unit whose sets have all been taken. Where one of them stands at LOOP_CONFIG's own origin,
which no premise of the statement rules out, LOOP_CONFIG has that answer and not its own.
-/

namespace Sys2Proof.Machine

open Sys2Proof Sys2Proof.Claims

/-- LOOP_CONFIG of slot 0 of unit 0 that disables it: PERIOD 1, PV from AI 0, SP fixed. -/
def disablePayload : Bytes :=
  zeros 4 ++ leBytes 2 1 ++ zeros 2 ++ leBytes 4 0x01000000 ++ leBytes 4 0x04000000 ++ zeros 16

/-- Channel 0: the LOOP_CONFIG that waits. -/
def waitingConfig : Chan :=
  { job := some { header := leBytes 2 0x0400 ++ zeros 14, payload := disablePayload } }

/-- Unit 0: its slot 0 is enabled, and it has yet to answer a LOOP_COEFF_COMMIT of channel 0 whose sets have all been
taken. -/
def staleUnit : LoopUnit :=
  { slots := vset (Vector.replicate 32 {}) 0 { cfg := { loopCfgOf disablePayload with enable := true } },
    waiters := [(.ch 0, 1)] }

/-- A device with one loop unit and field channels, whose image declares slot 0 of the unit. -/
def staleWaiter : State :=
  { dev := {
      sys := { ident := 0x0000010002000000 },
      mbx := { chans := vset (Vector.replicate 8 {}) 0 waitingConfig },
      prog := { image := some { loops := [{}] } },
      loops := vset (Vector.replicate 8 {}) 0 staleUnit } }

theorem staleWaiter_waits : Waits staleWaiter (.ch 0) 0x0400 disablePayload :=
  ⟨_, rfl, rfl, rfl, rfl, rfl, rfl, rfl⟩

theorem staleWaiter_passes : Claims.Pass (loopCfgTests staleWaiter.dev disablePayload) := by
  unfold Claims.Pass
  decide

/-- The response of the command at an origin, if it has one. -/
def Dev.response (d : Dev) (o : Origin) : Option Resp := (d.job o).bind (·.resp)

/-- The response of LOOP_CONFIG is the tick, which LOOP_COEFF_COMMIT answers (R267). -/
theorem staleWaiter_answersTick :
    ∃ t, exec (.loopConfig (.ch 0)) staleWaiter = .next t ∧ t.dev.response (.ch 0) = some ⟨stOk, leBytes 8 0⟩ :=
  ⟨_, rfl, by decide⟩

/-- Refutes O33: where a LOOP_COEFF_COMMIT of the same origin still waits with its sets all taken, the LOOP_CONFIG that
disables a slot takes that command's response, the tick, and not its own empty one. -/
theorem not_loopCommands : ¬ Obligations.LoopCommands := by
  unfold Obligations.LoopCommands
  intro holds
  obtain ⟨config, -⟩ := holds staleWaiter (.ch 0) disablePayload rfl rfl (by decide)
  obtain ⟨t, run, ⟨j, job, empty⟩, -⟩ := config staleWaiter_waits staleWaiter_passes
  obtain ⟨u, run', tick⟩ := staleWaiter_answersTick
  obtain rfl : t = u := by simpa using run.symm.trans run'
  rw [Dev.response, job, Option.bind_some, empty] at tick
  exact absurd tick (by decide)

end Sys2Proof.Machine
end

section
/-!
PROOF. The counter filter of a digital input and the settings that wait for its sample (R277, R278, R282).
-/

namespace Sys2Proof.Machine

open Sys2Proof Sys2Proof.Claims

/-! ## An event of the field block -/

/-- Where the device has field channels, an event of the field block has its effect (R273). -/
theorem becomes_of_fieldD {c : Instr} {s : State} {f : Dev → Dev} (row : exec c s = fieldD s f)
    (io : s.dev.fieldIo = true) : Becomes c s (f s.dev) := by
  rw [Becomes, row, fieldD, nextD, if_pos io]

theorem goes_of_fieldD {c : Instr} {s : State} {f : Dev → Dev} {P : State → Prop} (row : exec c s = fieldD s f)
    (io : s.dev.fieldIo = true) (holds : P { s with dev := f s.dev }) : Goes c s P :=
  goes_of_becomes (becomes_of_fieldD row io) holds

/-! ## The filter -/

/-- A sample changes the raw state, the count and the filtered state alone. -/
theorem diFilter_eq (high : Bool) (c : DiCh) : diFilter high c =
    { c with raw := high, count := (diFilter high c).count, filtered := (diFilter high c).filtered } := by
  unfold diFilter
  dsimp only
  split <;> rfl

theorem diFilter_cfg (high : Bool) (c : DiCh) : (diFilter high c).cfg = c.cfg := by rw [diFilter_eq]
theorem diFilter_pend (high : Bool) (c : DiCh) : (diFilter high c).pend = c.pend := by rw [diFilter_eq]
theorem diFilter_fast (high : Bool) (c : DiCh) : (diFilter high c).fast = c.fast := by rw [diFilter_eq]

/-- With N = 0 there is no filter. -/
theorem diFilter_unfiltered (high : Bool) {c : DiCh} (none : c.cfg.n = 0) :
    (diFilter high c).filtered = high ∧ (diFilter high c).count = 0 := by
  unfold diFilter
  dsimp only
  rw [if_pos none]
  exact ⟨rfl, rfl⟩

theorem diFilter_count (high : Bool) {c : DiCh} (filters : c.cfg.n ≠ 0) :
    (diFilter high c).count = if high then min (c.count + 1) c.cfg.n else c.count - 1 := by
  unfold diFilter
  dsimp only
  rw [if_neg filters, Nat.min_comm]

theorem diFilter_filtered (high : Bool) {c : DiCh} (filters : c.cfg.n ≠ 0) : (diFilter high c).filtered =
    if (diFilter high c).count = c.cfg.n then true else if (diFilter high c).count = 0 then false else c.filtered := by
  unfold diFilter
  dsimp only
  rw [if_neg filters]

theorem diApply_unchanged {c : DiCh} (none : c.pend = none) : diApply c = c := by
  simp [diApply, none]

/-- Settles O34: the sample's effect is the filter's, branch by branch. -/
theorem counterFilter : Obligations.CounterFilter := by
  unfold Obligations.CounterFilter
  intro i high s io
  dsimp only
  generalize hb : diApply (vget s.dev.dig.di i) = b
  refine ⟨fun none => hb.symm.trans (diApply_unchanged none), (diFilter high b).count, (diFilter high b).filtered, ?_,
    fun none => diFilter_unfiltered high none, fun filters => ⟨diFilter_count high filters, ?_⟩⟩
  · rw [← diFilter_eq, ← hb]
    exact becomes_of_fieldD rfl io
  · have filtered := diFilter_filtered high filters
    refine ⟨fun top => ?_, fun bottom => ?_, fun below above => ?_⟩
    · rw [filtered, if_pos top]
    · rw [filtered, if_neg (by omega), if_pos bottom]
    · rw [filtered, if_neg below, if_neg above]

end Sys2Proof.Machine
end

section
/-!
PROOF. The demand of the output channels and the supplies of their groups: what settling a channel, the supply
references and the group supply make of the digital field (Tables 7.4 to 7.6, R280, R287, R291, R293).
-/

namespace Sys2Proof.Machine

open Sys2Proof Sys2Proof.Claims

/-! ## A channel takes its demand -/

/-- The state that a channel's demand takes it to (Table 7.5). -/
def DoState.under (st : DoState) (demand : Bool) : DoState :=
  match st with
  | .off => if demand then .on else .off
  | .on => if demand then .on else .off
  | .openLoad => if demand then .openLoad else .off
  | .shortSupply => if demand then .on else .shortSupply
  | x => x

/-- A channel y is the channel c that has taken its demand, which is off in a state of rank 1. -/
structure DoCh.Settles (c y : DoCh) : Prop where
  state : y.state = c.state.under y.demand
  off : c.state.blocked = true → y.demand = false
  trial : y.trial = (c.trial && y.state == .on)
  fault : y.fault = c.fault
  latched : y.otLatched = c.otLatched
  kept : y.kept = c.kept

theorem DoState.under_blocked {st : DoState} (blocked : st.blocked = true) (demand : Bool) : st.under demand = st := by
  cases st <;> revert blocked <;> simp [DoState.blocked, DoState.under]

/-- A channel in a state of rank 1 stays in it and is off. -/
theorem DoCh.Settles.blocked {c y : DoCh} (h : c.Settles y) (blocked : c.state.blocked = true) :
    y.state = c.state ∧ y.demand = false :=
  ⟨h.state.trans (DoState.under_blocked blocked _), h.off blocked⟩

theorem settleDo_settles {j : Nat} (hj : j < 32) (d : Dev) :
    (vget d.dig.dout j).Settles (vget (settleDo j d).dig.dout j) := by
  unfold settleDo
  simp only [modDo, vget_vmod_same _ _ _ hj]
  generalize Dev.doWant _ j = want
  generalize vget d.dig.dout j = c
  constructor
  case state => cases h : c.state <;> simp [DoState.under, DoState.blocked]
  case off => intro blocked; simp [blocked]
  all_goals rfl

theorem settleDo_other {j k : Nat} (other : j ≠ k) (d : Dev) :
    vget (settleDo j d).dig.dout k = vget d.dig.dout k :=
  (vget_vmod_other _ _ _ _ other).trans (vget_vmod_other _ _ _ _ other)

/-- A channel that something has changed takes its demand. -/
theorem settleDo_modDo {j : Nat} (hj : j < 32) (f : DoCh → DoCh) {d e : Dev} (same : e.dig = (modDo j f d).dig) :
    (f (vget d.dig.dout j)).Settles (vget (settleDo j e).dig.dout j) := by
  have settles := settleDo_settles hj e
  rwa [same, modDo, vget_vmod_same _ _ _ hj] at settles

/-! ## What the shared operations leave of the digital field -/

theorem modDi_dig (i : Nat) (f : DiCh → DiCh) (d : Dev) :
    (modDi i f d).dig = { d.dig with di := vmod d.dig.di i f } := rfl

theorem settleDo_dig (j : Nat) (d : Dev) : (settleDo j d).dig = { d.dig with dout := (settleDo j d).dig.dout } := by
  simp only [settleDo, modDo]

theorem settleAo_dig (j : Nat) (d : Dev) : (settleAo j d).dig = d.dig := by simp only [settleAo]

theorem settleAll_dig (d : Dev) : (settleAll d).dig = (settleDos d).dig :=
  foldl_proj Dev.dig _ (fun d j => settleAo_dig j d) _ _

section
variable {γ : Type} (p : Dig → γ)

theorem settleDos_keeps (dout : ∀ g v, p { g with dout := v } = p g) (d : Dev) :
    p (settleDos d).dig = p d.dig :=
  foldl_proj (fun d : Dev => p d.dig) _ (fun d j => (congrArg p (settleDo_dig j d)).trans (dout _ _)) _ d

theorem updSupply_keeps (di : ∀ g v, p { g with di := v } = p g) (unsupplied : ∀ g m, p { g with unsupplied := m } = p g)
    (d : Dev) : p (updSupply d).dig = p d.dig := by
  refine foldl_proj (fun d : Dev => p d.dig) _ (fun d g => ?_) _ d
  dsimp only
  split
  · rfl
  · rw [raise_dig]
    split
    · exact (foldl_proj (fun d : Dev => p d.dig) _ (fun _ _ => (congrArg p (modDi_dig _ _ _)).trans (di _ _)) _ _).trans
        (unsupplied _ _)
    · exact unsupplied _ _

end

theorem settleAll_grp (d : Dev) : (settleAll d).dig.grp = d.dig.grp := by
  rw [settleAll_dig]
  exact settleDos_keeps (·.grp) (fun _ _ => rfl) d

theorem updSupply_dout (d : Dev) : (updSupply d).dig.dout = d.dig.dout :=
  updSupply_keeps (·.dout) (fun _ _ => rfl) (fun _ _ => rfl) d

theorem updSupply_grp (d : Dev) : (updSupply d).dig.grp = d.dig.grp :=
  updSupply_keeps (·.grp) (fun _ _ => rfl) (fun _ _ => rfl) d

/-- Every channel takes its demand. -/
theorem settleAll_settles {j : Nat} (hj : j < 32) (d : Dev) :
    (vget d.dig.dout j).Settles (vget (settleAll d).dig.dout j) := by
  have upTo (n : Nat) (hn : n ≤ 32) :
      (j < n → (vget d.dig.dout j).Settles (vget ((List.range n).foldl (fun d j => settleDo j d) d).dig.dout j)) ∧
      (n ≤ j → vget ((List.range n).foldl (fun d j => settleDo j d) d).dig.dout j = vget d.dig.dout j) := by
    induction n with
    | zero => exact ⟨fun none => absurd none (Nat.not_lt_zero j), fun _ => rfl⟩
    | succ n ih =>
      obtain ⟨before, after⟩ := ih (by omega)
      rw [List.range_succ, List.foldl_append, List.foldl_cons, List.foldl_nil]
      refine ⟨fun within => ?_, fun beyond => (settleDo_other (by omega) _).trans (after (by omega))⟩
      by_cases own : n = j
      · subst own
        have settles := settleDo_settles hj ((List.range n).foldl (fun d j => settleDo j d) d)
        rwa [after (Nat.le_refl n)] at settles
      · rw [settleDo_other own]
        exact before (by omega)
  rw [settleAll_dig]
  exact (upTo 32 (Nat.le_refl 32)).1 hj

/-- The supply references raise DI_GROUPn_SUPPLY alone. -/
theorem updSupply_raised {s : State} {d : Dev} {e : Ev} {x : Nat} (h : Raised { s with dev := d } e x)
    (other : ∀ g, (Ev.diGroupSupply g).num ≠ e.num) (full : e.num ≠ 122) :
    Raised { s with dev := updSupply d } e x := by
  refine List.foldlRecOn _ _ (motive := fun b : Dev => Raised { s with dev := b } e x) h fun b hb g _ => ?_
  dsimp only
  split
  · exact hb
  · refine raised_other ?_ (other _) full
    split
    · exact List.foldlRecOn _ _ (motive := fun b : Dev => Raised { s with dev := b } e x) hb fun _ h _ _ => h
    · exact hb

end Sys2Proof.Machine
end

section
/-!
PROOF. The rows of the digital channels and their group supplies (R278 to R282, R288 to R293, Tables 7.5 and 7.6).
-/

namespace Sys2Proof.Machine

open Sys2Proof Sys2Proof.Claims

section
variable {s : State} (io : s.dev.fieldIo = true)
include io

/-! ## Inputs -/

theorem diFilterSample_applies (i : Fin 32) (high : Bool) {p : DiCfg} (pend : (vget s.dev.dig.di i).pend = some p) :
    Goes (.diFilterSample i high) s fun t =>
      let c := vget s.dev.dig.di i
      (vget t.dev.dig.di i).cfg = p ∧ (vget t.dev.dig.di i).pend = none ∧
      (diApply c).count = (if c.cfg.n = 0 ∧ p.n ≠ 0 then (if c.filtered then p.n else 0) else min c.count p.n) ∧
      (p.mode ≠ c.cfg.mode ∨ p.edge ≠ c.cfg.edge → (vget t.dev.dig.di i).fast = 0) := by
  refine goes_of_fieldD (by rw [exec, execDiFilterSample]) io ?_
  simp only [modDi, vget_vmod_same _ _ _ i.isLt, diFilter_cfg, diFilter_pend, diFilter_fast, diApply, pend, true_and]
  intro recount
  rw [if_pos (by simpa using recount)]

theorem diWireBreakTimer_broken (i : Fin 32) (low : Bool) (supplied : s.dev.dig.unsup i = false)
    (watched : low = true → (vget s.dev.dig.di i).cfg.wire = true) : Goes (.diWireBreakTimer i low) s fun t =>
      (vget t.dev.dig.di i).broken = low ∧
        (low = true → t.dev.dig.diState i = false ∧ t.dev.dig.diQuality i = 0x82) := by
  refine goes_of_fieldD (by rw [exec, execDiWireBreakTimer]) io ?_
  simp only [supplied, Bool.false_eq_true, if_false]
  generalize hd : modDi i _ s.dev = d
  have di : (vget d.dig.di i).broken = low := by
    rw [← hd, modDi, vget_vmod_same _ _ _ i.isLt]
    cases low
    · rfl
    · cases was : (vget s.dev.dig.di i).broken <;> simp [watched rfl, was]
  have unsup : d.dig.unsup i = false := by rw [← hd]; exact supplied
  refine ⟨di, fun isLow => ?_⟩
  simp [Dig.diState, Dig.diQuality, di, unsup, isLow, qBAD_WIRE]

theorem diCountEdge_counts (i : Fin 4) (rising : Bool) (mode : (vget s.dev.dig.di i).cfg.mode = 1)
    (edge : (vget s.dev.dig.di i).cfg.edge = 2 ∨ (vget s.dev.dig.di i).cfg.edge = b2n (!rising)) :
    Goes (.diCountEdge i rising) s fun t =>
      (vget t.dev.dig.di i).fast = ((vget s.dev.dig.di i).fast + 1) % 2 ^ 31 ∧
      ((vget s.dev.dig.di i).fast = 2 ^ 31 - 1 → Raised t .diFastcountOvf i) := by
  have counted : ¬((vget s.dev.dig.di i).cfg.mode = 0 ∨ ((vget s.dev.dig.di i).cfg.edge = 0 ∧ !rising) ∨
      ((vget s.dev.dig.di i).cfg.edge = 1 ∧ rising)) := by
    rw [mode]
    obtain edge | edge := edge <;> rw [edge] <;> cases rising <;> simp [b2n]
  refine goes_of_fieldD (by rw [exec, execDiCountEdge]) io ?_
  dsimp only
  rw [if_neg counted, if_pos mode]
  refine ⟨?_, fun wraps => ?_⟩
  · rw [raiseIf_dig, modDi, vget_vmod_same _ _ _ (by omega)]
  · rw [wraps, raiseIf, if_pos (by decide)]
    exact raised_raise .diFastcountOvf i _ (by decide)

end

/-! ## Output diagnostics -/

/-- Group j / 8 is channel j's. -/
theorem grpNormal_of_group {j : Fin 32} {d : Dev} (normal : (vget d.dig.grp (Fin.ofNat 4 (j / 8))).state = .normal) :
    grpNormal j d = true := by
  have group : (Fin.ofNat 4 (j / 8)).val = j / 8 := Nat.mod_eq_of_lt (by omega)
  rw [group] at normal
  simp [grpNormal, normal]

section
variable (j : Fin 32)

/-- A channel that enters a fault state stands in it with its count one higher, and takes its demand. -/
theorem doFault_settles (st : DoState) (kind : Nat) (d : Dev) :
    DoCh.Settles { vget d.dig.dout j with
      state := st, trial := false, fault := min 0xFFFF ((vget d.dig.dout j).fault + 1) }
      (vget (doFault j st kind d).dig.dout j) :=
  settleDo_modDo j.isLt (fun c => { c with state := st, trial := false, fault := min 0xFFFF (c.fault + 1) })
    (raise_dig _ _ _)

theorem doFault_raised (st : DoState) (kind : Nat) (s : State) :
    Raised { s with dev := doFault j st kind s.dev } (.doGroupFault (Fin.ofNat 4 (j / 8))) (j + 32 * kind) :=
  raised_raise (.doGroupFault (Fin.ofNat 4 (j / 8))) (j + 32 * kind) _ (by simp only [Ev.num]; omega)

variable {s : State} (io : s.dev.fieldIo = true)
include io

theorem doShortSupplyDetect_found (off : (vget s.dev.dig.dout j).state = .off)
    (armed : (vget s.dev.dig.dout j).cfg.shortEn = true) (normal : grpNormal j s.dev = true) :
    Goes (.doShortSupplyDetect j true) s fun t =>
      let y := vget t.dev.dig.dout j
      y.state = (if y.demand then .on else .shortSupply) ∧ y.fault = min 65535 ((vget s.dev.dig.dout j).fault + 1) ∧
      Raised t (.doGroupFault (Fin.ofNat 4 (j / 8))) (j + 64) := by
  refine goes_of_fieldD (by rw [exec, execDoShortSupplyDetect]) io ?_
  dsimp only
  rw [if_pos rfl, if_pos ⟨off, armed, normal⟩]
  have settles := doFault_settles j .shortSupply 2 s.dev
  exact ⟨settles.state, settles.fault, doFault_raised j .shortSupply 2 s⟩

theorem doShortSupplyDetect_gone (short : (vget s.dev.dig.dout j).state = .shortSupply) :
    Goes (.doShortSupplyDetect j false) s fun t =>
      let y := vget t.dev.dig.dout j
      y.state = if y.demand then .on else .off := by
  refine goes_of_fieldD (by rw [exec, execDoShortSupplyDetect]) io ?_
  dsimp only
  rw [if_neg Bool.false_ne_true, if_pos short]
  exact (settleDo_modDo j.isLt (fun c => { c with state := .off }) rfl).state

theorem doOpenLoadDetect_found (on : (vget s.dev.dig.dout j).state = .on)
    (armed : (vget s.dev.dig.dout j).cfg.openEn = true) (normal : grpNormal j s.dev = true) :
    Goes (.doOpenLoadDetect j true) s fun t =>
      let y := vget t.dev.dig.dout j
      y.state = (if y.demand then .openLoad else .off) ∧ y.fault = min 65535 ((vget s.dev.dig.dout j).fault + 1) ∧
      Raised t (.doGroupFault (Fin.ofNat 4 (j / 8))) (j + 32) := by
  refine goes_of_fieldD (by rw [exec, execDoOpenLoadDetect]) io ?_
  dsimp only
  rw [if_pos rfl, if_pos ⟨on, armed, normal⟩]
  have settles := doFault_settles j .openLoad 1 s.dev
  exact ⟨settles.state, settles.fault, doFault_raised j .openLoad 1 s⟩

theorem doOpenLoadDetect_gone (openLoad : (vget s.dev.dig.dout j).state = .openLoad) :
    Goes (.doOpenLoadDetect j false) s fun t =>
      let y := vget t.dev.dig.dout j
      y.state = if y.demand then .on else .off := by
  refine goes_of_fieldD (by rw [exec, execDoOpenLoadDetect]) io ?_
  dsimp only
  rw [if_neg Bool.false_ne_true, if_pos openLoad]
  exact (settleDo_modDo j.isLt (fun c => { c with state := .on }) rfl).state

theorem doIlimTimeout_overcurrent (drives : (vget s.dev.dig.dout j).state = .on ∨
    (vget s.dev.dig.dout j).state = .openLoad) : Goes (.doIlimTimeout j) s fun t =>
      let y := vget t.dev.dig.dout j
      y.state = .overcurrent ∧ y.demand = false ∧ Raised t (.doGroupFault (Fin.ofNat 4 (j / 8))) (j + 96) := by
  refine goes_of_fieldD (by rw [exec, execDoIlimTimeout]) io ?_
  dsimp only
  rw [if_pos drives]
  obtain ⟨state, demand⟩ := (doFault_settles j .overcurrent 3 s.dev).blocked rfl
  exact ⟨state, demand, doFault_raised j .overcurrent 3 s⟩

theorem doRetryTimer_tries (limited : (vget s.dev.dig.dout j).state = .overcurrent)
    (retry : (vget s.dev.dig.dout j).cfg.retry = true) (wanted : (s.dev.doWant j).2 = true) :
    Goes (.doRetryTimer j) s fun t =>
      let y := vget t.dev.dig.dout j
      y.state = (if y.demand then .on else .off) ∧ y.trial = y.demand := by
  refine goes_of_fieldD (by rw [exec, execDoRetryTimer]) io ?_
  dsimp only
  rw [if_pos ⟨limited, retry, wanted⟩]
  have settles := settleDo_modDo j.isLt (fun c => { c with state := .on, trial := true }) (d := s.dev) rfl
  refine ⟨settles.state, settles.trial.trans ?_⟩
  rw [settles.state, Bool.true_and]
  dsimp only [DoState.under]
  cases DoCh.demand _ <;> rfl

theorem doRetryTrialPassed_ends : Goes (.doRetryTrialPassed j) s fun t =>
    vget t.dev.dig.dout j = { vget s.dev.dig.dout j with trial := false } :=
  goes_of_fieldD (by rw [exec, execDoRetryTrialPassed]) io (vget_vmod_same _ _ _ j.isLt)

theorem doOvertempEntry_enters (driven : (vget s.dev.dig.dout j).state ≠ .undriven)
    (cool : (vget s.dev.dig.dout j).state ≠ .overtemp) (supplied : (vget s.dev.dig.dout j).state ≠ .supplyLost) :
    Goes (.doOvertempEntry j) s fun t =>
      let y := vget t.dev.dig.dout j
      y.state = .overtemp ∧ y.demand = false ∧
      (y.otLatched = true ↔
        2 ≤ ((vget s.dev.dig.dout j).otTimes.filter fun x => decide (s.dev.tick ≤ x + 200000)).length) ∧
      Raised t .doThermal (j + 256 * b2n y.otLatched) := by
  refine goes_of_fieldD (by rw [exec, execDoOvertempEntry]) io ?_
  dsimp only
  rw [if_neg (by simp [driven, cool, supplied])]
  generalize hl : decide (3 ≤ List.length _) = latch
  have latches : latch = true ↔
      2 ≤ ((vget s.dev.dig.dout j).otTimes.filter fun x => decide (s.dev.tick ≤ x + 200000)).length := by
    rw [← hl]
    simp
  have settles := settleDo_modDo j.isLt (fun c => { c with
    state := .overtemp, otLatched := latch
    otTimes := ((vget s.dev.dig.dout j).otTimes ++ [s.dev.tick]).filter fun t => decide (s.dev.tick ≤ t + 200000)
    trial := false, fault := min 0xFFFF (c.fault + 1) }) (d := s.dev) (raise_dig .doThermal (j + 256 * b2n latch) _)
  obtain ⟨state, demand⟩ := settles.blocked rfl
  refine ⟨state, demand, ?_, ?_⟩
  · rw [settles.latched, latches]
  · rw [settles.latched]
    exact raised_raise .doThermal (j + 256 * b2n latch) _ (by decide)

theorem doOvertempRelease_cool (hot : (vget s.dev.dig.dout j).state = .overtemp)
    (free : (vget s.dev.dig.dout j).otLatched = false) : Goes (.doOvertempRelease j) s fun t =>
      let y := vget t.dev.dig.dout j
      y.state = if y.demand then .on else .off := by
  refine goes_of_fieldD (by rw [exec, execDoOvertempRelease]) io ?_
  dsimp only
  rw [if_pos ⟨hot, by rw [free]; rfl⟩]
  exact (settleDo_modDo j.isLt (fun c => { c with state := .off }) rfl).state

theorem doOvertempRelease_latched (latched : (vget s.dev.dig.dout j).otLatched = true) :
    Becomes (.doOvertempRelease j) s s.dev := by
  have becomes := becomes_of_fieldD (c := .doOvertempRelease j) (by rw [exec, execDoOvertempRelease]) io
  dsimp only at becomes
  rwa [if_neg (by simp [latched])] at becomes

end

/-! ## Group supplies -/

section
variable (g : Fin 4)

theorem vget_modGrp (f : DoGroup → DoGroup) (d : Dev) : vget (modGrp g f d).dig.grp g = f (vget d.dig.grp g) :=
  vget_vmod_same _ _ _ g.isLt

/-- A channel whose group's supply is lost: SUPPLY_LOST, with the condition that it keeps (Table 7.6). -/
def DoCh.unsupplied (c : DoCh) : DoCh :=
  if c.state = .supplyLost then c
  else { c with
    state := .supplyLost, trial := false
    kept := match c.state with
      | .undriven => some DoState.undriven
      | .overcurrent => some .overcurrent
      | .overtemp => if c.otLatched then some .overtemp else none
      | _ => none }

theorem DoCh.unsupplied_state (c : DoCh) : c.unsupplied.state = .supplyLost := by
  unfold DoCh.unsupplied
  split
  · assumption
  · rfl

/-- The device at the loss of a group's supply, before its event. -/
def Dev.groupLost (g : Nat) (v : Half) (d : Dev) : Dev :=
  (List.range 8).foldl (fun d p => modDo (8 * g + p) DoCh.unsupplied d)
    (modGrp g (fun x => { x with state := .lost, vfld := v }) d)

theorem grpLost_eq (g : Nat) (v : Half) (d : Dev) : grpLost g v d =
    settleAll (updSupply (raise (.doGroupLost (Fin.ofNat 4 g)) (65536 * v.toNat) (d.groupLost g v))) := rfl

theorem groupLost_dout (v : Half) (d : Dev) : (d.groupLost g v).dig.dout =
    (List.range 8).foldl (fun x p => vmod x (8 * g + p) DoCh.unsupplied) d.dig.dout :=
  (List.foldl_hom (fun d : Dev => d.dig.dout) fun _ _ => rfl).symm

theorem groupLost_channel (v : Half) (d : Dev) {p : Nat} (hp : p < 8) :
    (vget (d.groupLost g v).dig.dout (8 * g + p)).state = .supplyLost := by
  rw [groupLost_dout, vget_foldl_vmod (fun _ => DoCh.unsupplied) (8 * g) 8 (by omega), if_pos (by omega)]
  exact DoCh.unsupplied_state _

theorem groupLost_group (v : Half) (d : Dev) : (vget (d.groupLost g v).dig.grp g).state = .lost := by
  have grp : (d.groupLost g v).dig.grp = (modGrp g (fun x => { x with state := .lost, vfld := v }) d).dig.grp :=
    foldl_proj (fun d : Dev => d.dig.grp) (fun d p => modDo (8 * g + p) DoCh.unsupplied d) (fun _ _ => rfl) _ _
  rw [grp, vget_modGrp]

theorem grpLost_lost (v : Half) (s : State) :
    (vget (grpLost g v s.dev).dig.grp g).state = .lost ∧
    Raised { s with dev := grpLost g v s.dev } (.doGroupLost g) (65536 * v.toNat) ∧
    ∀ p < 8, (vget (grpLost g v s.dev).dig.dout (8 * g + p)).state = .supplyLost ∧
      (vget (grpLost g v s.dev).dig.dout (8 * g + p)).demand = false := by
  rw [grpLost_eq]
  refine ⟨?_, ?_, fun p hp => ?_⟩
  · rw [settleAll_grp, updSupply_grp, raise_dig, groupLost_group]
  · have named : Fin.ofNat 4 g = g := Fin.ofNat_val_eq_self g
    have raised := raised_raise (.doGroupLost g) (65536 * v.toNat) (s.dev.groupLost g v) (by simp only [Ev.num]; omega)
    rw [named]
    exact Writes.raised (ps := [.digital, .analog]) (.settleAll .refl)
      (updSupply_raised raised (fun h => by simp only [Ev.num]; omega) (by simp only [Ev.num]; omega))
  · have lost : (vget (updSupply (raise (.doGroupLost (Fin.ofNat 4 g)) (65536 * v.toNat)
        (s.dev.groupLost g v))).dig.dout (8 * g + p)).state = .supplyLost := by
      rw [updSupply_dout, raise_dig, groupLost_channel g v s.dev hp]
    have settles := settleAll_settles (j := 8 * g + p) (by omega) (updSupply (raise (.doGroupLost (Fin.ofNat 4 g))
      (65536 * v.toNat) (s.dev.groupLost g v)))
    obtain ⟨state, demand⟩ := settles.blocked (by rw [lost]; rfl)
    exact ⟨state.trans lost, demand⟩

/-- A channel that reaches its slot leaves SUPPLY_LOST for the condition that it keeps, or OFF (R293). -/
def DoCh.resupplied (c : DoCh) : DoCh :=
  if c.state = .supplyLost then { c with state := c.kept.getD .off, kept := none } else c

/-- The device once the channel at the next slot of a group has left SUPPLY_LOST and taken its demand. -/
def Dev.slotEnergised (g : Nat) (d : Dev) : Dev :=
  let j := 8 * g + (vget d.dig.grp g).nextSlot
  settleDo j (modDo j DoCh.resupplied d)

theorem reenergise_eq (d : Dev) (recovers : (vget d.dig.grp g).state = .recovering) : reenergise g d =
    if 7 ≤ (vget d.dig.grp g).nextSlot then
      updSupply (modGrp g (fun x => { x with state := .normal, nextSlot := 0 }) (d.slotEnergised g))
    else modGrp g (fun x => { x with nextSlot := x.nextSlot + 1 }) (d.slotEnergised g) := by
  have goes : ¬((vget d.dig.grp g).state != .recovering) = true := by simp [recovers]
  unfold reenergise
  exact if_neg goes

theorem slotEnergised_settles (d : Dev) (slot : (vget d.dig.grp g).nextSlot < 8) :
    DoCh.Settles (vget d.dig.dout (8 * g + (vget d.dig.grp g).nextSlot)).resupplied
      (vget (d.slotEnergised g).dig.dout (8 * g + (vget d.dig.grp g).nextSlot)) :=
  settleDo_modDo (by omega) DoCh.resupplied rfl

theorem slotEnergised_grp (d : Dev) : (d.slotEnergised g).dig.grp = d.dig.grp := by
  rw [Dev.slotEnergised, settleDo_dig]
  rfl

theorem reenergise_dout (d : Dev) (recovers : (vget d.dig.grp g).state = .recovering) :
    (reenergise g d).dig.dout = (d.slotEnergised g).dig.dout := by
  rw [reenergise_eq g d recovers]
  split
  · exact updSupply_dout _
  · rfl

/-- The group goes on to its next slot, and is NORMAL after the last one. -/
theorem reenergise_group (d : Dev) (recovers : (vget d.dig.grp g).state = .recovering) :
    vget (reenergise g d).dig.grp g =
      if 7 ≤ (vget d.dig.grp g).nextSlot then { vget d.dig.grp g with state := .normal, nextSlot := 0 }
      else { vget d.dig.grp g with nextSlot := (vget d.dig.grp g).nextSlot + 1 } := by
  rw [reenergise_eq g d recovers]
  split
  · rw [updSupply_grp, vget_modGrp, slotEnergised_grp]
  · rw [vget_modGrp, slotEnergised_grp]

variable {s : State} (io : s.dev.fieldIo = true)
include io

theorem doGroupSupplyLoss_lost (v : Half) (supplied : (vget s.dev.dig.grp g).state = .normal ∨
    (vget s.dev.dig.grp g).state = .recovering) : Goes (.doGroupSupplyLoss g v) s fun t =>
      (vget t.dev.dig.grp g).state = .lost ∧ Raised t (.doGroupLost g) (65536 * v.toNat) ∧
      ∀ p < 8, (vget t.dev.dig.dout (8 * g + p)).state = .supplyLost ∧
        (vget t.dev.dig.dout (8 * g + p)).demand = false := by
  refine goes_of_fieldD (by rw [exec, execDoGroupSupplyLoss]) io ?_
  obtain state | state := supplied <;> rw [state] <;> exact grpLost_lost g v s

theorem doGroupSupplyReturn_returns (v : Half) (lost : (vget s.dev.dig.grp g).state = .lost) :
    Goes (.doGroupSupplyReturn g v) s fun t =>
      (vget t.dev.dig.grp g).state = (if (vget s.dev.dig.grp g).latchOff then .latchedOff else .recovering) ∧
      t.dev.dig.dout = s.dev.dig.dout := by
  refine goes_of_fieldD (by rw [exec, execDoGroupSupplyReturn]) io ?_
  dsimp only
  rw [if_neg (by simp [lost])]
  split
  · rw [updSupply_grp, updSupply_dout, vget_modGrp]
    exact ⟨rfl, rfl⟩
  · rw [grpRecover, updSupply_grp, updSupply_dout, vget_modGrp]
    exact ⟨rfl, rfl⟩

theorem doGroupLatchedFall_lost (v : Half) (latched : (vget s.dev.dig.grp g).state = .latchedOff) :
    Goes (.doGroupLatchedFall g v) s fun t =>
      (vget t.dev.dig.grp g).state = .lost ∧ t.dev.dig.dout = s.dev.dig.dout := by
  refine goes_of_fieldD (by rw [exec, execDoGroupLatchedFall]) io ?_
  dsimp only
  rw [if_pos latched, updSupply_grp, updSupply_dout, vget_modGrp]
  exact ⟨rfl, rfl⟩

theorem doReenergiseSlot_energises (recovers : (vget s.dev.dig.grp g).state = .recovering)
    (slot : (vget s.dev.dig.grp g).nextSlot < 8)
    (lost : (vget s.dev.dig.dout (8 * g + (vget s.dev.dig.grp g).nextSlot)).state = .supplyLost) :
    Goes (.doReenergiseSlot g) s fun t =>
      let x := vget s.dev.dig.grp g
      let k := (vget s.dev.dig.dout (8 * g + x.nextSlot)).kept
      let y := vget t.dev.dig.dout (8 * g + x.nextSlot)
      (k = none → y.state = if y.demand then .on else .off) ∧
      (∀ q, k = some q → q.blocked = true → y.state = q ∧ y.demand = false) ∧ y.kept = none ∧
      (vget t.dev.dig.grp g).state = (if x.nextSlot = 7 then .normal else .recovering) ∧
      (x.nextSlot < 7 → (vget t.dev.dig.grp g).nextSlot = x.nextSlot + 1) := by
  refine goes_of_fieldD (by rw [exec, execDoReenergiseSlot]) io ?_
  have settles := slotEnergised_settles g s.dev slot
  have group := reenergise_group g s.dev recovers
  rw [← reenergise_dout g s.dev recovers, DoCh.resupplied, if_pos lost] at settles
  dsimp only
  refine ⟨fun none => ?_, fun q kept blocked => ?_, settles.kept, ?_, fun more => ?_⟩
  · have state := settles.state
    rwa [none] at state
  · rw [kept] at settles
    exact settles.blocked blocked
  · rw [group]
    by_cases last : (vget s.dev.dig.grp g).nextSlot = 7
    · rw [if_pos (by omega), if_pos last]
    · rw [if_neg (by omega), if_neg last]
      exact recovers
  · rw [group, if_neg (by omega)]

theorem doGroupLowSet_low (v : Half) (high : (vget s.dev.dig.grp g).low = false) :
    Goes (.doGroupLowSet g v) s fun t =>
      (vget t.dev.dig.grp g).low = true ∧ Raised t (.doGroupLow g) (65536 * v.toNat) ∧
      t.dev.dig.dout = s.dev.dig.dout := by
  refine goes_of_fieldD (by rw [exec, execDoGroupLowSet]) io ?_
  dsimp only
  rw [if_neg (by simp [high]), raise_dig, vget_modGrp]
  exact ⟨rfl, raised_raise (.doGroupLow g) _ _ (by simp only [Ev.num]; omega), rfl⟩

theorem doGroupLowClear_high (v : Half) : Goes (.doGroupLowClear g v) s fun t =>
    (vget t.dev.dig.grp g).low = false ∧ t.dev.dig.dout = s.dev.dig.dout := by
  refine goes_of_fieldD (by rw [exec, execDoGroupLowClear]) io ?_
  dsimp only
  rw [vget_modGrp]
  exact ⟨rfl, rfl⟩

end

/-- Settles O35, one trigger at a time. -/
theorem digitalChannels : Obligations.DigitalChannels := by
  unfold Obligations.DigitalChannels
  intro s io
  refine ⟨fun i high p => diFilterSample_applies io i high, diWireBreakTimer_broken io, diCountEdge_counts io,
    fun j => ?_, fun g v => ?_⟩
  · exact ⟨fun off armed normal => doShortSupplyDetect_found j io off armed (grpNormal_of_group normal),
      doShortSupplyDetect_gone j io,
      fun on armed normal => doOpenLoadDetect_found j io on armed (grpNormal_of_group normal),
      doOpenLoadDetect_gone j io, doIlimTimeout_overcurrent j io, doRetryTimer_tries j io,
      doRetryTrialPassed_ends j io, doOvertempEntry_enters j io, doOvertempRelease_cool j io,
      fun _ => doOvertempRelease_latched j io⟩
  · exact ⟨doGroupSupplyLoss_lost g io v, doGroupSupplyReturn_returns g io v, doGroupLatchedFall_lost g io v,
      doReenergiseSlot_energises g io, doGroupLowSet_low g io v, doGroupLowClear_high g io v⟩

end Sys2Proof.Machine
end

section
/-!
PROOF. DO_CONFIG while no task runs (R303): the settings take effect at once, and with them each channel takes its demand.
Where the safe state of a channel has ended and the channel has not been settled since, as after a program swap that
gives the channel of a task stopped with its outputs safe to no task (R180, R217), DO_CONFIG lets the held demand go.
-/

namespace Sys2Proof.Machine

open Sys2Proof Sys2Proof.Claims

/-- DO_CONFIG of channel 0 alone: SAFE OFF, no diagnostics, ILIM_TIME 1. -/
def oneChannelPayload : Bytes := [0, 1, 0, 0, 0, 0, 1, 0]

/-- Channel 0 of the mailbox: the DO_CONFIG that waits. -/
def waitingDoConfig : Chan :=
  { job := some { header := leBytes 2 0x0501 ++ zeros 14, payload := oneChannelPayload } }

/-- A device with field channels, no task of which runs and no safe state of which is in force; its DO channel 0 still
holds the demand of one. -/
def staleHold : State :=
  { dev := {
      sys := { ident := 0x0000010002000000 },
      mbx := { chans := vset (Vector.replicate 8 {}) 0 waitingDoConfig },
      dig := { dout := vset (Vector.replicate 32 {}) 0 { held := some true } } } }

theorem staleHold_waits : Waits staleHold (.ch 0) 0x0501 oneChannelPayload := ⟨_, rfl, rfl, rfl, rfl, rfl, rfl, rfl⟩

theorem staleHold_passes : Claims.Pass (doCfgTests oneChannelPayload) := by
  unfold Claims.Pass
  decide

/-- The channel's next demand finds no safe state in force. -/
theorem staleHold_released : ∃ t, exec (.doConfig (.ch 0)) staleHold = .next t ∧ (vget t.dev.dig.dout 0).held = none :=
  ⟨_, rfl, by decide +kernel⟩

/-- Refutes O36: where no task runs, the DO_CONFIG of a channel that holds the demand of an ended safe state ends the hold,
so that the channel's held demand is not what it was. -/
theorem not_watchdogTripsAndCommands : ¬ Obligations.WatchdogTripsAndCommands := by
  unfold Obligations.WatchdogTripsAndCommands
  intro holds
  obtain ⟨-, -, -, -, -, commands⟩ := holds staleHold rfl
  obtain ⟨-, configs⟩ := commands (.ch 0) oneChannelPayload
  obtain ⟨-, doConfig, -⟩ := configs rfl
  obtain ⟨t, run, -, kept⟩ := doConfig staleHold_waits staleHold_passes
  obtain ⟨held, -⟩ := kept 0 (by decide) (by decide)
  obtain ⟨u, run', released⟩ := staleHold_released
  obtain rfl : t = u := by simpa using run.symm.trans run'
  exact absurd (held.symm.trans released) (by decide)

end Sys2Proof.Machine
end

section
/-!
PROOF. The demand of the current outputs: what settling a channel leaves of the current-loop block, the demand that it
gives it, and the ceiling of fold-back (Tables 8.5 and 8.6, R319, R320, R328).
-/

namespace Sys2Proof.Machine

open Sys2Proof Sys2Proof.Claims

/-- Every channel of a group changed. -/
theorem vget_map {α β : Type} {n : Nat} [Inhabited α] [Inhabited β] (f : α → β) (v : Vector α n) {i : Nat} (h : i < n) :
    vget (v.map f) i = f (vget v i) := by
  simp [vget, h]

/-! ## What settling leaves -/

/-- A channel but for what settling it changes. -/
def AoCh.unsettled (c : AoCh) : AoCh := { c with held := none, clipped := false, demand := 0, code := 0 }

theorem settleAo_ana (j : Nat) (d : Dev) : (settleAo j d).ana = { d.ana with ao := (settleAo j d).ana.ao } := rfl

theorem settleAo_evt (j : Nat) (d : Dev) : (settleAo j d).evt = d.evt := rfl

theorem settleAo_other {j k : Nat} (other : j ≠ k) (d : Dev) :
    vget (settleAo j d).ana.ao k = vget d.ana.ao k :=
  (vget_vset_other _ _ _ _ other).trans (vget_vset_other _ _ _ _ other)

/-- The channel's safe state begins or ends before it takes its demand (R320). -/
def AoCh.safe (c : AoCh) (safe : Bool) : AoCh :=
  { c with held := if safe then some (c.held.getD (safeMa c.cfg c.demand)) else none }

/-- The device in which a channel's safe state has begun or ended. -/
def Dev.aoSafe (d : Dev) (j : Nat) : Dev :=
  { d with ana := { d.ana with
    ao := vset d.ana.ao j ((vget d.ana.ao j).safe (d.fieldSafe || d.writerSafe 3 j)) } }

/-- The current that a channel drives of what its source wants: within 0 to 24 mA and its fold-back ceiling. -/
def AoCh.limit (c : AoCh) (want : Int) : Int :=
  min (clampInt 0 ma24 want) (if c.foldback then foldCeiling c.temp.toInt else ma24)

/-- A channel that drives what the source of a rank wants. -/
def AoCh.driven (c : AoCh) (want : Nat × Word) : AoCh :=
  { c with
    clipped := decide (want.2.toInt < 0 ∨ ma24 < want.2.toInt), demand := BitVec.ofInt 32 (c.limit want.2.toInt)
    code := dacCode (trimmed (if want.1 = 5 then none else c.trim) (c.limit want.2.toInt)) }

variable {j : Nat}

/-- A settled channel is at 0 mA in rank 1 and else drives what its source wants. -/
theorem settleAo_own (hj : j < 8) (d : Dev) : vget (settleAo j d).ana.ao j =
    if (d.aoSafe j).aoZero j then
      { (vget d.ana.ao j).safe (d.fieldSafe || d.writerSafe 3 j) with demand := 0, code := 0 }
    else ((vget d.ana.ao j).safe (d.fieldSafe || d.writerSafe 3 j)).driven ((d.aoSafe j).aoWant j) :=
  vget_vset_same _ _ _ hj

theorem settleAo_unsettled (j k : Nat) (d : Dev) :
    (vget (settleAo j d).ana.ao k).unsettled = (vget d.ana.ao k).unsettled := by
  by_cases own : j = k
  · subst own
    by_cases hj : j < 8
    · rw [settleAo_own hj]
      split <;> rfl
    · simp [vget, hj]
  · rw [settleAo_other own]

theorem settleDo_ana (j : Nat) (d : Dev) : (settleDo j d).ana = d.ana := rfl

theorem settleDos_ana (d : Dev) : (settleDos d).ana = d.ana :=
  foldl_proj Dev.ana (fun d j => settleDo j d) (fun d j => settleDo_ana j d) _ d

/-- The current-loop block but for its outputs. -/
def Ana.withoutAo (a : Ana) : Ana := { a with ao := Vector.replicate 8 {} }

theorem settleAll_withoutAo (d : Dev) : (settleAll d).ana.withoutAo = d.ana.withoutAo := by
  rw [settleAll, foldl_proj (fun d : Dev => d.ana.withoutAo) (fun d j => settleAo j d) (fun _ _ => rfl), settleDos_ana]

theorem settleAll_unsettled (k : Nat) (d : Dev) :
    (vget (settleAll d).ana.ao k).unsettled = (vget d.ana.ao k).unsettled := by
  rw [settleAll, foldl_proj (fun d : Dev => (vget d.ana.ao k).unsettled) _ (fun d j => settleAo_unsettled j k d),
    settleDos_ana]

/-! ## A channel at 0 mA -/

/-- Rank 1 of Table 8.6 is of the supply and of what settling leaves of the channel. -/
theorem aoZero_congr {d e : Dev} (rest : e.ana.withoutAo = d.ana.withoutAo)
    (channel : (vget e.ana.ao j).unsettled = (vget d.ana.ao j).unsettled) : e.aoZero j = d.aoZero j := by
  have same : e.ana.blocked j = d.ana.blocked j := (congrArg (Ana.blocked · j) rest :)
  unfold Dev.aoZero
  rw [same]
  exact (congrArg (fun c : AoCh => c.thermalOff || (c.mismatch && c.cfg.mismatchOff) || d.ana.blocked j ||
    (c.undriven && c.drive.isNone)) channel :)

theorem settleAo_aoZero (j k : Nat) (d : Dev) : (settleAo j d).aoZero k = d.aoZero k :=
  aoZero_congr rfl (settleAo_unsettled j k d)

theorem aoSafe_aoZero (hj : j < 8) (d : Dev) : (d.aoSafe j).aoZero j = d.aoZero j :=
  aoZero_congr rfl (by rw [Dev.aoSafe, vget_vset_same _ _ _ hj]; rfl)

theorem settleAo_off (hj : j < 8) {d : Dev} (zero : d.aoZero j = true) : (vget (settleAo j d).ana.ao j).demand = 0 := by
  rw [settleAo_own hj, aoSafe_aoZero hj, if_pos zero]

theorem settleAll_off (hj : j < 8) {d : Dev} (zero : d.aoZero j = true) : (vget (settleAll d).ana.ao j).demand = 0 := by
  obtain ⟨before, after, channels⟩ := List.append_of_mem (List.mem_range.mpr hj)
  rw [settleAll, channels, List.foldl_append, List.foldl_cons]
  have reached : (before.foldl (fun d j => settleAo j d) (settleDos d)).aoZero j = true := by
    rw [foldl_proj (fun d : Dev => d.aoZero j) _ (fun d k => settleAo_aoZero k j d),
      aoZero_congr (congrArg _ (settleDos_ana d)) (by rw [settleDos_ana]), zero]
  refine (List.foldlRecOn after _ (motive := fun e : Dev => e.aoZero j = true ∧ (vget e.ana.ao j).demand = 0)
    ⟨(settleAo_aoZero j j _).trans reached, settleAo_off hj reached⟩ fun e ⟨zero, off⟩ k _ => ?_).2
  refine ⟨(settleAo_aoZero k j e).trans zero, ?_⟩
  by_cases own : k = j
  · subst own
    exact settleAo_off hj zero
  · rw [settleAo_other own, off]

/-! ## A channel that drives -/

theorem settleAo_driven (hj : j < 8) {d : Dev} (drives : d.aoZero j = false) : vget (settleAo j d).ana.ao j =
    ((vget d.ana.ao j).safe (d.fieldSafe || d.writerSafe 3 j)).driven ((d.aoSafe j).aoWant j) := by
  rw [settleAo_own hj, aoSafe_aoZero hj, if_neg (by simp [drives])]

theorem clampInt_eq {lo hi : Int} (h : lo ≤ hi) (x : Int) : clampInt lo hi x = max lo (min hi x) := by
  unfold clampInt
  split
  · omega
  · split <;> omega

theorem foldCeiling_eq (temp : Int) :
    foldCeiling temp = max 0 (min 1572864 (1572864 - divNearest (65536 * (temp - 2400)) 10)) :=
  clampInt_eq (by decide) _

/-- Where the channel is not folded back, its limits are those of Table 8.7. -/
theorem limit_unfolded {c : AoCh} (cool : c.foldback = false) (want : Int) :
    c.limit want = max 0 (min 1572864 want) := by
  have clamp : clampInt 0 ma24 want = max 0 (min 1572864 want) := clampInt_eq (by decide) want
  have top : ma24 = 1572864 := rfl
  rw [AoCh.limit, cool, clamp, if_neg Bool.false_ne_true]
  omega

theorem limit_bounds (c : AoCh) (want : Int) : 0 ≤ c.limit want ∧ c.limit want ≤ 1572864 := by
  have clamp : clampInt 0 ma24 want = max 0 (min 1572864 want) := clampInt_eq (by decide) want
  have top : ma24 = 1572864 := rfl
  have ceiling := foldCeiling_eq c.temp.toInt
  unfold AoCh.limit
  rw [clamp]
  split <;> omega

theorem limit_ceiling {c : AoCh} (fold : c.foldback = true) (want : Int) :
    c.limit want ≤ max 0 (1572864 - divNearest (65536 * (c.temp.toInt - 2400)) 10) := by
  have ceiling := foldCeiling_eq c.temp.toInt
  rw [AoCh.limit, if_pos fold]
  omega

/-- The demand of a channel that drives, as a number. -/
theorem driven_demand (c : AoCh) (want : Nat × Word) : (c.driven want).demand.toInt = c.limit want.2.toInt := by
  obtain ⟨low, high⟩ := limit_bounds c want.2.toInt
  exact BitVec.toInt_ofInt_eq_self (by decide) (by omega) (by omega)

/-- A settled channel that is folded back stays below the ceiling of R328. -/
theorem settleAo_ceiling (hj : j < 8) {d : Dev} (fold : (vget d.ana.ao j).foldback = true) :
    (vget (settleAo j d).ana.ao j).demand.toInt ≤
      max 0 (1572864 - divNearest (65536 * ((vget d.ana.ao j).temp.toInt - 2400)) 10) := by
  cases drives : d.aoZero j
  · rw [settleAo_driven hj drives, driven_demand]
    exact limit_ceiling (c := (vget d.ana.ao j).safe _) fold _
  · rw [settleAo_off hj drives]
    exact Int.le_max_left _ _

end Sys2Proof.Machine
end

section
/-!
PROOF. The rows of the current-loop channels and their supply (R312 to R318, R323 to R328, Tables 8.4, 8.5 and 8.14).
-/

namespace Sys2Proof.Machine

open Sys2Proof Sys2Proof.Claims

/-! ## Conversions -/

section
variable {i : Nat}

theorem vget_modAi (hi : i < 16) (f : AiCh → AiCh) (d : Dev) : vget (modAi i f d).ana.ai i = f (vget d.ana.ai i) :=
  vget_vmod_same _ _ _ hi

theorem inputSeq_ana (el : Option Nat) (d : Dev) : (inputSeq el d).2.ana = d.ana := by
  unfold inputSeq
  split <;> rfl

/-- A channel but for what its events and their counts change. -/
def AiCh.uncounted (c : AiCh) : AiCh :=
  { c with
    wireArmed := true, wireSince := none, rangeArmed := true, rangeSince := none, wbCount := 0, rangeCount := 0 }

theorem aiEvents_uncounted (i : Nat) (value : Int) (old new : Byte) (d : Dev) (k : Nat) :
    (vget (aiEvents i value old new d).ana.ai k).uncounted = (vget d.ana.ai k).uncounted := by
  unfold aiEvents
  dsimp only
  rw [raiseIf_ana, raiseIf_ana]
  refine vget_vmod_keeps AiCh.uncounted _ _ _ ?_ k
  exact fun _ => rfl

theorem aiEvents_other {k : Nat} (other : i ≠ k) (value : Int) (old new : Byte) (d : Dev) :
    vget (aiEvents i value old new d).ana.ai k = vget d.ana.ai k := by
  unfold aiEvents
  dsimp only
  rw [raiseIf_ana, raiseIf_ana]
  exact vget_vmod_other _ _ _ _ other

theorem rearm_armed (since : Option Nat) (tick : Nat) : rearm since true tick = true := rfl

/-- A result in BAD_WIRE raises AI_WIREBREAK where it is enabled and armed; it is in no class of AI_RANGE (R334). -/
theorem aiEvents_wirebreak {s : State} {d : Dev} (value : Int) (old : Byte) (enabled : (vget d.ana.ai i).evtWire = true)
    (armed : (vget d.ana.ai i).wireArmed = true) :
    Raised { s with dev := aiEvents i value old qBAD_WIRE d } .aiWirebreak (i + 65536 * microAmp value) := by
  have noRange : rangeCode qBAD_WIRE = none := by decide
  unfold aiEvents
  dsimp only
  rw [enabled, armed, noRange, rearm_armed, raiseIf, if_neg (by simp), raiseIf, if_pos (by decide)]
  exact raised_raise .aiWirebreak _ _ (by decide)

/-- A channel with a new value in its element. -/
def AiCh.read (v : TV) (c : AiCh) : AiCh := { c with elem := v }

/-- The device with a channel's result written and counted to a capture in progress, before its events (R314). -/
def Dev.aiWritten (d : Dev) (i : Nat) (raw value : Int) (q : Byte) : Dev :=
  let (seq, d) := inputSeq ((d.inputEl 3 i).map (·.1)) d
  let d := modAi i (fun c => { c with elem := mkTV (d.inputId 3 i) (BitVec.ofInt 32 value) q seq }) d
  match d.ana.capture with
  | some x => if x.ch = i then
      { d with ana := { d.ana with capture := some { x with sum := x.sum + raw, count := x.count + 1 } } } else d
  | none => d

/-- The quality of a result: its classification, or BAD_SUPPLY while the channel's loop supply is away (R317). -/
def Dev.resultQuality (d : Dev) (i : Nat) (value : Int) : Byte :=
  if d.ana.grace && (vget d.ana.ai i).loopPower then qBAD_SUPPLY else aiClass (vget d.ana.ai i).classPlain value

theorem aiConvert_eq {d : Dev} (code : BitVec 24) (instant : (vget d.ana.ai i).converts (d.tick + 1) = true) :
    let raw := divNearest (spanCode code.toInt) 4
    let value := trimmed (vget d.ana.ai i).trim raw
    aiConvert i code d = aiEvents i value (vget d.ana.ai i).elem.quality (d.resultQuality i value)
      (d.aiWritten i raw value (d.resultQuality i value)) := by
  have converts : ¬(!(vget d.ana.ai i).converts (d.tick + 1)) = true := by simp [instant]
  unfold aiConvert
  exact if_neg converts

theorem aiWritten_ai (d : Dev) (i : Nat) (raw value : Int) (q : Byte) : ∃ id seq,
    (d.aiWritten i raw value q).ana.ai = vmod d.ana.ai i (AiCh.read (mkTV id (BitVec.ofInt 32 value) q seq)) := by
  refine ⟨(inputSeq ((d.inputEl 3 i).map (·.1)) d).2.inputId 3 i, (inputSeq ((d.inputEl 3 i).map (·.1)) d).1, ?_⟩
  rw [← inputSeq_ana ((d.inputEl 3 i).map (·.1)) d]
  unfold Dev.aiWritten
  dsimp only
  split
  · split <;> rfl
  · rfl

/-- At an instant of its rate a channel's result is written to its element, and its events follow (R313, R314). -/
theorem aiConvert_writes {d : Dev} (code : BitVec 24) (instant : (vget d.ana.ai i).converts (d.tick + 1) = true) :
    let value := trimmed (vget d.ana.ai i).trim (divNearest (spanCode code.toInt) 4)
    ∃ (v : TV) (e : Dev), v.value = BitVec.ofInt 32 value ∧ v.quality = d.resultQuality i value ∧
      aiConvert i code d = aiEvents i value (vget d.ana.ai i).elem.quality (d.resultQuality i value) e ∧
      e.ana.ai = vmod d.ana.ai i (AiCh.read v) := by
  intro value
  obtain ⟨id, seq, ai⟩ := aiWritten_ai d i (divNearest (spanCode code.toInt) 4) value (d.resultQuality i value)
  exact ⟨_, _, rfl, rfl, aiConvert_eq code instant, ai⟩

theorem resultQuality_away {d : Dev} (value : Int) (grace : d.ana.grace = true)
    (powered : (vget d.ana.ai i).loopPower = true) : d.resultQuality i value = 0x84 := by
  rw [Dev.resultQuality, grace, powered]
  rfl

theorem resultQuality_classified {d : Dev} (value : Int)
    (supplied : (d.ana.grace && (vget d.ana.ai i).loopPower) = false) :
    d.resultQuality i value = aiClass (vget d.ana.ai i).classPlain value := by
  rw [Dev.resultQuality, supplied]
  rfl

end

section
variable {s : State} (io : s.dev.fieldIo = true)
include io

theorem aiConversion_converts (i : Fin 16) (code : BitVec 24)
    (instant : (vget s.dev.ana.ai i).converts (s.dev.tick + 1) = true) :
    let c := vget s.dev.ana.ai i
    let value := trimmed c.trim (divNearest (clampInt (-262144) 6815744 code.toInt) 4)
    Goes (.aiConversion i code) s fun t =>
      let y := vget t.dev.ana.ai i
      y.elem.value = BitVec.ofInt 32 value ∧ y.elem.quality = s.dev.resultQuality i value ∧
      (y.elem.quality = 0x82 → c.evtWire = true → c.wireArmed = true →
        Raised t .aiWirebreak (i + 65536 * microAmp value)) ∧
      ∀ k : Fin 16, k ≠ i → vget t.dev.ana.ai k = vget s.dev.ana.ai k := by
  intro c value
  refine goes_of_fieldD (by rw [exec, execAiConversion]) io ?_
  obtain ⟨v, d, result, quality, converted, ai⟩ := aiConvert_writes code instant
  have own : vget d.ana.ai i = c.read v := by rw [ai, vget_vmod_same _ _ _ i.isLt]
  have elem : (vget (aiConvert i code s.dev).ana.ai i).elem = v := by
    rw [converted]
    exact (congrArg AiCh.elem (aiEvents_uncounted i _ _ _ d i) :).trans (congrArg AiCh.elem own)
  dsimp only
  rw [elem]
  refine ⟨result, quality, fun broken enabled armed => ?_, fun k other => ?_⟩
  · rw [converted, quality.symm.trans broken]
    exact aiEvents_wirebreak value _ ((congrArg AiCh.evtWire own).trans enabled)
      ((congrArg AiCh.wireArmed own).trans armed)
  · have apart : i.val ≠ k.val := fun same => other (Fin.ext same.symm)
    rw [converted, aiEvents_other apart, ai, vget_vmod_other _ _ _ _ apart]

/-! ## Loop power -/

variable (i : Fin 16)

theorem aiLooppowerTimeout_off (on : (vget s.dev.ana.ai i).lpOn = true) : Goes (.aiLooppowerTimeout i) s fun t =>
    (vget t.dev.ana.ai i).lpOn = false ∧ (vget t.dev.ana.ai i).retry = true ∧ Raised t .aiLooppowerLimit i := by
  refine goes_of_fieldD (by rw [exec, execAiLooppowerTimeout]) io ?_
  dsimp only
  rw [if_pos on, raise_ana, vget_modAi i.isLt]
  exact ⟨rfl, rfl, raised_raise .aiLooppowerLimit i _ (by decide)⟩

theorem aiLooppowerRetry_on (retry : (vget s.dev.ana.ai i).retry = true) :
    Goes (.aiLooppowerRetry i false) s fun t =>
      (vget t.dev.ana.ai i).lpOn = true ∧ (vget t.dev.ana.ai i).retry = false := by
  refine goes_of_fieldD (by rw [exec, execAiLooppowerRetry]) io ?_
  dsimp only
  rw [if_pos (by simp [retry]), vget_modAi i.isLt]
  exact ⟨rfl, rfl⟩

theorem aiLooppowerRetry_limited : Becomes (.aiLooppowerRetry i true) s s.dev := by
  have becomes := becomes_of_fieldD (c := .aiLooppowerRetry i true) (by rw [exec, execAiLooppowerRetry]) io
  rwa [if_neg (by simp)] at becomes

end

/-! ## The supply -/

section
variable {s : State} (io : s.dev.fieldIo = true)
include io

theorem vfldALoss_lost (v : Half) (supplied : s.dev.ana.vfld ≠ .lost) : Goes (.vfldALoss v) s fun t =>
    t.dev.ana.vfld = .lost ∧ t.dev.ana.grace = true ∧
    Raised t .aoSupplyLow (b2n s.dev.ana.low + 2 + 65536 * v.toNat) ∧
    (∀ j : Fin 8, (vget t.dev.ana.ao j).demand = 0) ∧ ∀ i : Fin 16, (vget t.dev.ana.ai i).lpOn = false := by
  refine goes_of_fieldD (by rw [exec, execVfldALoss]) io ?_
  dsimp only
  have detail : supplyDetail s.dev.ana.low true v = b2n s.dev.ana.low + 2 + 65536 * v.toNat := rfl
  rw [if_neg (by simp [supplied]), vfldLoss]
  dsimp only
  rw [detail]
  generalize hd : raise .aoSupplyLow _ _ = d
  have ana : d.ana = { s.dev.ana with
      vfld := .lost, volt := v, grace := true, nextSlot := 0
      ai := s.dev.ana.ai.map fun c => { c with lpOn := false, retry := false } } := by
    rw [← hd, raise_ana]
  have rest := settleAll_withoutAo d
  rw [ana] at rest
  refine ⟨(congrArg Ana.vfld rest :), (congrArg Ana.grace rest :), ?_, fun j => settleAll_off j.isLt ?_, fun i => ?_⟩
  · rw [Raised, settleAll_evt, ← hd]
    exact raised_raise .aoSupplyLow _ _ (by decide)
  · simp [Dev.aoZero, Ana.blocked, ana]
  · exact (congrArg (fun a : Ana => (vget a.ai i).lpOn) rest :).trans (congrArg AiCh.lpOn (vget_map _ _ i.isLt))

theorem vfldAReturn_recovers (v : Half) (lost : s.dev.ana.vfld = .lost) : Goes (.vfldAReturn v) s fun t =>
    t.dev.ana.vfld = .recovering ∧ t.dev.ana.nextSlot = 0 ∧ t.dev.ana.ao = s.dev.ana.ao ∧
    ∀ i : Fin 16, (vget t.dev.ana.ai i).lpOn = (vget s.dev.ana.ai i).loopPower := by
  refine goes_of_fieldD (by rw [exec, execVfldAReturn]) io ?_
  dsimp only
  rw [if_pos (by simp [lost])]
  exact ⟨rfl, rfl, rfl, fun i => congrArg AiCh.lpOn (vget_map _ _ i.isLt)⟩

theorem vfldALowSet_low (v : Half) (high : s.dev.ana.low = false) : Goes (.vfldALowSet v) s fun t =>
    t.dev.ana.low = true ∧ t.dev.ana.ao = s.dev.ana.ao ∧
    Raised t .aoSupplyLow (1 + 2 * b2n (s.dev.ana.vfld == .lost) + 65536 * v.toNat) := by
  refine goes_of_fieldD (by rw [exec, execVfldALowSet]) io ?_
  dsimp only
  rw [if_neg (by simp [high]), raise_ana]
  exact ⟨rfl, rfl, raised_raise .aoSupplyLow _ _ (by decide)⟩

theorem vfldALowClear_high (v : Half) : Goes (.vfldALowClear v) s fun t =>
    t.dev.ana.low = false ∧ t.dev.ana.ao = s.dev.ana.ao :=
  goes_of_fieldD (by rw [exec, execVfldALowClear]) io ⟨rfl, rfl⟩

/-- The device as the next output reaches its slot, before that output takes its demand (Table 8.5). -/
def Dev.slotReached (d : Dev) : Dev :=
  if 7 ≤ d.ana.nextSlot then { d with ana := { d.ana with vfld := .normal, nextSlot := 0 } }
  else { d with ana := { d.ana with nextSlot := d.ana.nextSlot + 1 } }

omit io in
theorem aoSlot_eq {d : Dev} (recovers : d.ana.vfld = .recovering) :
    aoSlot d = settleAo d.ana.nextSlot d.slotReached := by
  have goes : ¬(d.ana.vfld != .recovering) = true := by simp [recovers]
  unfold aoSlot Dev.slotReached
  rw [if_neg goes]

omit io in
theorem slotReached_ao (d : Dev) : d.slotReached.ana.ao = d.ana.ao := by
  unfold Dev.slotReached
  split <;> rfl

theorem aoRecoverySlot_reached (recovers : s.dev.ana.vfld = .recovering) (slot : s.dev.ana.nextSlot < 8) :
    Goes .aoRecoverySlot s fun t =>
      t.dev.ana.vfld = (if s.dev.ana.nextSlot = 7 then .normal else .recovering) ∧
      (s.dev.ana.nextSlot < 7 → t.dev.ana.nextSlot = s.dev.ana.nextSlot + 1) ∧
      ∀ j : Fin 8, j.val ≠ s.dev.ana.nextSlot → vget t.dev.ana.ao j = vget s.dev.ana.ao j := by
  refine goes_of_fieldD (by rw [exec, execAoRecoverySlot]) io ?_
  dsimp only
  rw [aoSlot_eq recovers]
  refine ⟨?_, fun more => ?_, fun j other => ?_⟩
  · rw [settleAo_ana, Dev.slotReached]
    by_cases last : s.dev.ana.nextSlot = 7
    · rw [if_pos (by omega), if_pos last]
    · rw [if_neg (by omega), if_neg last]
      exact recovers
  · rw [settleAo_ana, Dev.slotReached, if_neg (by omega)]
  · rw [settleAo_other (Ne.symm other), slotReached_ao]

theorem aiSupplyGraceEnd_ends (supplied : s.dev.ana.vfld ≠ .lost) :
    Becomes .aiSupplyGraceEnd s { s.dev with ana := { s.dev.ana with grace := false } } := by
  have becomes := becomes_of_fieldD (c := .aiSupplyGraceEnd) (by rw [exec, execAiSupplyGraceEnd]) io
  dsimp only at becomes
  rwa [if_neg (by simp [supplied])] at becomes

end

/-! ## Detection at the outputs -/

section
variable (j : Fin 8)

theorem vget_modAo (f : AoCh → AoCh) (d : Dev) : vget (modAo j f d).ana.ao j = f (vget d.ana.ao j) :=
  vget_vmod_same _ _ _ j.isLt

/-- A channel that something has changed, once it has taken its demand. -/
theorem settleAo_modAo (f : AoCh → AoCh) {d e : Dev} (same : e.ana = (modAo j f d).ana) :
    (vget (settleAo j e).ana.ao j).unsettled = (f (vget d.ana.ao j)).unsettled := by
  rw [settleAo_unsettled, same, vget_modAo]

variable {s : State} (io : s.dev.fieldIo = true)
include io

theorem aoComplianceDetect_found (acts : s.dev.aoSuspended j = false) (closed : (vget s.dev.ana.ao j).openLoop = false)
    (regulates : (vget s.dev.ana.ao j).compliance = false) : Goes (.aoComplianceDetect j true) s fun t =>
      let y := vget t.dev.ana.ao j
      y.compliance = true ∧ y.demand = (vget s.dev.ana.ao j).demand ∧
      y.entries = min 65535 ((vget s.dev.ana.ao j).entries + 1) := by
  refine goes_of_fieldD (by rw [exec, execAoComplianceDetect]) io ?_
  dsimp only
  rw [if_neg (by decide), if_neg (by simp [acts, closed, regulates]), vget_modAo]
  exact ⟨rfl, rfl, rfl⟩

theorem aoComplianceDetect_open (isOpen : (vget s.dev.ana.ao j).openLoop = true) :
    Becomes (.aoComplianceDetect j true) s s.dev := by
  have becomes := becomes_of_fieldD (c := .aoComplianceDetect j true) (by rw [exec, execAoComplianceDetect]) io
  dsimp only at becomes
  rwa [if_neg (by decide), if_pos (by simp [isOpen])] at becomes

theorem aoComplianceDetect_gone : Goes (.aoComplianceDetect j false) s fun t =>
    (vget t.dev.ana.ao j).compliance = false := by
  refine goes_of_fieldD (by rw [exec, execAoComplianceDetect]) io ?_
  dsimp only
  rw [if_pos (by decide), vget_modAo]

theorem aoComplianceTimeExpiry_raises (reg : Word) (compliance : (vget s.dev.ana.ao j).compliance = true)
    (first : (vget s.dev.ana.ao j).compExpired = false) : Goes (.aoComplianceTimeExpiry j reg) s fun t =>
      Raised t .aoCompliance (j + 65536 * microAmp reg.toInt) ∧
      (vget t.dev.ana.ao j).demand = (vget s.dev.ana.ao j).demand := by
  refine goes_of_fieldD (by rw [exec, execAoComplianceTimeExpiry]) io ?_
  dsimp only
  rw [if_pos (by simp [compliance, first]), raise_ana, vget_modAo]
  exact ⟨raised_raise .aoCompliance _ _ (by decide), rfl⟩

theorem aoOpenDetect_found (acts : s.dev.aoSuspended j = false) (closed : (vget s.dev.ana.ao j).openLoop = false) :
    Goes (.aoOpenDetect j true) s fun t =>
      let y := vget t.dev.ana.ao j
      y.openLoop = true ∧ y.compliance = false ∧ y.demand = (vget s.dev.ana.ao j).demand ∧ Raised t .aoOpen j := by
  refine goes_of_fieldD (by rw [exec, execAoOpenDetect]) io ?_
  dsimp only
  rw [if_neg (by decide), if_neg (by simp [acts, closed]), raise_ana, vget_modAo]
  exact ⟨rfl, rfl, rfl, raised_raise .aoOpen j _ (by decide)⟩

theorem aoOpenDetect_gone : Goes (.aoOpenDetect j false) s fun t =>
    (vget t.dev.ana.ao j).openLoop = false ∧
    (vget t.dev.ana.ao j).compliance = (vget s.dev.ana.ao j).compliance := by
  refine goes_of_fieldD (by rw [exec, execAoOpenDetect]) io ?_
  dsimp only
  rw [if_pos (by decide), vget_modAo]
  exact ⟨rfl, rfl⟩

theorem aoMismatchDetect_found (acts : s.dev.aoSuspended j = false)
    (matched : (vget s.dev.ana.ao j).mismatch = false) : Goes (.aoMismatchDetect j true) s fun t =>
      let c := vget s.dev.ana.ao j
      let y := vget t.dev.ana.ao j
      y.mismatch = true ∧ (c.cfg.mismatchOff = true → y.demand = 0) ∧
      Raised t .aoReadbackMismatch (j + 65536 * microAmp c.readback.value.toInt) := by
  refine goes_of_fieldD (by rw [exec, execAoMismatchDetect]) io ?_
  dsimp only
  rw [if_neg (by decide), if_neg (by simp [acts, matched])]
  generalize hd : raise .aoReadbackMismatch _ _ = d
  have ana : d.ana = (modAo j (fun c => countEntry { c with mismatch := true }) s.dev).ana := by rw [← hd, raise_ana]
  refine ⟨(congrArg AoCh.mismatch (settleAo_modAo j _ ana) :), fun off => settleAo_off j.isLt ?_, ?_⟩
  · have own : vget d.ana.ao j = countEntry { vget s.dev.ana.ao j with mismatch := true } := by rw [ana, vget_modAo]
    simp [Dev.aoZero, own, countEntry, off]
  · rw [Raised, settleAo_evt, ← hd]
    exact raised_raise .aoReadbackMismatch _ _ (by decide)

theorem aoMismatchDetect_gone : Goes (.aoMismatchDetect j false) s fun t =>
    (vget t.dev.ana.ao j).mismatch = false := by
  refine goes_of_fieldD (by rw [exec, execAoMismatchDetect]) io ?_
  dsimp only
  rw [if_pos (by decide)]
  exact (congrArg AoCh.mismatch (settleAo_modAo j (fun c => { c with mismatch := false }) rfl) :)

theorem aoReadbackConversion_reads (v : Word) : Goes (.aoReadbackConversion j v) s fun t =>
    let y := vget t.dev.ana.ao j
    y.readback.value = v ∧ y.readback.quality = s.dev.aoQuality j ∧ y.demand = (vget s.dev.ana.ao j).demand := by
  refine goes_of_fieldD (by rw [exec, execAoReadbackConversion]) io ?_
  have same := inputSeq_ana ((s.dev.inputEl 4 j).map (·.1)) s.dev
  dsimp only
  rw [vget_modAo]
  refine ⟨rfl, ?_, ?_⟩
  · exact (congrArg (fun a => Dev.aoQuality { s.dev with ana := a } j) same :)
  · rw [same]

/-! ## Temperature -/

/-- The device in which a channel's temperature and what follows of it are set, with its events, before the channel
takes its demand (R328). -/
def Dev.heated (d : Dev) (j : Nat) (temp : Half) : Dev :=
  let c := vget d.ana.ao j
  let detail := j + 65536 * temp.toNat
  let fold := decide (2400 ≤ temp.toInt) || (c.foldback && decide (2368 ≤ temp.toInt))
  let off := c.thermalOff || decide (2640 ≤ temp.toInt)
  let d := modAo j (fun c => { c with temp := temp, foldback := fold, thermalOff := off }) d
  let d := raiseIf (fold && !c.foldback) .aoThermalFoldback detail d
  if off && !c.thermalOff then raise .aoThermalOff detail (modAo j countEntry d) else d

omit io in
theorem heated_own (d : Dev) (temp : Half) : ∃ n, vget (d.heated j temp).ana.ao j = { vget d.ana.ao j with
    temp := temp, foldback := decide (2400 ≤ temp.toInt) || ((vget d.ana.ao j).foldback && decide (2368 ≤ temp.toInt))
    thermalOff := (vget d.ana.ao j).thermalOff || decide (2640 ≤ temp.toInt), entries := n } := by
  unfold Dev.heated
  dsimp only
  split
  · exact ⟨_, by rw [raise_ana, vget_modAo, raiseIf_ana, vget_modAo, countEntry]⟩
  · exact ⟨_, by rw [raiseIf_ana, vget_modAo]⟩

omit io in
theorem heated_foldback {temp : Half} (hot : 2400 ≤ temp.toInt) (was : (vget s.dev.ana.ao j).foldback = false) :
    Raised { s with dev := s.dev.heated j temp } .aoThermalFoldback (j + 65536 * temp.toNat) := by
  unfold Dev.heated
  dsimp only
  simp only [was, decide_eq_true hot, Bool.true_or, Bool.not_false, Bool.and_true, raiseIf, if_true]
  generalize hd : modAo j _ s.dev = d
  have raised := raised_raise .aoThermalFoldback (j + 65536 * temp.toNat) d (by decide)
  split
  · exact raised_other (d := modAo j countEntry (raise .aoThermalFoldback (j + 65536 * temp.toNat) d)) raised
      (by decide) (by decide)
  · exact raised

omit io in
theorem heated_off {temp : Half} (hot : 2640 ≤ temp.toInt) (was : (vget s.dev.ana.ao j).thermalOff = false) :
    Raised { s with dev := s.dev.heated j temp } .aoThermalOff (j + 65536 * temp.toNat) := by
  unfold Dev.heated
  dsimp only
  split
  · exact raised_raise .aoThermalOff _ _ (by decide)
  · next cool => exact absurd (by simp [was, hot]) cool

theorem aoTemperatureChange_follows (temp : Half) : Goes (.aoTemperatureChange j temp) s fun t =>
    let c := vget s.dev.ana.ao j
    let y := vget t.dev.ana.ao j
    y.temp = temp ∧
    (y.foldback = true ↔ 2400 ≤ temp.toInt ∨ (c.foldback = true ∧ 2368 ≤ temp.toInt)) ∧
    (y.thermalOff = true ↔ c.thermalOff = true ∨ 2640 ≤ temp.toInt) ∧
    (y.thermalOff = true → y.demand = 0) ∧
    (2400 ≤ temp.toInt → c.foldback = false → Raised t .aoThermalFoldback (j + 65536 * temp.toNat)) ∧
    (2640 ≤ temp.toInt → c.thermalOff = false → Raised t .aoThermalOff (j + 65536 * temp.toNat)) ∧
    (y.foldback = true → y.demand.toInt ≤ max 0 (1572864 - divNearest (65536 * (temp.toInt - 2400)) 10)) := by
  refine goes_of_fieldD (f := fun d => settleAo j (d.heated j temp)) rfl io ?_
  obtain ⟨n, own⟩ := heated_own j s.dev temp
  have unsettled := settleAo_unsettled j j (s.dev.heated j temp)
  have fold : (vget (settleAo j (s.dev.heated j temp)).ana.ao j).foldback =
    (vget (s.dev.heated j temp).ana.ao j).foldback := (congrArg AoCh.foldback unsettled :)
  have off : (vget (settleAo j (s.dev.heated j temp)).ana.ao j).thermalOff =
    (vget (s.dev.heated j temp).ana.ao j).thermalOff := (congrArg AoCh.thermalOff unsettled :)
  dsimp only
  refine ⟨?_, ?_, ?_, fun isOff => settleAo_off j.isLt ?_, heated_foldback j, heated_off j, fun folds => ?_⟩
  · exact (congrArg AoCh.temp unsettled :).trans (congrArg AoCh.temp own)
  · rw [fold, own]
    simp
  · rw [off, own]
    simp
  · rw [off] at isOff
    simp [Dev.aoZero, isOff]
  · have ceiling := settleAo_ceiling j.isLt (fold.symm.trans folds)
    rwa [own] at ceiling

theorem aoThermalRecover_recovers (temp : Half) (cool : temp.toInt < 2240) : Goes (.aoThermalRecover j temp) s fun t =>
    let y := vget t.dev.ana.ao j
    y.thermalOff = false ∧ y.foldback = false ∧ y.temp = temp := by
  refine goes_of_fieldD (by rw [exec, execAoThermalRecover]) io ?_
  dsimp only
  rw [if_neg (by omega)]
  have unsettled := settleAo_modAo j (fun c => { c with temp := temp, thermalOff := false, foldback := false })
    (d := s.dev) rfl
  exact ⟨(congrArg AoCh.thermalOff unsettled :), (congrArg AoCh.foldback unsettled :),
    (congrArg AoCh.temp unsettled :)⟩

end

/-- Settles O37, one trigger at a time. Trims and the ceiling of fold-back are rounded as log entry 76 says, and the
readback's quality is that of log entry 45. -/
theorem currentLoopChannels : Obligations.CurrentLoopChannels := by
  unfold Obligations.CurrentLoopChannels
  intro s io
  refine ⟨fun i code instant => ?conversion,
    fun i => ⟨aiLooppowerTimeout_off io i, aiLooppowerRetry_on io i, aiLooppowerRetry_limited io i⟩,
    fun v => ⟨vfldALoss_lost io v, vfldAReturn_recovers io v, vfldALowSet_low io v, vfldALowClear_high io v⟩,
    aoRecoverySlot_reached io, aiSupplyGraceEnd_ends io, fun j => ?output⟩
  case conversion =>
    obtain ⟨t, run, value, quality, wirebreak, others⟩ := aiConversion_converts io i code instant
    exact ⟨t, run, value, fun grace powered => quality.trans (resultQuality_away _ grace powered),
      fun supplied => quality.trans (resultQuality_classified _ supplied), wirebreak, others⟩
  case output =>
    exact ⟨aoComplianceDetect_found j io, aoComplianceDetect_open j io, aoComplianceDetect_gone j io,
      aoComplianceTimeExpiry_raises j io, aoOpenDetect_found j io, aoOpenDetect_gone j io,
      aoMismatchDetect_found j io, aoMismatchDetect_gone j io, aoReadbackConversion_reads j io,
      aoTemperatureChange_follows j io, aoThermalRecover_recovers j io⟩

end Sys2Proof.Machine
end

section
/-!
PROOF. The commands of the current-loop channels (R315, R319, R330 to R333, Tables 8.10 to 8.13).
-/

namespace Sys2Proof.Machine

open Sys2Proof Sys2Proof.Claims

/-! ## What sending and answering leave -/

theorem forward_ana (code : Nat) (payload : Bytes) (d : Dev) : (forward code payload d).ana = d.ana :=
  (congrArg Dev.ana (forward_unsent code payload d) :)

theorem reply_eq (o : Origin) (r : Reply) (d : Dev) : reply o r d = { d with mbx := (reply o r d).mbx } := by
  cases r with
  | ok p => exact respond_eq o stOk p d
  | fail st => exact respond_eq o st [] d
  | later => rfl

/-- A command that waits and whose checks pass leaves what its effect makes of the device, but for the mailboxes. -/
theorem runCmd_leaves {c : Instr} {s : State} {o : Origin} {code : Nat} {p : Bytes} {absent : Dev → Bytes → Bool}
    {tests : Mems → Dev → Bytes → List (Bool × Half)} {act : Mems → Dev → Bytes → Dev × Reply}
    (command : exec c s = runCmd s o code absent tests act) (waits : Waits s o code p)
    (mayCome : (o == .net && (code == 0x0C03 || code / 256 == 0x0D)) = false)
    (present : ∀ m, absent { s.dev with mbx := m } p = false)
    (pass : ∀ m, Claims.Pass (tests s.mem { s.dev with mbx := m } p)) :
    ∃ m m', Becomes c s { (act s.mem { s.dev with mbx := m } p).1 with mbx := m' } := by
  obtain ⟨m, -, run⟩ := runCmd_begins command waits mayCome present pass
  rw [reply_eq] at run
  exact ⟨m, _, run⟩

/-! ## The demand of a committed current -/

section
variable (j : Fin 8)

theorem aoSafe_own (d : Dev) :
    vget (d.aoSafe j).ana.ao j = (vget d.ana.ao j).safe (d.fieldSafe || d.writerSafe 3 j) :=
  vget_vset_same _ _ _ j.isLt

/-- Rank 6: no higher rank holds the channel and its committed value's CHECK holds (Table 8.6). -/
theorem aoWant_image {d : Dev} (free : (vget d.ana.ao j).held = none) (unforced : (vget d.ana.ao j).forced = none)
    (unbound : d.boundSlot 1 j = none) (unslotted : (vget d.ana.ao j).slotHold = none)
    (released : (vget d.ana.ao j).drive = none) (checked : (vget d.ana.ao j).checkBad = false) :
    d.aoWant j = (6, (vget d.ana.ao j).image) := by
  simp [Dev.aoWant, free, unforced, unbound, unslotted, released, checked]

/-- Rank 5: the calibration point that AO_DRIVE holds (Table 8.6). -/
theorem aoWant_drive {d : Dev} {high : Bool} (free : (vget d.ana.ao j).held = none)
    (unforced : (vget d.ana.ao j).forced = none) (unbound : d.boundSlot 1 j = none)
    (unslotted : (vget d.ana.ao j).slotHold = none) (driven : (vget d.ana.ao j).drive = some high) :
    d.aoWant j = (5, if high then BitVec.ofNat 32 (20 * 65536) else BitVec.ofNat 32 (4 * 65536)) := by
  simp [Dev.aoWant, free, unforced, unbound, unslotted, driven]

section
variable {d : Dev} (running : d.fieldSafe = false) (writing : d.writerSafe 3 j = false) (drives : d.aoZero j = false)
  (unforced : (vget d.ana.ao j).forced = none) (unbound : d.boundSlot 1 j = none)
  (unslotted : (vget d.ana.ao j).slotHold = none) (released : (vget d.ana.ao j).drive = none)
  (checked : (vget d.ana.ao j).checkBad = false)
include running writing drives unforced unbound unslotted released checked

/-- A channel of rank 6 that no safe state holds drives its committed current. -/
theorem settleAo_image : vget (settleAo j d).ana.ao j =
    ((vget d.ana.ao j).safe false).driven (6, (vget d.ana.ao j).image) := by
  have own := aoSafe_own j d
  rw [running, writing, Bool.or_self] at own
  have want : (d.aoSafe j).aoWant j = (6, (vget (d.aoSafe j).ana.ao j).image) := by
    refine aoWant_image j ?_ ?_ unbound ?_ ?_ ?_ <;> rw [own]
    · rfl
    · exact unforced
    · exact unslotted
    · exact released
    · exact checked
  rw [settleAo_driven j.isLt drives, want, own, running, writing, Bool.or_self]
  rfl

/-- Its demand is the current clamped to 0 to 24 mA, and its code that of the trimmed target (R319). -/
theorem settleAo_demand (cool : (vget d.ana.ao j).foldback = false) :
    let c := vget d.ana.ao j
    let y := vget (settleAo j d).ana.ao j
    y.demand.toInt = max 0 (min 1572864 c.image.toInt) ∧
    (y.clipped = true ↔ c.image.toInt < 0 ∨ 1572864 < c.image.toInt) ∧
    y.code = BitVec.ofInt 16 (max 0 (min 65535 (divNearest (trimmed c.trim y.demand.toInt) 24))) := by
  intro c y
  have settled : y = (c.safe false).driven (6, c.image) :=
    settleAo_image j running writing drives unforced unbound unslotted released checked
  have demand : y.demand.toInt = (c.safe false).limit c.image.toInt := by rw [settled, driven_demand]
  refine ⟨?_, ?_, ?_⟩
  · rw [demand, limit_unfolded (c := c.safe false) cool]
  · rw [settled]
    exact decide_eq_true_iff
  · have clamp := clampInt_eq (lo := 0) (hi := 65535) (by decide) (divNearest (trimmed c.trim y.demand.toInt) 24)
    rw [← clamp, demand, settled]
    rfl

end

/-- A channel that AO_DRIVE may take drives its calibration point (R333). -/
theorem settleAo_point (high : Bool) {d : Dev} (free : d.driveRefused j = false) (running : d.fieldSafe = false)
    (writing : d.writerSafe 3 j = false) (cool : (vget d.ana.ao j).foldback = false)
    (unslotted : (vget d.ana.ao j).slotHold = none) :
    (vget (settleAo j (modAo j (fun c => { c with drive := some high }) d)).ana.ao j).demand.toInt =
      (if high then 20 else 4) * 65536 := by
  simp only [Dev.driveRefused, Bool.or_eq_false_iff, Option.isSome_eq_false_iff, Option.isNone_iff_eq_none] at free
  obtain ⟨⟨⟨⟨⟨⟨-, unbound⟩, unforced⟩, cold⟩, matched⟩, supplied⟩, -⟩ := free
  generalize he : modAo j (fun c => { c with drive := some high }) d = e
  have own : vget e.ana.ao j = { vget d.ana.ao j with drive := some high } := by rw [← he, vget_modAo]
  have flags : (e.fieldSafe || e.writerSafe 3 j) = false := by
    rw [← he]
    exact Bool.or_eq_false_iff.mpr ⟨running, writing⟩
  have drives : e.aoZero j = false := by
    have blocked : e.ana.blocked j = false := by rw [← he]; exact supplied
    simp only [Dev.aoZero, own, cold, matched, blocked, Bool.or_self, Option.isNone_some, Bool.and_false]
  have safe := aoSafe_own j e
  rw [flags, own] at safe
  have want := aoWant_drive j (d := e.aoSafe j) (high := high) (by rw [safe]; rfl) (by rw [safe]; exact unforced)
    (by rw [← he]; exact unbound) (by rw [safe]; exact unslotted) (by rw [safe]; rfl)
  rw [settleAo_driven j.isLt drives, want, driven_demand, limit_unfolded (by rw [own]; exact cool)]
  cases high <;> rfl

end

/-! ## ANALOG_DIAG_READ -/

theorem analogDiagRead_answers {s : State} {o : Origin} (io : s.dev.fieldIo = true) (m : AnaMeas) (clear : Bool)
    (waits : Waits s o 0x0602 [if clear then 1 else 0, 0, 0, 0]) : Goes (.analogDiagRead o m) s fun t =>
      Answers t o stOk (anaPayload m s.dev) ∧
      (clear = true → (∀ i : Fin 16, (vget t.dev.ana.ai i).wbCount = 0 ∧ (vget t.dev.ana.ai i).rangeCount = 0) ∧
        ∀ j : Fin 8, (vget t.dev.ana.ao j).entries = 0) ∧
      (clear = false → t.dev.ana = s.dev.ana) := by
  have command : exec (.analogDiagRead o m) s = execAnalogDiagRead o m s := rfl
  have present (b : Mbx) : noField { s.dev with mbx := b } [if clear then 1 else 0, 0, 0, 0] = false :=
    congrArg (!·) io
  refine goes_answers (P := fun d =>
    (clear = true → (∀ i : Fin 16, (vget d.ana.ai i).wbCount = 0 ∧ (vget d.ana.ai i).rangeCount = 0) ∧
      ∀ j : Fin 8, (vget d.ana.ao j).entries = 0) ∧ (clear = false → d.ana = s.dev.ana))
    command waits (Bool.and_false _) present (fun _ => by cases clear <;> rfl) fun b => ?_
  cases clear with
  | false => exact ⟨_, rfl, rfl, fun _ => ⟨nofun, fun _ => rfl⟩⟩
  | true =>
    refine ⟨_, rfl, rfl, fun _ => ⟨fun _ => ⟨fun i => ?_, fun j => ?_⟩, nofun⟩⟩
    · exact ⟨congrArg AiCh.wbCount (vget_map _ _ i.isLt), congrArg AiCh.rangeCount (vget_map _ _ i.isLt)⟩
    · exact congrArg AoCh.entries (vget_map _ _ j.isLt)

/-! ## AI_CONFIG -/

/-- An entry of AI_CONFIG, at a tick and with the supply lost or not, on its channel (R312, R315, R331). -/
def AiCh.configured (p : Bytes) (tick : Nat) (lost : Bool) (k : Nat) (c : AiCh) : AiCh :=
  let rate := byteAt p (4 + 4 * k)
  let lp := nbit (byteAt p (5 + 4 * k)) 0
  { c with
    rateAt := if c.rate = rate then c.rateAt else rateStart rate tick
    oldRate := if c.rate = rate || decide (tick < c.rateAt) then c.oldRate else c.rate
    rate := rate, loopPower := lp, classPlain := nbit (byteAt p (5 + 4 * k)) 1
    evtWire := nbit (byteAt p (6 + 4 * k)) 0, evtRange := nbit (byteAt p (6 + 4 * k)) 1
    lpOn := if lp == c.loopPower then c.lpOn else lp && !lost
    retry := c.retry && lp }

def Dev.withAi (d : Dev) (v : Vector AiCh 16) : Dev := { d with ana := { d.ana with ai := v } }

theorem aiCfgApply_eq (p : Bytes) (d : Dev) : aiCfgApply p d =
    confChanged (d.withAi ((List.range (byteAt p 1)).foldl
      (fun v k => vmod v (byteAt p 0 + k) (AiCh.configured p d.tick (d.ana.vfld == .lost) k)) d.ana.ai)) :=
  congrArg confChanged (List.foldl_hom d.withAi fun _ _ => rfl)

theorem aiCfgApply_mbx (p : Bytes) (d : Dev) : (aiCfgApply p d).mbx = d.mbx := by
  rw [aiCfgApply_eq]
  rfl

theorem aiCfgTests_range {p : Bytes} (pass : Claims.Pass (aiCfgTests p)) : byteAt p 0 + byteAt p 1 ≤ 16 := by
  have range := (firstFail_eq_none _).mp pass (byteAt p 1 == 0 || decide (16 < byteAt p 0 + byteAt p 1), stRange)
    (by simp [aiCfgTests])
  simp only [Bool.or_eq_false_iff, decide_eq_false_iff_not] at range
  omega

/-- A channel that AI_CONFIG names has its entry; its element keeps its last result. -/
theorem aiCfgApply_channel {p : Bytes} (pass : Claims.Pass (aiCfgTests p)) (d : Dev) (i : Fin 16)
    (first : byteAt p 0 ≤ i) (last : i < byteAt p 0 + byteAt p 1) : vget (aiCfgApply p d).ana.ai i =
      AiCh.configured p d.tick (d.ana.vfld == .lost) (i - byteAt p 0) (vget d.ana.ai i) := by
  rw [aiCfgApply_eq]
  exact (vget_foldl_vmod _ _ _ (aiCfgTests_range pass) _ _).trans (if_pos ⟨first, last⟩)

theorem convPeriod_pos (rate : Nat) : 0 < convPeriod rate := by
  unfold convPeriod
  split <;> decide

/-- A change of RATE takes effect at the first instant of the new rate that is still to come (R315). -/
theorem rateStart_first (rate tick : Nat) : tick < rateStart rate tick ∧ rateStart rate tick % convPeriod rate = 0 ∧
    rateStart rate tick ≤ tick + convPeriod rate := by
  unfold rateStart
  refine ⟨?_, Nat.mul_mod_left _ _, ?_⟩
  · exact Nat.lt_mul_of_div_lt (Nat.lt_succ_self _) (convPeriod_pos rate)
  · rw [Nat.add_mul, Nat.one_mul]
    exact Nat.add_le_add_right (Nat.div_mul_le_self _ _) _

theorem configured_rate {p : Bytes} {k : Nat} {c : AiCh} (tick : Nat) (lost : Bool)
    (other : byteAt p (4 + 4 * k) ≠ c.rate) :
    let y := c.configured p tick lost k
    y.rateAt = rateStart y.rate tick ∧ y.oldRate = if tick < c.rateAt then c.oldRate else c.rate := by
  have changed : ¬c.rate = byteAt p (4 + 4 * k) := Ne.symm other
  simp [AiCh.configured, changed]

theorem aiConfig_answers {s : State} {o : Origin} {p : Bytes} (io : s.dev.fieldIo = true)
    (active : s.dev.passive = false) (waits : Waits s o 0x0600 p) (pass : Claims.Pass (aiCfgTests p)) :
    Goes (.aiConfig o) s fun t => Answers t o stOk [] ∧
      ∀ i : Fin 16, byteAt p 0 ≤ i.val → i.val < byteAt p 0 + byteAt p 1 → vget t.dev.ana.ai i =
        AiCh.configured p s.dev.tick (s.dev.ana.vfld == .lost) (i.val - byteAt p 0) (vget s.dev.ana.ai i) := by
  have command : exec (.aiConfig o) s = execAiConfig o s := rfl
  refine goes_answers (P := fun d => ∀ i : Fin 16, byteAt p 0 ≤ i.val → i.val < byteAt p 0 + byteAt p 1 →
      vget d.ana.ai i =
        AiCh.configured p s.dev.tick (s.dev.ana.vfld == .lost) (i.val - byteAt p 0) (vget s.dev.ana.ai i))
    command waits (Bool.and_false _) (fun _ => congrArg (!·) io) (fun _ => pass_roleTest active pass)
    fun b => ⟨_, rfl, (forward_mbx _ _ _).trans (aiCfgApply_mbx _ _), fun _ i first last => ?_⟩
  dsimp only
  rw [forward_ana]
  exact aiCfgApply_channel pass _ i first last

/-! ## AO_CONFIG -/

/-- The settings of an entry of AO_CONFIG (Table 8.11). -/
def aoEntry (p : Bytes) (k : Nat) : AoCfg :=
  { safe := safeMode (byteAt p (4 + 12 * k)), mismatchOff := nbit (byteAt p (5 + 12 * k)) 0
    compTime := getLe p (6 + 12 * k) 2, safeMa := BitVec.ofNat 32 (getLe p (8 + 12 * k) 4) }

def Dev.withAo (d : Dev) (v : Vector AoCh 8) : Dev := { d with ana := { d.ana with ao := v } }

/-- The device with the settings of AO_CONFIG waiting at its channels. -/
def Dev.aoStaged (d : Dev) (p : Bytes) : Dev :=
  d.withAo ((List.range (byteAt p 1)).foldl
    (fun v k => vmod v (byteAt p 0 + k) fun x => { x with pend := some (aoEntry p k) }) d.ana.ao)

theorem aoCfgApply_eq (p : Bytes) (d : Dev) :
    aoCfgApply p d = confChanged (whenNoTask (fun d => settleAll (aoNewCfg d)) (d.aoStaged p)) :=
  congrArg (fun d => confChanged (whenNoTask (fun d => settleAll (aoNewCfg d)) d))
    (List.foldl_hom d.withAo fun _ _ => rfl)

theorem aoCfgApply_mbx (p : Bytes) (d : Dev) : (aoCfgApply p d).mbx = d.mbx := by
  rw [aoCfgApply_eq, whenNoTask]
  split
  · rfl
  · exact (congrArg Dev.mbx (settleAll_beyondField _) :)

theorem aoCfgTests_range {p : Bytes} (pass : Claims.Pass (aoCfgTests p)) : byteAt p 0 + byteAt p 1 ≤ 8 := by
  have range := (firstFail_eq_none _).mp pass (byteAt p 1 == 0 || decide (8 < byteAt p 0 + byteAt p 1), stRange)
    (by simp [aoCfgTests])
  simp only [Bool.or_eq_false_iff, decide_eq_false_iff_not] at range
  omega

theorem aoStaged_channel {p : Bytes} (pass : Claims.Pass (aoCfgTests p)) (d : Dev) (j : Fin 8) (first : byteAt p 0 ≤ j)
    (last : j < byteAt p 0 + byteAt p 1) :
    vget (d.aoStaged p).ana.ao j = { vget d.ana.ao j with pend := some (aoEntry p (j - byteAt p 0)) } :=
  (vget_foldl_vmod (fun k (x : AoCh) => { x with pend := some (aoEntry p k) }) _ _ (aoCfgTests_range pass) _ _).trans
    (if_pos ⟨first, last⟩)

/-- The settings wait while a task runs, and else hold at once (R332). -/
theorem aoCfgApply_channel {p : Bytes} (pass : Claims.Pass (aoCfgTests p)) (d : Dev) (j : Fin 8)
    (first : byteAt p 0 ≤ j) (last : j < byteAt p 0 + byteAt p 1) :
    let y := vget (aoCfgApply p d).ana.ao j
    (d.cycleRun = true → y.pend = some (aoEntry p (j - byteAt p 0)) ∧ y.cfg = (vget d.ana.ao j).cfg) ∧
    (d.cycleRun = false → y.pend = none ∧ y.cfg = aoEntry p (j - byteAt p 0)) := by
  have staged := aoStaged_channel pass d j first last
  have runs : (d.aoStaged p).cycleRun = d.cycleRun := rfl
  rw [aoCfgApply_eq, confChanged_ana, whenNoTask, runs]
  refine ⟨fun run => ?_, fun idle => ?_⟩
  · rw [if_pos run, staged]
    exact ⟨rfl, rfl⟩
  · have settled := settleAll_unsettled j (aoNewCfg (d.aoStaged p))
    have taken : vget (aoNewCfg (d.aoStaged p)).ana.ao j =
        { vget d.ana.ao j with cfg := aoEntry p (j - byteAt p 0), pend := none } := by
      rw [aoNewCfg]
      refine (vget_map _ _ j.isLt).trans ?_
      rw [staged]
      rfl
    rw [taken] at settled
    rw [if_neg (by simp [idle])]
    exact ⟨(congrArg AoCh.pend settled :), (congrArg AoCh.cfg settled :)⟩

theorem aoConfig_answers {s : State} {o : Origin} {p : Bytes} (io : s.dev.fieldIo = true)
    (active : s.dev.passive = false) (waits : Waits s o 0x0601 p) (pass : Claims.Pass (aoCfgTests p)) :
    Goes (.aoConfig o) s fun t => Answers t o stOk [] ∧
      ∀ j : Fin 8, byteAt p 0 ≤ j.val → j.val < byteAt p 0 + byteAt p 1 →
        let y := vget t.dev.ana.ao j
        (s.dev.cycleRun = true → y.pend = some (aoEntry p (j.val - byteAt p 0)) ∧ y.cfg = (vget s.dev.ana.ao j).cfg) ∧
        (s.dev.cycleRun = false → y.pend = none ∧ y.cfg = aoEntry p (j.val - byteAt p 0)) := by
  have command : exec (.aoConfig o) s = execAoConfig o s := rfl
  refine goes_answers (P := fun d => ∀ j : Fin 8, byteAt p 0 ≤ j.val → j.val < byteAt p 0 + byteAt p 1 →
      let y := vget d.ana.ao j
      (s.dev.cycleRun = true → y.pend = some (aoEntry p (j.val - byteAt p 0)) ∧ y.cfg = (vget s.dev.ana.ao j).cfg) ∧
      (s.dev.cycleRun = false → y.pend = none ∧ y.cfg = aoEntry p (j.val - byteAt p 0)))
    command waits (Bool.and_false _) (fun _ => congrArg (!·) io) (fun _ => pass_roleTest active pass)
    fun b => ⟨_, rfl, (forward_mbx _ _ _).trans (aoCfgApply_mbx _ _), fun _ j first last => ?_⟩
  dsimp only
  rw [forward_ana]
  exact aoCfgApply_channel pass { s.dev with mbx := b } j first last

/-! ## ANALOG_CALIBRATE -/

/-- A request of ANALOG_CALIBRATE (Table 8.13). -/
def calReq (op ch pt : Byte) (v : Word) : Bytes := [op, ch, pt, 0] ++ leBytes 4 v.toNat ++ zeros 4

/-- CHANNEL of an input, and of an output. -/
def aiByte (i : Fin 16) : Byte := BitVec.ofNat 8 i
def aoByte (j : Fin 8) : Byte := BitVec.ofNat 8 (128 + j)

section
variable (op ch pt : Byte) (v : Word)

@[simp] theorem calReq_op : byteAt (calReq op ch pt v) 0 = op.toNat := rfl
@[simp] theorem calReq_channel : byteAt (calReq op ch pt v) 1 = ch.toNat := rfl
@[simp] theorem calReq_point : byteAt (calReq op ch pt v) 2 = pt.toNat := rfl
@[simp] theorem calReq_reserved : byteAt (calReq op ch pt v) 3 = 0 := rfl
@[simp] theorem calReq_length : (calReq op ch pt v).length = 12 := rfl
@[simp] theorem calReq_rest : allZero (calReq op ch pt v) 8 4 = true := rfl
@[simp] theorem calReq_noValue : allZero (calReq op ch pt 0#32) 4 4 = true := rfl
@[simp] theorem calReq_value : BitVec.ofNat 32 (getLe (calReq op ch pt v) 4 4) = v := ofNat_fromLe_leBytes v

end

@[simp] theorem aiByte_index (i : Fin 16) : (aiByte i).toNat % 16 = i := by decide +revert
@[simp] theorem aiByte_kind (i : Fin 16) : nbit (aiByte i).toNat 7 = false := by decide +revert
@[simp] theorem aiByte_reserved (i : Fin 16) : bits (aiByte i).toNat 6 4 = 0 := by decide +revert
@[simp] theorem aoByte_index (j : Fin 8) : (aoByte j).toNat % 16 = j := by decide +revert
@[simp] theorem aoByte_kind (j : Fin 8) : nbit (aoByte j).toNat 7 = true := by decide +revert
@[simp] theorem aoByte_reserved (j : Fin 8) : bits (aoByte j).toNat 6 4 = 0 := by decide +revert

section
variable {s : State} {o : Origin} (io : s.dev.fieldIo = true)
include io

/-- ANALOG_CALIBRATE that waits and whose tests pass leaves what its effect makes of the device. -/
theorem analogCalibrate_leaves {p : Bytes} (waits : Waits s o 0x0603 p) (pass : Claims.Pass (calTests s.dev p)) :
    ∃ m m', Becomes (.analogCalibrate o) s { (calAct o p { s.dev with mbx := m }).1 with mbx := m' } := by
  have command : exec (.analogCalibrate o) s = execAnalogCalibrate o s := rfl
  exact runCmd_leaves command waits (Bool.and_false _) (fun _ => congrArg (!·) io) fun _ => pass

variable (active : s.dev.passive = false)
include active

theorem analogCalibrate_reads (i : Fin 16) (waits : Waits s o 0x0603 (calReq 0 (aiByte i) 0 0)) :
    Goes (.analogCalibrate o) s fun t =>
      Answers t o stOk (aiCalPayload i 0 s.dev) ∧ t.dev.ana = s.dev.ana := by
  have command : exec (.analogCalibrate o) s = execAnalogCalibrate o s := rfl
  have pass : Claims.Pass (calTests s.dev (calReq 0 (aiByte i) 0 0)) := by
    simp [Claims.Pass, firstFail_eq_none, calTests, lenIs, active]
  refine goes_answers (P := fun d => d.ana = s.dev.ana) command waits (Bool.and_false _) (fun _ => congrArg (!·) io)
    (fun _ => pass) fun b => ⟨{ s.dev with mbx := b }, ?_, rfl, fun _ => rfl⟩
  simp [calAct, aiCalPayload]

theorem analogCalibrate_captures (i : Fin 16) (high : Bool) (v : Word)
    (waits : Waits s o 0x0603 (calReq 1 (aiByte i) (if high then 1 else 0) v)) (band : bandBad high v.toInt = false)
    (idle : s.dev.ana.capture = none) (released : ∀ j : Fin 8, (vget s.dev.ana.ao j).drive = none) :
    Goes (.analogCalibrate o) s fun t => Working t o ∧ t.dev.ana.capture = some {
      ch := i, high := high, ref := v.toInt, sum := 0, count := 0, waiter := o } := by
  have command : exec (.analogCalibrate o) s = execAnalogCalibrate o s := rfl
  have undriven (j : Nat) (hj : j < 8) : (vget s.dev.ana.ao j).drive = none := released ⟨j, hj⟩
  have pass : Claims.Pass (calTests s.dev (calReq 1 (aiByte i) (if high then 1 else 0) v)) := by
    cases high <;> simpa [Claims.Pass, firstFail_eq_none, calTests, lenIs, active, band, idle] using undriven
  obtain ⟨m, working, run⟩ := runCmd_begins command waits (Bool.and_false _) (fun _ => congrArg (!·) io) fun _ => pass
  refine goes_of_becomes run ⟨working_congr working rfl, ?_⟩
  cases high <;> simp [calAct, reply]

theorem analogCalibrate_appliesAi (i : Fin 16) (lo hi : CalPoint) (waits : Waits s o 0x0603 (calReq 2 (aiByte i) 0 0))
    (low : (vget s.dev.ana.ai i).ptLo = some lo) (high : (vget s.dev.ana.ai i).ptHi = some hi)
    (ok : trimOk ⟨lo, hi⟩ = true) : Goes (.analogCalibrate o) s fun t =>
      let y := vget t.dev.ana.ai i
      y.trim = some ⟨lo, hi⟩ ∧ y.ptLo = none ∧ y.ptHi = none ∧ t.dev.pwr.confDirty = true := by
  obtain ⟨m, m', run⟩ := analogCalibrate_leaves io waits
    (by simp [Claims.Pass, firstFail_eq_none, calTests, lenIs, active, low, high, ok, pairTrim])
  refine goes_of_becomes run ?_
  simp [calAct, confChanged, vget_modAi, low, high, pairTrim]

theorem analogCalibrate_restoresAi (i : Fin 16) (waits : Waits s o 0x0603 (calReq 7 (aiByte i) 0 0)) :
    Goes (.analogCalibrate o) s fun t => (vget t.dev.ana.ai i).trim = none ∧ t.dev.pwr.confDirty = true := by
  obtain ⟨m, m', run⟩ := analogCalibrate_leaves io waits
    (by simp [Claims.Pass, firstFail_eq_none, calTests, lenIs, active])
  refine goes_of_becomes run ?_
  simp [calAct, confChanged, vget_modAi]

variable (free : s.dev.stopped = false) (j : Fin 8)
include free

theorem analogCalibrate_drives (high : Bool)
    (waits : Waits s o 0x0603 (calReq 3 (aoByte j) (if high then 1 else 0) 0)) (takes : s.dev.driveRefused j = false)
    (running : s.dev.fieldSafe = false) (writing : s.dev.writerSafe 3 j = false) (idle : s.dev.ana.capture = none)
    (cool : (vget s.dev.ana.ao j).foldback = false) (alone : ∀ k : Fin 8, k ≠ j → (vget s.dev.ana.ao k).drive = none)
    (unslotted : (vget s.dev.ana.ao j).slotHold = none) : Goes (.analogCalibrate o) s fun t =>
      let y := vget t.dev.ana.ao j
      y.drive = some high ∧ y.demand.toInt = (if high then 20 else 4) * 65536 := by
  have others (k : Nat) (hk : k < 8) (driven : (vget s.dev.ana.ao k).drive.isSome = true) : k = j := by
    by_contra other
    rw [alone ⟨k, hk⟩ fun same => other (congrArg Fin.val same)] at driven
    exact absurd driven (by decide)
  have act (d : Dev) : (calAct o (calReq 3 (aoByte j) (if high then 1 else 0) 0) d).1 =
      settleAo j (modAo j (fun c => { c with drive := some high }) d) := by
    cases high <;> simp [calAct]
  obtain ⟨m, m', run⟩ := analogCalibrate_leaves io waits
    (by cases high <;>
      simpa [Claims.Pass, firstFail_eq_none, calTests, lenIs, active, free, takes, idle, Nat.le_of_lt_succ j.isLt]
        using others)
  refine goes_of_becomes run ?_
  rw [act]
  exact ⟨(congrArg AoCh.drive (settleAo_modAo j (fun c => { c with drive := some high }) rfl) :),
    settleAo_point j high takes running writing cool unslotted⟩

theorem analogCalibrate_holds (high : Bool) (v : Word)
    (waits : Waits s o 0x0603 (calReq 4 (aoByte j) (if high then 1 else 0) v)) (band : bandBad high v.toInt = false)
    (driven : (vget s.dev.ana.ao j).drive = some high) : Goes (.analogCalibrate o) s fun t =>
      let y := vget t.dev.ana.ao j
      (if high then y.ptHi else y.ptLo) = some ⟨(if high then 20 else 4) * 65536, v.toInt⟩ := by
  obtain ⟨m, m', run⟩ := analogCalibrate_leaves io waits
    (by cases high <;>
      simp [Claims.Pass, firstFail_eq_none, calTests, lenIs, active, free, band, driven, Nat.le_of_lt_succ j.isLt])
  refine goes_of_becomes run ?_
  cases high <;> simp [calAct, vget_modAo]

theorem analogCalibrate_releases (waits : Waits s o 0x0603 (calReq 6 (aoByte j) 0 0)) :
    Goes (.analogCalibrate o) s fun t => (vget t.dev.ana.ao j).drive = none := by
  have act (d : Dev) : (calAct o (calReq 6 (aoByte j) 0 0) d).1 =
      settleAo j (modAo j (fun c => { c with drive := none }) d) := by
    simp [calAct]
  obtain ⟨m, m', run⟩ := analogCalibrate_leaves io waits
    (by simp [Claims.Pass, firstFail_eq_none, calTests, lenIs, active, free, Nat.le_of_lt_succ j.isLt])
  refine goes_of_becomes run ?_
  rw [act]
  exact (congrArg AoCh.drive (settleAo_modAo j (fun c => { c with drive := none }) rfl) :)

omit active free

theorem aiCaptureDone_holds {x : Capture} (capture : s.dev.ana.capture = some x) (counted : 0 < x.count)
    (hx : x.ch < 16) : Goes .aiCaptureDone s fun t =>
      let y := vget t.dev.ana.ai x.ch
      (if x.high then y.ptHi else y.ptLo) = some ⟨x.ref, divNearest x.sum x.count⟩ ∧ t.dev.ana.capture = none := by
  refine goes_of_fieldD (by rw [exec, execAiCaptureDone]) io ?_
  dsimp only
  rw [capture]
  dsimp only
  rw [if_neg (show ¬x.count = 0 by omega), respond_eq]
  dsimp only
  rw [vget_modAi hx]
  refine ⟨?_, rfl⟩
  cases x.high <;> rfl

end

/-- Settles O38, one command at a time. Until the first instant of a new RATE the channel keeps the rate before (log entry
114), and trims are rounded as log entry 76 says. -/
theorem currentLoopCommands : Obligations.CurrentLoopCommands := by
  unfold Obligations.CurrentLoopCommands
  intro s io
  refine ⟨fun j d => settleAo_demand j, fun o p => ?_⟩
  refine ⟨analogDiagRead_answers io, fun active => ⟨fun waits pass => ?aiConfig, aoConfig_answers io active,
    analogCalibrate_reads io active, analogCalibrate_captures io active, analogCalibrate_appliesAi io active,
    analogCalibrate_restoresAi io active, fun free j high => ⟨analogCalibrate_drives io active free j high,
      analogCalibrate_holds io active free j high, analogCalibrate_releases io active free j⟩⟩,
    fun x => aiCaptureDone_holds io⟩
  case aiConfig =>
    obtain ⟨t, run, answer, channels⟩ := aiConfig_answers io active waits pass
    refine ⟨t, run, answer, fun i first last => ?_⟩
    have channel := channels i first last
    dsimp only
    rw [channel]
    refine ⟨rfl, rfl, rfl, rfl, rfl, rfl, fun other => ?_⟩
    obtain ⟨instant, old⟩ := configured_rate s.dev.tick (s.dev.ana.vfld == .lost) other
    obtain ⟨ahead, divides, first⟩ := rateStart_first (byteAt p (4 + 4 * (i - byteAt p 0))) s.dev.tick
    rw [instant, old]
    exact ⟨ahead, divides, first, rfl⟩

end Sys2Proof.Machine
end

section
/-!
PROOF. The Ethernet ports, HSR and PRP, and the PTP clock (R335 to R341, R377, R380, R472, R474).
-/

namespace Sys2Proof.Machine

open Sys2Proof Sys2Proof.Claims

/-! ## Links -/

section
variable {ps : List Part} {d e : Dev}

theorem Writes.pairDown (h : Writes ps d e) (hs : .pair ∈ ps := by decide) : Writes ps d (pairDown e) :=
  .unless (.shadowEnd (.setRed .refl hs) hs) h

theorem Writes.linkChange {p up} (h : Writes ps d e) (hs : Claims.raised ++ [.network, .pair] ⊆ ps := by decide) :
    Writes ps d (linkChange p up e) :=
  h.then hs (.unless (.pairDown (.raise (.when (.setRed .refl) (.modNet .refl)))) .refl)

theorem Writes.modPtp {g} (h : Writes ps d e) (hs : .network ∈ ps := by decide) : Writes ps d (modPtp g e) :=
  .modNet h hs

theorem Writes.ptpChange {gm} (h : Writes ps d e) (hs : Claims.raised ++ [.rtc] ⊆ ps := by decide) :
    Writes ps d (ptpChange gm e) :=
  h.then hs (.raise (.unless (.setRtc .refl) .refl))

theorem Writes.setLock {l} (h : Writes ps d e) (hs : Claims.raised ++ [.network, .rtc] ⊆ ps := by decide) :
    Writes ps d (setLock l e) :=
  h.then hs (.unless (.ptpChange (.modPtp .refl)) .refl)

theorem Writes.net (h : Writes ps d e) (none : .network ∉ ps := by decide) : e.net = d.net := h .network none

end

theorem goes_of_nextD {c : Instr} {s : State} {f : Dev → Dev} {P : State → Prop} (row : exec c s = nextD s f)
    (holds : P { s with dev := f s.dev }) : Goes c s P := ⟨_, row, holds⟩

/-- The network block with the link of a port up or down. -/
def Net.withLink (p : Nat) (up : Bool) (n : Net) : Net :=
  if p = 0 then { n with linkA := up } else { n with linkB := up }

/-- A change of a used port's link is taken, and its event raised (R336). -/
theorem linkChange_takes {p : Nat} {up : Bool} {d : Dev} (change : (if p = 0 then d.net.linkA else d.net.linkB) = !up)
    (used : up = true → d.portUsed p = true) : ∃ r, linkChange p up d =
      pairDown (raise (if p = 0 then .portALink else .portBLink) (b2n up)
        { d with net := d.net.withLink p up, red := r }) := by
  unfold linkChange
  rw [change, if_neg (by cases up <;> simp_all)]
  dsimp only
  by_cases first : (up && (!d.net.linkA && !d.net.linkB)) = true
  · rw [if_pos first]; exact ⟨_, rfl⟩
  · rw [if_neg first]; exact ⟨_, rfl⟩

theorem ethLinkChange_taken (s : State) (p : Fin 2) (up : Bool)
    (change : (if p = 0 then s.dev.net.linkA else s.dev.net.linkB) = !up)
    (used : up = true → s.dev.portUsed p = true) :
    Goes (.ethLinkChange p up) s fun t =>
      t.dev.net.linkA = (if p = 0 then up else s.dev.net.linkA) ∧
      t.dev.net.linkB = (if p = 0 then s.dev.net.linkB else up) ∧
      Raised t (if p = 0 then .portALink else .portBLink) (b2n up) := by
  have port : p = 0 ↔ p.val = 0 := Fin.val_eq_zero_iff.symm
  simp only [port] at change ⊢
  obtain ⟨r, taken⟩ := linkChange_takes change used
  refine goes_of_becomes (d := linkChange p up s.dev) rfl ?_
  have down {e : Dev} : Writes [.pair] e (pairDown e) := .pairDown .refl
  have raised := raised_raise (if p.val = 0 then .portALink else .portBLink) (b2n up)
    { s.dev with net := s.dev.net.withLink p up, red := r } (by split <;> decide)
  dsimp only
  rw [taken, down.net, raise_net]
  refine ⟨?_, ?_, down.raised (s := s) raised⟩
  all_goals simp only [Net.withLink]; split <;> rfl

/-! ## ARP, ICMP and IGMP (Table 9.1) -/

/-- What a device sends that may send one thing. -/
theorem sends_if {s t : State} {c : Prop} [Decidable c] {l : List Out}
    (sent : t.dev = if c then emitAll l s.dev else s.dev) :
    Sends s t (if c then l else []) ∧ t.dev.net = s.dev.net := by
  rw [Sends, sent]
  split
  · exact ⟨rfl, rfl⟩
  · exact ⟨(List.append_nil _).symm, rfl⟩

section
variable (s : State) (p : Fin 2) (link : s.dev.linkUp p = true)
include link

theorem arpRequest_answers (target sender : Word) (ip : s.dev.net.cfg.ip ≠ 0) :
    Goes (.arpRequestReceived p target sender) s fun t =>
      Sends s t (if target = s.dev.net.cfg.ip then [.arpReply sender] else []) ∧ t.dev.net = s.dev.net := by
  refine goes_of_nextD (by rw [exec, execArpRequestReceived]) (sends_if ?_)
  simp only [link, bne_iff_ne.mpr ip, Bool.true_and, beq_iff_eq]
  rfl

theorem icmpEchoRequest_answers (dst src : Word) (data : Bytes) (ip : s.dev.net.cfg.ip ≠ 0) :
    Goes (.icmpEchoRequestReceived p dst src data) s fun t =>
      Sends s t (if dst = s.dev.net.cfg.ip then [.icmpReply src data] else []) ∧ t.dev.net = s.dev.net := by
  refine goes_of_nextD (by rw [exec, execIcmpEchoRequestReceived]) (sends_if ?_)
  simp only [link, bne_iff_ne.mpr ip, Bool.true_and, beq_iff_eq]
  rfl

theorem igmpQuery_answers (group : Word) : Goes (.igmpQueryReceived p group) s fun t =>
      Sends s t ((s.dev.joined.filter fun g => group = 0 ∨ g = group).map .igmpReport) ∧ t.dev.net = s.dev.net := by
  refine goes_of_nextD (by rw [exec, execIgmpQueryReceived]) ?_
  simp only [link, if_true, Bool.decide_or]
  exact ⟨rfl, rfl⟩

end

/-! ## HSR and PRP (R337 to R339) -/

section
variable {o : Out} {d : Dev}

/-- What has left the device stays in the record of it. -/
theorem mem_out_raise (h : o ∈ d.out) (e : Ev) (x : Nat) : o ∈ (raise e x d).out := by
  have sends (n : Nat) {d : Dev} (h : o ∈ d.out) : o ∈ (msixSend n d).out := by
    unfold msixSend
    split
    · exact List.mem_append_left _ h
    · exact h
  have once (n : Nat) (x : Word) {d : Dev} (h : o ∈ d.out) : o ∈ (raise1 n x d).out := by
    unfold raise1
    dsimp only
    split <;> split <;> split <;> simp [sends _, h]
  unfold raise
  dsimp only
  split
  · exact once _ _ (once _ _ h)
  · exact once _ _ h

/-- The errors of silent ports, one after the other. -/
def redErrors (kind : Nat) (ports : List Nat) (d : Dev) : Dev := ports.foldl (fun d p => redError kind p d) d

theorem redErrors_net (kind : Nat) (ports : List Nat) (d : Dev) : (redErrors kind ports d).net = d.net :=
  foldl_proj Dev.net _ (fun d p => raise_net .hsrPrpError (kind + 8 * p) d) ports d

theorem mem_out_redErrors (h : o ∈ d.out) (kind : Nat) (ports : List Nat) : o ∈ (redErrors kind ports d).out :=
  List.foldlRecOn ports _ (motive := fun e : Dev => o ∈ e.out) h fun _ hd _ _ => mem_out_raise hd _ _

theorem redErrors_pending (kind : Nat) {ports : List Nat} (some : ports ≠ []) (d : Dev) :
    (redErrors kind ports d).evt.pending.getLsbD Ev.hsrPrpError.num = true := by
  obtain ⟨p, ports, rfl⟩ := List.exists_cons_of_ne_nil some
  exact List.foldlRecOn ports _ (motive := fun e : Dev => e.evt.pending.getLsbD Ev.hsrPrpError.num = true)
    (raised_raise .hsrPrpError _ d (by decide)).1 fun _ hd _ _ => pending_raise hd _ _

end

theorem hsrSupervisionSend_sends (s : State) (mode : s.dev.net.cfg.mode ≠ 0) : Goes .hsrSupervisionSend s fun t =>
    .eth 0 0 [] ∈ t.dev.out ∧ .eth 1 0 [] ∈ t.dev.out ∧ t.dev.net.nodes.length = s.dev.net.nodes.length ∧
    (∀ y ∈ t.dev.net.nodes, y.seenA = false ∧ y.seenB = false) ∧
    (∀ y ∈ s.dev.net.nodes, y.seenA ≠ y.seenB → y.onePort = 2 → Happened t .hsrPrpError) := by
  have row : exec .hsrSupervisionSend s = execHsrSupervisionSend s := rfl
  rw [execHsrSupervisionSend, nextD] at row
  dsimp only at row
  rw [if_neg mode] at row
  refine ⟨_, row, ?_⟩
  dsimp only
  rw [← redErrors, redErrors_net]
  refine ⟨mem_out_redErrors ?_ _ _, mem_out_redErrors ?_ _ _, List.length_map _, ?_, fun y hy one silent => ?_⟩
  · exact List.mem_append_right _ (by decide)
  · exact List.mem_append_right _ (by decide)
  · intro y hy
    obtain ⟨x, -, rfl⟩ := List.mem_map.mp hy
    exact ⟨rfl, rfl⟩
  · refine redErrors_pending 2 (List.ne_nil_of_mem (List.mem_map_of_mem (List.mem_filter.mpr ⟨hy, ?_⟩))) _
    simp [one, silent]

theorem hsrSupervisionSend_single (s : State) (mode : s.dev.net.cfg.mode = 0) :
    Becomes .hsrSupervisionSend s s.dev := by
  have row : exec .hsrSupervisionSend s = execHsrSupervisionSend s := rfl
  rw [execHsrSupervisionSend, nextD] at row
  dsimp only at row
  rwa [if_pos mode] at row

/-- A frame's tag tested: wrong ones are reported (R339). -/
def tagTested (p : Nat) (fr : RedFrame) (d : Dev) : Dev :=
  match fr.tag with
  | .prp lanB =>
    if d.net.cfg.mode = 2 then redError 4 p d else if lanB != (p == 1) then redError 1 p d else d
  | .hsr => if d.net.cfg.mode = 1 then redError 4 p d else d
  | .none => d

/-- The live entries of frames seen (R337). -/
def Dev.liveDups (d : Dev) : List (Nat × Nat × Nat) := d.net.dups.filter fun x => decide (d.tick < x.2.2 + 8000)

/-- A copy of the frame is among them. -/
def Dev.seen (d : Dev) (p : Nat) (fr : RedFrame) : Bool :=
  d.liveDups.any fun x => x.1 == 2 * fr.mac + p && x.2.1 == fr.seq

/-- The frame is noted as seen, and goes on to the other port where it is for others and new (R337). -/
def relayed (p : Nat) (fr : RedFrame) (d : Dev) : Dev :=
  let dups := if d.seen p fr then d.liveDups else d.liveDups ++ [(2 * fr.mac + p, fr.seq, d.tick)]
  let e := modNet (fun n => { n with dups := dups }) d
  if d.net.cfg.mode = 2 && !fr.forMe && !d.seen p fr then emit (.eth (1 - p) 1 fr.data) e else e

theorem seen_iff (d : Dev) (p : Nat) (fr : RedFrame) : d.seen p fr = true ↔
    ∃ y ∈ d.net.dups, y.1 = 2 * fr.mac + p ∧ y.2.1 = fr.seq ∧ d.tick < y.2.2 + 8000 := by
  simp only [Dev.seen, Dev.liveDups, List.any_filter, List.any_eq_true, Bool.and_eq_true, decide_eq_true_eq, beq_iff_eq]
  exact exists_congr fun y => and_congr_right fun _ => ⟨fun ⟨live, key, seq⟩ => ⟨key, seq, live⟩,
    fun ⟨key, seq, live⟩ => ⟨live, key, seq⟩⟩

/-- The mark of a frame's source, where the table has it, changes the nodes alone (R338). -/
theorem nodeSeen_known (p : Nat) {fr : RedFrame} {d : Dev} (known : (d.net.nodes.any fun y => y.mac == fr.mac) = true) :
    ∃ nodes, nodeSeen p fr d = modNet (fun n => { n with nodes := nodes }) d := by
  unfold nodeSeen
  dsimp only
  rw [if_pos known]
  exact ⟨_, rfl⟩

section
variable {s : State} {p : Fin 2} {fr : RedFrame} (link : s.dev.linkUp p = true)
  (known : (s.dev.net.nodes.any fun y => y.mac == fr.mac) = true) (notA : fr.mac ≠ macA s.mem)
  (notB : fr.mac ≠ macA s.mem + 1)
include link known notA notB

/-- A frame from a node in the table, in a redundant mode. -/
theorem hsrPrpFrame_relays (mode : s.dev.net.cfg.mode ≠ 0) : ∃ nodes, Becomes (.hsrPrpFrameReceived p fr) s
    (relayed p fr (modNet (fun n => { n with nodes := nodes }) (tagTested p fr s.dev))) := by
  have tested : (tagTested p fr s.dev).net = s.dev.net := by
    unfold tagTested redError
    (repeat' split) <;> simp only [raise_net]
  obtain ⟨nodes, marked⟩ := nodeSeen_known p (d := tagTested p fr s.dev) (by rw [tested]; exact known)
  have row : exec (.hsrPrpFrameReceived p fr) s = execHsrPrpFrameReceived p fr s := rfl
  have stranger : (fr.mac == macA s.mem || fr.mac == macA s.mem + 1) = false := by simp [notA, notB]
  rw [execHsrPrpFrameReceived, nextR] at row
  dsimp only at row
  rw [link, stranger, if_neg (by simpa using mode), if_neg Bool.false_ne_true] at row
  refine ⟨nodes, row.trans ?_⟩
  rw [← marked]
  rfl

/-- A wrong tag is reported, and the frame is not forwarded (R339). -/
theorem hsrPrpFrame_reports (mode : s.dev.net.cfg.mode = 1) {kind : Nat}
    (tested : tagTested p fr s.dev = redError kind p s.dev) : Goes (.hsrPrpFrameReceived p fr) s fun t =>
      Raised t .hsrPrpError (kind + 8 * p) := by
  obtain ⟨nodes, relays⟩ := hsrPrpFrame_relays link known notA notB (by rw [mode]; decide)
  refine goes_of_becomes relays ?_
  rw [tested, redError]
  have told : Raised { s with dev := raise .hsrPrpError (kind + 8 * p) s.dev } .hsrPrpError (kind + 8 * p) :=
    raised_raise _ _ _ (by decide)
  have noRing (d : Dev) (prp : d.net.cfg.mode = 1) : Writes [.network] d (relayed p fr d) := by
    unfold relayed
    dsimp only
    rw [prp, if_neg (by simp)]
    exact .modNet .refl
  refine Writes.raised (ps := [.network]) (.trans (.modNet .refl) (noRing _ ?_)) told
  rw [modNet_net, raise_net]
  exact mode

section
variable (mode : s.dev.net.cfg.mode = 2) (tag : fr.tag = .hsr)
include mode tag

/-- An HSR frame in HSR mode. -/
theorem hsrPrpFrame_hsr : ∃ nodes, Becomes (.hsrPrpFrameReceived p fr) s
    (relayed p fr (modNet (fun n => { n with nodes := nodes }) s.dev)) := by
  have tested : tagTested p fr s.dev = s.dev := by rw [tagTested, tag]; exact if_neg (by rw [mode]; decide)
  obtain ⟨nodes, relays⟩ := hsrPrpFrame_relays link known notA notB (by rw [mode]; decide)
  rw [tested] at relays
  exact ⟨nodes, relays⟩

/-- An HSR frame for others goes on to the other port unless a copy of the last 400 ms was seen (R337). -/
theorem hsrPrpFrame_forwards (others : fr.forMe = false) : Goes (.hsrPrpFrameReceived p fr) s fun t =>
    let seen := ∃ y ∈ s.dev.net.dups, y.1 = 2 * fr.mac + p ∧ y.2.1 = fr.seq ∧ s.dev.tick < y.2.2 + 8000
    (seen → Sends s t []) ∧
    (¬seen → Sends s t [.eth (1 - p) 1 fr.data] ∧ (2 * fr.mac + p.val, fr.seq, s.dev.tick) ∈ t.dev.net.dups) := by
  obtain ⟨nodes, relays⟩ := hsrPrpFrame_hsr link known notA notB mode tag
  refine goes_of_becomes relays ?_
  have same : (modNet (fun n => { n with nodes := nodes }) s.dev).seen p fr = s.dev.seen p fr := rfl
  have ring : (modNet (fun n => { n with nodes := nodes }) s.dev).net.cfg.mode = 2 := mode
  dsimp only
  rw [← seen_iff, relayed, same, ring, others]
  cases copy : s.dev.seen p fr with
  | true => exact ⟨fun _ => (List.append_nil _).symm, fun new => absurd rfl new⟩
  | false =>
    exact ⟨fun old => absurd old Bool.false_ne_true,
      fun _ => ⟨rfl, List.mem_append_right _ (List.mem_singleton_self _)⟩⟩

end

end

theorem hsrNodeAgeout_drops (s : State) (mac : Nat) : Goes (.hsrNodeAgeout mac) s fun t =>
    t.dev.net.nodes = s.dev.net.nodes.filter fun y => y.mac != mac :=
  goes_of_nextD (by rw [exec, execHsrNodeAgeout]) rfl

/-! ## The PTP clock (R340, R341) -/

section
variable (gm l alone : Bool) (d : Dev)

/-- PTP_LOCK_CHANGE is raised on the device, whose leap offset is PTP's no longer where the clock is unlocked (R474). -/
theorem ptpChange_eq : ∃ r, ptpChange gm d =
      raise .ptpLockChange (b2n d.net.ptp.locked + 2 * b2n gm) { d with rtc := r } ∧
    r.discipline = d.rtc.discipline ∧ (d.net.ptp.locked = false → r.leapFromPtp = false) := by
  unfold ptpChange
  dsimp only
  split
  · next locked => exact ⟨d.rtc, rfl, rfl, fun unlocked => absurd locked (by rw [unlocked]; decide)⟩
  · exact ⟨_, rfl, rfl, fun _ => rfl⟩

theorem ptpChange_net : (ptpChange gm d).net = d.net := by
  obtain ⟨r, change, -⟩ := ptpChange_eq gm d
  rw [change, raise_net]

theorem ptpChange_discipline : (ptpChange gm d).rtc.discipline = d.rtc.discipline := by
  obtain ⟨r, change, kept, -⟩ := ptpChange_eq gm d
  rw [change, raise_rtc]
  exact kept

theorem ptpChange_raised (s : State) : Raised { s with dev := ptpChange gm d } .ptpLockChange
    (b2n d.net.ptp.locked + 2 * b2n gm) := by
  obtain ⟨r, change, -⟩ := ptpChange_eq gm d
  rw [change]
  exact raised_raise _ _ _ (by decide)

/-- A lock that changes starts its counts anew, and is told (R341). -/
theorem setLock_changes {s : State} {d : Dev} {l : Bool} (change : d.net.ptp.locked = !l) :
    (setLock l d).net.ptp = { d.net.ptp with locked := l, good := 0, bad := 0 } ∧
    Raised { s with dev := setLock l d } .ptpLockChange (b2n l) ∧
    (l = false → (setLock l d).rtc.leapFromPtp = false) := by
  have changes : setLock l d = ptpChange false (modPtp (fun p => { p with locked := l, good := 0, bad := 0 }) d) := by
    rw [setLock, change]
    exact if_neg (by cases l <;> decide)
  have net := ptpChange_net false (modPtp (fun p => { p with locked := l, good := 0, bad := 0 }) d)
  have told := ptpChange_raised false (modPtp (fun p => { p with locked := l, good := 0, bad := 0 }) d) s
  obtain ⟨r, eq, -, leap⟩ := ptpChange_eq false (modPtp (fun p => { p with locked := l, good := 0, bad := 0 }) d)
  rw [changes]
  refine ⟨by rw [net]; rfl, told, fun lost => ?_⟩
  rw [eq, raise_rtc]
  exact leap lost

end

/-- The clock's counts and its offset after a Sync (R341). -/
def Ptp.noted (offset : Int) (x : Ptp) : Ptp := { x with
  offset := offset
  good := if offset.natAbs < 1000 then min 16 (x.good + 1) else 0
  bad := if 10000 < offset.natAbs then min 4 (x.bad + 1) else 0 }

section
variable {s : State} (on : s.dev.net.ptp.cfg.enable = true)
include on

section
variable {p : Fin 2} (slave : s.dev.net.ptp.isMaster = false) (follows : s.dev.bestMaster.isSome = true)
  (port : s.dev.net.ptp.port = p.val)
include slave follows port

theorem ptpSyncReceived_notes (offset : Int) : Becomes (.ptpSyncReceived p offset) s
    (if !s.dev.net.ptp.locked && (s.dev.net.ptp.noted offset).good = 16 then
        setLock true (modPtp (Ptp.noted offset) s.dev)
      else if s.dev.net.ptp.locked && (s.dev.net.ptp.noted offset).bad = 4 then
        setLock false (modPtp (Ptp.noted offset) s.dev)
      else modPtp (Ptp.noted offset) s.dev) := by
  have row : exec (.ptpSyncReceived p offset) s = execPtpSyncReceived p offset s := rfl
  rw [execPtpSyncReceived, nextD] at row
  dsimp only at row
  rwa [if_neg (by simp [on, slave, port, Option.isSome_iff_ne_none.mp follows])] at row

theorem ptpSyncReceived_locks (offset : Int) : Goes (.ptpSyncReceived p offset) s fun t =>
    t.dev.net.ptp.offset = offset ∧
    (s.dev.net.ptp.locked = false → s.dev.net.ptp.good = 15 → offset.natAbs < 1000 →
      t.dev.net.ptp.locked = true ∧ Raised t .ptpLockChange 1) ∧
    (s.dev.net.ptp.locked = true → s.dev.net.ptp.bad = 3 → 10000 < offset.natAbs →
      t.dev.net.ptp.locked = false ∧ Raised t .ptpLockChange 0) ∧
    (s.dev.net.ptp.locked = true → offset.natAbs ≤ 10000 → t.dev.net.ptp.locked = true) := by
  refine goes_of_becomes (ptpSyncReceived_notes on slave follows port offset) ?_
  have takes (l : Bool) := setLock_changes (s := s) (d := modPtp (Ptp.noted offset) s.dev) (l := l)
  cases was : s.dev.net.ptp.locked with
  | false =>
    obtain ⟨ptp, told, -⟩ := takes true was
    by_cases last : (s.dev.net.ptp.noted offset).good = 16
    · simp only [last, Bool.not_false, decide_true, Bool.and_self, if_true, ptp]
      exact ⟨rfl, fun _ _ _ => ⟨trivial, told⟩, nofun, nofun⟩
    · simp only [last, decide_false, Bool.and_false, Bool.false_and, Bool.false_eq_true, if_false]
      exact ⟨rfl, fun _ fifteen small => absurd (by simp [Ptp.noted, fifteen, small]) last, nofun, nofun⟩
  | true =>
    obtain ⟨ptp, told, -⟩ := takes false was
    by_cases last : (s.dev.net.ptp.noted offset).bad = 4
    · simp only [last, Bool.not_true, Bool.false_and, Bool.false_eq_true, if_false, decide_true, Bool.and_self, if_true,
        ptp]
      refine ⟨rfl, nofun, fun _ _ _ => ⟨trivial, told⟩, fun _ near => absurd last ?_⟩
      simp [Ptp.noted, Nat.not_lt.mpr near]
    · simp only [last, Bool.not_true, decide_false, Bool.and_false, Bool.false_and, Bool.false_eq_true, if_false]
      exact ⟨rfl, nofun, fun _ three far => absurd (by simp [Ptp.noted, three, far]) last, fun _ _ => was⟩

end

end

theorem ptpSyncTimeout_unlocks (s : State) (locked : s.dev.net.ptp.locked = true) : Goes .ptpSyncTimeout s fun t =>
    t.dev.net.ptp.locked = false ∧ Raised t .ptpLockChange 0 ∧ t.dev.rtc.leapFromPtp = false := by
  obtain ⟨ptp, told, leap⟩ := setLock_changes (s := s) (d := modPtp (fun x => { x with good := 0 }) s.dev)
    (l := false) locked
  refine goes_of_nextD (by rw [exec, execPtpSyncTimeout]) ?_
  exact ⟨by rw [ptp], told, leap rfl⟩

/-! ### Messages -/

section
variable {s : State}

theorem ptpSendTimer_off (k : Fin 3) (off : s.dev.net.ptp.cfg.enable = false) : Becomes (.ptpSendTimer k) s s.dev := by
  have row : exec (.ptpSendTimer k) s = execPtpSendTimer k s := rfl
  rw [execPtpSendTimer, nextD] at row
  dsimp only at row
  rwa [off, if_pos (by decide)] at row

variable (on : s.dev.net.ptp.cfg.enable = true)
include on

theorem ptpSendTimer_sync (master : s.dev.net.ptp.isMaster = true) : Goes (.ptpSendTimer 0) s fun t =>
    Sends s t (s.dev.ptpPorts.map (fun p => .ptp p 0 []) ++ s.dev.ptpPorts.map fun p => .ptp p 8 []) := by
  refine goes_of_nextD (by rw [exec, execPtpSendTimer]) ?_
  simp only [on, master, Bool.not_true, Bool.false_eq_true, if_false, if_true]
  rfl

theorem ptpSendTimer_announce (master : s.dev.net.ptp.isMaster = true) : Goes (.ptpSendTimer 1) s fun t =>
    Sends s t (s.dev.ptpPorts.map fun p => .ptp p 0xB []) := by
  refine goes_of_nextD (by rw [exec, execPtpSendTimer]) ?_
  simp only [on, master, one_ne_zero, Bool.not_true, Bool.false_eq_true, if_false, if_true]
  rfl

theorem ptpSendTimer_pdelay (p2p : s.dev.net.ptp.cfg.p2p = true) : Goes (.ptpSendTimer 2) s fun t =>
    Sends s t (s.dev.ptpPorts.map fun p => .ptp p 2 []) := by
  refine goes_of_nextD (by rw [exec, execPtpSendTimer]) ?_
  simp only [on, p2p, Bool.not_true, Bool.false_eq_true, if_false, if_true, show (2 : Fin 3) ≠ 0 from by decide,
    show (2 : Fin 3) ≠ 1 from by decide]
  rfl

section
variable (p : Fin 2) (data : Bytes) (link : s.dev.linkUp p = true)
include link

theorem ptpDelayReqReceived_pdelay (p2p : s.dev.net.ptp.cfg.p2p = true) :
    Goes (.ptpDelayReqReceived p true data) s fun t => Sends s t [.ptp p 3 data, .ptp p 0xA data] := by
  refine goes_of_nextD (by rw [exec, execPtpDelayReqReceived]) ?_
  simp only [on, link, p2p, Bool.not_true, Bool.or_self, Bool.false_eq_true, if_false, if_true]
  rfl

theorem ptpDelayReqReceived_delay (master : s.dev.net.ptp.isMaster = true) (e2e : s.dev.net.ptp.cfg.p2p = false) :
    Goes (.ptpDelayReqReceived p false data) s fun t => Sends s t [.ptp p 9 data] := by
  refine goes_of_nextD (by rw [exec, execPtpDelayReqReceived]) ?_
  simp only [on, link, master, e2e, Bool.not_true, Bool.not_false, Bool.or_self, Bool.and_self, Bool.false_eq_true,
    if_false, if_true]
  rfl

end

theorem ptpDelayRespReceived_takes (p : Fin 2) (delay : Int) (port : s.dev.net.ptp.port = p.val) :
    Goes (.ptpDelayRespReceived p delay) s fun t => t.dev.net.ptp = { s.dev.net.ptp with delay := delay } := by
  refine goes_of_nextD (by rw [exec, execPtpDelayRespReceived]) ?_
  dsimp only
  rw [if_neg (by simp [on, port])]
  rfl

end

/-! ### The best master -/

/-- The decision keeps what the clock has heard, and whether the RTC is disciplined. -/
theorem ptpDecide_keeps (alone : Bool) (d : Dev) : (ptpDecide alone d).net.ptp.masterA = d.net.ptp.masterA ∧
    (ptpDecide alone d).net.ptp.masterB = d.net.ptp.masterB ∧
    (ptpDecide alone d).rtc.discipline = d.rtc.discipline := by
  have told {c b : Prop} [Decidable c] [Decidable b] (gm : Bool) (f g : Ptp → Ptp)
      (hf : ∀ x, (f x).masterA = x.masterA ∧ (f x).masterB = x.masterB)
      (hg : ∀ x, (g x).masterA = x.masterA ∧ (g x).masterB = x.masterB) :
      let e := if b then modPtp g (modPtp f d) else modPtp f d
      let t := if c then ptpChange gm e else e
      t.net.ptp.masterA = d.net.ptp.masterA ∧ t.net.ptp.masterB = d.net.ptp.masterB ∧
        t.rtc.discipline = d.rtc.discipline := by
    dsimp only
    split <;> split <;> simp [ptpChange_net, ptpChange_discipline, modPtp, hf, hg]
  exact told _ _ _ (fun _ => ⟨rfl, rfl⟩) fun _ => ⟨rfl, rfl⟩

/-- The clock as a slave of a master on port A. -/
def Ptp.slaveOf (m : PtpMaster) (x : Ptp) : Ptp :=
  { x with isMaster := false, port := 0, gmId := m.gmId, steps := m.steps + 1 }

/-- A slave-only clock follows the master that port A hears (Table 9.3, log entry 88). -/
theorem ptpDecide_follows (alone : Bool) {d : Dev} {m : PtpMaster} (slave : d.net.ptp.cfg.slaveOnly = true)
    (heard : d.net.ptp.masterA = some m) : (ptpDecide alone d).net.ptp = d.net.ptp.slaveOf m := by
  have best : d.bestMaster = some (0, m) := by rw [Dev.bestMaster, heard]
  have still : (modPtp (fun p => { p with
      isMaster := false, port := 0, gmId := m.gmId, steps := m.steps + 1 }) d).bestMaster = some (0, m) := best
  unfold ptpDecide
  dsimp only
  rw [best, slave]
  simp only [Bool.not_true, Bool.false_and, Bool.false_eq_true, if_false, still, Option.isNone_some,
    Bool.and_false, Bool.or_false]
  split
  · rw [ptpChange_net]; rfl
  · rfl

section
variable {s : State} (on : s.dev.net.ptp.cfg.enable = true)
include on

/-- A slave-only clock follows port A's Announce, which gives a disciplined RTC its leap offset (R341, R472). -/
theorem ptpAnnounceReceived_follows (m : PtpMaster) (utc : Int) (valid l59 l61 : Bool)
    (slave : s.dev.net.ptp.cfg.slaveOnly = true) (link : s.dev.linkUp 0 = true) :
    Goes (.ptpAnnounceReceived 0 m utc valid l59 l61) s fun t =>
      let y := t.dev.net.ptp
      y.masterA = some m ∧ y.isMaster = false ∧ y.port = 0 ∧ y.gmId = m.gmId ∧ y.steps = m.steps + 1 ∧
      (s.dev.discActive = true → valid = true → t.dev.rtc.leapFromPtp = true ∧ t.dev.rtc.leap = utc - 32) := by
  have row : exec (.ptpAnnounceReceived 0 m utc valid l59 l61) s = execPtpAnnounceReceived 0 m utc valid l59 l61 s :=
    rfl
  rw [execPtpAnnounceReceived, nextD] at row
  dsimp only at row
  rw [if_neg (by simp [on, link])] at row
  simp only [if_true] at row
  generalize hd : modPtp (fun x => { x with masterA := some m }) s.dev = d at row
  have follows : (ptpDecide false d).net.ptp = d.net.ptp.slaveOf m := by
    subst hd; exact ptpDecide_follows false slave rfl
  have heard : d.net.ptp.masterA = some m := by subst hd; rfl
  have disc : (ptpDecide false d).discActive = s.dev.discActive := by
    rw [Dev.discActive, follows, (ptpDecide_keeps false d).2.2]
    subst hd
    rfl
  refine ⟨_, row, ?_⟩
  rw [disc, follows]
  dsimp only
  split
  · next off =>
    rw [follows]
    refine ⟨heard, rfl, rfl, rfl, rfl, fun active ok => absurd off ?_⟩
    simp [active, ok, Ptp.slaveOf]
  · have saved {c : Prop} [Decidable c] (e : Dev) : (if c then e else confChanged e).net = e.net ∧
        (if c then e else confChanged e).rtc = e.rtc := by split <;> exact ⟨rfl, rfl⟩
    rw [(saved _).1, (saved _).2]
    dsimp only
    rw [follows]
    exact ⟨heard, rfl, rfl, rfl, rfl, fun _ _ => ⟨rfl, rfl⟩⟩

theorem ptpAnnounceReceiptTimeout_forgets (p : Fin 2) : Goes (.ptpAnnounceReceiptTimeout p) s fun t =>
    t.dev.net.ptp.masterA = (if p = 0 then none else s.dev.net.ptp.masterA) ∧
    t.dev.net.ptp.masterB = (if p = 0 then s.dev.net.ptp.masterB else none) := by
  refine goes_of_nextD (by rw [exec, execPtpAnnounceReceiptTimeout]) ?_
  dsimp only
  rw [on, if_neg (by decide)]
  obtain ⟨a, b, -⟩ := ptpDecide_keeps true
    (modPtp (fun x => if p = 0 then { x with masterA := none } else { x with masterB := none }) s.dev)
  rw [a, b]
  simp only [modPtp, modNet_net]
  split <;> exact ⟨rfl, rfl⟩

end

/-! ## NET_CONFIG and PTP_CONFIG (R377, R380) -/

/-- The settings apply, and what they leave of the network (R377). -/
theorem netApply_net (c : NetCfg) (d : Dev) : (netApply c d).net.cfg = c ∧
    (c.ip = 0 → (netApply c d).net.partners = [] ∧ (netApply c d).net.subscribers = []) ∧
    (c.mode = d.net.cfg.mode → c.flags = d.net.cfg.flags →
      (netApply c d).net.linkA = d.net.linkA ∧ (netApply c d).net.linkB = d.net.linkB) := by
  unfold netApply
  dsimp only
  simp only [modNet_net]
  refine ⟨?_, fun none => ?_, fun mode flags => ?_⟩
  · split <;> rfl
  · rw [if_pos none]; exact ⟨rfl, rfl⟩
  · rw [mode, flags]
    simp only [bne_self_eq_false, Bool.or_self, Bool.false_eq_true, if_false]
    split <;> exact ⟨rfl, rfl⟩

theorem netApply_mbx (c : NetCfg) (d : Dev) : (netApply c d).mbx = d.mbx := by
  have writes : Writes (Claims.raised ++ [.network, .pair]) d (netApply c d) :=
    .modNet (.when (.linkChange (.linkChange .refl)) .refl)
  exact writes .mailbox (by decide)

section
variable {s : State} {o : Origin} {p : Bytes}

theorem netConfig_applies (waits : Waits s o 0x0700 p) (pass : Claims.Pass (netTests s.dev p)) :
    Goes (.netConfig o) s fun t =>
      Answers t o stOk [] ∧ t.dev.net.cfg = netCfgOf p ∧ t.dev.pwr.netConfigured = true ∧ t.dev.pwr.confDirty = true ∧
      ((netCfgOf p).ip = 0 → t.dev.net.partners = [] ∧ t.dev.net.subscribers = []) ∧
      ((netCfgOf p).mode = s.dev.net.cfg.mode → (netCfgOf p).flags = s.dev.net.cfg.flags →
        t.dev.net.linkA = s.dev.net.linkA ∧ t.dev.net.linkB = s.dev.net.linkB) := by
  have command : exec (.netConfig o) s = execNetConfig o s := rfl
  refine goes_answers (P := fun d => d.net.cfg = netCfgOf p ∧ d.pwr.netConfigured = true ∧ d.pwr.confDirty = true ∧
    ((netCfgOf p).ip = 0 → d.net.partners = [] ∧ d.net.subscribers = []) ∧
    ((netCfgOf p).mode = s.dev.net.cfg.mode → (netCfgOf p).flags = s.dev.net.cfg.flags →
      d.net.linkA = s.dev.net.linkA ∧ d.net.linkB = s.dev.net.linkB)) command waits (Bool.and_false _) (fun _ => rfl)
    (fun _ => pass) fun m => ⟨_, rfl, netApply_mbx _ _, fun m' => ?_⟩
  obtain ⟨cfg, cleared, links⟩ := netApply_net (netCfgOf p) { s.dev with mbx := m }
  exact ⟨cfg, rfl, rfl, cleared, links⟩

/-- PTP_CONFIG applies its settings and marks them for saving, and keeps the mailboxes (R380). -/
theorem ptpApply_applies (c : PtpCfg) (d : Dev) : (ptpApply c d).net.ptp.cfg = c ∧ (ptpApply c d).pwr.confDirty = true ∧
    (ptpApply c d).mbx = d.mbx := by
  have writes : Writes (Claims.raised ++ [.network, .rtc, .power]) d (ptpApply c d) :=
    .confChanged (.modPtp (.when (.modPtp (.setLock .refl)) .refl))
  exact ⟨rfl, rfl, writes .mailbox (by decide)⟩

theorem ptpConfig_applies (waits : Waits s o 0x0703 p) (pass : Claims.Pass (ptpTests s.dev p)) :
    Goes (.ptpConfig o) s fun t => Answers t o stOk (ptpStatus t.dev) ∧
      ((byteAt p 1).testBit 7 = true → t.dev.net = s.dev.net) ∧
      ((byteAt p 1).testBit 7 = false → t.dev.net.ptp.cfg = ptpCfgOf p ∧ t.dev.pwr.confDirty = true) := by
  have command : exec (.ptpConfig o) s = execPtpConfig o s := rfl
  obtain ⟨m, t, run, answers⟩ := runCmd_answers command waits rfl (fun _ => rfl) fun _ => pass
  obtain ⟨⟨m', dev⟩, answer⟩ := answers _ _ rfl (by
    split
    · rfl
    · exact (ptpApply_applies _ _).2.2)
  refine ⟨t, run, ?_⟩
  dsimp only
  rw [dev]
  refine ⟨answer, fun read => ?_, fun write => ?_⟩
  · rw [if_pos read]
  · rw [if_neg (by rw [write]; decide)]
    exact ⟨(ptpApply_applies _ _).1, (ptpApply_applies _ _).2.1⟩

end

/-- Settles O39, one row at a time: port A's master is followed whatever port B has (log entry 88). -/
theorem portsAndClock : Obligations.PortsAndClock := by
  unfold Obligations.PortsAndClock
  intro s
  refine ⟨ethLinkChange_taken s, fun p target sender link => arpRequest_answers s p link target sender,
    fun p dst src data link => icmpEchoRequest_answers s p link dst src data,
    fun p group link => igmpQuery_answers s p link group, hsrSupervisionSend_sends s, hsrSupervisionSend_single s,
    fun p fr link known notA notB => ⟨fun mode tag => ?lan, fun mode tag => ?hsr, fun mode tag =>
      hsrPrpFrame_forwards link known notA notB mode tag⟩, hsrNodeAgeout_drops s,
    fun p offset on slave follows port => ptpSyncReceived_locks on slave follows port offset, ptpSyncTimeout_unlocks s,
    fun on master => ⟨ptpSendTimer_sync on master, ptpSendTimer_announce on master⟩, ptpSendTimer_pdelay,
    fun k => ptpSendTimer_off k, fun m utc valid l59 l61 on slave link =>
      ptpAnnounceReceived_follows on m utc valid l59 l61 slave link, fun p on => ptpAnnounceReceiptTimeout_forgets on p,
    fun p data on link => ⟨ptpDelayReqReceived_pdelay on p data link, ptpDelayReqReceived_delay on p data link⟩,
    fun p delay on port => ptpDelayRespReceived_takes on p delay port, fun o p => netConfig_applies,
    fun o p => ptpConfig_applies⟩
  case lan =>
    refine hsrPrpFrame_reports link known notA notB mode ?_
    rw [tagTested, tag]
    dsimp only
    have wrong : ∀ p : Fin 2, (decide (p = 0) != (p.val == 1)) = true := by decide
    rw [mode, if_neg (by decide), if_pos (wrong p)]
  case hsr =>
    refine hsrPrpFrame_reports link known notA notB mode ?_
    rw [tagTested, tag]
    exact if_pos mode

end Sys2Proof.Machine
end

section
/-!
PROOF. The station protocol (R345 to R349, R351, R352, R356, R378, R379, R607): what its sends leave of the network
block, then its announcements, partners, value sets, subscriptions and commands.
-/

namespace Sys2Proof.Machine

open Sys2Proof Sys2Proof.Claims

/-! ## What sending leaves of the network block -/

section
variable {dst : Word} {type : Nat} {payload : Bytes} {d : Dev}

/-- A device with an address sends the next datagram of a type (R344, R377). -/
theorem stationTo_sends (ip : d.net.cfg.ip ≠ 0) : (stationTo dst type payload d).out =
    d.out ++ [datagram d dst type payload] := by
  unfold stationTo stationSend
  dsimp only
  rw [if_neg ip]
  rfl

/-- The network block but for the numbering of datagrams and the subscriptions. -/
def Net.beyondSubs (n : Net) : Net := { n with txSeq := [], subs := [] }

theorem stationTo_net : ∃ seqs, (stationTo dst type payload d).net = { d.net with txSeq := seqs } := by
  unfold stationTo stationSend
  dsimp only
  split <;> exact ⟨_, rfl⟩

theorem stationTo_beyondSubs : (stationTo dst type payload d).net.beyondSubs = d.net.beyondSubs := by
  obtain ⟨seqs, net⟩ := stationTo_net (dst := dst) (type := type) (payload := payload) (d := d)
  rw [net]
  rfl

theorem stationTo_subscribers : (stationTo dst type payload d).net.subscribers = d.net.subscribers :=
  (congrArg Net.subscribers stationTo_beyondSubs :)

theorem stationTo_evSubs : (stationTo dst type payload d).net.evSubs = d.net.evSubs :=
  (congrArg Net.evSubs stationTo_beyondSubs :)

theorem stationTo_sub (i : Nat) : (stationTo dst type payload d).sub i = d.sub i := by
  obtain ⟨seqs, net⟩ := stationTo_net (dst := dst) (type := type) (payload := payload) (d := d)
  rw [Dev.sub, net]
  rfl

end

section
variable (d : Dev)

theorem sendSubscribe_beyondSubs (i : Nat) : (sendSubscribe i d).net.beyondSubs = d.net.beyondSubs := by
  unfold sendSubscribe
  dsimp only
  split
  · rfl
  · split
    · rfl
    · exact stationTo_beyondSubs

theorem senderChanged_beyondSubs (pid : Word) (old : Option Nat) :
    (senderChanged pid old d).net.beyondSubs = d.net.beyondSubs := by
  unfold senderChanged
  dsimp only
  split
  · rfl
  · refine foldl_proj (fun d : Dev => d.net.beyondSubs) _ (fun d i => ?_) _ d
    split
    · rfl
    · rfl
    · split
      · exact sendSubscribe_beyondSubs d i
      · rfl

theorem retryRefused_beyondSubs (pid : Word) (image : DWord) :
    (retryRefused pid image d).net.beyondSubs = d.net.beyondSubs :=
  foldl_proj (fun d : Dev => d.net.beyondSubs) _ (fun d i => by
    split
    · exact sendSubscribe_beyondSubs d i
    · rfl) _ d

theorem senderChanged_partners (pid : Word) (old : Option Nat) :
    (senderChanged pid old d).net.partners = d.net.partners :=
  (congrArg Net.partners (senderChanged_beyondSubs d pid old) :)

theorem retryRefused_partners (pid : Word) (image : DWord) : (retryRefused pid image d).net.partners = d.net.partners :=
  (congrArg Net.partners (retryRefused_beyondSubs d pid image) :)

end

theorem sub_modSub (i : Nat) (f : Sub → Sub) (d : Dev) : (modSub i f d).sub i = f (d.sub i) := by
  simp [Dev.sub, modSub, mgetD, mget_mput]

/-- A datagram that its device hears goes on with its header. -/
theorem heard_takes {s : State} {data : Bytes} {x : StHeader} {type : Nat} (heard : Heard s data x type)
    (f : StHeader → Dev) : withStation type data s.dev f = f x := by
  obtain ⟨ip, parsed, same⟩ := heard
  exact withStation_heard s.dev f ip parsed same

/-! ## Announcements (R346 to R348, R607) -/

theorem chunks_one {α : Type} {n : Nat} {l : List α} (some : l ≠ []) (fits : l.length ≤ n) : chunks n l = [l] := by
  obtain ⟨x, xs, rfl⟩ := List.exists_cons_of_ne_nil some
  have room : n ≠ 0 := by rw [List.length_cons] at fits; omega
  rw [chunks, if_neg room, chunksFuel, List.take_of_length_le fits, List.drop_eq_nil_of_le fits]
  rfl

theorem announceSend_sends {s : State} (free : s.dev.stopped = false) (master : s.dev.master = true)
    (ready : s.dev.sys.fwReady = true) (awake : s.dev.sys.recovery = false) (named : s.dev.net.cfg.partnerId ≠ 0)
    (ip : s.dev.net.cfg.ip ≠ 0) (few : s.dev.pubSets.length ≤ 64) : Goes .announceSend s fun t =>
      Sends s t [datagram s.dev announceGroup 0x01 (announcePage s.dev 0 1 s.dev.pubSets)] := by
  refine goes_of_nextD (by rw [exec, execAnnounceSend]) ?_
  have page : announce s.dev = stationTo announceGroup 0x01 (announcePage s.dev 0 1 s.dev.pubSets) s.dev := by
    unfold announce
    rw [if_neg (by simpa [free, master, ready, awake] using named), List.take_of_length_le (by omega)]
    by_cases none : s.dev.pubSets = []
    · rw [none]; rfl
    · rw [chunks_one none few]; rfl
  rw [page]
  exact stationTo_sends ip

theorem announceSend_stopped {s : State} (stopped : s.dev.stopped = true) : Becomes .announceSend s s.dev := by
  have row : Becomes .announceSend s (announce s.dev) := rfl
  rwa [announce, if_pos (by rw [stopped]; rfl)] at row

/-! ## The partner table (R347, R348) -/

theorem lget_modify {α : Type} [Inhabited α] {l : List α} {k : Nat} (inside : k < l.length) (f : α → α) :
    lget (l.modify k f) k = f (lget l k) := by
  simp [lget, List.getElem?_eq_getElem inside]

section
variable {d : Dev} {k : Nat}

theorem partnerOf_lt {pid : Word} {sender : DWord} (known : d.partnerOf pid sender = some k) :
    k < d.net.partners.length :=
  List.mem_range.mp (List.mem_of_find?_eq_some known)

theorem newEntry_le (entry : d.newEntry = some k) : k ≤ d.net.partners.length := by
  unfold Dev.newEntry at entry
  dsimp only at entry
  split at entry
  · next j free =>
    obtain rfl : j = k := Option.some.inj entry
    exact Nat.le_of_lt (List.mem_range.mp (List.mem_of_find?_eq_some free))
  split at entry
  · exact (Option.some.inj entry).ge
  · refine List.foldlRecOn (motive := fun a : Option Nat => ∀ k, a = some k → k ≤ d.net.partners.length) _ _
      (fun _ none => absurd none (by simp)) (fun a ih j mem k chosen => ?_) k entry
    have inside : j ≤ d.net.partners.length := Nat.le_of_lt (List.mem_range.mp (List.mem_filter.mp mem).1)
    cases a with
    | none => exact Option.some.inj chosen ▸ inside
    | some i =>
      dsimp only at chosen
      split at chosen
      · exact Option.some.inj chosen ▸ inside
      · exact ih _ chosen

theorem present_lt (present : (lget d.net.partners k).state = .present) : k < d.net.partners.length := by
  by_contra outside
  rw [lget, List.getElem?_eq_none (Nat.le_of_not_lt outside)] at present
  exact absurd present (by decide)

/-- A PRESENT partner is LOST with its cause (R348). -/
theorem partnerLost_loses (s : State) (present : (lget d.net.partners k).state = .present) (cause : Nat) :
    (lget (partnerLost k cause d).net.partners k).state = .lost ∧
    (lget (partnerLost k cause d).net.partners k).lossCause = cause ∧
    Raised { s with dev := partnerLost k cause d } .partnerLost (k + 512 * cause) := by
  unfold partnerLost
  dsimp only
  rw [if_neg (by rw [present]; decide)]
  rw [senderChanged_partners, raise_net, modNet_net, modPartner, modNet_net]
  dsimp only
  rw [lget_modify (present_lt present)]
  have asks {pid : Word} {old : Option Nat} {e : Dev} : Writes [.network, .sent] e (senderChanged pid old e) :=
    .senderChanged .refl
  exact ⟨rfl, rfl, asks.raised (s := s) (raised_raise _ _ _ (by decide))⟩

end

section
variable {s : State}

theorem announceTimeout_loses (k : Fin 512) (present : (lget s.dev.net.partners k).state = .present)
    (silent : (lget s.dev.net.partners k).lastAnn +
      s.dev.net.cfg.lossCount * (lget s.dev.net.partners k).annPeriod * 20 ≤ s.dev.tick) :
    Goes (.announceTimeout k) s fun t =>
      (lget t.dev.net.partners k).state = .lost ∧ (lget t.dev.net.partners k).lossCause = 1 ∧
      Raised t .partnerLost (k + 512) := by
  refine goes_of_nextD (by rw [exec, execAnnounceTimeout]) ?_
  dsimp only
  rw [if_pos silent]
  exact partnerLost_loses s present 1

variable {ip : Word} {data : Bytes} {x : StHeader}

theorem withdrawReceived_loses {k : Nat} (heard : Heard s data x 0x02)
    (known : s.dev.partnerOf x.partner x.sender = some k) (from_ : (lget s.dev.net.partners k).ip = ip)
    (present : (lget s.dev.net.partners k).state = .present) : Goes (.withdrawReceived ip data) s fun t =>
      (lget t.dev.net.partners k).state = .lost ∧ (lget t.dev.net.partners k).lossCause = 4 ∧
      Raised t .partnerLost (k + 2048) := by
  refine goes_of_nextD (by rw [exec, execWithdrawReceived]) ?_
  dsimp only
  rw [heard_takes heard, known]
  dsimp only
  rw [from_, beq_self_eq_true, if_pos rfl]
  exact partnerLost_loses s present 4

section
variable (heard : Heard s data x 0x01) (master : s.dev.master = true) (ok : announceOk x = true)
include heard master ok

theorem announceReceived_takes : Becomes (.announceReceived ip data) s (announced ip x s.dev) := by
  have row : exec (.announceReceived ip data) s = execAnnounceReceived ip data s := rfl
  rw [execAnnounceReceived, nextD] at row
  rwa [master, heard_takes heard, ok] at row

theorem announceReceived_updates {k : Nat} (known : s.dev.partnerOf x.partner x.sender = some k) :
    Goes (.announceReceived ip data) s fun t =>
      lget t.dev.net.partners k = annUpdate ip x s.dev.tick (lget s.dev.net.partners k) := by
  refine goes_of_becomes (announceReceived_takes heard master ok) ?_
  have took : (announced ip x s.dev).net.partners = s.dev.net.partners.modify k (annUpdate ip x s.dev.tick) := by
    unfold announced
    rw [known]
    dsimp only
    split <;> simp only [retryRefused_partners, senderChanged_partners] <;> rfl
  rw [took, lget_modify (partnerOf_lt known)]

theorem announceReceived_new {k : Nat} (unknown : s.dev.partnerOf x.partner x.sender = none)
    (entry : s.dev.newEntry = some k) : Goes (.announceReceived ip data) s fun t =>
      lget t.dev.net.partners k = annUpdate ip x s.dev.tick {} ∧ Raised t .partnerNew k := by
  refine goes_of_becomes (announceReceived_takes heard master ok) ?_
  have inside := newEntry_le entry
  have asks {pid : Word} {old : Option Nat} {e : Dev} : Writes [.network, .sent] e (senderChanged pid old e) :=
    .senderChanged .refl
  unfold announced
  rw [unknown, entry]
  dsimp only
  refine ⟨?_, asks.raised (s := s) (raised_raise _ _ _ (by decide))⟩
  rw [senderChanged_partners, raise_net, modNet_net]
  dsimp only
  split
  · next old => simp [lget, old]
  · next new => simp [lget, show k = s.dev.net.partners.length by omega]

theorem announceReceived_drops (unknown : s.dev.partnerOf x.partner x.sender = none)
    (full : s.dev.newEntry = none) : Goes (.announceReceived ip data) s fun t =>
      t.dev.net = { s.dev.net with dropped := min 0xFFFFFFFF (s.dev.net.dropped + 1) } := by
  refine goes_of_becomes (announceReceived_takes heard master ok) ?_
  dsimp only
  unfold announced
  rw [unknown, full]
  rfl

end

theorem datagramRejected_counts (addr : s.dev.net.cfg.ip ≠ 0) {frag : Bool}
    (bad : stationParse data = none ∨ frag = true ∧ getBe data 3 1 ≠ 0x20 ∧ getBe data 3 1 ≠ 0x21) :
    Becomes (.datagramRejected data frag) s
      { s.dev with net := { s.dev.net with discarded := s.dev.net.discarded + 1 } } := by
  have row : exec (.datagramRejected data frag) s = execDatagramRejected data frag s := rfl
  rw [execDatagramRejected, nextD] at row
  dsimp only at row
  rw [if_neg addr] at row
  cases parsed : stationParse data with
  | none => rwa [parsed] at row
  | some x =>
    obtain none | ⟨rfl, command, response⟩ := bad
    · exact absurd (parsed.symm.trans none) (by simp)
    · rw [parsed] at row
      dsimp only at row
      rwa [if_pos (by simp [command, response])] at row

end

/-! ## Value sets (R352) -/

section
variable {ps : List Part} {d e : Dev}

theorem Writes.readTV {path id v} (h : Writes ps d e) (hs : .sys ∈ ps := by decide) :
    Writes ps d (readTV path id v e).2 :=
  .ite h (.countCheck h hs)

theorem Writes.arrive {t el v} (h : Writes ps d e) (hs : [.tasks, .inputs] ⊆ ps := by decide) :
    Writes ps d (arrive t el v e) := by
  refine h.then hs ?_
  have waits : Writes [.tasks, .inputs] e (awaitFreeze el v e) := .modPIn .refl
  unfold Machine.arrive
  dsimp only
  split
  · exact waits
  · exact waits
  · exact waits
  · exact .ite waits (.ite .refl (.takeInput .refl))

end

theorem seqGreater_self (c : Word) : seqGreater c c = false := by simp [seqGreater]

section
variable {i k : Nat} {x : SetDecl} {d : Dev}

/-- A subscription with a complete set, acknowledged to the followed sender. -/
def acknowledged (i : Nat) (x : SetDecl) (k : Nat) (cycle : Word) (d : Dev) : Dev :=
  let d := modSub i (fun u => { u with
    lastCycle := some cycle, lastFrom := (lget d.net.partners k).sender, held := min 0xFFFFFFFF (u.held + 1)
    asmCycle := none, asmFrags := [] }) d
  if d.mayExchange then
    stationTo (lget d.net.partners k).ip 0x11 (beBytes 2 x.setNo ++ zeros 2 ++ beBytes 4 cycle.toNat) d
  else d

/-- The values of a complete set go to inputs alone. -/
theorem instanceHeld_writes (cycle : Word) (vals : List TV) :
    Writes [.sys, .tasks, .inputs] (acknowledged i x k cycle d) (instanceHeld i x k cycle vals d) := by
  unfold instanceHeld
  dsimp only
  exact .foldl .refl fun _ _ => .arrive (.readTV .refl)

/-- A complete set is its subscription's last one, and is acknowledged to the followed sender (R352). -/
theorem instanceHeld_holds (cycle : Word) (vals : List TV) :
    let t := instanceHeld i x k cycle vals d
    (t.sub i).lastCycle = some cycle ∧ (t.sub i).lastFrom = (lget d.net.partners k).sender ∧
    (t.sub i).held = min 0xFFFFFFFF ((d.sub i).held + 1) ∧
    (d.mayExchange = true → d.net.cfg.ip ≠ 0 →
      datagram d (lget d.net.partners k).ip 0x11 (beBytes 2 x.setNo ++ zeros 2 ++ beBytes 4 cycle.toNat) ∈ t.out) := by
  have arrives := instanceHeld_writes (i := i) (x := x) (k := k) (d := d) cycle vals
  have out : (instanceHeld i x k cycle vals d).out = (acknowledged i x k cycle d).out := arrives .sent (by decide)
  dsimp only
  rw [Dev.sub, arrives.net, ← Dev.sub, out]
  have sub : (acknowledged i x k cycle d).sub i = { d.sub i with
      lastCycle := some cycle, lastFrom := (lget d.net.partners k).sender, held := min 0xFFFFFFFF ((d.sub i).held + 1)
      asmCycle := none, asmFrags := [] } := by
    unfold acknowledged
    dsimp only
    split
    · rw [stationTo_sub, sub_modSub]
    · rw [sub_modSub]
  rw [sub]
  refine ⟨rfl, rfl, rfl, fun may ip => ?_⟩
  unfold acknowledged
  dsimp only
  rw [if_pos (by exact may), stationTo_sends (by exact ip)]
  exact List.mem_append_right _ (List.mem_singleton_self _)

/-- The one fragment of a newer set, or of one from a new sender, completes a set (R349, R352). -/
theorem takeFragment_holds {p : Bytes} (ok : fragOk x.items.length p = true) (some_ : 1 ≤ x.items.length)
    (one : x.items.length ≤ 176)
    (newer : (d.sub i).lastFrom ≠ (lget d.net.partners k).sender ∨ ∀ c, (d.sub i).lastCycle = some c →
      seqGreater (BitVec.ofNat 32 (getBe p 4 4)) c = true)
    (fresh : ∀ c, (d.sub i).asmCycle = some c → seqGreater (BitVec.ofNat 32 (getBe p 4 4)) c = true) :
    ∃ vals, takeFragment i x k p d = instanceHeld i x k (BitVec.ofNat 32 (getBe p 4 4)) vals d := by
  unfold takeFragment
  dsimp only
  generalize (BitVec.ofNat 32 (getBe p 4 4) : Word) = cycle at *
  have notAgain : ((d.sub i).lastFrom == (lget d.net.partners k).sender &&
      (d.sub i).lastCycle == some cycle) = false := by
    obtain other | greater := newer
    · simp [other]
    · have differs : (d.sub i).lastCycle ≠ some cycle := fun last =>
        absurd (greater _ last) (by rw [seqGreater_self]; decide)
      simp [differs]
  have notOld : ((d.sub i).lastFrom == (lget d.net.partners k).sender &&
      (d.sub i).lastCycle.any (fun c => !seqGreater cycle c)) = false := by
    obtain other | greater := newer
    · simp [other]
    · cases last : (d.sub i).lastCycle with
      | none => simp
      | some c => simp [greater c last]
  have fragments : 1 = (x.items.length + 175) / 176 := by omega
  rw [ok, notAgain, notOld]
  cases asm : (d.sub i).asmCycle with
  | none => exact ⟨_, if_pos fragments⟩
  | some c =>
    simp only [fresh c asm]
    exact ⟨_, if_pos fragments⟩

end

section
variable {s : State} {ip : Word} {data : Bytes} {x : StHeader} {i k : Nat} (heard : Heard s data x 0x10)
  (master : s.dev.master = true) (followed : s.dev.subFrom x (getBe x.payload 0 2) = some (i, k))
  (active : (s.dev.sub i).state = .active) (from_ : (lget s.dev.net.partners k).ip = ip)
include heard master followed active from_

theorem setDataReceived_takes : Becomes (.setDataReceived ip data) s
    (takeFragment i (lget s.dev.subSets i) k x.payload s.dev) := by
  have row : exec (.setDataReceived ip data) s = execSetDataReceived ip data s := rfl
  rw [execSetDataReceived, nextD, master, heard_takes heard, followed] at row
  dsimp only at row
  rwa [active, from_, beq_self_eq_true ip] at row

theorem setDataReceived_discards (bad : fragOk (lget s.dev.subSets i).items.length x.payload = false) :
    Goes (.setDataReceived ip data) s fun t =>
      t.dev.net = { s.dev.net with discarded := s.dev.net.discarded + 1 } := by
  refine goes_of_becomes (setDataReceived_takes heard master followed active from_) ?_
  unfold takeFragment
  dsimp only
  rw [bad]
  rfl

variable (ok : fragOk (lget s.dev.subSets i).items.length x.payload = true)
include ok

theorem setDataReceived_old (same : (s.dev.sub i).lastFrom = (lget s.dev.net.partners k).sender)
    (old : ∃ c, (s.dev.sub i).lastCycle = some c ∧ seqGreater (BitVec.ofNat 32 (getBe x.payload 4 4)) c = false) :
    Goes (.setDataReceived ip data) s fun t =>
      t.dev.net.subs = s.dev.net.subs ∧ t.dev.prog = s.dev.prog := by
  refine goes_of_becomes (setDataReceived_takes heard master followed active from_) ?_
  obtain ⟨c, last, notNewer⟩ := old
  unfold takeFragment
  dsimp only
  rw [ok, if_neg (by decide)]
  by_cases again : ((s.dev.sub i).lastFrom == (lget s.dev.net.partners k).sender &&
      (s.dev.sub i).lastCycle == some (BitVec.ofNat 32 (getBe x.payload 4 4))) = true
  · rw [if_pos again]; exact ⟨rfl, rfl⟩
  · rw [if_neg again, if_pos (by simp [same, last, notNewer])]; exact ⟨rfl, rfl⟩

/-- A newer set of one fragment, or one from a new sender, is held and acknowledged (R349, R352). -/
theorem setDataReceived_holds (some_ : 1 ≤ (lget s.dev.subSets i).items.length)
    (one : (lget s.dev.subSets i).items.length ≤ 176)
    (newer : (s.dev.sub i).lastFrom ≠ (lget s.dev.net.partners k).sender ∨ ∀ c, (s.dev.sub i).lastCycle = some c →
      seqGreater (BitVec.ofNat 32 (getBe x.payload 4 4)) c = true)
    (fresh : ∀ c, (s.dev.sub i).asmCycle = some c →
      seqGreater (BitVec.ofNat 32 (getBe x.payload 4 4)) c = true) :
    Goes (.setDataReceived ip data) s fun t =>
      (t.dev.sub i).lastCycle = some (BitVec.ofNat 32 (getBe x.payload 4 4)) ∧
      (t.dev.sub i).lastFrom = (lget s.dev.net.partners k).sender ∧
      (t.dev.sub i).held = min 0xFFFFFFFF ((s.dev.sub i).held + 1) ∧
      (s.dev.mayExchange = true →
        datagram s.dev ip 0x11 (beBytes 2 (lget s.dev.subSets i).setNo ++ zeros 2 ++
          beBytes 4 (BitVec.ofNat 32 (getBe x.payload 4 4) : Word).toNat) ∈ t.dev.out) := by
  refine goes_of_becomes (setDataReceived_takes heard master followed active from_) ?_
  obtain ⟨vals, holds⟩ := takeFragment_holds (k := k) ok some_ one newer fresh
  obtain ⟨lastCycle, lastFrom, held, acks⟩ := instanceHeld_holds (i := i) (x := lget s.dev.subSets i) (k := k)
    (d := s.dev) (BitVec.ofNat 32 (getBe x.payload 4 4)) vals
  dsimp only
  rw [holds]
  exact ⟨lastCycle, lastFrom, held, fun may => from_ ▸ acks may heard.1⟩

end

theorem setAckReceived_records {s : State} {ip : Word} {data : Bytes} {x : StHeader} (heard : Heard s data x 0x11)
    (whole : x.payload.length = 8) :
    let c : Word := BitVec.ofNat 32 (getBe x.payload 4 4)
    Goes (.setAckReceived ip data) s fun t =>
      t.dev.net.subscribers.length = s.dev.net.subscribers.length ∧
      ∀ (i : Nat) (y : Subscriber), s.dev.net.subscribers[i]? = some y →
        let own := y.setNo = getBe x.payload 0 2 ∧ y.partnerId = x.partner ∧ y.sender = x.sender ∧ y.ip = ip ∧
          ∀ l, y.lastAck = some l → seqGreater c l = true
        (own → t.dev.net.subscribers[i]? = some { y with lastAck := some c }) ∧
        (¬own → t.dev.net.subscribers[i]? = some y) := by
  have row : exec (.setAckReceived ip data) s = execSetAckReceived ip data s := rfl
  rw [execSetAckReceived, nextD, heard_takes heard] at row
  dsimp only at row
  rw [if_neg (by rw [whole]; decide)] at row
  refine ⟨_, row, List.length_map _, fun i y at_ => ?_⟩
  dsimp only
  rw [modNet_net, List.getElem?_map, at_]
  have own : (y.setNo == getBe x.payload 0 2 && y.partnerId == x.partner && y.sender == x.sender && y.ip == ip &&
      y.lastAck.all fun l => seqGreater (BitVec.ofNat 32 (getBe x.payload 4 4)) l) = true ↔
      y.setNo = getBe x.payload 0 2 ∧ y.partnerId = x.partner ∧ y.sender = x.sender ∧ y.ip = ip ∧
        ∀ l, y.lastAck = some l → seqGreater (BitVec.ofNat 32 (getBe x.payload 4 4)) l = true := by
    simp only [Bool.and_eq_true, beq_iff_eq, Option.all_eq_true, and_assoc]
  refine ⟨fun mine => ?_, fun other => ?_⟩
  · exact congrArg some (if_pos (own.mpr mine))
  · exact congrArg some (if_neg fun mine => other (own.mp mine))

/-! ## Subscriptions (R351, R356) -/

section
variable {s : State} {ip : Word} {data : Bytes} {x : StHeader}

section
variable (heard : Heard s data x 0x12) (whole : x.payload.length = 12) (zero : allZero x.payload 2 2 = true)
include heard whole zero

/-- A request for a value set is answered, and its subscriber recorded where it is granted (R351). -/
theorem subscribeReqReceived_set (set_ : getBe x.payload 0 2 ≠ 0xFFFF) (free : s.dev.stopped = false)
    (master : s.dev.master = true) : Goes (.subscribeReqReceived ip data) s fun t =>
      Sends s t [datagram s.dev ip 0x13
        (beBytes 2 (getBe x.payload 0 2) ++ beBytes 1 (s.dev.subscribeResult x) ++ zeros 1)] ∧
      (s.dev.subscribeResult x ≠ 0 → t.dev.net.subscribers = s.dev.net.subscribers) ∧
      (s.dev.subscribeResult x = 0 → ∃ y ∈ t.dev.net.subscribers, y.setNo = getBe x.payload 0 2 ∧
        y.partnerId = x.partner ∧ y.sender = x.sender ∧ y.ip = ip ∧ y.lost = false) := by
  have row : exec (.subscribeReqReceived ip data) s = execSubscribeReqReceived ip data s := rfl
  rw [execSubscribeReqReceived, nextD, heard_takes heard] at row
  dsimp only at row
  rw [whole, zero, free, master, if_neg (by decide), if_neg set_, if_neg (by decide)] at row
  refine ⟨_, row, ?_⟩
  by_cases granted : s.dev.subscribeResult x = 0
  · rw [granted]
    refine ⟨stationTo_sends heard.1, fun refused => absurd rfl refused, fun _ => ?_⟩
    dsimp only [subscribeAnswer]
    rw [if_neg (by decide), stationTo_subscribers]
    exact ⟨_, List.mem_append_right _ (List.mem_singleton_self _), rfl, rfl, rfl, rfl, rfl⟩
  · dsimp only
    rw [if_pos (bne_iff_ne.mpr granted)]
    exact ⟨stationTo_sends heard.1, fun _ => stationTo_subscribers, fun none => absurd none granted⟩

/-- A request for events is granted while fewer than 8 stations subscribe to them (R356). -/
theorem subscribeReqReceived_events (events : getBe x.payload 0 2 = 0xFFFF) (plain : getBe x.payload 4 4 = 0)
    (room : s.dev.net.evSubs.length < 8) : Goes (.subscribeReqReceived ip data) s fun t =>
      Sends s t [datagram s.dev ip 0x13 (beBytes 2 (getBe x.payload 0 2) ++ beBytes 1 0 ++ zeros 1)] ∧
      ⟨x.partner, x.sender, ip⟩ ∈ t.dev.net.evSubs := by
  have row : exec (.subscribeReqReceived ip data) s = execSubscribeReqReceived ip data s := rfl
  rw [execSubscribeReqReceived, nextD, heard_takes heard] at row
  dsimp only at row
  have others := List.length_filter_le (fun y : EvSub => !(y.partnerId == x.partner && y.sender == x.sender))
    s.dev.net.evSubs
  rw [whole, zero, if_neg (by decide), if_pos events, plain, if_neg (by decide), if_neg (by omega)] at row
  refine ⟨_, row, stationTo_sends heard.1, ?_⟩
  dsimp only [subscribeAnswer]
  rw [stationTo_evSubs]
  exact List.mem_append_right _ (List.mem_singleton_self _)

end

/-- An answer makes a requested subscription active, or refused with its reason (R351). -/
theorem subscribeRespReceived_answers {i k : Nat} (heard : Heard s data x 0x13) (whole : x.payload.length = 4)
    (followed : s.dev.subFrom x (getBe x.payload 0 2) = some (i, k)) (asked : (s.dev.sub i).state = .requested)
    (from_ : (lget s.dev.net.partners k).ip = ip) :
    Goes (.subscribeRespReceived ip data) s fun t =>
      (t.dev.sub i).reason = byteAt x.payload 2 ∧
      (t.dev.sub i).state = if byteAt x.payload 2 = 0 then .active else .refused := by
  have row : exec (.subscribeRespReceived ip data) s = execSubscribeRespReceived ip data s := rfl
  rw [execSubscribeRespReceived, nextD, heard_takes heard] at row
  dsimp only at row
  rw [whole, if_neg (by decide), followed] at row
  dsimp only at row
  rw [if_neg (by simp [asked, from_])] at row
  refine ⟨_, row, ?_⟩
  dsimp only
  by_cases accepted : byteAt x.payload 2 = 0
  · rw [accepted, if_neg (by decide), if_pos rfl]
    have joins (group : Word) (d : Dev) : (emit (.igmpReport group) (modNet (fun n => { n with
        groups := n.groups ++ [group] }) d)).sub i = d.sub i := rfl
    have active : (modSub i (fun u => { u with state := .active, reason := 0 }) s.dev).sub i =
        { s.dev.sub i with state := .active, reason := 0 } := sub_modSub i _ _
    split
    · split
      · rw [active]; exact ⟨rfl, rfl⟩
      · rw [joins, active]; exact ⟨rfl, rfl⟩
    · rw [active]; exact ⟨rfl, rfl⟩
  · rw [if_pos (bne_iff_ne.mpr accepted), if_neg accepted, sub_modSub]
    exact ⟨rfl, rfl⟩

end

/-- A request to a sender leaves in one datagram, where the device may exchange sets (R351, R607). -/
theorem sendSubscribe_requests {d : Dev} {i j : Nat} (selected : d.selectSender (lget d.subSets i).partner = some j) :
    ((sendSubscribe i d).sub i).state = .requested ∧
    (d.mayExchange = true → d.net.cfg.ip ≠ 0 → (sendSubscribe i d).out = d.out ++ [datagram d
      (lget d.net.partners j).ip 0x12 (beBytes 2 (lget d.subSets i).setNo ++ zeros 2 ++
        beBytes 4 (lget d.subSets i).signature.toNat ++ beBytes 4 (d.task (lget d.subSets i).task).cfg.period)]) := by
  unfold sendSubscribe
  dsimp only
  rw [selected]
  dsimp only
  refine ⟨?_, fun may ip => ?_⟩
  · split
    · rw [sub_modSub]
    · rw [stationTo_sub, sub_modSub]
  · rw [if_neg (by rw [show (modSub i _ d).mayExchange = true from may]; decide)]
    exact stationTo_sends ip

theorem subscribeRetry_requests {s : State} (k : Fin 256) {j : Nat} (asked : (s.dev.sub k).state = .requested)
    (selected : s.dev.selectSender (lget s.dev.subSets k).partner = some j) (may : s.dev.mayExchange = true)
    (ip : s.dev.net.cfg.ip ≠ 0) : Goes (.subscribeRetry k) s fun t =>
      (t.dev.sub k).state = .requested ∧
      Sends s t [datagram s.dev (lget s.dev.net.partners j).ip 0x12 (
        beBytes 2 (lget s.dev.subSets k).setNo ++ zeros 2 ++
        beBytes 4 (lget s.dev.subSets k).signature.toNat ++
        beBytes 4 (s.dev.task (lget s.dev.subSets k).task).cfg.period)] := by
  refine goes_of_nextD (by rw [exec, execSubscribeRetry]) ?_
  dsimp only
  rw [asked, if_pos (by decide)]
  obtain ⟨requested, sends⟩ := sendSubscribe_requests selected
  exact ⟨requested, sends may ip⟩

theorem eventFrameSend_sends (s : State) : Goes .eventFrameSend s fun t =>
    t.dev.evt = { s.dev.evt with netQueue := [] } ∧
    ∀ y, s.dev.net.evSubs = [y] → s.dev.net.cfg.ip ≠ 0 → s.dev.evt.netQueue ≠ [] → s.dev.evt.netQueue.length ≤ 32 →
      Sends s t [datagram s.dev y.ip 0x30 (s.dev.evt.netQueue.flatMap eventBe)] := by
  refine goes_of_nextD (by rw [exec, execEventFrameSend]) ?_
  have leaves (frames : List Bytes) (subs : List EvSub) (d : Dev) : Writes [.network, .sent] d
      (subs.foldl (fun d x => frames.foldl (fun d f => stationTo x.ip 0x30 f d) d) d) :=
    .foldl .refl fun _ _ => .foldl .refl fun _ _ => .stationTo .refl
  refine ⟨leaves _ _ _ .events (by decide), fun y only ip some_ few => ?_⟩
  dsimp only
  rw [only, chunks_one some_ few]
  exact stationTo_sends ip

/-! ## PARTNER_TABLE_READ and SUBSCRIBE (R378, R379) -/

/-- The number of two bytes. -/
theorem fromLe_leBytes_half {v : Nat} (small : v < 65536) : fromLe (leBytes 2 v) = v := by
  rw [fromLe_leBytes, Nat.mod_eq_of_lt (by omega)]

/-- The payload of PARTNER_TABLE_READ (R378). -/
def tableReq (first count : Nat) : Bytes := leBytes 2 first ++ leBytes 2 count

/-- The payload of SUBSCRIBE for one subscription (R379). -/
def subReq (op : Byte) (i : Nat) : Bytes := [op, 0] ++ leBytes 2 i ++ leBytes 2 1 ++ zeros 2

section
variable {first count i : Nat} {op : Byte}

theorem tableReq_first (small : first < 65536) : getLe (tableReq first count) 0 2 = first := fromLe_leBytes_half small

theorem tableReq_count (small : count < 65536) : getLe (tableReq first count) 2 2 = count := fromLe_leBytes_half small

theorem subReq_op : byteAt (subReq op i) 0 = op.toNat := rfl

theorem subReq_first (small : i < 65536) : getLe (subReq op i) 2 2 = i := fromLe_leBytes_half small

theorem subReq_count : getLe (subReq op i) 4 2 = 1 := rfl

theorem subReq_reserved : resv (subReq op i) [(1, 1), (6, 2)] = (false, stBadParam) := rfl

end

/-- One operation of SUBSCRIBE keeps what is not the network block's. -/
theorem subOp_writes (op i : Nat) (d : Dev) : Writes [.network, .sent] d (subOp op i d) := by
  unfold subOp
  split
  · exact .modSub .refl
  · exact .unless (.sendSubscribe .refl) .refl
  · exact .sendSubscribe (.modSub .refl)
  · exact .refl

theorem subOp_suspends (i : Nat) (d : Dev) : ((subOp 1 i d).sub i).state = .suspended := by rw [subOp, sub_modSub]

theorem subOp_refused {i : Nat} {d : Dev} (refused : (d.sub i).state = .refused) : subOp 2 i d = d :=
  if_pos (by rw [refused]; rfl)

theorem subOp_retries {i j : Nat} {d : Dev} (selected : d.selectSender (lget d.subSets i).partner = some j) :
    ((subOp 3 i d).sub i).state = .requested :=
  (sendSubscribe_requests (d := modSub i (fun u => { u with reason := 0 }) d) selected).1

section
variable {s : State} {o : Origin}

theorem partnerTableRead_answers {first count : Nat} (waits : Waits s o 0x0701 (tableReq first count))
    (inside : first ≤ 511) (some_ : 1 ≤ count) (few : count ≤ 100) :
    Goes (.partnerTableRead o) s fun t => t.dev.net = s.dev.net ∧
      Answers t o stOk (leBytes 2 (s.dev.net.partners.filter fun p => p.state != .free).length ++
        leBytes 2 (min count (512 - first)) ++ leBytes 4 s.dev.net.dropped ++
        leBytes 4 (min 0xFFFFFFFF s.dev.net.discarded) ++ zeros 4 ++
        (List.range (min count (512 - first))).flatMap fun i => partnerBytes s.dev (first + i)) := by
  have command : exec (.partnerTableRead o) s = execPartnerTableRead o s := rfl
  have first_ := tableReq_first (first := first) (count := count) (by omega)
  have count_ := tableReq_count (first := first) (count := count) (by omega)
  have pass : Claims.Pass [lenIs (tableReq first count) 4, (decide (511 < getLe (tableReq first count) 0 2) ||
      getLe (tableReq first count) 2 2 == 0 || decide (100 < getLe (tableReq first count) 2 2), stRange)] := by
    rw [first_, count_, Claims.Pass, firstFail_eq_none]
    simp only [List.forall_mem_cons, List.not_mem_nil, false_imp_iff, implies_true, and_true]
    exact ⟨rfl, by simp; omega⟩
  refine Exists.imp (fun t ⟨run, answers, net⟩ => ⟨run, net, answers⟩) (goes_answers (P := fun d => d.net = s.dev.net)
    command waits (Bool.and_false _) (fun _ => rfl) (fun _ => pass) fun m =>
      ⟨{ s.dev with mbx := m }, ?_, rfl, fun _ => rfl⟩)
  dsimp only
  rw [first_, count_]
  rfl

theorem subscribe_operates {op : Byte} {i : Nat} (waits : Waits s o 0x0702 (subReq op i)) (known : op.toNat ≤ 3)
    (may : op ≠ 0 → s.dev.passive = false ∧ s.dev.master = true) (inside : i < s.dev.subSets.length)
    (small : i < 65536) :
    Goes (.subscribe o) s fun t =>
      Answers t o stOk (leBytes 2 s.dev.subSets.length ++ leBytes 2 1 ++ subBytes t.dev i) ∧
      (op = 0 → t.dev.net = s.dev.net) ∧ (op = 1 → (t.dev.sub i).state = .suspended) ∧
      (op = 2 → (s.dev.sub i).state = .refused → t.dev.net = s.dev.net) ∧
      (op = 3 → ∀ j, s.dev.selectSender (lget s.dev.subSets i).partner = some j →
        (t.dev.sub i).state = .requested) := by
  have command : exec (.subscribe o) s = execSubscribe o s := rfl
  have first := subReq_first (op := op) small
  have pass (m : Mbx) : Claims.Pass [
      (byteAt (subReq op i) 0 != 0 && (Dev.passive { s.dev with mbx := m } || !Dev.master { s.dev with mbx := m }),
        stNotPermitted),
      lenIs (subReq op i) 8, resv (subReq op i) [(1, 1), (6, 2)],
      (getLe (subReq op i) 4 2 == 0 || decide (128 < getLe (subReq op i) 4 2) ||
        decide (s.dev.subSets.length < getLe (subReq op i) 2 2 + getLe (subReq op i) 4 2), stRange),
      (decide (3 < byteAt (subReq op i) 0), stBadParam)] := by
    rw [subReq_op, subReq_reserved, first, subReq_count, Claims.Pass, firstFail_eq_none]
    simp only [List.forall_mem_cons, List.not_mem_nil, false_imp_iff, implies_true, and_true]
    refine ⟨?_, rfl, trivial, by simpa using inside, by simpa using known⟩
    · by_cases read : op = 0
      · rw [read]; rfl
      · obtain ⟨running, master⟩ := may read
        rw [show Dev.passive { s.dev with mbx := m } = false from running,
          show Dev.master { s.dev with mbx := m } = true from master]
        exact Bool.and_false _
  obtain ⟨m, t, run, answers⟩ := runCmd_answers command waits (by decide) (fun _ => rfl) pass
  have writes := subOp_writes op.toNat i { s.dev with mbx := m }
  have one : (List.range (getLe (subReq op i) 4 2)).map (getLe (subReq op i) 2 2 + ·) = [i] := by
    rw [first, subReq_count]; rfl
  have sets : (subOp op.toNat i { s.dev with mbx := m }).subSets = s.dev.subSets := by
    rw [Dev.subSets, writes.prog]; rfl
  obtain ⟨⟨m', dev⟩, answer⟩ := answers (subOp op.toNat i { s.dev with mbx := m }) (leBytes 2 s.dev.subSets.length ++
    leBytes 2 1 ++ subBytes (subOp op.toNat i { s.dev with mbx := m }) i) (by
      dsimp only
      rw [one, subReq_op, List.foldl_cons, List.foldl_nil, sets, List.flatMap_singleton]
      rfl) (writes .mailbox (by decide))
  refine ⟨t, run, ?_⟩
  dsimp only
  rw [dev]
  refine ⟨answer, ?_, ?_, ?_, ?_⟩
  · rintro rfl; rfl
  · rintro rfl
    exact subOp_suspends i { s.dev with mbx := m }
  · rintro rfl refused
    exact (congrArg Dev.net (subOp_refused (d := { s.dev with mbx := m }) refused) :)
  · rintro rfl j selected
    exact subOp_retries (d := { s.dev with mbx := m }) selected

end

/-- Settles O40, one row at a time. -/
theorem stationProtocol : Obligations.StationProtocol := by
  unfold Obligations.StationProtocol
  intro s
  refine ⟨announceSend_sends, announceSend_stopped, fun ip data x heard master ok =>
      ⟨fun k => announceReceived_updates heard master ok, fun unknown =>
        ⟨fun k => announceReceived_new heard master ok unknown, announceReceived_drops heard master ok unknown⟩⟩,
    fun k present silent => announceTimeout_loses k present silent,
    fun ip data x k heard known from_ present => withdrawReceived_loses heard known from_ present,
    fun addr data frag bad => datagramRejected_counts addr bad, ?sets,
    fun ip data x heard whole => setAckReceived_records heard whole, fun ip data x heard whole zero =>
      ⟨subscribeReqReceived_set heard whole zero, subscribeReqReceived_events heard whole zero⟩,
    fun ip data x i k heard whole followed asked from_ =>
      subscribeRespReceived_answers heard whole followed asked from_,
    fun k j asked selected may ip => subscribeRetry_requests k asked selected may ip, eventFrameSend_sends s,
    fun o first count waits inside some_ few => partnerTableRead_answers waits inside some_ few,
    fun o op i waits known may inside small => subscribe_operates waits known may inside small⟩
  intro ip data x i k
  dsimp only
  intro heard master followed active from_
  exact ⟨setDataReceived_discards heard master followed active from_,
    setDataReceived_old heard master followed active from_, setDataReceived_holds heard master followed active from_⟩

end Sys2Proof.Machine
end

section
/-!
PROOF. The Gligil link and the stack (R164, R193, R365, R369 to R375, R383, R387): what sending and a fence leave of the
link's block, then ticks, ports and ring status, the scheduled traffic, class 2 frames and STACK_STATUS.
-/

namespace Sys2Proof.Machine

open Sys2Proof Sys2Proof.Claims

/-! ## What sending leaves of the link's block -/

/-- The Gligil block but for the numbering of frames and those that wait for their acknowledgement. -/
def Gl.unnumbered (g : Gl) : Gl := { g with seq0 := 0, seq1 := 0, seq2 := 0, pendingTx := [] }

theorem glSeqNext_unnumbered (cls : Nat) (g : Gl) : (glSeqNext cls g).unnumbered = g.unnumbered := by
  unfold glSeqNext
  split <;> rfl

section
variable (d : Dev)

theorem glSend_unnumbered (onP : Bool) (cls type dst : Nat) (payload : Bytes) :
    (glSend onP cls type dst payload d).gl.unnumbered = d.gl.unnumbered := by
  have numbered := glSeqNext_unnumbered cls d.gl
  unfold glSend
  dsimp only
  split
  · rfl
  · (repeat' split) <;> exact numbered

theorem sendStatus_unnumbered : (sendStatus d).gl.unnumbered = d.gl.unnumbered := by
  unfold sendStatus
  split
  · exact glSend_unnumbered d _ _ _ _ _
  · rfl

end

/-! ## A fence and the station safe state (R210, R372, R387) -/

/-- What a fence and the station safe state have in common: every task stops, the outputs go safe, and the device
withdraws. -/
def standDown (r : Prog → Nat) (d : Dev) : Dev :=
  shadowEnd 5 (withdraw (settleAll (modProg (fun p => { p with reaction := r p }) (stopTasks d))))

theorem standDown_writes (r : Prog → Nat) (d : Dev) :
    Writes (stopped ++ [.digital, .analog, .network, .pair, .sent]) d (standDown r d) :=
  .shadowEnd (.withdraw (.settleAll (.modProg .restOfProgram (.stopTasks .refl))))

section
variable (k : Fin 8) (d : Dev)

theorem task_stopTask (t : Nat) :
    ((stopTask t d).task k).st = if t = k then .stopped else (d.task k).st := by
  unfold stopTask dropCycle
  split
  · next own =>
    rw [own, task_modTask _ _ _ k.isLt]
  · next other =>
    rw [task_modTask_other _ _ _ _ other]
    exact congrArg Task.st (task_modTask_other t k _ d other)

/-- Every task is stopped. -/
theorem stopTasks_stopped : ((stopTasks d).task k).st = .stopped := by
  have keeps (l : List Nat) (d : Dev) (still : (d.task k).st = .stopped) :
      ((l.foldl (fun d t => stopTask t d) d).task k).st = .stopped :=
    List.foldlRecOn l _ (motive := fun d : Dev => (d.task k).st = .stopped) still fun d still t _ => by
      rw [task_stopTask]
      split
      · rfl
      · exact still
  have all : (((List.range 8).foldl (fun d t => stopTask t d) d).task k).st = .stopped := by
    obtain ⟨before, after, split_⟩ := List.append_of_mem (List.mem_range.mpr k.isLt)
    rw [split_, List.foldl_append, List.foldl_cons]
    exact keeps after _ (by rw [task_stopTask, if_pos rfl])
  have answers (d : Dev) : Writes [.mailbox, .restOfProgram] d (stopAnswer d) := .stopAnswer .refl
  rw [stopTasks, Dev.task, show (stopAnswer _).prog.tasks = _ from answers _ .tasks (by decide)]
  exact all

theorem standDown_stopped (r : Prog → Nat) : ((standDown r d).task k).st = .stopped := by
  have after (d : Dev) : Writes [.restOfProgram, .digital, .analog, .network, .pair, .sent] d
      (shadowEnd 5 (withdraw (settleAll (modProg (fun p => { p with reaction := r p }) d)))) :=
    .shadowEnd (.withdraw (.settleAll (.modProg .restOfProgram .refl)))
  rw [standDown, Dev.task, show (shadowEnd 5 _).prog.tasks = _ from after _ .tasks (by decide)]
  exact stopTasks_stopped k d

end

section
variable (d : Dev)

theorem enterSafe_eq (free : d.sys.safeState = false) : enterSafe d =
    sendStatus (standDown (fun _ => 3) { d with sys := { d.sys with safeState := true } }) := by
  unfold enterSafe
  rw [free, if_neg (by decide)]
  rfl

theorem enterSafe_unnumbered : (enterSafe d).gl.unnumbered = d.gl.unnumbered := by
  cases safe : d.sys.safeState with
  | true => rw [enterSafe, safe, if_pos rfl]
  | false => rw [enterSafe_eq d safe, sendStatus_unnumbered, (standDown_writes _ _) .gligil (by decide)]

theorem enterSafe_safe : (enterSafe d).sys.safeState = true := by
  cases safe : d.sys.safeState with
  | true => rw [enterSafe, safe, if_pos rfl, safe]
  | false =>
    have sends {e : Dev} : Writes [.gligil, .sent] e (sendStatus e) := .sendStatus .refl
    rw [enterSafe_eq d safe, sends .sys (by decide), (standDown_writes _ _) .sys (by decide)]

theorem enterSafe_evt : (enterSafe d).evt = d.evt := (Writes.enterSafe (ps := safed) .refl) .events (by decide)

end

/-- What a device is when its fence raises the event. -/
structure Fences (d e : Dev) : Prop where
  fenced : e.sys.fenced = true
  fenceN : e.pwr.fenceN = true
  stopped : ∀ k : Fin 8, (e.task k).st = .stopped
  link : e.gl.unnumbered = d.gl.unnumbered
  events : e.evt = d.evt

/-- The device with the marks of a fence, its tasks still running. -/
def Dev.fenceMarked (d : Dev) : Dev := { d with
  sys := { d.sys with fenced := true }
  pwr := { d.pwr with fenceN := true }
  red := { d.red with
    lease := { d.red.lease with state := if d.red.cfg.paired then .fenced else d.red.lease.state }
    releaseDue := d.red.lease.state.holds
    switchAt := none } }

theorem fence_eq {d : Dev} (free : d.sys.fenced = false) (cause : Nat) :
    let e := standDown (fun p => max p.reaction 1) d.fenceMarked
    fence cause d = raise .fenced cause (if e.inStack && e.master then glSend false 0 0x4B 0xFF [] e else e) := by
  unfold fence
  rw [free, if_neg (by decide)]
  rfl

theorem fence_fences {d : Dev} (free : d.sys.fenced = false) (cause : Nat) :
    ∃ e, fence cause d = raise .fenced cause e ∧ Fences d e := by
  have down := standDown_writes (fun p => max p.reaction 1) d.fenceMarked
  have stood : Fences d (standDown (fun p => max p.reaction 1) d.fenceMarked) :=
    ⟨by rw [down .sys (by decide)]; rfl, by rw [down .power (by decide)]; rfl,
      fun k => standDown_stopped k _ _, by rw [down .gligil (by decide)]; rfl, by rw [down .events (by decide)]; rfl⟩
  refine ⟨_, fence_eq free cause, ?_⟩
  generalize standDown (fun p => max p.reaction 1) d.fenceMarked = e at stood
  split
  · have same := glSend_unsent false 0 0x4B 0xFF [] e
    exact ⟨(congrArg (fun e : Dev => e.sys.fenced) same :).trans stood.fenced,
      (congrArg (fun e : Dev => e.pwr.fenceN) same :).trans stood.fenceN,
      fun k => (congrArg Task.st (task_congr (glSend_prog ..) k)).trans (stood.stopped k),
      (glSend_unnumbered e _ _ _ _ _).trans stood.link, (glSend_evt ..).trans stood.events⟩
  · exact stood

section
variable (d : Dev)

theorem fence_unnumbered (cause : Nat) : (fence cause d).gl.unnumbered = d.gl.unnumbered := by
  cases free : d.sys.fenced with
  | true => rw [fence, free, if_pos rfl]
  | false =>
    obtain ⟨e, fences, stood⟩ := fence_fences free cause
    rw [fences, raise_gl, stood.link]

theorem fence_pending {n : Nat} (h : d.evt.pending.getLsbD n = true) (cause : Nat) :
    (fence cause d).evt.pending.getLsbD n = true := by
  cases free : d.sys.fenced with
  | true => rw [fence, free, if_pos rfl, h]
  | false =>
    obtain ⟨e, fences, stood⟩ := fence_fences free cause
    rw [fences]
    exact pending_raise (by rw [stood.events, h]) _ _

/-- Level L2 keeps the link's block but for the numbering of its frames. -/
theorem ladderL2_unnumbered : (ladderL2 d).gl.unnumbered = d.gl.unnumbered := by
  have faulty : Writes [.pair] d (standbyFaulty d) := .standbyFaulty .refl
  unfold ladderL2
  split
  · rw [faulty .gligil (by decide)]
  split
  · exact fence_unnumbered d 3
  · exact enterSafe_unnumbered d

/-- Level L2 keeps what is pending. -/
theorem ladderL2_pending {n : Nat} (h : d.evt.pending.getLsbD n = true) :
    (ladderL2 d).evt.pending.getLsbD n = true := by
  have faulty : Writes [.pair] d (standbyFaulty d) := .standbyFaulty .refl
  unfold ladderL2
  split
  · rw [faulty .events (by decide), h]
  split
  · exact fence_pending d h 3
  · rw [enterSafe_evt, h]

end

/-! ## Rows of a device with the Gligil link -/

section
variable {c : Instr} {s : State} {f : Dev → Dev} (link : s.dev.gligil = true) (row : exec c s = glD s f)
include link row

theorem goes_of_glD {P : State → Prop} (holds : P { s with dev := f s.dev }) : Goes c s P := by
  refine goes_of_nextD row ?_
  rwa [if_pos link]

theorem becomes_of_glD {d : Dev} (same : f s.dev = d) : Becomes c s d := by
  rw [Becomes, row, glD, nextD, if_pos link, same]

end

/-! ## The base tick (R372, R373) -/

section
variable {ps : List Part} {d e : Dev}

theorem Writes.opTick (h : Writes ps d e) (hs : .history ∈ ps := by decide) : Writes ps d (opTick e) := .modHist h hs

theorem Writes.shadowTick (h : Writes ps d e) (hs : .loops ∈ ps := by decide) : Writes ps d (shadowTick e) :=
  .setLoops h hs

end

theorem tickStep_tick (d : Dev) : (tickStep d).tick = d.tick + 1 := by
  have after : Writes [.loops, .history, .digital, .analog] { d with tick := d.tick + 1 } (tickStep d) :=
    .ite (.shadowTick (.opTick .refl)) (.when (.settleAll (.aoNewCfg (.doNewCfg .refl))) (.shadowTick (.opTick .refl)))
  exact after .tick (by decide)

theorem markTick_tick (d : Dev) : (markTick d).tick = d.tick := by
  unfold markTick
  split <;> rfl

section
variable {s : State}

theorem baseTick_advances (alive : s.dev.pwr.phase ≠ .inReset) (master : s.dev.master = true) :
    Goes .baseTick s fun u => u.dev.tick = s.dev.tick + 1 := by
  refine goes_of_nextD (by rw [exec, execBaseTick]) ?_
  dsimp only
  rw [if_neg (by simp [alive, master]), markTick_tick, tickStep_tick]

theorem tickMarkerReceived_takes (p : Fin 2) (m : Half) (alive : s.dev.pwr.phase ≠ .inReset)
    (slave : s.dev.master = false) (link : s.dev.gligil = true) :
    Goes (.tickMarkerReceived p m) s fun u => u.dev.gl.tickLost = false ∧
      ∀ ahead : Nat, 0 < ahead → ahead < 32768 → m.toNat = (s.dev.tick + ahead) % 65536 →
        u.dev.tick = s.dev.tick + ahead := by
  refine goes_of_nextD (by rw [exec, execTickMarkerReceived]) ?_
  dsimp only
  rw [if_neg (by simp [alive, slave, link])]
  refine ⟨rfl, fun ahead some_ near at_ => ?_⟩
  have distance : (m.toNat + 65536 - s.dev.tick % 65536) % 65536 = ahead := by omega
  rw [distance, if_neg (by simp; omega)]
  refine (tickStep_tick _).trans ?_
  dsimp only
  omega

theorem tickLost_fences (slave : s.dev.master = false) (stack : s.dev.inStack = true)
    (free : s.dev.sys.fenced = false) : Goes .tickLost s fun u =>
      u.dev.sys.fenced = true ∧ u.dev.gl.tickLost = true ∧ u.dev.pwr.fenceN = true ∧ Raised u .fenced 6 ∧
      ∀ k : Fin 8, (u.dev.task k).st = .stopped := by
  obtain ⟨e, fences, stood⟩ := fence_fences (d := { s.dev with gl := { s.dev.gl with tickLost := true } }) free 6
  refine goes_of_nextD (by rw [exec, execTickLost]) ?_
  dsimp only
  rw [if_neg (by simp [slave, stack]), fences]
  refine ⟨?_, ?_, ?_, raised_raise _ _ _ (by decide), fun k => ?_⟩
  · rw [raise_sys, stood.fenced]
  · rw [raise_gl]; exact (congrArg Gl.tickLost stood.link :)
  · rw [raise_pwr, stood.fenceN]
  · rw [task_raise, stood.stopped]

theorem fenceNoticeReceived_fences (link : s.dev.gligil = true) (slave : s.dev.master = false)
    (free : s.dev.sys.fenced = false) : Goes .fenceNoticeReceived s fun t =>
      t.dev.sys.fenced = true ∧ t.dev.pwr.fenceN = true ∧ Raised t .fenced 7 := by
  obtain ⟨e, fences, stood⟩ := fence_fences free 7
  refine goes_of_glD link (by rw [exec, execFenceNoticeReceived]) ?_
  rw [slave, if_neg (by decide), fences]
  exact ⟨by rw [raise_sys, stood.fenced], by rw [raise_pwr, stood.fenceN], raised_raise _ _ _ (by decide)⟩

theorem fenceNoticeReceived_master (link : s.dev.gligil = true) (master : s.dev.master = true) :
    Becomes .fenceNoticeReceived s s.dev := by
  refine becomes_of_glD link (by rw [exec, execFenceNoticeReceived]) ?_
  rw [if_pos master]

end

/-! ## The ring and its ports (R365, R370 to R372) -/

/-- The status of the ring's positions as a device now sees it: its own, and who it reaches. -/
def Dev.ringPositions (d : Dev) : Vector PosStatus 8 :=
  let own := d.sys.stackPos.toNat
  let pos := vset d.gl.pos own d.ownStatus
  let near := reachFrom pos d.stackS own
  Vector.ofFn fun i : Fin 8 =>
    { vget pos i.val with reachable := i.val == own || (near.contains i.val && decide (i.val < d.stackS)) }

/-- Another position keeps what it reports. -/
theorem ringPositions_other (d : Dev) (src : Fin 8) (other : src.val ≠ d.sys.stackPos.toNat) :
    ∃ r, vget d.ringPositions src = { vget d.gl.pos src with reachable := r } := by
  have entry {f : Fin 8 → PosStatus} : vget (Vector.ofFn f) src = f src := by
    rw [vget, Vector.getElem?_eq_getElem src.isLt, Vector.getElem_ofFn, Option.getD_some]
  rw [Dev.ringPositions, entry, vget_vset_other _ _ _ _ other.symm]
  exact ⟨_, rfl⟩

section
variable (changed : Option Nat) (d : Dev)

/-- An update of the ring writes positions, ring and position fault, and raises its event; L2 may follow. -/
theorem ringUpdate_eq : ∃ r f, ∃ told : Bool, ∃ p : Nat, (changed.isSome = true → told = true) ∧
    let e := modGl (fun g => { g with pos := d.ringPositions, ring := r, positionFault := f }) d
    let e' := if told then linkEvent p e else e
    ringUpdate changed d = e' ∨ ringUpdate changed d = ladderL2 e' := by
  have ladder {c : Prop} [Decidable c] (e : Dev) : (if c then ladderL2 e else e) = e ∨
      (if c then ladderL2 e else e) = ladderL2 e := by
    split
    · exact .inr rfl
    · exact .inl rfl
  unfold ringUpdate
  dsimp only
  cases changed with
  | some p => exact ⟨_, _, true, p, fun _ => rfl, ladder _⟩
  | none =>
    dsimp only
    split
    · exact ⟨_, _, true, 0, nofun, ladder _⟩
    · exact ⟨_, _, false, 0, nofun, ladder _⟩

theorem ringUpdate_unnumbered : ∃ r f, (ringUpdate changed d).gl.unnumbered =
    Gl.unnumbered { d.gl with pos := d.ringPositions, ring := r, positionFault := f } := by
  obtain ⟨r, f, told, p, -, updates⟩ := ringUpdate_eq changed d
  refine ⟨r, f, ?_⟩
  have keeps (e : Dev) : (if told then linkEvent p e else e).gl = e.gl := by
    split
    · exact raise_gl _ _ e
    · rfl
  obtain same | same := updates
  · rw [same, keeps]; rfl
  · rw [same, ladderL2_unnumbered, keeps]; rfl

theorem ringUpdate_port (p : Nat) : (ringUpdate changed d).gl.port p = d.gl.port p := by
  obtain ⟨r, f, same⟩ := ringUpdate_unnumbered changed d
  exact (congrArg (Gl.port · p) same :)

theorem ringUpdate_pos : (ringUpdate changed d).gl.pos = d.ringPositions := by
  obtain ⟨r, f, same⟩ := ringUpdate_unnumbered changed d
  exact (congrArg Gl.pos same :)

theorem ringUpdate_tells (p : Nat) :
    (ringUpdate (some p) d).evt.pending.getLsbD Ev.stackLinkChange.num = true := by
  obtain ⟨r, f, told, q, tells, updates⟩ := ringUpdate_eq (some p) d
  have raised {e : Dev} : (if told then linkEvent q e else e).evt.pending.getLsbD Ev.stackLinkChange.num = true := by
    rw [tells rfl, if_pos rfl]
    exact (raised_raise _ _ _ (by decide)).1
  obtain same | same := updates
  · rw [same]; exact raised
  · rw [same]; exact ladderL2_pending _ raised

end

theorem port_modPort (p : Fin 3) (f : GlPort → GlPort) (d : Dev) : (modPort p f d).gl.port p = f (d.gl.port p) := by
  fin_cases p <;> rfl

/-- A ring port that comes up gives its neighbour's position an identity (R370). -/
def identified (p nb : Nat) (variant : Half) (uid : DWord) (d : Dev) : Dev :=
  if p < 2 then
    modGl (fun g => { g with pos := vmod g.pos nb (fun x => { x with variant := variant, uid := uid.setWidth 32 }) }) d
  else d

theorem identified_port (p nb : Nat) (variant : Half) (uid : DWord) (d : Dev) (q : Nat) :
    (identified p nb variant uid d).gl.port q = d.gl.port q := by
  unfold identified
  split <;> rfl

section
variable {s : State} (link : s.dev.gligil = true)
include link

theorem gligilPortUp_takes (p : Fin 3) (nb : Fin 8) (variant : Half) (uid : DWord) (latency : Half)
    (down : (s.dev.gl.port p).up = false) : Goes (.gligilPortUp p nb variant uid latency) s fun t =>
      (t.dev.gl.port p).up = true ∧ (t.dev.gl.port p).neighbour = nb.val ∧
      (t.dev.gl.port p).latency = latency.toNat ∧ Happened t .stackLinkChange := by
  have comesUp : Becomes (.gligilPortUp p nb variant uid latency) s (ringUpdate (some p.val)
      (identified p nb variant uid (modPort p (fun x => { x with
        up := true, neighbour := nb, latency := latency.toNat }) s.dev))) := by
    refine becomes_of_glD link (by rw [exec, execGligilPortUp]) ?_
    rw [down, if_neg (by decide)]
    rfl
  refine goes_of_becomes comesUp ?_
  dsimp only
  rw [ringUpdate_port, identified_port, port_modPort]
  exact ⟨rfl, rfl, rfl, ringUpdate_tells _ p⟩

theorem gligilPortDown_takes (p : Fin 3) (up : (s.dev.gl.port p).up = true) : Goes (.gligilPortDown p) s fun t =>
    (t.dev.gl.port p).up = false ∧ Happened t .stackLinkChange := by
  refine goes_of_glD link (by rw [exec, execGligilPortDown]) ?_
  rw [up, if_neg (by decide)]
  have ends {c : Prop} [Decidable c] (e : Dev) : Writes [.pair] e (if c then pairDown e else e) :=
    .when (.pairDown .refl) .refl
  refine ⟨?_, ?_⟩
  · dsimp only
    rw [ends _ .gligil (by decide), ringUpdate_port, port_modPort]
  · rw [Happened, ends _ .events (by decide)]
    exact ringUpdate_tells _ p

end

/-! ## Ring status frames (R383, R552) -/

section
variable {d : Dev} (link : d.gligil = true)
include link

/-- A frame of class 0 leaves in both directions around the ring (R369). -/
theorem glSend_around (type dst : Nat) (payload : Bytes) : ∃ b, (glSend false 0 type dst payload d).out =
    d.out ++ [.gligil glA 0 type dst b, .gligil glB 0 type dst b] := by
  unfold glSend
  rw [link, if_neg (by decide)]
  exact ⟨_, rfl⟩

/-- A frame of class 2 leaves in the shorter direction (R369). -/
theorem glSend_shorter (type dst : Nat) (payload : Bytes) : ∃ b, (glSend false 2 type dst payload d).out =
    d.out ++ [.gligil (d.ringPort dst) 2 type dst b] := by
  unfold glSend
  rw [link, if_neg (by decide)]
  exact ⟨_, rfl⟩

end

/-- What a hold that begins or ends keeps of a device: its system block, what PFW it knows of, and the link's block but
for the numbering of its frames. -/
structure KeepsLink (d e : Dev) : Prop where
  sys : e.sys = d.sys
  pfwAt : e.pwr.pfwAt = d.pwr.pfwAt
  link : e.gl.unnumbered = d.gl.unnumbered

theorem KeepsLink.trans {d e f : Dev} (h : KeepsLink d e) (h' : KeepsLink e f) : KeepsLink d f :=
  ⟨h'.sys.trans h.sys, h'.pfwAt.trans h.pfwAt, h'.link.trans h.link⟩

section
variable (d : Dev)

theorem keepsLink_refl : KeepsLink d d := ⟨rfl, rfl, rfl⟩

theorem keepsLink_sendStatus : KeepsLink d (sendStatus d) :=
  ⟨(congrArg Dev.sys (sendStatus_unsent d) :), (congrArg (fun e : Dev => e.pwr.pfwAt) (sendStatus_unsent d) :),
    sendStatus_unnumbered d⟩

theorem keepsLink_enterHold : KeepsLink d (enterHold d) := by
  have writes : Writes (stopped ++ [.digital, .analog, .power, .history]) d (enterHold d) := .enterHold .refl
  refine ⟨writes .sys (by decide), ?_, by rw [writes .gligil (by decide)]⟩
  unfold enterHold
  split
  · rfl
  · have abandons : Writes (stopped ++ [.digital, .analog]) d ((List.range 8).foldl (fun d t => abandonCycle t d) d) :=
      .foldl .refl fun _ _ => .abandonCycle .refl
    have flushes (e : Dev) : Writes [.history] e (startFlush 3 e) := .startFlush .refl
    dsimp only
    rw [flushes _ .power (by decide)]
    generalize (List.range 8).foldl (fun d t => abandonCycle t d) d = e at abandons
    have kept : e.pwr = d.pwr := abandons .power (by decide)
    exact (congrArg Pwr.pfwAt kept :)

theorem keepsLink_leaveHold : KeepsLink d (leaveHold d) := by
  unfold leaveHold
  split <;> exact ⟨rfl, rfl, rfl⟩

end

/-- What a device does once it knows of a PFW, or that none is left (R552, R554). -/
def pfwFollowed (was : Bool) (d : Dev) : Dev :=
  if d.pfwOn then (if d.master && !was then enterHold (sendStatus d) else enterHold d)
  else if was then leaveHold (if d.master then sendStatus d else d)
  else d

theorem keepsLink_pfwFollowed (was : Bool) (d : Dev) : KeepsLink d (pfwFollowed was d) := by
  have status := keepsLink_sendStatus d
  unfold pfwFollowed
  split
  · split
    · exact status.trans (keepsLink_enterHold _)
    · exact keepsLink_enterHold d
  · split
    · refine KeepsLink.trans ?_ (keepsLink_leaveHold _)
      split
      · exact status
      · exact keepsLink_refl d
    · exact keepsLink_refl d

section
variable {s : State} (link : s.dev.gligil = true) {src : Fin 8} (st : PosStatus) (safe pfw : Bool)
include link

theorem ringStatusFrame_own (own : src.val = s.dev.sys.stackPos.toNat) (stack : s.dev.inStack = true) :
    Goes (.ringStatusFrame src st safe pfw) s fun t =>
      ∃ b, Sends s t [.gligil glA 0 0x02 0xFF b, .gligil glB 0 0x02 0xFF b] := by
  refine goes_of_glD link (by rw [exec, execRingStatusFrame]) ?_
  rw [if_pos own, sendStatus, if_pos stack]
  exact glSend_around link _ _ _

theorem ringStatusFrame_other (other : src.val ≠ s.dev.sys.stackPos.toNat) :
    Goes (.ringStatusFrame src st safe pfw) s fun t =>
      vget t.dev.pwr.pfwAt src = pfw ∧ (safe = true → t.dev.sys.safeState = true) ∧
      (vget t.dev.gl.pos src).variant = st.variant ∧ (vget t.dev.gl.pos src).portA = st.portA ∧
      (vget t.dev.gl.pos src).portB = st.portB := by
  generalize reported : modGl (fun g => { g with
    pos := vmod g.pos src (fun x => { st with reachable := x.reachable }) }) s.dev = d
  generalize taken : (if safe then enterSafe (ringUpdate none d) else ringUpdate none d) = e
  have stores : Becomes (.ringStatusFrame src st safe pfw) s (pfwFollowed e.pfwOn
      (modPwr (fun x => { x with pfwAt := vset x.pfwAt src pfw }) e)) := by
    refine becomes_of_glD link (by rw [exec, execRingStatusFrame]) ?_
    rw [if_neg other]
    subst reported taken
    rfl
  refine goes_of_becomes stores ?_
  obtain ⟨sys, pfwAt, kept⟩ := keepsLink_pfwFollowed e.pfwOn
    (modPwr (fun x => { x with pfwAt := vset x.pfwAt src pfw }) e)
  generalize pfwFollowed e.pfwOn (modPwr (fun x => { x with pfwAt := vset x.pfwAt src pfw }) e) = f at *
  have positions : f.gl.pos = d.ringPositions := by
    refine Eq.trans (congrArg Gl.pos kept :) (Eq.trans ?_ (ringUpdate_pos none d))
    subst taken
    split
    · exact (congrArg Gl.pos (enterSafe_unnumbered _) :)
    · rfl
  obtain ⟨r, stored⟩ := ringPositions_other d src (by subst reported; exact other)
  have entry : vget d.gl.pos src = { st with reachable := (vget s.dev.gl.pos src).reachable } := by
    subst reported
    exact vget_vmod_same _ _ _ src.isLt
  dsimp only
  rw [pfwAt, sys, positions, stored, entry]
  refine ⟨vget_vset_same _ _ _ src.isLt, fun on => ?_, rfl, rfl, rfl⟩
  subst taken on
  exact enterSafe_safe _

end

/-! ## Scheduled traffic (R164, R165, R374, R375) -/

/-- A value goes to every field input of a list that reads it. -/
theorem fieldIn_publish (reads : Nat → Bool) (v : TV) {l : List Nat} {el : Nat} (mem : el ∈ l) (own : reads el = true)
    (d : Dev) : mget (l.foldl (fun d el =>
      if reads el then modProg (fun p => { p with fieldIn := mput p.fieldIn el v }) d else d) d).prog.fieldIn el =
        some v := by
  obtain ⟨before, after, rfl⟩ := List.append_of_mem mem
  rw [List.foldl_append, List.foldl_cons, if_pos own]
  refine List.foldlRecOn after _ (motive := fun d : Dev => mget d.prog.fieldIn el = some v) ?_ fun d has k _ => ?_
  · exact (mget_mput _ el el v).trans (if_pos rfl)
  · split
    · refine (mget_mput _ k el v).trans ?_
      split
      · rfl
      · exact has
    · exact has

section
variable {s : State} (link : s.dev.gligil = true)
include link

section
variable {src t : Fin 8} {cycle : Word}

/-- The master records a confirmation of the cycle in progress (R164). -/
theorem gligilConfirmFrame_records (master : s.dev.master = true) (now : cycle = (s.dev.task t).counter)
    (open_ : (s.dev.task t).st = .execute ∨ (s.dev.task t).st = .ready) :
    Goes (.gligilConfirmFrame src t cycle) s fun u =>
      (vget u.dev.gl.confirmed t).getLsbD src = true ∧
      ∀ j : Fin 8, j ≠ t → vget u.dev.gl.confirmed j = vget s.dev.gl.confirmed j := by
  refine goes_of_glD link (by rw [exec, execGligilConfirmFrame]) ?_
  rw [if_neg (by rcases open_ with st | st <;> simp [master, now, st])]
  refine ⟨?_, fun j other => vget_vmod_other _ _ _ _ (Fin.val_ne_of_ne other.symm)⟩
  dsimp only [modGl]
  rw [vget_vmod_same _ _ _ t.isLt]
  simp [src.isLt]

theorem gligilConfirmFrame_drops (no : s.dev.master = false ∨ cycle ≠ (s.dev.task t).counter) :
    Becomes (.gligilConfirmFrame src t cycle) s s.dev := by
  refine becomes_of_glD link (by rw [exec, execGligilConfirmFrame]) ?_
  exact if_pos (by rcases no with slave | other <;> simp [*])

/-- Another device takes the commit decision of its cycle (R374). -/
theorem gligilCommitDecision_takes {commit : Bool} (slave : s.dev.master = false)
    (now : cycle = (s.dev.task t).counter) : Goes (.gligilCommitDecision t cycle commit) s fun u =>
      vget u.dev.gl.decision t = some commit := by
  refine goes_of_glD link (by rw [exec, execGligilCommitDecision]) ?_
  rw [if_neg (by simp [slave, now])]
  exact vget_vset_same _ _ _ t.isLt

theorem gligilCommitDecision_drops {commit : Bool} (no : s.dev.master = true ∨ cycle ≠ (s.dev.task t).counter) :
    Becomes (.gligilCommitDecision t cycle commit) s s.dev := by
  refine becomes_of_glD link (by rw [exec, execGligilCommitDecision]) ?_
  exact if_pos (by rcases no with master | other <;> simp [*])

end

/-- A publication reaches every element that reads it (R375). -/
theorem gligilScheduledData_publishes (id : Word) (tv : TV) :
    Goes (.gligilScheduledData [.publication id tv]) s fun t =>
      let im := s.dev.prog.image.getD {}
      ∀ el, el < im.nI → (im.iOf el).source = 8 → (im.iOf el).id = id →
        mget t.dev.prog.fieldIn el = some (tvAccept id tv) := by
  refine goes_of_glD link (by rw [exec, execGligilScheduledData]) ?_
  intro im el inside published reads
  exact fieldIn_publish (fun el => (im.iOf el).source = 8 && (im.iOf el).id == id) _ (List.mem_range.mpr inside)
    (by simp [published, reads]) _

/-- A working value reaches its block's run in a cycle in progress (R165, R193). -/
theorem gligilScheduledData_works (t : Fin 8) (block key : Nat) (value : Word) (q : Byte) (prov : Bool)
    (open_ : (s.dev.task t).st = .execute ∨ (s.dev.task t).st = .ready ∨ (s.dev.task t).st = .late) :
    Goes (.gligilScheduledData [.working t block key value q prov]) s fun u =>
      ∃ r, mget (u.dev.task t).runs block = some r ∧ ⟨key, value, q⟩ ∈ r.exec.writes ∧ r.provisional = prov ∧
        r.remote = true := by
  refine goes_of_glD link (by rw [exec, execGligilScheduledData]) ?_
  dsimp only [List.foldl_cons, List.foldl_nil]
  unfold takeWorking
  dsimp only
  rw [if_neg (by rcases open_ with st | st | st <;> simp [st]), settle_runs _ _ t.isLt, task_modTask _ _ _ t.isLt]
  obtain ⟨lower, judged⟩ := mget_judgeAll _ _ _ _ [] block _ rfl ((mget_mput _ block block _).trans (if_pos rfl))
  refine ⟨_, judged, ?_⟩
  rw [judgeRun, Bool.or_true, if_pos rfl]
  exact ⟨List.mem_append_right _ (List.mem_singleton_self _), rfl, rfl⟩

end

/-! ## Class 2 frames (R369) -/

section
variable {s : State} (link : s.dev.gligil = true)
include link

/-- A frame is sent again until its eighth try. -/
theorem gligilRetransmit_sends {seq : Half} {f : GlPending}
    (waits : s.dev.gl.pendingTx.find? (fun y => y.seq == seq) = some f) : Goes (.gligilRetransmit seq) s fun t =>
      (∃ port, Sends s t [.gligil port 2 f.kind f.dst f.data]) ∧
      (8 ≤ f.tries + 1 → ∀ y ∈ t.dev.gl.pendingTx, y.seq ≠ seq) ∧
      (f.tries + 1 < 8 → { f with tries := f.tries + 1 } ∈ t.dev.gl.pendingTx) := by
  have own : f.seq = seq := by simpa using List.find?_some waits
  refine goes_of_glD link (by rw [exec, execGligilRetransmit]) ?_
  rw [waits]
  refine ⟨⟨_, rfl⟩, fun last y => ?_, fun more => ?_⟩
  · dsimp only [emit_gl, modGl_gl]
    rw [if_neg (by omega)]
    intro kept
    simpa using (List.mem_filter.mp kept).2
  · dsimp only [emit_gl, modGl_gl]
    rw [if_pos more]
    exact List.mem_map.mpr ⟨f, List.mem_of_find?_eq_some waits, by rw [own, beq_self_eq_true, if_pos rfl]⟩

theorem gligilAckReceived_drops (src : Fin 8) (seq : Half) : Goes (.gligilAckReceived src seq) s fun t =>
    t.dev.gl.pendingTx = s.dev.gl.pendingTx.filter fun f => !(f.seq == seq && f.dst == src.val) :=
  goes_of_glD link (by rw [exec, execGligilAckReceived]) rfl

end

/-! ## Placement parts and forwarded images (R193, R216) -/

section
variable {s : State}

theorem placementPartFrame_master (m : PlaceMap) (own : List Budget) (master : s.dev.master = true) :
    Becomes (.placementPartFrame m own) s s.dev := by
  have row : Becomes (.placementPartFrame m own) s (placementPart m own s.dev) := rfl
  rwa [placementPart, if_pos (by rw [master]; rfl)] at row

/-- A part that fits is loaded, and the master gets its answer either way (R193). -/
theorem placementPartFrame_answers (m : PlaceMap) (own : List Budget) (link : s.dev.gligil = true)
    (slave : s.dev.master = false) (stack : s.dev.inStack = true) : Goes (.placementPartFrame m own) s fun t =>
      ∃ ok : Bool, (ok = true → ∃ bs, t.dev.prog.map = some { m with budgets := bs }) ∧
        (ok = false → t.dev.prog.map = s.dev.prog.map) ∧
        ∃ b, t.dev.out = s.dev.out ++ [.gligil (s.dev.ringPort 0) 2 0x30 0 b] := by
  refine goes_of_nextD (by rw [exec, execPlacementPartFrame]) ?_
  unfold placementPart
  dsimp only
  rw [if_neg (by simp [slave, stack])]
  generalize (_ && _ : Bool) = fit
  cases fit with
  | true =>
    refine ⟨true, fun _ => ?_, nofun, ?_⟩
    · rw [glSend_prog]; exact ⟨_, rfl⟩
    · exact glSend_shorter (by exact link) _ _ _
  | false =>
    refine ⟨false, nofun, fun _ => ?_, glSend_shorter link _ _ _⟩
    rw [glSend_prog]; rfl

theorem slotRec_modSlotRec {n : Nat} (slot : n < 2) (f : Slot → Slot) (d : Dev) :
    (modSlotRec n f d).slotRec n = f (d.slotRec n) := vget_vmod_same _ _ _ slot

/-- The next part of an image goes to the standby's inactive slot, whose checks begin at the last one (R216). -/
theorem imageForwardFrame_takes (off : Nat) (data : Bytes) (last : Bool) (standby : s.dev.follows = true)
    (idle : s.dev.prog.checking = none) (fits : off + data.length ≤ 3145728)
    (next : off = 0 ∨ (s.dev.slotRec s.dev.inactive).length = off ∧
      (s.dev.slotRec s.dev.inactive).result = .incomplete) : Goes (.imageForwardFrame off data last) s fun t =>
      (t.dev.slotRec s.dev.inactive).length = off + data.length ∧
      t.mem = storeWrite (slotBase s.dev.inactive + off) data s.mem ∧
      (last = true → t.dev.prog.checking.isSome = true) := by
  have row : exec (.imageForwardFrame off data last) s = execImageForwardFrame off data last s := rfl
  have slot : s.dev.inactive < 2 := by unfold Dev.inactive; omega
  have inOrder : (!s.dev.follows || s.dev.prog.checking.isSome || decide (3145728 < off + data.length) ||
      (off != 0 && ((s.dev.slotRec s.dev.inactive).length != off ||
        (s.dev.slotRec s.dev.inactive).result != .incomplete))) = false := by
    rcases next with start | ⟨at_, open_⟩
    · simp [standby, idle, start] at *; omega
    · simp [standby, idle, fits, at_, open_]
  rw [execImageForwardFrame, nextM, imagePart] at row
  dsimp only at row
  rw [inOrder, if_neg Bool.false_ne_true] at row
  refine ⟨_, row, ?_, rfl, fun done => ?_⟩
  · dsimp only
    cases last with
    | true =>
      rw [if_pos rfl, startChecks, slotRec_modSlotRec slot]
      exact congrArg Slot.length (slotRec_modSlotRec slot _ _)
    | false =>
      rw [if_neg Bool.false_ne_true, slotRec_modSlotRec slot]
  · dsimp only
    rw [if_pos done]
    rfl

end

/-! ## STACK_STATUS (R383) -/

/-- The counts of discarded frames at 0. -/
def Gl.countsCleared (g : Gl) : Gl := { g with
  portA := { g.portA with discarded := 0 }
  portB := { g.portB with discarded := 0 }
  portP := { g.portP with discarded := 0 } }

/-- The answer of STACK_STATUS: what a device that is not the master measures of its tick's phase, the positions reached
and the state of the tick are its arguments. -/
def stackAnswer (phase near state : Nat) (d : Dev) : Bytes :=
  leBytes 1 d.stackS ++ leBytes 1 near ++ leBytes 1 d.sys.stackPos.toNat ++ leBytes 1 state ++
    leBytes 1 d.gl.ring.code ++ zeros 11 ++ (List.range 8).flatMap fun i =>
      posBytes i (vget (vset d.gl.pos d.sys.stackPos.toNat { d.ownStatus with phase := BitVec.ofNat 16 phase }) i)

section
variable (phase near state : Nat) (d : Dev)

theorem posBytes_length (p : Nat) (x : PosStatus) : (posBytes p x).length = 32 := by
  simp [posBytes, leBytes_length, zeros]

theorem stackAnswer_length : (stackAnswer phase near state d).length = 16 + 8 * 32 := by
  simp [stackAnswer, leBytes_length, zeros, List.length_flatMap, posBytes_length]

theorem stackAnswer_size : byteAt (stackAnswer phase near state d) 0 = d.stackS := by
  have small : d.stackS % 256 = d.stackS := Nat.mod_eq_of_lt (by unfold Dev.stackS; omega)
  exact small

theorem stackAnswer_position : byteAt (stackAnswer phase near state d) 2 = d.sys.stackPos.toNat := by
  have small : d.sys.stackPos.toNat % 256 = d.sys.stackPos.toNat := Nat.mod_eq_of_lt (by omega)
  exact small

theorem stackAnswer_ring : byteAt (stackAnswer phase near state d) 4 = d.gl.ring.code := by
  have small : d.gl.ring.code % 256 = d.gl.ring.code := by cases d.gl.ring <;> rfl
  exact small

end

/-- The payload of STACK_STATUS. -/
def statusReq (clear : Bool) : Bytes := [if clear then 1 else 0, 0, 0, 0]

theorem stackStatus_answers {s : State} {o : Origin} {clear : Bool} (link : s.dev.gligil = true)
    (waits : Waits s o 0x0706 (statusReq clear)) : Goes (.stackStatus o) s fun t =>
      (∃ b, Answers t o stOk b ∧ b.length = 16 + 8 * 32 ∧ byteAt b 0 = s.dev.stackS ∧
        byteAt b 2 = s.dev.sys.stackPos.toNat ∧ byteAt b 4 = s.dev.gl.ring.code) ∧
      t.dev.gl.portA.discarded = (if clear then 0 else s.dev.gl.portA.discarded) ∧
      t.dev.gl.portB.discarded = (if clear then 0 else s.dev.gl.portB.discarded) ∧
      t.dev.gl.portP.discarded = (if clear then 0 else s.dev.gl.portP.discarded) := by
  have command : exec (.stackStatus o) s = execStackStatus o s := rfl
  have present (m : Mbx) : (!Dev.gligil { s.dev with mbx := m }) = false := by
    rw [show Dev.gligil { s.dev with mbx := m } = true from link]; rfl
  have pass : Claims.Pass [lenIs (statusReq clear) 4, resv (statusReq clear) [(1, 3)],
      (decide (1 < byteAt (statusReq clear) 0), stBadParam)] := by cases clear <;> rfl
  obtain ⟨m, t, run, answers⟩ := runCmd_answers command waits (by decide) present fun _ => pass
  have answered (phase free : Nat) (measured : (if Dev.master { s.dev with mbx := m } = true then
      (0, { s.dev with mbx := m }) else freshNat { s.dev with mbx := m }) =
        (phase, { s.dev with mbx := m, free := free })) : ∃ near state, Answers t o stOk
      (stackAnswer phase near state s.dev) ∧ t.dev.gl = if clear then s.dev.gl.countsCleared else s.dev.gl := by
    obtain ⟨⟨m', dev⟩, answer⟩ := answers
      (if clear then modGl Gl.countsCleared { s.dev with mbx := m, free := free } else
        { s.dev with mbx := m, free := free }) (stackAnswer phase _ _ s.dev) (by
        dsimp only
        rw [measured]
        cases clear <;> rfl) (by cases clear <;> rfl)
    refine ⟨_, _, answer, ?_⟩
    rw [dev]
    cases clear <;> rfl
  have some_ : ∃ phase near state, Answers t o stOk (stackAnswer phase near state s.dev) ∧
      t.dev.gl = if clear then s.dev.gl.countsCleared else s.dev.gl := by
    cases master : s.dev.master with
    | true => exact ⟨_, answered 0 s.dev.free (if_pos master)⟩
    | false => exact ⟨_, answered _ (s.dev.free + 1) (if_neg (Bool.eq_false_iff.mp master))⟩
  obtain ⟨phase, near, state, answer, gl⟩ := some_
  refine ⟨t, run, ⟨_, answer, stackAnswer_length .., stackAnswer_size .., stackAnswer_position ..,
    stackAnswer_ring ..⟩, ?_⟩
  rw [gl]
  cases clear <;> exact ⟨rfl, rfl, rfl⟩

/-- Settles O42, one row at a time. -/
theorem gligilLink : Obligations.GligilLink := by
  unfold Obligations.GligilLink
  intro s
  refine ⟨baseTick_advances, tickMarkerReceived_takes, tickLost_fences, placementPartFrame_master,
    imageForwardFrame_takes, fun link => ⟨gligilPortUp_takes link, gligilPortDown_takes link,
      fun src st safe pfw => ⟨ringStatusFrame_own link st safe pfw, ringStatusFrame_other link st safe pfw⟩,
      fun src t cycle => ⟨gligilConfirmFrame_records link, gligilConfirmFrame_drops link⟩,
      fun t cycle commit => ⟨gligilCommitDecision_takes link, gligilCommitDecision_drops link⟩,
      gligilScheduledData_publishes link, gligilScheduledData_works link,
      fun seq f => gligilRetransmit_sends link, gligilAckReceived_drops link,
      fun m own => placementPartFrame_answers m own link, fenceNoticeReceived_fences link,
      fenceNoticeReceived_master link, fun o clear => stackStatus_answers link⟩⟩

end Sys2Proof.Machine
end

section
/-!
PROOF. The arbiter (R392, R393, R397 to R401, R426): messages with a trailer, an entry after a denial and after a grant,
then the arbiter's rows.
-/

namespace Sys2Proof.Machine

open Sys2Proof Sys2Proof.Claims

theorem becomes_of_nextD {c : Instr} {s : State} {f : Dev → Dev} {d : Dev} (row : exec c s = nextD s f)
    (same : f s.dev = d) : Becomes c s d := by
  rw [Becomes, row, nextD, same]

/-! ## Messages with a trailer (R392) -/

/-- A datagram's fourth byte is its type (R344). -/
theorem stationFrame_type {type : Nat} (small : type < 256) (role : Nat) (partner : Word) (sender : DWord) (seq : Word)
    (p : Bytes) : getBe (stationFrame type role partner sender seq p) 3 1 = type := by
  simpa only [stationFrame, List.append_assoc] using
    getBe_mid (beBytes 2 0xD44C ++ beBytes 1 1) (beBytes 2 p.length ++ _) 1 type 3 rfl (by simpa using small)

section
variable {dst : Word} {type key : Nat} {epoch : Word} {payload : Bytes} {d : Dev}

theorem stationAuth_sends {k : Bytes} (installed : d.hmacKey key = some k) (ip : d.net.cfg.ip ≠ 0)
    (small : type < 256) : ∃ b, (stationAuth dst type key epoch payload d).out = d.out ++ [.udp dst stationPort b] ∧
      getBe b 3 1 = type := by
  unfold stationAuth
  rw [installed]
  exact ⟨_, stationTo_sends ip, stationFrame_type small ..⟩

theorem stationAuth_unsent : (stationAuth dst type key epoch payload d).unsent = d.unsent := by
  unfold stationAuth
  split
  · rfl
  · exact stationTo_unsent ..

theorem stationAuth_red : (stationAuth dst type key epoch payload d).red = d.red :=
  (congrArg Dev.red stationAuth_unsent :)

end

/-! ## An arbiter's entries -/

theorem arb_congr {d f : Dev} (same : f.red = d.red) (e : Nat) : f.arb e = d.arb e :=
  congrArg (fun r : Red => vget r.arbiters e) same

theorem arbEntry_lt {d : Dev} {station : Word} {e : Nat} (served : d.arbEntry station = some e) : e < 16 :=
  List.mem_range.mp (List.mem_of_find?_eq_some served)

section
variable {e : Nat} (he : e < 16)
include he

theorem arb_modArb (f : ArbEntry → ArbEntry) (d : Dev) : (modArb e f d).arb e = f (d.arb e) :=
  vget_vmod_same _ _ _ he

/-- A denial counts with its entry and leaves the rest of it as it is (R398). -/
theorem arbDeny_arb (r : ArbReq) (reason : Nat) (d : Dev) :
    (arbDeny e r reason d).arb e = { d.arb e with denials := satInc (d.arb e).denials } :=
  (arb_congr stationAuth_red e).trans (arb_modArb he _ d)

end

/-- An entry as a new grant leaves it, but for its count of denials (R397, R399). -/
def ArbEntry.granted (cand : DWord) (now : Nat) (x : ArbEntry) : ArbEntry :=
  { x with
    epoch := x.epoch + 1, heldEpoch := x.epoch + 1, holder := cand, g := some now, state := .held
    grants := satInc x.grants, cold := [], pending := x.pending.filter (fun y => y.candidate != cand) }

section
variable (e : Nat) (r : ArbReq) (d : Dev)

/-- A grant is the entry's change, which is saved and raised, and the denial of the other COLD requests. -/
theorem arbGrant_eq : ∃ (f : Dev) (x : Nat) (others : List ArbReq),
    arbGrant e r d = others.foldl (fun d y => arbDeny e y 0 d) (raise .leaseGranted x f) ∧
    f.red = (modArb e (ArbEntry.granted r.candidate d.now) d).red ∧ f.pwr.confDirty = true :=
  ⟨_, _, _, rfl, stationAuth_red, (congrArg (fun d : Dev => d.pwr.confDirty) stationAuth_unsent :)⟩

end

/-- The entry of a grant made on a device whose entry has the epoch and the count of grants of a state. -/
theorem arbGrant_granted {s : State} {e : Nat} (he : e < 16) (r : ArbReq) {d : Dev} (now : d.now = s.dev.now)
    (epoch : (d.arb e).epoch = (s.dev.arb e).epoch) (grants : (d.arb e).grants = (s.dev.arb e).grants) :
    Granted s { s with dev := arbGrant e r d } e r.candidate := by
  obtain ⟨f, x, others, grant, red, saved⟩ := arbGrant_eq e r d
  have denied : Writes requestParts (raise .leaseGranted x f) (arbGrant e r d) := by
    rw [grant]
    exact .foldl .refl fun _ _ => .arbDeny .refl
  have entry : ∃ n, (arbGrant e r d).arb e = { (d.arb e).granted r.candidate d.now with denials := n } := by
    rw [grant]
    refine List.foldlRecOn others _ (motive := fun f : Dev =>
      ∃ n, f.arb e = { (d.arb e).granted r.candidate d.now with denials := n }) ?_ fun f ⟨n, has⟩ y _ => ?_
    · exact ⟨_, (arb_congr ((raise_red ..).trans red) e).trans (arb_modArb he _ d)⟩
    · exact ⟨_, by rw [arbDeny_arb he, has]⟩
  obtain ⟨n, entry⟩ := entry
  have dirty : (arbGrant e r d).pwr.confDirty = true := by rw [denied .power (by decide), raise_pwr, saved]
  have told : Happened { s with dev := arbGrant e r d } .leaseGranted := by
    rw [Happened, denied .events (by decide)]
    exact (raised_raise _ _ _ (by decide)).1
  dsimp only [Granted]
  rw [entry, ← now, ← epoch, ← grants]
  refine ⟨rfl, rfl, rfl, rfl, rfl, rfl, fun y waiting => ?_, rfl, dirty, told⟩
  simpa using (List.mem_filter.mp waiting).2

section
variable {e : Nat} {d : Dev}

theorem arbNext_none (none : (d.arb e).pending = []) : arbNext e d = d := by
  unfold arbNext
  rw [none]

theorem arbNext_first {r : ArbReq} {rest : List ArbReq} (waits : (d.arb e).pending = r :: rest)
    (may : d.arbOpen e = true) : arbNext e d = arbGrant e r d := by
  unfold arbNext
  rw [waits]
  exact if_pos may

end

/-! ## A message for the arbiter (R392, R393) -/

/-- Noting a request leaves the entries as they are. -/
@[simp] theorem noteReq_arb (c : DWord) (epoch n : Word) (d : Dev) (e : Nat) :
    (noteReq c epoch n d).arb e = d.arb e := rfl
@[simp] theorem noteReq_arbOpen (c : DWord) (epoch n : Word) (d : Dev) (e : Nat) :
    (noteReq c epoch n d).arbOpen e = d.arbOpen e := rfl
@[simp] theorem noteReq_arbEntry (c : DWord) (epoch n station : Word) (d : Dev) :
    (noteReq c epoch n d).arbEntry station = d.arbEntry station := rfl

section
variable {s : State} {data : Bytes} {type : Nat} {h : StHeader} {ip : Word}
  (role : s.dev.sys.role = .arbiter) (ready : s.dev.sys.fwReady = true)
include role ready

theorem forArbiter_takes {m : LeaseMsg} {key : Nat} {epoch : Word} (heard : LeaseHeard s data type m key epoch h)
    (fresh : s.dev.reqFresh m.candidate epoch m.reqNo = true) (f : LeaseMsg → Nat → Word → StHeader → Dev → Dev) :
    forArbiter type ip data s.dev f = f m key epoch h (noteReq m.candidate epoch m.reqNo s.dev) := by
  obtain ⟨heard, p, authentic, message⟩ := heard
  unfold forArbiter
  rw [role, ready, if_neg (by decide), heard_takes heard, authentic]
  dsimp only
  rw [message]
  exact if_pos fresh

/-- A message whose MAC or key fails raises MBX_AUTH_FAIL (R393). -/
theorem forArbiter_fails (heard : Heard s data h type) (fails : authParse data h s.dev = none)
    (f : LeaseMsg → Nat → Word → StHeader → Dev → Dev) :
    forArbiter type ip data s.dev f = raise .mbxAuthFail ip.toNat s.dev := by
  unfold forArbiter
  rw [role, ready, if_neg (by decide), heard_takes heard, fails]

end

/-! ## LEASE_REQ_RECEIVED (R397, R398, R401) -/

/-- A request as the arbiter keeps it. -/
def LeaseMsg.request (ip epoch : Word) (now : Nat) (m : LeaseMsg) : ArbReq :=
  { candidate := m.candidate, ip := ip, bootEpoch := epoch, reqNo := m.reqNo, cold := m.cold, prefer := m.prefer
    since := now }

section
variable {s : State} {ip : Word} {data : Bytes} {m : LeaseMsg} {e : Nat} {h : StHeader}

section
variable (arrives : ToArbiter s data 0x40 m e h)
include arrives

theorem leaseReqReceived_served : e < 16 ∧ ∃ epoch, Becomes (.leaseReqReceived ip data) s
    (arbRequest e m (m.request ip epoch s.dev.now) (noteReq m.candidate epoch m.reqNo s.dev)) := by
  obtain ⟨role, ready, served, epoch, heard, fresh⟩ := arrives
  refine ⟨arbEntry_lt served, epoch, becomes_of_nextD (by rw [exec, execLeaseReqReceived]) ?_⟩
  rw [forArbiter_takes role ready heard fresh]
  dsimp only
  rw [noteReq_arbEntry, served]
  exact if_neg (by simp)

theorem leaseReqReceived_otherLength (other : m.leaseMs ≠ (s.dev.arb e).leaseMs) :
    Goes (.leaseReqReceived ip data) s fun t =>
      t.dev.arb e = { s.dev.arb e with denials := satInc (s.dev.arb e).denials } := by
  obtain ⟨he, epoch, row⟩ := leaseReqReceived_served (ip := ip) arrives
  refine goes_of_becomes row ?_
  have denies : arbRequest e m (m.request ip epoch s.dev.now) (noteReq m.candidate epoch m.reqNo s.dev) =
      arbDeny e (m.request ip epoch s.dev.now) 2 (noteReq m.candidate epoch m.reqNo s.dev) :=
    if_pos (bne_iff_ne.mpr other)
  dsimp only
  rw [denies]
  exact arbDeny_arb he _ _ _

variable (length : m.leaseMs = (s.dev.arb e).leaseMs)
include length

theorem leaseReqReceived_grants (warm : m.cold = false) (may : s.dev.arbOpen e = true) :
    Goes (.leaseReqReceived ip data) s fun t => Granted s t e m.candidate := by
  obtain ⟨he, epoch, row⟩ := leaseReqReceived_served (ip := ip) arrives
  refine goes_of_becomes row ?_
  have grants : arbRequest e m (m.request ip epoch s.dev.now) (noteReq m.candidate epoch m.reqNo s.dev) =
      arbGrant e (m.request ip epoch s.dev.now) (noteReq m.candidate epoch m.reqNo s.dev) := by
    unfold arbRequest
    exact (if_neg (by simp [length])).trans ((if_neg (by simp [warm])).trans (if_pos may))
  rw [grants]
  exact arbGrant_granted he (m.request ip epoch s.dev.now) rfl rfl rfl

theorem leaseReqReceived_waits (warm : m.cold = false) (shut : s.dev.arbOpen e = false) :
    Goes (.leaseReqReceived ip data) s fun t =>
      t.dev.arb e = { s.dev.arb e with pending := (t.dev.arb e).pending } ∧
      ∃ r ∈ (t.dev.arb e).pending, r.candidate = m.candidate ∧ r.reqNo = m.reqNo ∧ r.since = s.dev.now := by
  obtain ⟨he, epoch, row⟩ := leaseReqReceived_served (ip := ip) arrives
  refine goes_of_becomes row ?_
  have waits : (arbRequest e m (m.request ip epoch s.dev.now) (noteReq m.candidate epoch m.reqNo s.dev)).arb e =
      { s.dev.arb e with pending := (s.dev.arb e).pending.filter (fun z => z.candidate != m.candidate) ++
          [m.request ip epoch s.dev.now] } := by
    unfold arbRequest
    exact (congrArg (Dev.arb · e) ((if_neg (by simp [length])).trans ((if_neg (by simp [warm])).trans
      (if_neg (Bool.eq_false_iff.mp shut))))).trans (arb_modArb he _ _)
  dsimp only
  rw [waits]
  exact ⟨rfl, _, List.mem_append_right _ (List.mem_singleton_self _), rfl, rfl, rfl⟩

theorem leaseReqReceived_collects (cold : m.cold = true) (loud : (s.dev.arb e).state ≠ .quiet)
    (may : s.dev.arbOpen e = true) : Goes (.leaseReqReceived ip data) s fun t =>
      (t.dev.arb e).state = .collecting ∧ (t.dev.arb e).epoch = (s.dev.arb e).epoch ∧
      ∃ r ∈ (t.dev.arb e).cold, r.candidate = m.candidate ∧ r.reqNo = m.reqNo ∧ r.prefer = m.prefer := by
  obtain ⟨he, epoch, row⟩ := leaseReqReceived_served (ip := ip) arrives
  refine goes_of_becomes row ?_
  have collects : (arbRequest e m (m.request ip epoch s.dev.now) (noteReq m.candidate epoch m.reqNo s.dev)).arb e =
      { s.dev.arb e with
        state := .collecting
        cold := (s.dev.arb e).cold.filter (fun z => z.candidate != m.candidate) ++
          [m.request ip epoch s.dev.now] } := by
    unfold arbRequest
    exact (congrArg (Dev.arb · e) ((if_neg (by simp [length])).trans ((if_pos cold).trans
      ((if_neg (by simp [loud])).trans (if_neg (by simp [may])))))).trans (arb_modArb he _ _)
  dsimp only
  rw [collects]
  exact ⟨rfl, rfl, _, List.mem_append_right _ (List.mem_singleton_self _), rfl, rfl, rfl⟩

end

section
variable (role : s.dev.sys.role = .arbiter) (ready : s.dev.sys.fwReady = true)
include role ready

section
variable {key : Nat} {epoch : Word} (heard : LeaseHeard s data 0x40 m key epoch h)
  (fresh : s.dev.reqFresh m.candidate epoch m.reqNo = true)
include heard fresh

/-- A station that no entry serves is denied at once (R398). -/
theorem leaseReqReceived_strange (unserved : s.dev.arbEntry m.station = none) :
    Goes (.leaseReqReceived ip data) s fun t =>
      t.dev.red.arbiters = s.dev.red.arbiters ∧ ∀ k, s.dev.hmacKey key = some k →
        ∃ b, Sends s t [.udp ip stationPort b] ∧ getBe b 3 1 = 0x42 := by
  refine goes_of_nextD (by rw [exec, execLeaseReqReceived]) ?_
  rw [forArbiter_takes role ready heard fresh]
  dsimp only
  rw [noteReq_arbEntry, unserved]
  dsimp only
  exact ⟨by rw [stationAuth_red]; rfl, fun k installed =>
    stationAuth_sends (d := noteReq _ _ _ s.dev) installed heard.1.1 (by decide)⟩

theorem leaseReqReceived_otherKey (served : s.dev.arbEntry m.station = some e) (other : key ≠ (s.dev.arb e).key) :
    Goes (.leaseReqReceived ip data) s fun t =>
      t.dev.red.arbiters = s.dev.red.arbiters ∧ Raised t .mbxAuthFail ip.toNat := by
  refine goes_of_nextD (by rw [exec, execLeaseReqReceived]) ?_
  rw [forArbiter_takes role ready heard fresh]
  dsimp only
  rw [noteReq_arbEntry, served]
  dsimp only
  rw [noteReq_arb, if_pos (bne_iff_ne.mpr other)]
  exact ⟨by rw [raise_red]; rfl, raised_raise _ _ _ (by decide)⟩

end

variable (fails : authParse data h s.dev = none)
include fails

theorem leaseReqReceived_fails (heard : Heard s data h 0x40) : Goes (.leaseReqReceived ip data) s fun t =>
    t.dev.red = s.dev.red ∧ Raised t .mbxAuthFail ip.toNat := by
  refine goes_of_nextD (by rw [exec, execLeaseReqReceived]) ?_
  rw [forArbiter_fails role ready heard fails]
  exact ⟨raise_red .., raised_raise _ _ _ (by decide)⟩

theorem leaseReleaseReceived_fails (heard : Heard s data h 0x45) : Goes (.leaseReleaseReceived ip data) s fun t =>
    t.dev.red = s.dev.red ∧ Raised t .mbxAuthFail ip.toNat := by
  refine goes_of_nextD (by rw [exec, execLeaseReleaseReceived]) ?_
  rw [forArbiter_fails role ready heard fails]
  exact ⟨raise_red .., raised_raise _ _ _ (by decide)⟩

end

/-! ## Renewal and release (R397, R400) -/

section
variable (arrives : ToArbiter s data 0x43 m e h)
include arrives

theorem leaseRenewReceived_served : e < 16 ∧ ∃ epoch, Becomes (.leaseRenewReceived (.net ip) data) s
    (arbRenew e ip m epoch h (noteReq m.candidate epoch m.reqNo s.dev)) := by
  obtain ⟨role, ready, served, epoch, heard, fresh⟩ := arrives
  refine ⟨arbEntry_lt served, epoch, becomes_of_nextD (by rw [exec, execLeaseRenewReceived]) ?_⟩
  refine Eq.trans (if_pos (by rw [role]; rfl)) ?_
  rw [forArbiter_takes role ready heard fresh, noteReq_arbEntry, served]
  exact if_neg (by simp)

/-- The holder's renewal starts its lease anew while the lease runs, and does nothing after it (R397). -/
theorem leaseRenewReceived_holder {g : Nat} (held : (s.dev.arb e).state = .held) (since : (s.dev.arb e).g = some g)
    (holder : (s.dev.arb e).holder = m.candidate) (epoch : (s.dev.arb e).heldEpoch = m.epoch) :
    Goes (.leaseRenewReceived (.net ip) data) s fun t => t.dev.arb e =
      if s.dev.now < g + leaseLen (s.dev.arb e).leaseMs then { s.dev.arb e with g := some s.dev.now }
      else s.dev.arb e := by
  obtain ⟨he, boot, row⟩ := leaseRenewReceived_served (ip := ip) arrives
  refine goes_of_becomes row ?_
  generalize noted : noteReq m.candidate boot m.reqNo s.dev = d
  have entry : d.arb e = s.dev.arb e := by subst noted; rfl
  have now : d.now = s.dev.now := by subst noted; rfl
  unfold arbRenew
  dsimp only
  rw [entry, held, if_neg (by decide), since]
  dsimp only
  rw [now]
  split
  · next runs =>
    rw [if_pos (by simpa [holder, epoch] using runs)]
    exact (arb_congr stationAuth_red e).trans ((arb_modArb he _ d).trans (by rw [entry, held]))
  · next ended => rw [if_neg (by simpa [holder, epoch] using ended), entry]

/-- A renewal of a device in the active role takes a quiet entry (R400). -/
theorem leaseRenewReceived_quiet (quiet : (s.dev.arb e).state = .quiet) (active : h.role = 1) :
    Goes (.leaseRenewReceived (.net ip) data) s fun t =>
      let y := t.dev.arb e
      y.state = .held ∧ y.holder = m.candidate ∧ y.heldEpoch = m.epoch ∧ y.g = some s.dev.now ∧
      y.epoch.toNat = max (s.dev.arb e).epoch.toNat m.epoch.toNat := by
  obtain ⟨he, boot, row⟩ := leaseRenewReceived_served (ip := ip) arrives
  refine goes_of_becomes row ?_
  generalize noted : noteReq m.candidate boot m.reqNo s.dev = d
  have entry : d.arb e = s.dev.arb e := by subst noted; rfl
  have now : d.now = s.dev.now := by subst noted; rfl
  have taken : (arbRenew e ip m boot h d).arb e = { s.dev.arb e with
      epoch := if (s.dev.arb e).epoch.toNat < m.epoch.toNat then m.epoch else (s.dev.arb e).epoch
      heldEpoch := m.epoch, holder := m.candidate, g := some s.dev.now, state := .held } := by
    unfold arbRenew
    dsimp only
    rw [entry, quiet, active, now, if_pos (by decide), if_neg (by decide)]
    exact (arb_congr stationAuth_red e).trans ((arb_modArb he _ d).trans (by rw [entry]))
  dsimp only
  rw [taken]
  refine ⟨rfl, rfl, rfl, rfl, ?_⟩
  dsimp only
  split <;> omega

end

section
variable (arrives : ToArbiter s data 0x45 m e h)
include arrives

theorem leaseReleaseReceived_served : e < 16 ∧ ∃ epoch, Becomes (.leaseReleaseReceived ip data) s
    (if (s.dev.arb e).state != .held || (s.dev.arb e).holder != m.candidate || (s.dev.arb e).heldEpoch != m.epoch then
      noteReq m.candidate epoch m.reqNo s.dev
    else arbNext e (modArb e (fun y => { y with state := .free, g := none, holder := 0 })
      (noteReq m.candidate epoch m.reqNo s.dev))) := by
  obtain ⟨role, ready, served, epoch, heard, fresh⟩ := arrives
  refine ⟨arbEntry_lt served, epoch, becomes_of_nextD (by rw [exec, execLeaseReleaseReceived]) ?_⟩
  rw [forArbiter_takes role ready heard fresh]
  dsimp only
  rw [noteReq_arbEntry, served]
  exact if_neg (by simp)

theorem leaseReleaseReceived_frees (held : (s.dev.arb e).state = .held) (holder : (s.dev.arb e).holder = m.candidate)
    (epoch : (s.dev.arb e).heldEpoch = m.epoch) (none : (s.dev.arb e).pending = []) :
    Goes (.leaseReleaseReceived ip data) s fun t =>
      t.dev.arb e = { s.dev.arb e with state := .free, g := .none, holder := 0 } := by
  obtain ⟨he, boot, row⟩ := leaseReleaseReceived_served (ip := ip) arrives
  refine goes_of_becomes row ?_
  dsimp only
  have entry := arb_modArb he (fun y => { y with state := .free, g := .none, holder := 0 })
    (noteReq m.candidate boot m.reqNo s.dev)
  rw [if_neg (by simp [held, holder, epoch]), arbNext_none (by rw [entry]; exact none), entry]
  rfl

theorem leaseReleaseReceived_other (other : (s.dev.arb e).holder ≠ m.candidate) :
    Goes (.leaseReleaseReceived ip data) s fun t => t.dev.arb e = s.dev.arb e := by
  obtain ⟨he, boot, row⟩ := leaseReleaseReceived_served (ip := ip) arrives
  refine goes_of_becomes row ?_
  dsimp only
  rw [if_pos (by simp [other])]
  rfl

end

/-! ## The arbiter's instants (R397 to R401) -/

section
variable (e : Fin 16)

theorem leaseReqPendingExpiry_denies {cand : DWord} {r : ArbReq}
    (waits : (s.dev.arb e).pending.find? (fun y => y.candidate == cand) = some r)
    (due : s.dev.reached (r.since + leaseLen (s.dev.arb e).leaseMs / 3) = true) :
    Goes (.leaseReqPendingExpiry e cand) s fun t => t.dev.arb e = { s.dev.arb e with
      pending := (s.dev.arb e).pending.filter fun y => y.candidate != cand
      denials := satInc (s.dev.arb e).denials } := by
  refine goes_of_nextD (by rw [exec, execLeaseReqPendingExpiry]) ?_
  rw [waits]
  dsimp only
  rw [if_neg (by rw [due]; decide), arbDeny_arb e.isLt, arb_modArb e.isLt]

theorem leaseReqPendingExpiry_early {cand : DWord} {r : ArbReq}
    (waits : (s.dev.arb e).pending.find? (fun y => y.candidate == cand) = some r)
    (early : s.dev.reached (r.since + leaseLen (s.dev.arb e).leaseMs / 3) = false) :
    Becomes (.leaseReqPendingExpiry e cand) s s.dev := by
  refine becomes_of_nextD (by rw [exec, execLeaseReqPendingExpiry]) ?_
  rw [waits]
  exact if_pos (by rw [early]; rfl)

/-- A freed entry with nothing pending stays free. -/
theorem arbNext_freed {f : ArbEntry → ArbEntry} (keeps : (f (s.dev.arb e)).pending = (s.dev.arb e).pending)
    (none : (s.dev.arb e).pending = []) : (arbNext e (modArb e f s.dev)).arb e = f (s.dev.arb e) := by
  rw [arbNext_none (by rw [arb_modArb e.isLt, keeps, none]), arb_modArb e.isLt]

/-- A freed entry goes to the first that waits, where R397 allows a grant. -/
theorem arbNext_granted {f : ArbEntry → ArbEntry} {r : ArbReq} {rest : List ArbReq}
    (keeps : (f (s.dev.arb e)).pending = (s.dev.arb e).pending) (epoch : (f (s.dev.arb e)).epoch = (s.dev.arb e).epoch)
    (grants : (f (s.dev.arb e)).grants = (s.dev.arb e).grants) (waits : (s.dev.arb e).pending = r :: rest)
    (may : (modArb e f s.dev).arbOpen e = true) :
    Granted s { s with dev := arbNext e (modArb e f s.dev) } e r.candidate := by
  rw [arbNext_first (by rw [arb_modArb e.isLt, keeps, waits]) may]
  refine arbGrant_granted e.isLt r rfl ?_ ?_
  · rw [arb_modArb e.isLt, epoch]
  · rw [arb_modArb e.isLt, grants]

section
variable (role : s.dev.sys.role = .arbiter)
include role

theorem arbiterGrantReady_next (held : (s.dev.arb e).state = .held ∨ (s.dev.arb e).state = .grace)
    (due : (s.dev.arb e).openAt s.dev.now = true) :
    Becomes (.arbiterGrantReady e) s
      (arbNext e (modArb e (fun x => { x with state := .free, holder := 0 }) s.dev)) := by
  refine becomes_of_nextD (by rw [exec, execArbiterGrantReady]) ?_
  exact if_neg (by rcases held with held | held <;> simp [role, held, due])

theorem arbiterGrantReady_frees (held : (s.dev.arb e).state = .held ∨ (s.dev.arb e).state = .grace)
    (due : (s.dev.arb e).openAt s.dev.now = true) (none : (s.dev.arb e).pending = []) :
    Goes (.arbiterGrantReady e) s fun t => t.dev.arb e = { s.dev.arb e with state := .free, holder := 0 } :=
  goes_of_becomes (arbiterGrantReady_next e role held due) (arbNext_freed e rfl none)

theorem arbiterGrantReady_grants (held : (s.dev.arb e).state = .held ∨ (s.dev.arb e).state = .grace)
    (due : (s.dev.arb e).openAt s.dev.now = true) {r : ArbReq} {rest : List ArbReq}
    (waits : (s.dev.arb e).pending = r :: rest) (enabled : (s.dev.arb e).enable = true)
    (saved : s.dev.red.arbQuietSave = false) :
    Goes (.arbiterGrantReady e) s fun t => Granted s t e r.candidate := by
  refine goes_of_becomes (arbiterGrantReady_next e role held due) (arbNext_granted e rfl rfl rfl waits ?_)
  rw [Dev.arbOpen, arb_modArb e.isLt, enabled, show (modArb _ _ s.dev).red.arbQuietSave = false from saved]
  exact due

theorem arbiterQuietEnd_next (quiet : (s.dev.arb e).state = .quiet) (saved : s.dev.red.arbQuietSave = false)
    (past : leaseLen (s.dev.arb e).leaseMs + leaseDrift (s.dev.arb e).leaseMs < s.dev.now + tickUnits) :
    Becomes (.arbiterQuietEnd e) s (arbNext e (modArb e (fun x => { x with state := .free }) s.dev)) := by
  refine becomes_of_nextD (by rw [exec, execArbiterQuietEnd]) ?_
  exact if_neg (by simp [role, quiet, saved, past])

theorem arbiterQuietEnd_frees (quiet : (s.dev.arb e).state = .quiet) (saved : s.dev.red.arbQuietSave = false)
    (past : leaseLen (s.dev.arb e).leaseMs + leaseDrift (s.dev.arb e).leaseMs < s.dev.now + tickUnits)
    (none : (s.dev.arb e).pending = []) :
    Goes (.arbiterQuietEnd e) s fun t => t.dev.arb e = { s.dev.arb e with state := .free } :=
  goes_of_becomes (arbiterQuietEnd_next e role quiet saved past) (arbNext_freed e rfl none)

theorem arbiterQuietEnd_grants (quiet : (s.dev.arb e).state = .quiet) (saved : s.dev.red.arbQuietSave = false)
    (past : leaseLen (s.dev.arb e).leaseMs + leaseDrift (s.dev.arb e).leaseMs < s.dev.now + tickUnits)
    {r : ArbReq} {rest : List ArbReq} (waits : (s.dev.arb e).pending = r :: rest)
    (enabled : (s.dev.arb e).enable = true) (ungranted : (s.dev.arb e).g = none) :
    Goes (.arbiterQuietEnd e) s fun t => Granted s t e r.candidate := by
  refine goes_of_becomes (arbiterQuietEnd_next e role quiet saved past) (arbNext_granted e rfl rfl rfl waits ?_)
  rw [Dev.arbOpen, arb_modArb e.isLt, enabled, show (modArb _ _ s.dev).red.arbQuietSave = false from saved,
    ArbEntry.openAt, ungranted]
  rfl

end

theorem arbiterGrantReady_early (early : (s.dev.arb e).openAt s.dev.now = false) :
    Becomes (.arbiterGrantReady e) s s.dev := by
  refine becomes_of_nextD (by rw [exec, execArbiterGrantReady]) ?_
  exact if_pos (by simp [early])

theorem arbiterQuietEnd_unsaved (unsaved : s.dev.red.arbQuietSave = true) :
    Becomes (.arbiterQuietEnd e) s s.dev := by
  refine becomes_of_nextD (by rw [exec, execArbiterQuietEnd]) ?_
  exact if_pos (by simp [unsaved])

section
variable {r : ArbReq} {rest : List ArbReq} (collects : (s.dev.arb e).state = .collecting)
  (may : s.dev.arbOpen e = true) (asked : (s.dev.arb e).cold = r :: rest)
include collects may asked

/-- The COLD wait ends with the request that prefers, or with the earliest (R401). -/
theorem coldWaitExpiry_grants (due : s.dev.reached (r.since + (s.dev.arb e).coldWait * 10000) = true) :
    Goes (.coldWaitExpiry e) s fun t =>
      Granted s t e (((s.dev.arb e).cold.find? (·.prefer)).getD r).candidate := by
  refine goes_of_nextD (by rw [exec, execColdWaitExpiry]) ?_
  dsimp only
  rw [if_neg (by simp [collects, may])]
  split
  · next none => exact absurd (asked.symm.trans none) (by simp)
  · next first others cold =>
    obtain ⟨rfl, -⟩ := List.cons.inj (asked.symm.trans cold)
    rw [if_pos due]
    exact arbGrant_granted e.isLt _ rfl rfl rfl

theorem coldWaitExpiry_early (early : s.dev.reached (r.since + (s.dev.arb e).coldWait * 10000) = false) :
    Becomes (.coldWaitExpiry e) s s.dev := by
  refine becomes_of_nextD (by rw [exec, execColdWaitExpiry]) ?_
  dsimp only
  rw [if_neg (by simp [collects, may]), asked]
  exact if_neg (by simp [early])

end

end

end

/-! ## ARBITER_CONFIG (R426) -/

theorem arbTests_entry {d : Dev} {p : Bytes} (pass : Claims.Pass (arbTests d p)) : byteAt p 1 < 16 := by
  have range := (firstFail_eq_none _).mp pass
  simp only [arbTests, List.forall_mem_cons, Bool.or_eq_false_iff, decide_eq_false_iff_not] at range
  omega

theorem arbSet_sets {d : Dev} {p : Bytes} (he : byteAt p 1 < 16) :
    let y := (arbSet p d).arb (byteAt p 1)
    y.enable = (byteAt p 2).testBit 0 ∧ y.key = byteAt p 3 ∧ y.station = BitVec.ofNat 32 (getLe p 4 4) ∧
      y.leaseMs = getLe p 8 4 ∧ y.coldWait = getLe p 12 2 ∧ y.epoch = (d.arb (byteAt p 1)).epoch ∧
      (arbSet p d).pwr.confDirty = true := by
  unfold arbSet
  dsimp only
  rw [arb_congr (confChanged_red _), arb_modArb he]
  exact ⟨rfl, rfl, rfl, rfl, rfl, rfl, rfl⟩

/-- What ARBITER_CONFIG makes of a device: SET sets the entry, READ changes nothing. -/
def arbConfigured (p : Bytes) (d : Dev) : Dev := if byteAt p 0 == 0 then arbSet p d else d

theorem arbConfigured_mbx (p : Bytes) (d : Dev) (m : Mbx) :
    arbConfigured p { d with mbx := m } = { arbConfigured p d with mbx := m } := by
  unfold arbConfigured
  split <;> rfl

theorem arbiterConfig_answers {s : State} {o : Origin} {p : Bytes} (waits : Waits s o 0x0805 p)
    (pass : Claims.Pass (arbTests s.dev p)) : Goes (.arbiterConfig o) s fun t =>
      Answers t o stOk (arbBytes (byteAt p 1) (arbConfigured p s.dev)) ∧
      ∃ m, t.dev = { arbConfigured p s.dev with mbx := m } := by
  have command : exec (.arbiterConfig o) s = execArbiterConfig o s := rfl
  have tested (m) : Claims.Pass (arbTests { s.dev with mbx := m } p) := pass
  refine goes_answers (P := fun d => ∃ m, d = { arbConfigured p s.dev with mbx := m }) command waits
    (Bool.and_false _) (fun _ => rfl) tested fun m => ⟨arbConfigured p { s.dev with mbx := m }, ?acts, ?kept, ?holds⟩
  case acts =>
    refine congrArg (Prod.mk _) (congrArg Reply.ok ?_)
    show arbBytes _ (arbConfigured p _) = _
    rw [arbConfigured_mbx]
    rfl
  case kept => rw [arbConfigured_mbx]
  case holds =>
    rw [arbConfigured_mbx]
    exact fun m' => ⟨m', rfl⟩

/-- Settles O44, one row at a time. A message is fresh where log entry 92 says so. -/
theorem arbiterLeases : Obligations.ArbiterLeases := by
  unfold Obligations.ArbiterLeases
  intro s
  refine ⟨fun ip data m e h arrives => ⟨fun length warm => leaseReqReceived_grants arrives length warm,
      fun length warm => leaseReqReceived_waits arrives length warm,
      fun length cold loud => leaseReqReceived_collects arrives length cold loud,
      leaseReqReceived_otherLength arrives⟩,
    fun ip data m key epoch h role ready heard fresh => ⟨leaseReqReceived_strange role ready heard fresh,
      fun e => leaseReqReceived_otherKey role ready heard fresh⟩,
    fun ip data h role ready fails => ⟨leaseReqReceived_fails role ready fails,
      leaseReleaseReceived_fails role ready fails⟩,
    fun e cand r waits => ⟨leaseReqPendingExpiry_denies e waits, leaseReqPendingExpiry_early e waits⟩,
    fun e => ⟨fun role held due => ⟨arbiterGrantReady_frees e role held due,
        fun r rest waits enabled saved => arbiterGrantReady_grants e role held due waits enabled saved⟩,
      arbiterGrantReady_early e, fun role quiet saved past => ⟨arbiterQuietEnd_frees e role quiet saved past,
        fun r rest waits enabled ungranted => arbiterQuietEnd_grants e role quiet saved past waits enabled ungranted⟩,
      arbiterQuietEnd_unsaved e,
      fun r rest collects may asked => ⟨fun due => ?cold, coldWaitExpiry_early e collects may asked⟩⟩,
    fun ip data m e h arrives => ⟨fun g held since holder epoch => ?renew, leaseRenewReceived_quiet arrives⟩,
    fun ip data m e h arrives => ⟨leaseReleaseReceived_frees arrives, leaseReleaseReceived_other arrives⟩,
    fun o p waits pass => ?config⟩
  case cold =>
    have granted := coldWaitExpiry_grants e collects may asked due
    exact ⟨fun y prefers => by rwa [prefers] at granted, fun none => by rwa [none] at granted⟩
  case renew =>
    have renewed := leaseRenewReceived_holder (ip := ip) arrives held since holder epoch
    exact ⟨fun runs => by simpa only [if_pos runs] using renewed,
      fun ended => by simpa only [if_neg (Nat.not_lt.mpr ended)] using renewed⟩
  case config =>
    obtain ⟨t, run, answer, m, dev⟩ := arbiterConfig_answers waits pass
    refine ⟨t, run, by rw [dev]; exact answer, fun read => ?_, fun set_ => ?_⟩
    · rw [dev, arbConfigured, read]; rfl
    · have sets : arbConfigured p s.dev = arbSet p s.dev := if_pos (by rw [set_]; rfl)
      rw [dev, sets]
      exact arbSet_sets (arbTests_entry pass)

end Sys2Proof.Machine
end

section
/-!
PROOF. The pair path and the checkpoint stream (R388, R389, R406 to R412): what sending leaves of the redundancy block,
then the pair path and its notices, the stream's active side, and the frames that a standby takes.
-/

namespace Sys2Proof.Machine

open Sys2Proof Sys2Proof.Claims

/-! ## What sending and asking leave of the redundancy block -/

theorem shadowEnd_red (state : Nat) (d : Dev) : ∃ x, (shadowEnd state d).red = { d.red with shadow := x } := by
  unfold shadowEnd
  split <;> exact ⟨_, rfl⟩

theorem shadowEnd_red_when (c : Prop) [Decidable c] (state : Nat) (d : Dev) :
    ∃ x, (if c then shadowEnd state d else d).red = { d.red with shadow := x } := by
  split
  · exact shadowEnd_red state d
  · exact ⟨_, rfl⟩

theorem dropRequest_red (d : Dev) : ∃ l, (dropRequest d).red = { d.red with lease := l } := by
  unfold dropRequest
  split <;> exact ⟨_, rfl⟩

section
variable (d : Dev)

theorem pairSend_red (type : Nat) (payload : Bytes) : (pairSend type payload d).red = d.red :=
  (Writes.pairSend (ps := messages) .refl) .pair (by decide)

theorem sendLeaseReq_red (cold : Bool) : (sendLeaseReq cold d).red =
    { d.red with lease := { (leaseRequest cold false d).2.red.lease with state := .requesting } } := by
  unfold sendLeaseReq
  exact stationAuth_red

theorem requestLease_red : ∃ l, (requestLease d).red = { d.red with lease := l } := by
  unfold requestLease
  split
  · exact ⟨_, sendLeaseReq_red d false⟩
  · exact ⟨_, rfl⟩

/-- An acknowledgement that goes out begins the count of frames anew (R409). -/
theorem sendFirnAck_red (follows : d.follows = true) (up : d.red.pathUp = true) (shape : d.red.shapeOk = true) :
    (sendFirnAck d).red = { d.red with firn := { d.red.firn with sinceAck := 0 } } := by
  unfold sendFirnAck
  rw [if_neg (by simp [follows, up, shape]), pairSend_red]
  rfl

theorem sendFirnAck_keeps : ∃ n, (sendFirnAck d).red = { d.red with firn := { d.red.firn with sinceAck := n } } := by
  unfold sendFirnAck
  split
  · exact ⟨_, rfl⟩
  · exact ⟨0, pairSend_red _ _ _⟩

end

/-- The redundancy block but for the frames that the active device has sent. -/
def Red.beyondSent (r : Red) : Red :=
  { r with firn := { r.firn with txSeq := 0, unacked := [], passOff := none, passLast := none } }

theorem firnSend_beyondSent (type : Nat) (body : Bytes) (d : Dev) :
    (firnSend type body d).red.beyondSent = d.red.beyondSent := by
  unfold firnSend
  rw [pairSend_red]
  rfl

theorem sendSegment_beyondSent (im : Image) (off : Nat) (d : Dev) :
    (sendSegment im off d).red.beyondSent = d.red.beyondSent := by
  unfold sendSegment
  dsimp only
  split <;> exact firnSend_beyondSent _ _ d

theorem pumpPass_beyondSent (im : Image) (n : Nat) (d : Dev) :
    (pumpPass im n d).red.beyondSent = d.red.beyondSent := by
  induction n generalizing d with
  | zero => rfl
  | succ n ih =>
    unfold pumpPass
    split
    · rfl
    · split
      · rfl
      · rw [ih, sendSegment_beyondSent]

/-! ## The pair path (R388) -/

/-- The redundancy block where the pair path has fallen. -/
def Red.parted (r : Red) : Red :=
  { r with
    pathUp := false, shapeOk := false, peerState := .none
    standby := if r.standby == .ready || r.standby == .syncing || r.standby == .joining then .unpaired else r.standby
    firn := { r.firn with synced := false, staging := [] } }

/-- The redundancy block where the pair path has risen to a peer of the own shape. -/
def Red.joined (r : Red) : Red :=
  { r with
    pathUp := true, shapeOk := true, peerState := .none
    firn := { r.firn with
      synced := false, staging := [], rxClean := false, rxGot := 0, unacked := [], passOff := none, passLast := none } }

section
variable {s : State} {up : Bool} {peer : List (Half × DWord)} (paired : s.dev.red.cfg.paired = true)
  (master : s.dev.master = true)
include paired master

theorem shapeRecordExchange_falls (down : up = false) : Goes (.shapeRecordExchange up peer) s fun t =>
    t.dev.red.pathUp = false ∧ t.dev.red.firn.synced = false ∧ t.dev.red.firn.staging = [] ∧
    (s.dev.red.standby = .ready ∨ s.dev.red.standby = .syncing ∨ s.dev.red.standby = .joining →
      t.dev.red.standby = .unpaired) := by
  have row : Becomes (.shapeRecordExchange up peer) s
      (shadowEnd 5 (dropRequest { s.dev with red := s.dev.red.parted })) := by
    refine becomes_of_nextD (by rw [exec, execShapeRecordExchange]) ?_
    exact (if_neg (by simp [paired, master])).trans (if_pos (by rw [down]; rfl))
  refine goes_of_becomes row ?_
  obtain ⟨x, ended⟩ := shadowEnd_red 5 (dropRequest { s.dev with red := s.dev.red.parted })
  obtain ⟨l, dropped⟩ := dropRequest_red { s.dev with red := s.dev.red.parted }
  dsimp only
  rw [ended, dropped]
  exact ⟨rfl, rfl, rfl, fun was => if_pos (by rcases was with was | was | was <;> simp [was])⟩

variable (rises : up = true)
include rises

theorem shapeRecordExchange_mismatch (other : peer.map (·.1) ≠ s.dev.shape) :
    Goes (.shapeRecordExchange up peer) s fun t =>
      t.dev.red.pathUp = true ∧ t.dev.red.shapeOk = false ∧ Happened t .checkpointGap ∧
      (s.dev.follows = true → t.dev.red.standby = .unpaired) := by
  refine goes_of_nextD (by rw [exec, execShapeRecordExchange]) ?_
  dsimp only
  rw [if_neg (by simp [paired, master]), if_neg (by rw [rises]; decide), if_pos (bne_iff_ne.mpr other), gapEvent,
    raise_red]
  exact ⟨rfl, rfl, (raised_raise _ _ _ (by decide)).1, fun follows => if_pos follows⟩

theorem shapeRecordExchange_matches (same : peer.map (·.1) = s.dev.shape) :
    Goes (.shapeRecordExchange up peer) s fun t =>
      t.dev.red.pathUp = true ∧ t.dev.red.shapeOk = true ∧
      (s.dev.follows = true → s.dev.red.standby = .unpaired → t.dev.red.standby = .syncing) := by
  have row : Becomes (.shapeRecordExchange up peer) s (if s.dev.follows && s.dev.red.standby == .unpaired then
      sendFirnAck (setStandby .syncing { s.dev with red := s.dev.red.joined })
      else { s.dev with red := s.dev.red.joined }) := by
    refine becomes_of_nextD (by rw [exec, execShapeRecordExchange]) ?_
    exact (if_neg (by simp [paired, master])).trans ((if_neg (by rw [rises]; decide)).trans (if_neg (by simp [same])))
  refine goes_of_becomes row ?_
  dsimp only
  split
  · obtain ⟨n, acknowledged⟩ := sendFirnAck_keeps (setStandby .syncing { s.dev with red := s.dev.red.joined })
    rw [acknowledged]
    exact ⟨rfl, rfl, fun _ _ => rfl⟩
  · next stays =>
    exact ⟨rfl, rfl, fun follows was => absurd (Bool.and_eq_true_iff.mpr ⟨follows, beq_iff_eq.mpr was⟩) stays⟩

end

/-! ## Notices and forwarded commands (R389, R411, R412) -/

section
variable {s : State}

theorem pairNoticeReceived_requests (follows : s.dev.follows = true) (may : s.dev.candidate = true)
    (ready : s.dev.red.standby = .ready) : Goes (.pairNoticeReceived .fence) s fun t =>
      t.dev.red.lease.state = .requesting ∧ t.dev.red.lease.reqNo = s.dev.red.lease.reqNo + 1 := by
  have row : Becomes (.pairNoticeReceived .fence) s (pairNotice .fence s.mem s.dev) := rfl
  refine goes_of_becomes row ?_
  have requests : pairNotice .fence s.mem s.dev = sendLeaseReq false s.dev := by
    unfold pairNotice
    exact (if_neg (by simp [follows])).trans (if_pos (by simp [may, ready]))
  rw [requests, sendLeaseReq_red]
  exact ⟨rfl, rfl⟩

theorem pairNoticeReceived_alone (n : PairNotice) (alone : s.dev.follows = false) :
    Becomes (.pairNoticeReceived n) s s.dev := by
  have row : Becomes (.pairNoticeReceived n) s (pairNotice n s.mem s.dev) := rfl
  have nothing : pairNotice n s.mem s.dev = s.dev := by
    unfold pairNotice
    exact if_pos (by rw [alone]; rfl)
  rwa [nothing] at row

section
variable {code : Half} {p : Bytes}

theorem configForwardReceived_alone (alone : s.dev.follows = false) :
    Becomes (.configForwardReceived code p) s s.dev := by
  refine becomes_of_nextD (by rw [exec, execConfigForwardReceived]) ?_
  exact if_neg (by rw [alone]; decide)

/-- A forwarded command whose tests pass has its effect on a standby (R389). -/
theorem configForwardReceived_applies {tests : List (Bool × Half)} {f : Dev → Dev} (follows : s.dev.follows = true)
    (effect : forwarded code.toNat p s.dev = applyIf tests f s.dev) (pass : Claims.Pass tests) :
    Becomes (.configForwardReceived code p) s (f s.dev) := by
  refine becomes_of_nextD (by rw [exec, execConfigForwardReceived]) ?_
  rw [if_pos follows, effect, applyIf, show firstFail tests = none from pass]
  rfl

end

/-! ## The active side of the stream (R408, R409) -/

theorem firnPassStart_starts (streams : s.dev.streams = true) (loaded : s.dev.prog.image.isSome = true) :
    Goes .firnPassStart s fun t =>
      t.dev.red.firn.pass = s.dev.red.firn.pass + 1 ∧ t.dev.red.firn.passStart = s.dev.tick := by
  obtain ⟨im, image⟩ := Option.isSome_iff_exists.mp loaded
  have row : Becomes .firnPassStart s (startPassSend s.dev) := rfl
  rw [startPassSend, image] at row
  dsimp only at row
  rw [if_neg (by rw [streams]; decide)] at row
  refine goes_of_becomes row ⟨?_, ?_⟩
  · exact (congrArg (fun r : Red => r.firn.pass) (pumpPass_beyondSent im 64 _) :)
  · exact (congrArg (fun r : Red => r.firn.passStart) (pumpPass_beyondSent im 64 _) :)

theorem firnPassStart_silent (silent : s.dev.streams = false) : Becomes .firnPassStart s s.dev := by
  refine becomes_of_nextD (by rw [exec, execFirnPassStart]) ?_
  unfold startPassSend
  split
  · rfl
  · exact if_pos (by rw [silent]; rfl)

/-- A pass that starts keeps what the standby has acknowledged and reported. -/
theorem startPassSend_reports (d : Dev) : (startPassSend d).red.firn.acked = d.red.firn.acked ∧
    (startPassSend d).red.peerState = d.red.peerState := by
  unfold startPassSend
  split
  · exact ⟨rfl, rfl⟩
  · next im _ =>
    split
    · exact ⟨rfl, rfl⟩
    · exact ⟨(congrArg (fun r : Red => r.firn.acked) (pumpPass_beyondSent im 64 _) :),
        (congrArg Red.peerState (pumpPass_beyondSent im 64 _) :)⟩

theorem firnAckReceived_records (seq : Word) (st : StandbyState) (streams : s.dev.streams = true) :
    Goes (.firnAckReceived seq st) s fun t => t.dev.red.firn.acked = seq ∧ t.dev.red.peerState = st := by
  refine goes_of_nextD (by rw [exec, execFirnAckReceived]) ?_
  dsimp only
  rw [if_neg (by rw [streams]; decide)]
  generalize taken : Dev.mk .. = d
  have recorded : d.red.firn.acked = seq ∧ d.red.peerState = st := by
    subst taken
    exact ⟨rfl, rfl⟩
  obtain ⟨x, ended⟩ := shadowEnd_red_when (s.dev.red.peerState = .ready && st != .ready) 5 d
  generalize (if s.dev.red.peerState = .ready && st != .ready then shadowEnd 5 d else d) = e at ended ⊢
  obtain ⟨acked, reported⟩ : e.red.firn.acked = seq ∧ e.red.peerState = st := by
    rw [ended]
    exact recorded
  split
  · obtain ⟨acked', reported'⟩ := startPassSend_reports e
    exact ⟨acked'.trans acked, reported'.trans reported⟩
  · have sent := pumpPass_beyondSent (e.prog.image.getD {}) 64 e
    exact ⟨(congrArg (fun r : Red => r.firn.acked) sent :).trans acked, (congrArg Red.peerState sent :).trans reported⟩

theorem firnAckSend_acknowledges (follows : s.dev.follows = true) (up : s.dev.red.pathUp = true)
    (shape : s.dev.red.shapeOk = true) : Goes .firnAckSend s fun t =>
      t.dev.red.firn.sinceAck = 0 ∧ t.dev.red.firn.rxSeq = s.dev.red.firn.rxSeq := by
  refine goes_of_nextD (by rw [exec, execFirnAckSend]) ?_
  rw [sendFirnAck_red s.dev follows up shape]
  exact ⟨rfl, rfl⟩

theorem firnAckSend_alone (alone : s.dev.follows = false) : Becomes .firnAckSend s s.dev := by
  refine becomes_of_nextD (by rw [exec, execFirnAckSend]) ?_
  exact if_pos (by rw [alone]; rfl)

end

/-! ## A frame applied (R408, R411) -/

/-- The end of a pass changes the standby's state, its request and its count of compared cycles; a READY standby stays
READY. -/
theorem passComplete_red (d : Dev) : ∃ st l n,
    (passComplete d).red = { d.red with standby := st, lease := l, joinDone := n } ∧
    (d.red.standby = .ready → st = .ready) := by
  unfold passComplete
  dsimp only
  split
  · exact ⟨_, _, _, rfl, id⟩
  · next syncing =>
    have notReady : d.red.standby ≠ .ready := fun ready => syncing (by rw [ready]; rfl)
    split
    · obtain ⟨l, requested⟩ := requestLease_red (setStandby .ready d)
      exact ⟨_, _, _, requested, fun _ => rfl⟩
    · exact ⟨_, _, _, rfl, fun ready => absurd ready notReady⟩

theorem applyFrame_delta (t : Nat) (last fin : Bool) (frag : Nat) (cycle : Word) (recs : List DeltaRec) (d : Dev) :
    (applyFrame (.delta t last fin frag cycle recs) d).red = { d.red with
      replica := recs.foldl (fun r x => (d.prog.image.getD {}).ckApply r x) ((d.prog.image.getD {}).sized d.red.replica)
      firn := { d.red.firn with
        lastDelta := if last then vset d.red.firn.lastDelta t d.tick else d.red.firn.lastDelta } } := by
  cases last <;> rfl

theorem applyFrame_segment (pass off : Nat) (data : Bytes) (d : Dev) : ∃ got clean st l n,
    (applyFrame (.segment pass off data) d).red = { d.red with
      replica := patch ((d.prog.image.getD {}).sized d.red.replica) off data
      firn := { d.red.firn with rxPass := pass, rxGot := got, rxClean := clean }
      standby := st, lease := l, joinDone := n } ∧ (d.red.standby = .ready → st = .ready) := by
  unfold applyFrame
  dsimp only
  generalize (if off = 0 then (0, true) else _ : Nat × Bool) = before
  obtain ⟨got, clean⟩ := before
  dsimp only
  generalize (if off = got then got + data.length else got) = got'
  split
  · obtain ⟨st, l, n, completed, stays⟩ := passComplete_red (modFirn (fun f => { f with
      rxPass := pass, rxGot := got', rxClean := clean }) { d with red := { d.red with
        replica := patch ((d.prog.image.getD {}).sized d.red.replica) off data } })
    exact ⟨got', clean, st, l, n, completed, stays⟩
  · exact ⟨_, _, _, _, _, rfl, id⟩

/-- A frame applied, of either kind, keeps the count of gaps and a READY standby. -/
theorem applyFrame_keeps (f : FirnFrame) (d : Dev) : (applyFrame f d).red.firn.gaps = d.red.firn.gaps ∧
    (d.red.standby = .ready → (applyFrame f d).red.standby = .ready) := by
  cases f with
  | delta t last fin frag cycle recs =>
    rw [applyFrame_delta]
    exact ⟨rfl, id⟩
  | segment pass off data =>
    obtain ⟨got, clean, st, l, n, applied, stays⟩ := applyFrame_segment pass off data d
    rw [applied]
    exact ⟨rfl, stays⟩

theorem drainFrames_keeps (n : Nat) (d : Dev) : (drainFrames n d).red.firn.gaps = d.red.firn.gaps ∧
    (d.red.standby = .ready → (drainFrames n d).red.standby = .ready) := by
  induction n generalizing d with
  | zero => exact ⟨rfl, id⟩
  | succ n ih =>
    unfold drainFrames
    dsimp only
    split
    · exact ⟨rfl, id⟩
    · next q f _ =>
      generalize taken : modFirn _ d = e
      obtain ⟨gaps, ready⟩ := applyFrame_keeps f e
      obtain ⟨gaps', ready'⟩ := ih (applyFrame f e)
      subst taken
      exact ⟨gaps'.trans gaps, fun was => ready' (ready was)⟩

/-! ## A frame that arrives (R406) -/

section
variable {d : Dev} {seq : Word} (follows : d.follows = true) (shape : d.red.shapeOk = true)
  (sound : d.red.standby ≠ .faulty) (paired : d.red.standby ≠ .unpaired) (synced : d.red.firn.synced = true)
include follows shape sound paired synced

theorem takeFrame_behind (f : FirnFrame) (behind : seqGreater seq d.red.firn.rxSeq = false) :
    takeFrame seq f d = d := by
  unfold takeFrame
  dsimp only
  rw [if_neg (by simp [follows, shape, sound, paired]), if_pos synced, if_pos (by simp [behind])]

variable (none : d.red.firn.staging = [])
include none

/-- A frame that arrives where none is held is the only one held. -/
theorem takeFrame_alone (f : FirnFrame) (ahead : seqGreater seq d.red.firn.rxSeq = true) : takeFrame seq f d =
    let e := drainFrames 1 (modFirn (fun y => { y with staging := [(seq, f)] }) d)
    if 64 ≤ e.red.firn.sinceAck then sendFirnAck e else e := by
  have staged : modFirn (fun y => { y with staging := y.staging ++ [(seq, f)] }) d =
      modFirn (fun y => { y with staging := [(seq, f)] }) d := by
    rw [modFirn, none]
    rfl
  unfold takeFrame
  dsimp only
  rw [if_neg (by simp [follows, shape, sound, paired]), if_pos synced, if_neg (by simp [ahead, none]), staged, none]
  rfl

theorem takeFrame_ahead (f : FirnFrame) (ahead : seqGreater seq d.red.firn.rxSeq = true)
    (gap : seq ≠ d.red.firn.rxSeq + 1) : ∃ n, (takeFrame seq f d).red = { d.red with
      firn := { d.red.firn with staging := [(seq, f)], sinceAck := n } } := by
  have held : drainFrames 1 (modFirn (fun y => { y with staging := [(seq, f)] }) d) =
      modFirn (fun y => { y with staging := [(seq, f)] }) d := by
    unfold drainFrames
    dsimp only [modFirn]
    rw [List.find?_cons_of_neg (by simpa using gap)]
    rfl
  rw [takeFrame_alone follows shape sound paired synced none f ahead, held]
  dsimp only
  split
  · obtain ⟨n, acknowledged⟩ := sendFirnAck_keeps (modFirn (fun y => { y with staging := [(seq, f)] }) d)
    exact ⟨n, acknowledged⟩
  · exact ⟨_, rfl⟩

/-- The next frame of the stream is applied. -/
theorem takeFrame_next (f : FirnFrame) (next_ : seq = d.red.firn.rxSeq + 1) : ∃ n m,
    let e := applyFrame f (modFirn (fun x => { x with rxSeq := seq, sinceAck := m, staging := [] }) d)
    (takeFrame seq f d).red = { e.red with firn := { e.red.firn with sinceAck := n } } := by
  have ahead : seqGreater seq d.red.firn.rxSeq = true := by
    rw [next_, seqGreater, show d.red.firn.rxSeq + 1 - d.red.firn.rxSeq = 1 by bv_omega]
    rfl
  have drained : drainFrames 1 (modFirn (fun y => { y with staging := [(seq, f)] }) d) = applyFrame f
      (modFirn (fun x => { x with rxSeq := seq, sinceAck := d.red.firn.sinceAck + 1, staging := [] }) d) := by
    unfold drainFrames
    dsimp only [modFirn]
    rw [List.find?_cons_of_pos (by simp [next_])]
    dsimp only
    rw [List.filter_cons_of_neg (by simp)]
    rfl
  rw [takeFrame_alone follows shape sound paired synced none f ahead, drained]
  dsimp only
  split
  · obtain ⟨n, acknowledged⟩ := sendFirnAck_keeps (applyFrame f _)
    exact ⟨n, _, acknowledged⟩
  · exact ⟨_, _, rfl⟩

end

/-! ## The frames as bytes (R407, R408, log entry 93) -/

/-- A message on port P goes on with its payload. -/
theorem pairPayload_portP {d : Dev} (link : d.gligil = true) (path : d.red.cfg.network = false)
    (follows : d.follows = true) (type : Nat) (data : Bytes) (f : Bytes → Dev) :
    pairPayload type .portP data d f = f data := by
  have paired : d.red.cfg.paired = true := (Bool.and_eq_true_iff.mp follows).2
  exact if_pos (by rw [link, paired, path]; rfl)

/-- The payload of FIRN_DELTA. -/
def deltaPayload (seq : Word) (task fl : Byte) (index : Nat) (cyc : Word) (body : Bytes) : Bytes :=
  beBytes 4 seq.toNat ++ [task, fl] ++ beBytes 2 index ++ beBytes 4 cyc.toNat ++ zeros 4 ++ body

/-- The payload of FIRN_SEGMENT. -/
def segmentPayload (seq : Word) (pass off : Nat) (body : Bytes) : Bytes :=
  beBytes 4 seq.toNat ++ beBytes 4 pass ++ beBytes 4 off ++ beBytes 2 body.length ++ zeros 2 ++ body

theorem w32_getBe_seq (seq : Word) (rest : Bytes) : w32 (getBe (beBytes 4 seq.toNat ++ rest) 0 4) = seq := by
  rw [show getBe (beBytes 4 seq.toNat ++ rest) 0 4 = seq.toNat from
    getBe_mid [] rest 4 seq.toNat 0 rfl (by simpa using seq.isLt)]
  simp [w32]

section
variable {s : State} {seq : Word} {body : Bytes} (link : s.dev.gligil = true) (path : s.dev.red.cfg.network = false)
  (follows : s.dev.follows = true)
include link path follows

theorem firnDeltaReceived_takes {task fl : Byte} {index : Nat} {cyc : Word} {recs : List DeltaRec}
    (listed : task.toNat ≤ 7) (flags : fl.toNat ≤ 3)
    (whole : parseRecords (deltaPayload seq task fl index cyc body).length body = some recs) : ∃ frag cycle,
    Becomes (.firnDeltaReceived .portP (deltaPayload seq task fl index cyc body)) s
      (takeFrame seq (.delta task.toNat (fl.toNat.testBit 0) (fl.toNat.testBit 1) frag cycle recs) s.dev) := by
  generalize payload : deltaPayload seq task fl index cyc body = p at whole ⊢
  have number : w32 (getBe p 0 4) = seq := by
    rw [← payload, deltaPayload]
    simp only [List.append_assoc]
    exact w32_getBe_seq seq _
  have taskByte : byteAt p 4 = task.toNat := by rw [← payload]; rfl
  have flagByte : byteAt p 5 = fl.toNat := by rw [← payload]; rfl
  have zero : allZero p 12 4 = true := by rw [← payload]; rfl
  have rest : p.drop 16 = body := by rw [← payload]; rfl
  have long : 16 ≤ p.length := by rw [← payload]; simp [deltaPayload, beBytes_length, zeros]; omega
  refine ⟨getBe p 6 2, w32 (getBe p 8 4), becomes_of_nextD (by rw [exec, execFirnDeltaReceived]) ?_⟩
  rw [pairPayload_portP link path follows]
  dsimp only
  rw [number, taskByte, flagByte, rest, whole, if_neg (by simp [zero, long, listed, flags])]

theorem firnSegmentReceived_takes {pass off : Nat} (small : body.length ≤ 1008) (passSmall : pass < 2 ^ 32)
    (offSmall : off < 2 ^ 32) :
    Becomes (.firnSegmentReceived .portP (segmentPayload seq pass off body)) s
      (takeFrame seq (.segment pass off body) s.dev) := by
  generalize payload : segmentPayload seq pass off body = p
  have number : w32 (getBe p 0 4) = seq := by
    rw [← payload, segmentPayload]
    simp only [List.append_assoc]
    exact w32_getBe_seq seq _
  have passField : getBe p 4 4 = pass := by
    rw [← payload, segmentPayload]
    simpa only [List.append_assoc] using getBe_mid (beBytes 4 seq.toNat) (beBytes 4 off ++ _) 4 pass 4
      (beBytes_length ..) passSmall
  have offField : getBe p 8 4 = off := by
    rw [← payload, segmentPayload]
    simpa only [List.append_assoc] using getBe_mid (beBytes 4 seq.toNat ++ beBytes 4 pass) (beBytes 2 _ ++ _) 4 off 8
      (by simp [beBytes_length]) offSmall
  have lengthField : getBe p 12 2 = body.length := by
    rw [← payload, segmentPayload]
    simpa only [List.append_assoc] using getBe_mid (beBytes 4 seq.toNat ++ beBytes 4 pass ++ beBytes 4 off)
      (zeros 2 ++ body) 2 body.length 12 (by simp [beBytes_length]) (by omega)
  have zero : allZero p 14 2 = true := by rw [← payload]; rfl
  have rest : p.drop 16 = body := by rw [← payload]; rfl
  have length : p.length = 16 + body.length := by rw [← payload]; simp [segmentPayload, beBytes_length, zeros]; omega
  refine becomes_of_nextD (by rw [exec, execFirnSegmentReceived]) ?_
  rw [pairPayload_portP link path follows]
  rw [number, passField, offField, lengthField, rest, if_neg (by simp [zero, length])]

end

section
variable {s : State} {seq : Word} {body : Bytes} (link : s.dev.gligil = true) (path : s.dev.red.cfg.network = false)
  (follows : s.dev.follows = true) (shape : s.dev.red.shapeOk = true) (sound : s.dev.red.standby ≠ .faulty)
  (paired : s.dev.red.standby ≠ .unpaired) (synced : s.dev.red.firn.synced = true)
include link path follows shape sound paired synced

section
variable {task fl : Byte} {index : Nat} {cyc : Word} {recs : List DeltaRec}
  (listed : task.toNat ≤ 7) (flags : fl.toNat ≤ 3)
  (whole : parseRecords (deltaPayload seq task fl index cyc body).length body = some recs)
include listed flags whole

theorem firnDeltaReceived_applies (next_ : seq = s.dev.red.firn.rxSeq + 1) (none : s.dev.red.firn.staging = []) :
    Goes (.firnDeltaReceived .portP (deltaPayload seq task fl index cyc body)) s fun t =>
      let im := s.dev.prog.image.getD {}
      t.dev.red.firn.rxSeq = seq ∧ t.dev.red.firn.staging = [] ∧
      t.dev.red.replica = recs.foldl (fun r x => im.ckApply r x) (im.sized s.dev.red.replica) ∧
      (fl.toNat.testBit 0 = true → vget t.dev.red.firn.lastDelta task.toNat = s.dev.tick) := by
  obtain ⟨frag, cycle, row⟩ := firnDeltaReceived_takes link path follows listed flags whole
  refine goes_of_becomes row ?_
  obtain ⟨n, m, taken⟩ := takeFrame_next follows shape sound paired synced none
    (.delta task.toNat (fl.toNat.testBit 0) (fl.toNat.testBit 1) frag cycle recs) next_
  dsimp only at taken ⊢
  rw [taken, applyFrame_delta]
  refine ⟨rfl, rfl, rfl, fun last => ?_⟩
  dsimp only
  rw [if_pos last]
  exact vget_vset_same _ _ _ (by omega)

theorem firnDeltaReceived_holds (ahead : seqGreater seq s.dev.red.firn.rxSeq = true)
    (gap : seq ≠ s.dev.red.firn.rxSeq + 1) (none : s.dev.red.firn.staging = []) :
    Goes (.firnDeltaReceived .portP (deltaPayload seq task fl index cyc body)) s fun t =>
      t.dev.red.firn.rxSeq = s.dev.red.firn.rxSeq ∧ t.dev.red.replica = s.dev.red.replica ∧
      ∃ x, t.dev.red.firn.staging = [(seq, x)] := by
  obtain ⟨frag, cycle, row⟩ := firnDeltaReceived_takes link path follows listed flags whole
  refine goes_of_becomes row ?_
  obtain ⟨n, held⟩ := takeFrame_ahead follows shape sound paired synced none
    (.delta task.toNat (fl.toNat.testBit 0) (fl.toNat.testBit 1) frag cycle recs) ahead gap
  dsimp only
  rw [held]
  exact ⟨rfl, rfl, _, rfl⟩

theorem firnDeltaReceived_discards (behind : seqGreater seq s.dev.red.firn.rxSeq = false) :
    Becomes (.firnDeltaReceived .portP (deltaPayload seq task fl index cyc body)) s s.dev := by
  obtain ⟨frag, cycle, row⟩ := firnDeltaReceived_takes link path follows listed flags whole
  rwa [takeFrame_behind follows shape sound paired synced _ behind] at row

end

theorem firnSegmentReceived_applies {pass off : Nat} (small : body.length ≤ 1008) (passSmall : pass < 2 ^ 32)
    (offSmall : off < 2 ^ 32) (next_ : seq = s.dev.red.firn.rxSeq + 1) (none : s.dev.red.firn.staging = []) :
    Goes (.firnSegmentReceived .portP (segmentPayload seq pass off body)) s fun t =>
      let im := s.dev.prog.image.getD {}
      t.dev.red.firn.rxSeq = seq ∧ t.dev.red.replica = patch (im.sized s.dev.red.replica) off body ∧
      t.dev.red.firn.rxPass = pass := by
  refine goes_of_becomes (firnSegmentReceived_takes link path follows small passSmall offSmall) ?_
  obtain ⟨n, m, taken⟩ := takeFrame_next follows shape sound paired synced none (.segment pass off body) next_
  obtain ⟨got, clean, st, l, j, applied, -⟩ := applyFrame_segment pass off body
    (modFirn (fun x => { x with rxSeq := seq, sinceAck := m, staging := [] }) s.dev)
  dsimp only at taken ⊢
  rw [taken, applied]
  exact ⟨rfl, rfl, rfl⟩

end

/-! ## A frame missing for 10 ms (R409) -/

/-- A standby whose stream has a gap leaves READY and JOINING for SYNCING. -/
def resync (d : Dev) : Dev :=
  if d.red.standby = .ready || d.red.standby = .joining then setStandby .syncing (shadowEnd 5 d) else d

theorem resync_keeps (d : Dev) : (resync d).red.firn = d.red.firn ∧
    (d.red.standby = .ready → (resync d).red.standby = .syncing) := by
  obtain ⟨x, ended⟩ := shadowEnd_red 5 d
  unfold resync
  split
  · rw [setStandby, ended]
    exact ⟨rfl, fun _ => rfl⟩
  · next stays => exact ⟨rfl, fun was => absurd (by simp [was]) stays⟩

/-- A gap is reported once the request is dropped, and acknowledged (R409, R412). -/
theorem gapReported_keeps (kind : Nat) (counter : Word) (d : Dev) :
    let e := sendFirnAck (gapEvent kind counter (modFirn (fun f => { f with rxClean := false }) (dropRequest d)))
    e.red.firn.gaps = d.red.firn.gaps ∧ e.red.standby = d.red.standby ∧
      e.evt.pending.getLsbD Ev.checkpointGap.num = true := by
  obtain ⟨l, dropped⟩ := dropRequest_red d
  generalize told : gapEvent kind counter _ = g
  have kept : g.red = { d.red with lease := l, firn := { d.red.firn with rxClean := false } } := by
    rw [← told, gapEvent, raise_red, modFirn, dropped]
  have sends : Writes streamParts g (sendFirnAck g) := .sendFirnAck .refl
  obtain ⟨n, acknowledged⟩ := sendFirnAck_keeps g
  dsimp only
  rw [acknowledged, kept, sends .events (by decide), ← told]
  exact ⟨rfl, rfl, (raised_raise _ _ _ (by decide)).1⟩

section
variable {s : State}

theorem firnGapTimeout_idle (none : s.dev.red.firn.staging = []) : Becomes .firnGapTimeout s s.dev := by
  refine becomes_of_nextD (by rw [exec, execFirnGapTimeout]) ?_
  rw [none]

theorem firnGapTimeout_counts (waits : s.dev.red.firn.staging ≠ []) (follows : s.dev.follows = true) :
    Goes .firnGapTimeout s fun t =>
      t.dev.red.firn.gaps = satInc s.dev.red.firn.gaps ∧ Happened t .checkpointGap ∧
      (s.dev.red.standby = .ready → t.dev.red.standby = .syncing) := by
  obtain ⟨x, rest, staged⟩ := List.exists_cons_of_ne_nil waits
  refine goes_of_nextD (by rw [exec, execFirnGapTimeout]) ?_
  rw [staged]
  dsimp only
  rw [if_neg (by rw [follows]; decide), ← resync]
  generalize counted : modFirn _ s.dev = d
  obtain ⟨gaps, ready⟩ := drainFrames_keeps (rest.length + 1) d
  generalize drainFrames (rest.length + 1) d = e at gaps ready ⊢
  obtain ⟨firn, leaves⟩ := resync_keeps e
  obtain ⟨gaps', standby, told⟩ := gapReported_keeps 1 (resync e).gapCounter (resync e)
  subst counted
  exact ⟨by rw [gaps', firn, gaps]; rfl, told, fun was => standby.trans (leaves (ready was))⟩

end

end Sys2Proof.Machine
end

section
/-!
PROOF. Takeover, planned switchover and shadow compare (R413, R414, R419, R421, R424, R425): what the load of a replica
leaves of the tasks, the start of the peer's tasks, the fence of a switchover, and the compared cycles.
-/

namespace Sys2Proof.Machine

open Sys2Proof Sys2Proof.Claims

/-! ## The end of a takeover's load (R413, R414) -/

/-- The load of a replica keeps the configuration of a task. -/
theorem loadReplica_cfg (im : Image) (d : Dev) (k : Fin 8) : ((loadReplica im d).task k).cfg = (d.task k).cfg := by
  have after : Writes [.loops, .power] _ (loadReplica im d) :=
    .shadowWrite (.foldl (.setPwr .refl) fun _ _ => .when (.modSlot .refl) .refl)
  rw [Dev.task, show (loadReplica im d).prog.tasks = _ from after .tasks (by decide), modProg_prog]
  dsimp only
  rw [vget, Vector.getElem?_eq_getElem k.isLt, Vector.getElem_ofFn, Option.getD_some]
  rfl

/-- A task starts at the first instant of its phase after the device's tick. -/
def startsAt (d : Dev) (t : Nat) : Dev :=
  modTask t (fun k => { k with
    st := .starting, firstT0 := d.tick + k.cfg.phase, overruns := 0, stopReq := none, stoppedSafe := false
    runs := [] }) d

theorem startsAt_task (d : Dev) (t : Nat) (k : Fin 8) : ((startsAt d t).task k).cfg = (d.task k).cfg ∧
    (t = k ∨ (d.task k).st = .starting ∧ (d.task k).firstT0 = d.tick + (d.task k).cfg.phase →
      ((startsAt d t).task k).st = .starting ∧
        ((startsAt d t).task k).firstT0 = d.tick + (d.task k).cfg.phase) := by
  unfold startsAt
  by_cases own : t = k
  · rw [own, task_modTask _ _ _ k.isLt]
    exact ⟨rfl, fun _ => ⟨rfl, rfl⟩⟩
  · rw [task_modTask_other _ _ _ _ own]
    exact ⟨rfl, fun was => was.resolve_left own⟩

/-- Each task of a list starts. -/
theorem startsAt_foldl {ts : List Nat} {k : Fin 8} (listed : k.val ∈ ts) (d : Dev) :
    ((ts.foldl startsAt d).task k).st = .starting ∧
      ((ts.foldl startsAt d).task k).firstT0 = d.tick + (d.task k).cfg.phase := by
  obtain ⟨before, after, rfl⟩ := List.append_of_mem listed
  rw [List.foldl_append, List.foldl_cons]
  have kept : (before.foldl startsAt d).tick = d.tick ∧ ((before.foldl startsAt d).task k).cfg = (d.task k).cfg :=
    List.foldlRecOn before _ (motive := fun e : Dev => e.tick = d.tick ∧ (e.task k).cfg = (d.task k).cfg) ⟨rfl, rfl⟩
      fun e ⟨tick, cfg⟩ t _ => ⟨tick, (startsAt_task e t k).1.trans cfg⟩
  generalize before.foldl startsAt d = e at kept ⊢
  obtain ⟨tick, cfg⟩ := kept
  rw [← tick, ← cfg]
  have started := (startsAt_task e k k).2 (.inl rfl)
  refine (List.foldlRecOn after startsAt (b := startsAt e k) (motive := fun f : Dev =>
    f.tick = e.tick ∧ (f.task k).cfg = (e.task k).cfg ∧
      (f.task k).st = .starting ∧ (f.task k).firstT0 = e.tick + (e.task k).cfg.phase)
    ⟨rfl, (startsAt_task e k k).1, started⟩ fun f ⟨same, cfg, has⟩ t _ => ?_).2.2
  obtain ⟨keeps, starts⟩ := startsAt_task f t k
  rw [same, cfg] at starts
  exact ⟨same, keeps.trans cfg, starts (.inr has)⟩

/-- The tasks that the failed device ran at its last delta, where they are enabled here. -/
def Dev.takenTasks (d : Dev) : List Nat :=
  (d.peerTasks ((List.range 8).foldl (fun a t => max a (vget d.red.firn.lastDelta t)) 0)).filter fun t =>
    (d.task t).cfg.enable

section
variable {s : State} {im : Image} (loaded : s.dev.prog.image = some im) (loads : s.dev.red.standby = .loading)
  (free : s.dev.stopped = false)
include loaded loads free

theorem takeoverLoadDone_becomes :
    let d := s.dev.takenTasks.foldl startsAt (modProg (fun p => { p with origin := s.dev.tick }) (loadReplica im s.dev))
    Becomes .takeoverLoadDone s
      (announce (if s.dev.takenTasks.isEmpty then setStandby .none d else setStandby .warmup d)) := by
  refine becomes_of_nextD (by rw [exec, execTakeoverLoadDone]) ?_
  rw [loaded]
  exact if_neg (by simp [loads, free])

theorem takeoverLoadDone_starts : Goes .takeoverLoadDone s fun t =>
    t.dev.prog.origin = s.dev.tick ∧
    (∀ k : Fin 8, k.val ∈ s.dev.takenTasks →
      (t.dev.task k).st = .starting ∧ (t.dev.task k).firstT0 = s.dev.tick + (s.dev.task k).cfg.phase) ∧
    t.dev.red.standby = if s.dev.takenTasks.isEmpty then .none else .warmup := by
  refine goes_of_becomes (takeoverLoadDone_becomes loaded loads free) ?_
  generalize from_ : modProg (fun p => { p with origin := s.dev.tick }) (loadReplica im s.dev) = d
  have read : Writes loadParts s.dev (loadReplica im s.dev) := .loadReplica .refl
  have tick : d.tick = s.dev.tick := by
    rw [← from_, modProg_tick]
    exact read .tick (by decide)
  have cfg (k : Fin 8) : (d.task k).cfg = (s.dev.task k).cfg := by
    rw [← from_]
    exact loadReplica_cfg im s.dev k
  have origin : (s.dev.takenTasks.foldl startsAt d).prog.origin = s.dev.tick := by
    rw [foldl_proj (fun d : Dev => d.prog.origin) startsAt fun _ _ => rfl, ← from_]
    rfl
  have told {e : Dev} : Writes netParts e (announce e) := .announce .refl
  have stood (c : Bool) (e : Dev) : (if c then setStandby .none e else setStandby .warmup e) =
      setStandby (if c then .none else .warmup) e := by cases c <;> rfl
  dsimp only
  rw [stood, told.prog, told .pair (by decide)]
  refine ⟨origin, fun k listed => ?_, rfl⟩
  rw [task_congr told.prog k, ← tick, ← cfg k]
  exact startsAt_foldl listed d

end

/-! ## The fence of a planned switchover (R419) -/

theorem standDown_switchAt (r : Prog → Nat) (d : Dev) : (standDown r d).red.switchAt = d.red.switchAt := by
  obtain ⟨x, ended⟩ := shadowEnd_red 5
    (withdraw (settleAll (modProg (fun p => { p with reaction := r p }) (stopTasks d))))
  have inner : Writes (stopped ++ [.digital, .analog, .network, .sent]) d
      (withdraw (settleAll (modProg (fun p => { p with reaction := r p }) (stopTasks d)))) :=
    .withdraw (.settleAll (.modProg .restOfProgram (.stopTasks .refl)))
  rw [standDown, ended, inner .pair (by decide)]

/-- A fence ends a planned switchover. -/
theorem fence_switchAt {d : Dev} (free : d.sys.fenced = false) (cause : Nat) :
    (fence cause d).red.switchAt = none := by
  have sends {e : Dev} : Writes [.gligil, .sent] e
      (if e.inStack && e.master then glSend false 0 0x4B 0xFF [] e else e) := .when (.glSend .refl) .refl
  rw [fence_eq free, raise_red, sends .pair (by decide), standDown_switchAt]
  rfl

/-- The final delta of a planned switchover, where the commit at its instant is still to be published. -/
def finalDelta (d : Dev) : Dev :=
  match d.runningTasks.head? with
  | some t =>
    if (d.task t).toPublish then sendDelta t true (modTask t (fun k => { k with st := .wait, toPublish := false }) d)
    else d
  | none => d

theorem finalDelta_writes (d : Dev) : Writes (replicaParts ++ [.tasks]) d (finalDelta d) := by
  unfold finalDelta
  split
  · exact .when (.sendDelta (.modTask .refl)) .refl
  · exact .refl

section
variable {s : State} {at_ : Nat} (planned : s.dev.red.switchAt = some at_)
include planned

theorem switchoverFence_fences (due : at_ ≤ s.dev.tick) (free : s.dev.sys.fenced = false) :
    Goes .switchoverFence s fun t =>
      t.dev.sys.fenced = true ∧ Raised t .fenced 4 ∧ t.dev.red.switchAt = none ∧ t.dev.pwr.fenceN = true := by
  have row : Becomes .switchoverFence s (fence 4 (finalDelta s.dev)) := by
    refine becomes_of_nextD (by rw [exec, execSwitchoverFence]) ?_
    rw [planned]
    exact if_neg (Nat.not_lt.mpr due)
  have still : (finalDelta s.dev).sys.fenced = false := by rw [finalDelta_writes s.dev .sys (by decide), free]
  obtain ⟨e, fences, stood⟩ := fence_fences still 4
  have ended := fence_switchAt still 4
  refine goes_of_becomes row ?_
  rw [fences] at ended ⊢
  exact ⟨by rw [raise_sys, stood.fenced], raised_raise _ _ _ (by decide), ended, by rw [raise_pwr, stood.fenceN]⟩

theorem switchoverFence_early (early : s.dev.tick < at_) : Becomes .switchoverFence s s.dev := by
  refine becomes_of_nextD (by rw [exec, execSwitchoverFence]) ?_
  rw [planned]
  exact if_pos early

end

/-! ## Shadow compare (R421, R425) -/

section
variable {s : State}

section
variable {k : Fin 8} {tau : DWord} {cycle : Word} {inputs : Map TV} {delta : List DeltaRec} {im : Image}
  (loaded : s.dev.prog.image = some im) (follows : s.dev.follows = true) (ready : s.dev.red.standby = .ready)
  (path : s.dev.red.cfg.network = false)
include loaded follows ready path

theorem shadowInputReceived_late : Goes (.shadowInputReceived k tau cycle inputs delta false) s fun t =>
    t.dev.red.shadow = { s.dev.red.shadow with skipped := s.dev.red.shadow.skipped + 1 } ∧ t.dev.prog = s.dev.prog := by
  refine goes_of_nextD (by rw [exec, execShadowInputReceived]) ?_
  rw [loaded]
  dsimp only
  rw [if_neg (by simp [follows, ready, path])]
  exact ⟨rfl, rfl⟩

theorem shadowInputReceived_agrees
    (agrees : firstDiff ((shadowRun im k (s.dev.shadowDev im k tau cycle inputs)).cycleRecords im k) delta = none) :
    Goes (.shadowInputReceived k tau cycle inputs delta true) s fun t =>
      t.dev.red.shadow = { s.dev.red.shadow with compared := s.dev.red.shadow.compared + 1 } ∧
      t.dev.red.standby = .ready := by
  have joined (d : Dev) (was : d.red.standby = .ready) : joinStep k d = d := by
    unfold joinStep
    exact if_pos (by rw [was]; rfl)
  refine goes_of_nextD (by rw [exec, execShadowInputReceived]) ?_
  rw [loaded]
  dsimp only
  rw [if_neg (by simp [follows, ready, path]), agrees]
  dsimp only
  rw [if_neg (by decide), joined (modShadow _ (modProg _ s.dev)) ready]
  exact ⟨rfl, ready⟩

end

section
variable (runs : s.dev.red.shadow.state = 1)
include runs

theorem shadowEnd_running (state : Nat) {d : Dev} (same : d.red = s.dev.red) : (shadowEnd state d).red.shadow =
    { s.dev.red.shadow with state := state, ranS := (d.tick - s.dev.red.shadow.startTick) / 20000 } := by
  unfold shadowEnd
  rw [same, if_pos runs]

theorem shadowCompareTimeout_ends (due : s.dev.red.shadow.until_ ≤ s.dev.tick) : Goes .shadowCompareTimeout s fun t =>
    t.dev.red.shadow.state = 2 ∧ t.dev.red.shadow.ranS = (s.dev.tick - s.dev.red.shadow.startTick) / 20000 := by
  refine goes_of_nextD (by rw [exec, execShadowCompareTimeout]) ?_
  rw [if_neg (Nat.not_lt.mpr due), shadowEnd_running runs 2 rfl]
  exact ⟨rfl, rfl⟩

end

theorem shadowCompareTimeout_early (early : s.dev.tick < s.dev.red.shadow.until_) :
    Becomes .shadowCompareTimeout s s.dev := by
  refine becomes_of_nextD (by rw [exec, execShadowCompareTimeout]) ?_
  exact if_pos early

end

/-! ## The report of a shadow compare (Table 10.12) -/

section
variable (d : Dev)

theorem shadowReport_length : (shadowReport d).1.length = 32 := by
  unfold shadowReport
  dsimp only
  split
  · simp [leBytes_length, zeros]
  · split <;> simp [leBytes_length, zeros]

theorem shadowReport_writes : Writes [] d (shadowReport d).2 := .shadowReport .refl

theorem shadowReport_mbx (m : Mbx) : (shadowReport { d with mbx := m }).1 = (shadowReport d).1 := by
  unfold shadowReport
  dsimp only
  split
  · rfl
  · split <;> rfl

end

/-- What SHADOW_COMPARE_STOP makes of a device before it reports. -/
def compareStopped (keep : Bool) (d : Dev) : Dev := if keep then d else shadowEnd 3 d

theorem shadowEnd_mbx (state : Nat) (d : Dev) (m : Mbx) :
    shadowEnd state { d with mbx := m } = { shadowEnd state d with mbx := m } := by
  unfold shadowEnd
  dsimp only
  split <;> rfl

theorem compareStopped_mbx (keep : Bool) (d : Dev) (m : Mbx) :
    compareStopped keep { d with mbx := m } = { compareStopped keep d with mbx := m } := by
  cases keep with
  | false => exact shadowEnd_mbx 3 d m
  | true => rfl

/-! ## The commands (R424, R425) -/

section
variable {s : State} {o : Origin} (master : s.dev.master = true)
include master

theorem switchoverRequest_answers (waits : Waits s o 0x0802 (leBytes 4 0x5A5A0802 ++ zeros 4))
    (holds : s.dev.red.lease.state.holds = true) (ready : s.dev.red.peerState = .ready)
    (still : s.dev.moving = false) : Goes (.switchoverRequest o) s fun t =>
      Answers t o stOk (leBytes 8 s.dev.commitAhead) ∧
      t.dev.red = { s.dev.red with switchAt := some s.dev.commitAhead } := by
  have command : exec (.switchoverRequest o) s = execSwitchoverRequest o s := rfl
  refine goes_answers (P := fun d => d.red = { s.dev.red with switchAt := some s.dev.commitAhead }) command waits
    (Bool.and_false _) (fun _ => rfl) (fun m => ?_) fun m => ⟨_, rfl, rfl, fun _ => rfl⟩
  have position : Dev.master { s.dev with mbx := m } = true := master
  have idle : Dev.moving { s.dev with mbx := m } = false := still
  rw [Claims.Pass, firstFail_eq_none]
  simp only [List.forall_mem_cons]
  exact ⟨by rw [posTest, position]; rfl, rfl, rfl, rfl, by simp [holds, ready], idle, by simp⟩

/-- The payload of SHADOW_COMPARE_START. -/
def compareReq (sec : Nat) (stop : Bool) : Bytes := leBytes 4 sec ++ [if stop then 1 else 0, 0, 0, 0]

theorem shadowCompareStart_answers {sec : Nat} {stop : Bool} (waits : Waits s o 0x0803 (compareReq sec stop))
    (some_ : 1 ≤ sec) (few : sec ≤ 86400) (active : s.dev.sys.role = .active) (ready : s.dev.red.peerState = .ready)
    (path : s.dev.red.cfg.network = false) (idle : s.dev.red.shadow.state ≠ 1) :
    Goes (.shadowCompareStart o) s fun t =>
      Answers t o stOk (leBytes 8 s.dev.tick) ∧ t.dev.red.shadow.state = 1 ∧
      t.dev.red.shadow.until_ = s.dev.tick + 20000 * sec ∧ t.dev.red.shadow.stopOnMismatch = stop := by
  have command : exec (.shadowCompareStart o) s = execShadowCompareStart o s := rfl
  have seconds : getLe (compareReq sec stop) 0 4 = sec := by
    show fromLe (leBytes 4 sec) = sec
    rw [fromLe_leBytes, Nat.mod_eq_of_lt (by omega)]
  have flag : byteAt (compareReq sec stop) 4 = b2n stop := by cases stop <;> rfl
  refine goes_answers (P := fun d => d.red.shadow.state = 1 ∧ d.red.shadow.until_ = s.dev.tick + 20000 * sec ∧
    d.red.shadow.stopOnMismatch = stop) command waits (Bool.and_false _) (fun _ => rfl) (fun m => ?pass)
    fun m => ⟨_, rfl, rfl, fun _ => ⟨rfl, congrArg (s.dev.tick + 20000 * ·) seconds, ?stop⟩⟩
  case pass =>
    have position : Dev.master { s.dev with mbx := m } = true := master
    have small : ¬1 < b2n stop := by cases stop <;> decide
    rw [Claims.Pass, firstFail_eq_none]
    simp only [List.forall_mem_cons, posTest, position, active, ready, path, seconds, flag]
    exact ⟨rfl, rfl, rfl, rfl, decide_eq_false small, by simpa using idle, by simp; omega, by simp⟩
  case stop =>
    show (byteAt (compareReq sec stop) 4).testBit 0 = stop
    rw [flag]
    cases stop <;> rfl

theorem shadowCompareStop_answers {keep : Bool} (waits : Waits s o 0x0804 [if keep then 1 else 0, 0, 0, 0]) :
    Goes (.shadowCompareStop o) s fun t =>
      Answers t o stOk (shadowReport (compareStopped keep s.dev)).1 ∧ t.dev.red = (compareStopped keep s.dev).red := by
  have command : exec (.shadowCompareStop o) s = execShadowCompareStop o s := rfl
  refine goes_answers (P := fun d => d.red = (compareStopped keep s.dev).red) command waits (Bool.and_false _)
    (fun _ => rfl) (fun m => ?pass) fun m =>
      ⟨(shadowReport (compareStopped keep { s.dev with mbx := m })).2, ?acts, ?kept, fun _ => ?holds⟩
  case pass =>
    have position : Dev.master { s.dev with mbx := m } = true := master
    rw [Claims.Pass, firstFail_eq_none]
    simp only [List.forall_mem_cons, posTest, position]
    cases keep <;> exact ⟨rfl, rfl, rfl, rfl, by simp⟩
  case acts =>
    have reports := shadowReport_mbx (compareStopped keep s.dev) m
    rw [← reports, ← compareStopped_mbx]
    cases keep <;> rfl
  case kept => rw [shadowReport_writes _ .mailbox (by decide), compareStopped_mbx]
  case holds =>
    have kept := shadowReport_writes (compareStopped keep { s.dev with mbx := m }) .pair (by decide)
    exact Eq.trans kept (by rw [compareStopped_mbx])

end

/-! ## The statement -/

/-- Settles O45, one row at a time. The bytes of firn frames and going on after a gap are log entry 93's, the tests of a
forwarded command log entry 97's, and the tasks that run log entry 31's. -/
theorem streamAndTakeover : Obligations.StreamAndTakeover := by
  unfold Obligations.StreamAndTakeover
  intro s
  refine ⟨fun up peer paired master => ⟨shapeRecordExchange_falls paired master,
      shapeRecordExchange_mismatch paired master, shapeRecordExchange_matches paired master⟩,
    pairNoticeReceived_requests, pairNoticeReceived_alone,
    fun p => ⟨fun follows pass => configForwardReceived_applies follows rfl pass,
      fun follows pass => configForwardReceived_applies follows rfl pass, fun code => configForwardReceived_alone⟩,
    ?delta, ?segment, firnPassStart_starts, firnPassStart_silent, firnAckSend_acknowledges, firnAckSend_alone,
    firnAckReceived_records, firnGapTimeout_counts, firnGapTimeout_idle, ?load,
    fun at_ planned => ⟨switchoverFence_fences planned, switchoverFence_early planned⟩,
    fun k tau cycle inputs delta im loaded follows ready path =>
      ⟨shadowInputReceived_late loaded follows ready path, shadowInputReceived_agrees loaded follows ready path⟩,
    fun runs => ⟨shadowCompareTimeout_ends runs, shadowCompareTimeout_early⟩,
    fun o master => ⟨switchoverRequest_answers master, fun sec stop => shadowCompareStart_answers master, ?stop⟩⟩
  case delta =>
    intro seq task fl index cyc body recs
    dsimp only
    intro listed flags whole link path follows shape sound paired synced
    exact ⟨firnDeltaReceived_applies link path follows shape sound paired synced listed flags whole,
      firnDeltaReceived_holds link path follows shape sound paired synced listed flags whole,
      firnDeltaReceived_discards link path follows shape sound paired synced listed flags whole⟩
  case segment =>
    intro seq pass off body
    dsimp only
    intro small passSmall offSmall link path follows shape sound paired synced
    exact firnSegmentReceived_applies link path follows shape sound paired synced small passSmall offSmall
  case load =>
    intro im loaded loads free
    obtain ⟨t, run, origin, starts, standby⟩ := takeoverLoadDone_starts loaded loads free
    have listed (k : Fin 8) : k.val ∈ s.dev.takenTasks ↔
        s.dev.peerRuns ((List.range 8).foldl (fun a t => max a (vget s.dev.red.firn.lastDelta t)) 0) k = true ∧
          (s.dev.task k).cfg.enable = true := by
      rw [Dev.takenTasks, List.mem_filter, Dev.peerTasks, List.mem_filter, List.mem_range, and_assoc]
      exact and_iff_right k.isLt
    refine ⟨t, run, origin, fun k runs => starts k ((listed k).mpr runs), fun ⟨k, runs⟩ => ?_, fun none_ => ?_⟩
    · rw [standby, if_neg]
      exact fun empty => List.not_mem_nil (List.isEmpty_iff.mp empty ▸ (listed k).mpr runs)
    · rw [standby, if_pos]
      refine List.isEmpty_iff.mpr (List.eq_nil_iff_forall_not_mem.mpr fun k mem => ?_)
      have small : k < 8 := List.mem_range.mp (List.mem_filter.mp (List.mem_filter.mp mem).1).1
      exact none_ ⟨k, small⟩ ((listed ⟨k, small⟩).mp mem)
  case stop =>
    intro keep waits
    obtain ⟨t, run, answer, red⟩ := shadowCompareStop_answers master waits
    refine ⟨t, run, ⟨_, answer, shadowReport_length _⟩, fun kept => ?_, fun ends runs => ?_⟩
    · rw [red, kept]; rfl
    · rw [red, ends]
      exact congrArg ShadowCmp.state (shadowEnd_running runs 3 rfl)

end Sys2Proof.Machine
end
